-- ==== Sys2Proof/Word.lean ====
section
/-!
DEFINITION. Words of fixed width, as the manual's tables give them (00 R4: fields are little-endian).
-/
namespace Sys2Proof

/-- An 8-bit byte. -/
abbrev Byte := BitVec 8
/-- A 16-bit field. -/
abbrev U16 := BitVec 16
/-- A 32-bit field; also the width of one register of one thread (04 R93). -/
abbrev Word := BitVec 32
/-- A 64-bit field; also a mask with one bit for each thread of a group (04 R91). -/
abbrev U64 := BitVec 64

/-- `b - a` counted modulo `2^w`, for the serial comparisons of counters that wrap. -/
def serialDistance (w : Nat) (a b : Nat) : Nat := (b + 2 ^ w - a % 2 ^ w) % 2 ^ w

/-- `n` divided by `d`, rounded up. -/
def ceilDiv (n d : Nat) : Nat := (n + d - 1) / d

end Sys2Proof
end

