-- ==== Sys2Proof/Machine/KitState.lean ====
section
/-!
DEFINITION. The state of Kits, loads, placements, Sequences and composed lists (03_kits_and_placement.md,
10_sequences_and_step_building.md).
-/
namespace Sys2Proof.Machine

/-- A unit entry of a Kit (03 R67): UNIT_KIND 0h, 1h or 4h and its 28-bit value. -/
inductive KitUnit where
  | kit (id : Nat)
  | core (id : Nat)
  | module (coordinate : Nat)
deriving DecidableEq, Repr

/-- The states of Table 3-2 (03 R68); (free) is the absence of the Kit from the table. -/
inductive KitMode where
  | created | loading | placing | admitted | unloading | retiring | lost
deriving DecidableEq, Repr

/-- A description record (03 Table 3-4). -/
structure DescRecord where
  kind : Nat
  format : Nat
  layer : Nat
  stage : Nat
  flags : Nat
  bytes : Nat
  work : Nat
  source : Nat
  arg0 : Nat
  arg1 : Nat
deriving DecidableEq, Repr

/-- An open load, or the load a Kit was admitted with (03 R71): REPLICA and the records in order. -/
structure Load where
  replica : Nat
  records : List DescRecord
deriving DecidableEq, Repr

/-- What one pair gives to a KV pool (10 R243): its granules, its pool object and slots, its summary object
(10 R255; 0 for none). -/
structure PoolPair where
  pair : Nat
  granules : List Nat
  handle : Nat
  slots : Nat
  summaryHandle : Nat
deriving DecidableEq, Repr

/-- Demand and capacity of one resource code (03 Table 3-8). -/
structure ResourceUse where
  code : Nat
  demand : Nat
  capacity : Nat
  layer : Nat
  station : Nat
  pair : Nat
deriving DecidableEq, Repr

/-- A tensor's tier as the placement decides it (03 R74): the record's index, and whether its tiles are pinned. -/
structure TensorPlace where
  record : Nat
  handle : Nat
  pinned : Bool
  /-- Tiles of the tensor in each slice, for a pinned tensor. -/
  tiles : List (Nat × Nat)
  /-- Replica object (03 R76), 0 for none. -/
  replica : Nat
deriving DecidableEq, Repr

/-- An explicit list that a load covers (03 Table 3-5, LIST): tier-1 address, bytes, critical path (03 Table 3-6). -/
structure AdmittedList where
  address : Nat
  bytes : Nat
  critical : Nat
deriving DecidableEq, Repr

/-- A placement (03 R73 to R83). Times in units of 10 ns. -/
structure Placement where
  percentile : Nat
  margin : Nat
  cores : Nat
  tensors : List TensorPlace
  pool : List PoolPair
  lists : List AdmittedList
  /-- DECODE_STEPS and CONTEXT_TOKENS of the BATCH record; no step-builder lists when `none`. -/
  batch : Option (Nat × Nat)
  /-- Critical path of the decode list, and the longest of all lists. -/
  decodeCritical : Nat
  critical : Nat
  prefillBudget : Nat
  /-- First entry and number of the Kit's range in the sequence table (10 R238). -/
  seqBase : Nat
  seqCount : Nat
  /-- BYTES of the KV record (10 R243). -/
  kvBytes : Nat
  /-- Power commitment in mW (18 R416). -/
  power : Nat
  /-- Layers the module holds, as first and count. -/
  firstLayer : Nat
  layerCount : Nat
  uses : List ResourceUse
  /-- Beat at which its tiles are all in place and it may switch in; `none` while tiles move. -/
  tilesInPlace : Bool
deriving DecidableEq, Repr

/-- The sequence policy of a Kit (10 R254). -/
structure SeqPolicy where
  denseLimit : Nat
  sinkPages : Nat
  recentPages : Nat
  topPages : Nat
  heads : Nat
  dims : Nat
  chunkMax : Nat
  slipLimit : Nat
deriving DecidableEq, Repr

/-- One composed step or chunk (10 Table 10-6), with what the step builder keeps of it until it is applied. -/
structure StepDesc where
  seq : Nat
  /-- 1 decode step, 2 prefill chunk. -/
  kind : Nat
  produces : Bool
  sparse : Bool
  tokens : Nat
  position : Nat
  attend : Nat
  input : Nat
  summaryFirst : Nat
  summaryCount : Nat
  select : Nat
  seed : Nat
  slot : Nat
  /-- Pages allocated for the step when it was composed: page and PAGE_SLICE (returned if it is removed, 10 R257). -/
  pages : List (Nat × Nat)
  /-- The selection tile has been published (10 R257); the pages it lists. -/
  selected : Bool
  selection : List Nat
  /-- The chunk is the last of its append, and the SEQ_APPEND command that the append belongs to (0 for a decode step). -/
  lastOfAppend : Bool
  append : Nat
  /-- Appends of the Sequence when the step was composed: a decode step of an earlier count is not fed back. -/
  epoch : Nat
  /-- Beat of its launch. -/
  launched : Option Nat
deriving DecidableEq, Repr

/-- A sequence command forwarded in a batch (10 R241 (b)): its opcode and 48 parameter bytes. -/
structure ForwardedCommand where
  opcode : Nat
  params : List Byte
deriving DecidableEq, Repr

/-- A batch of a peal Kit (10 R252). -/
structure Batch where
  beat : Nat
  steps : List StepDesc
  commands : List ForwardedCommand
deriving DecidableEq, Repr

/-- A list composed for a coming downbeat (10 R247). -/
structure Composed where
  beat : Nat
  table : Nat
  steps : List StepDesc
  /-- Every selection is published or its step removed, and the step table is written (10 R250, R257). -/
  complete : Bool
  /-- Its walk does not end in time (02 R33). -/
  late : Bool
  /-- Sequence commands of its batch (10 R252). -/
  commands : List ForwardedCommand
deriving DecidableEq, Repr

/-- A result record that has been written and not applied yet (10 R251): its step, and its 128 bytes. -/
structure PendingResult where
  step : StepDesc
  bytes : List Byte
deriving DecidableEq, Repr

/-- A Kit (03 R59 to R70, Table 3-1). -/
structure Kit where
  id : Nat
  parent : Nat
  context : Nat
  partition : Nat
  percentile : Nat
  policy : Nat
  overrunLimit : Nat
  marginShare : Nat
  unitListAddress : Nat
  queue : Nat
  chimeBase : Nat
  chimeCount : Nat
  scratchBase : Nat
  scratchSize : Nat
  units : List KitUnit
  mode : KitMode
  degraded : Bool
  /-- Cores lost since the Kit was last whole (03 R90). -/
  lostCores : Nat
  load : Option Load
  placement : Option Placement
  /-- An admitted re-placement that waits for its downbeat (03 R88). -/
  next : Option Placement
  /-- OVERRUN_SET_POLICY accepted, applied at the next downbeat (02 Table 2-6). -/
  stagedPolicy : Option (Nat × Nat)
  /-- Consecutive hard overruns (02 R40) and the beat whose work is held over (02 R38). -/
  consecutive : Nat
  heldFrom : Option Nat
  /-- Beats of the hard overruns of the last 65,536 beats (02 R41). -/
  hardBeats : List Nat
  overrunSoft : Nat
  overrunHard : Nat
  buildShort : Nat
  almanacLate : Nat
  almanacSkipped : Nat
  transferOverrun : Nat
  scoreLate : Nat
  summaryFail : Nat
  seqPolicy : SeqPolicy
  composed : Option Composed
  /-- Step-builder lists that wait for a downbeat, oldest first: held or slipped (02 Table 2-2). -/
  queued : List Composed
  results : List PendingResult
  /-- At a downstream member, batches that wait (10 R252 (b)); at the head, those launched and not reported by STEP_DONE. -/
  batches : List Batch
  /-- Free page slices granted by a head, and the smallest slot total of any member (10 R252 (d)). -/
  pealSlots : Nat
  /-- Commands to forward in the next batch (10 R241 (b)). -/
  forward : List ForwardedCommand
  /-- NO_RESULT_COUNT (10 Table 10-2). -/
  noResults : Nat
  /-- REPORT of the last MODEL_COMMIT or PLACE_REPLACE (11 Table 11-7). -/
  report : Nat
deriving DecidableEq, Repr

/-- An accepted KIT_CREATE that waits for its downbeat (03 R62). -/
structure KitCreation where
  kit : Kit
  /-- Queue and packet index of the command, to complete it. -/
  command : Nat
deriving DecidableEq, Repr

/-- Units that return to a parent at the next downbeat, for a Kit that has been destroyed (03 R62). -/
structure UnitReturn where
  kit : Nat
  parent : Nat
  units : List KitUnit
deriving DecidableEq, Repr

/-- The states of Table 10-2. -/
inductive SeqMode where
  | free | waiting | prefill | decode | paused | closing | lost
deriving DecidableEq, Repr

/-- A queued append (10 Table 10-1, APPEND_QUEUE). -/
structure Append where
  address : Nat
  count : Nat
  done : Nat
  /-- The beat in which it was read (APPEND_BEAT of the oldest). -/
  beat : Nat
  /-- The outstanding SEQ_APPEND command it belongs to. -/
  command : Nat
deriving DecidableEq, Repr

/-- A sequence table entry (10 Table 10-1). APPENDS and PAGES are the lengths of `appends` and `pages`. -/
structure Sequence where
  mode : SeqMode
  autoDecode : Bool
  inFlight : Nat
  kvWait : Bool
  priority : Nat
  endReason : Nat
  kit : Nat
  context : Nat
  partition : Nat
  position : Nat
  pending : Nat
  generated : Nat
  genLimit : Nat
  stepInterval : Nat
  nextDue : Nat
  outCount : Nat
  chime : Nat
  slipped : Nat
  output : Nat
  outputLen : Nat
  seed : Nat
  appends : List Append
  /-- Token of the last applied result, the INPUT of the next decode step (10 R251). -/
  lastResult : List Byte
  /-- Pages held: page index and PAGE_SLICE, ascending. -/
  pages : List (Nat × Nat)
  /-- Map blocks held: group of 256 pages and block number (10 R245). -/
  mapBlocks : List (Nat × Nat)
  /-- Appends accepted so far. -/
  epoch : Nat
deriving DecidableEq, Repr

end Sys2Proof.Machine
end

