-- ==== Sys2Proof/Machine/CoreState.lean ====
section
/-!
DEFINITION. The state of cores, groups, tasks, lists and requests in flight (04_thread_groups.md,
05_matrix_arithmetic.md, 13_core_scheduling_and_switching.md).
-/
namespace Sys2Proof.Machine

/-- Memory as the host's interface has it: (address, byte) pairs, addresses strictly rising, no entry equal to what
an unlisted address reads as. -/
abbrev Memory := List Host.Cell

/-- The kinds of a divergence stack entry (04 R108). -/
inductive EntryKind where
  | join | path | ret
deriving DecidableEq, Repr

/-- A divergence stack entry (04 R108). -/
structure StackEntry where
  kind : EntryKind
  pc : Nat
  mask : U64
deriving DecidableEq, Repr

/-- What a group waits for (04 R95 (c), R119, R121). -/
inductive GroupWait where
  | none
  | bar (number count : Nat)
  | chime (number : Nat) (target : U64) (dst : Nat) (mask : U64)
  /-- A fence whose release part waits for acknowledgements; acquire part follows (04 Table 4-8). -/
  | fence (scope kind : Nat)
deriving DecidableEq, Repr

/-- An entry of a register cache (04 R99), least recently used first in its list. -/
structure RegCacheEntry where
  register : Nat
  dirty : Bool
deriving DecidableEq, Repr

/-- A resident group (04 R91 to R93, Table 13-3). -/
structure Group where
  pc : Nat
  active : U64
  fpStatus : Word
  /-- P0 to P6, one mask of 64 threads each; P7 always reads 1. -/
  preds : List U64
  /-- Registers that differ from all-zero, by number: 64 words, thread 0 first. -/
  regs : List (Nat × List Word)
  /-- Registers written since task start (13 R313). -/
  written : List Nat
  /-- Divergence stack, innermost entry first. -/
  stack : List StackEntry
  wait : GroupWait
  finished : Bool
  /-- The register cache of the group's window slot (04 R99). -/
  regCache : List RegCacheEntry
  /-- Order in which the group became ready outside the window (04 R96). -/
  readySince : Nat
  /-- Release fences at device or system scope executed so far (09 R221). -/
  fences : Nat
deriving DecidableEq, Repr

/-- An accumulator (05 R134, R135): BASE, COUNT, the occupied levels with 4,096 binary32 words each. -/
structure Accumulator where
  base : Nat
  count : Nat
  levels : List (Nat × List Word)
  /-- Format codes of the operands that were appended, for reference (05 Table 5-6). -/
  afmt : Nat
  bfmt : Nat
deriving DecidableEq, Repr

/-- A task record (13 Table 13-1). -/
structure TaskRecord where
  unitKind : Nat
  unit : Nat
  groups : Nat
  priority : Nat
  afterAll : Bool
  preemptible : Bool
  reportValid : Bool
  entry : Nat
  descTable : Nat
  descCount : Nat
  switchBound : Nat
  saveArea : Nat
  report : Nat
  deps : List Nat
  args : List Word
deriving DecidableEq, Repr

/-- Where a task stands (13 R305 to R309). -/
inductive TaskMode where
  | waiting | running (core : Nat) | saved | retired | cancelled
deriving DecidableEq, Repr

/-- A task of a launched list. -/
structure Task where
  record : TaskRecord
  mode : TaskMode
  /-- Saves of the task (13 Table 13-2). -/
  switches : Nat
  /-- A request of the task has passed a victim over (13 R310). -/
  deferred : Bool
  /-- The waits of its groups at its last save, with what their instructions name (13 R315). -/
  waits : List GroupWait
deriving DecidableEq, Repr

/-- Who launched a list (02 R30, R45). -/
inductive Launcher where
  | builder | command (id : Nat) | almanac (index : Nat)
deriving DecidableEq, Repr

/-- A launched work list (02 R30, R31). -/
structure WorkList where
  id : Nat
  kit : Nat
  context : Nat
  address : Nat
  tasks : List Task
  launcher : Launcher
  /-- Beat and instant of the launch. -/
  beat : Nat
  launchedAt : Nat
  /-- Steps of a step-builder list, in list order, and its step table (10 R250). -/
  steps : List StepDesc
  table : Nat
  /-- Sequence commands of the batch it came with (10 R252). -/
  commands : List ForwardedCommand
  /-- Finished when its GUARD began (02 R36); finished at all (02 R31). -/
  finishedAtGuard : Bool
  finished : Bool
  cancelled : Bool
  /-- Cancelled by a failure and to be repeated (19 R434, R435), with the attempts made. -/
  repeat_ : Bool
  attempts : Nat
deriving DecidableEq, Repr

/-- What a core does with its block (13 R309 to R315). -/
inductive CorePhase where
  | idle | running
  /-- Drains for a switch to the named task (list, record); saves; restores. -/
  | draining (list task : Nat)
  | saving (list task : Nat)
  | restoring (list task : Nat)
  /-- Stopped by a fault (13 R319). -/
  | stopped
deriving DecidableEq, Repr

/-- The block of a running task (04 R91). -/
structure Block where
  list : Nat
  task : Nat
  kit : Nat
  partition : Nat
  descTable : Nat
  descCount : Nat
  args : List Word
  groups : List Group
  acc : List Accumulator
  /-- Bytes of the core store, and the 128-byte units whose valid bit is set (04 R112). -/
  cstore : Memory
  cvalid : List Nat
  /-- Groups that have arrived at a barrier, by barrier number (04 R121). -/
  barriers : List (Nat × List Nat)
  startedAt : Nat
deriving DecidableEq, Repr

/-- A copy in a read-only cache (07 Table 7-5): set, key, bytes; least recently used first. -/
structure RoLine where
  set : Nat
  key : Nat
  bytes : List Byte
deriving DecidableEq, Repr

/-- A core (01 R10, R21). -/
structure Core where
  phase : CorePhase
  block : Option Block
  /-- Groups in W0 to W3 (04 R96), and the slot that issued last (04 R95). -/
  window : List (Option Nat)
  lastSlot : Nat
  /-- Instant from which a running switch is timed (13 R312). -/
  switchAt : Nat
  /-- Instant since which it has been free (03 R69 (a)). -/
  freeSince : Nat
  /-- Context and launched list it ran last (07 R187 (b), (d)). -/
  lastContext : Nat
  lastList : Nat
  constCache : List RoLine
  descCache : List RoLine
  instrCache : List RoLine
  /-- Corrected single-bit errors of register file and core store (04 R112). -/
  corrected : Nat
  /-- Instants of those of the last 1 ms (19 R439). -/
  correctedAt : List Nat
  retired : Bool
  /-- CORE_RETIRE accepted, effective at a downbeat (19 R439). -/
  retiring : Bool
deriving DecidableEq, Repr

/-- The data type and operation of an atomic (04 Table 4-7). -/
inductive AtomicOp where
  | add | fadd | min | max | umin | umax | and | or | xor | xchg | cas
deriving DecidableEq, Repr

/-- Where an access goes after segment mapping: tier 1 (address after SPREAD), a memory object line, companion. -/
inductive Place where
  | tier1 (address : Nat)
  | object (object offset : Nat)
  | coherent (address : Nat)
deriving DecidableEq, Repr

/-- One thread's part of a request: thread, place, operand words and compare words. -/
structure Lane where
  thread : Nat
  place : Place
  data : List Word
  compare : List Word
deriving DecidableEq, Repr

/-- What a request does (04 R114 to R118, 06 R158). -/
inductive RequestKind where
  | load | store
  | atomic (op : AtomicOp) (ret : Bool)
  | tileLoad (cstore : Nat) (soft : Bool) (format : Nat)
  | tileStore (cstore : Nat) (payload tag : List Byte)
deriving DecidableEq, Repr

/-- Where a request stands: on its way to its point of coherence, performed there (for an access that returns a
value, with the words to return by thread), or waiting for a fill. -/
inductive RequestStage where
  | sent | performed
deriving DecidableEq, Repr

/-- A memory request of a group in flight (04 R114 to R119, 09 R217 to R221). -/
structure Request where
  id : Nat
  core : Nat
  group : Nat
  /-- Address of the instruction, and the active mask at its issue (13 Table 13-4). -/
  pc : Nat
  active : U64
  /-- Threads in which it executes. -/
  mask : U64
  kind : RequestKind
  width : Nat
  dst : Nat
  /-- `Group.fences` at its issue. -/
  fence : Nat
  /-- Lanes not performed yet, and lanes performed with the words they return. -/
  lanes : List Lane
  returned : List (Nat × List Word)
  stage : RequestStage
  /-- The context and partition it acts for, and a fault found at the point of coherence (status, thread). -/
  partition : Nat
  error : Nat
  errorThread : Nat
  errorAddress : Nat
  /-- Object and line at which it was met (08 R213). -/
  errorLine : Option (Nat × Nat)
deriving DecidableEq, Repr

end Sys2Proof.Machine
end

