-- ==== Sys2Proof/Machine/Table.lean ====
section
/-!
DEFINITION. Tables with numbered entries, memories as sorted lists of bytes, and the byte order of fields (00 R4).
-/
namespace Sys2Proof.Machine
open Sys2Proof

/-- The entry of key `k`. -/
def tget {α : Type} (t : List (Nat × α)) (k : Nat) : Option α :=
  match t with
  | [] => none
  | (j, a) :: r => if j = k then some a else tget r k

/-- The entry of key `k`, or a value that stands for an entry that is not listed. -/
def tgetD {α : Type} (t : List (Nat × α)) (k : Nat) (d : α) : α := (tget t k).getD d

/-- The table with entry `k` removed. -/
def terase {α : Type} (t : List (Nat × α)) (k : Nat) : List (Nat × α) :=
  match t with
  | [] => []
  | (j, a) :: r => if j = k then terase r k else (j, a) :: terase r k

/-- The table with entry `k` put, keys ascending. -/
def tset {α : Type} (t : List (Nat × α)) (k : Nat) (v : α) : List (Nat × α) :=
  match t with
  | [] => [(k, v)]
  | (j, a) :: r => if j < k then (j, a) :: tset r k v else if j = k then (k, v) :: r else (k, v) :: (j, a) :: r

/-- The table with entry `k` changed, if it is there. -/
def tmod {α : Type} (t : List (Nat × α)) (k : Nat) (f : α → α) : List (Nat × α) :=
  match t with
  | [] => []
  | (j, a) :: r => if j = k then (j, f a) :: r else (j, a) :: tmod r k f

/-- The table with entry `k` changed, starting from `d` if it is not listed. -/
def tupd {α : Type} (t : List (Nat × α)) (k : Nat) (d : α) (f : α → α) : List (Nat × α) :=
  tset t k (f (tgetD t k d))

/-- Every entry changed by its key. -/
def tmapv {α β : Type} (t : List (Nat × α)) (f : Nat → α → β) : List (Nat × β) := t.map fun e => (e.1, f e.1 e.2)

/-- The keys of the table are strictly ascending. -/
def tsorted {α : Type} : List (Nat × α) → Bool
  | [] => true
  | [_] => true
  | (j, _) :: (k, b) :: r => decide (j < k) && tsorted ((k, b) :: r)

/-- The lowest number from `k` on, below `k + fuel`, that `p` accepts. -/
def firstFrom (p : Nat → Bool) : Nat → Nat → Option Nat
  | _, 0 => none
  | k, fuel + 1 => if p k then some k else firstFrom p (k + 1) fuel

/-- The lowest key of at least `k` that a table does not list, below `k + t.length + 1`. -/
def tfree {α : Type} (t : List (Nat × α)) (k : Nat) : Nat :=
  (firstFrom (fun j => (tget t j).isNone) k (t.length + 1)).getD k

/-! ### Memories -/

/-- The form of a memory whose unlisted bytes read as `d` says: addresses strictly rising, no entry equal to what its
address would read as unlisted. -/
def Memory.wf (d : Nat → Byte) : Memory → Bool
  | [] => true
  | [(a, b)] => b != d a
  | (a, b) :: (a', b') :: r => (b != d a) && decide (a < a') && Memory.wf d ((a', b') :: r)

/-- The byte at `a`. -/
def memGet (d : Nat → Byte) (m : Memory) (a : Nat) : Byte :=
  match m with
  | [] => d a
  | (j, b) :: r => if j = a then b else if a < j then d a else memGet d r a

/-- The memory with byte `b` at `a`. -/
def memSet (d : Nat → Byte) (m : Memory) (a : Nat) (b : Byte) : Memory :=
  match m with
  | [] => if b = d a then [] else [(a, b)]
  | (j, c) :: r =>
    if j < a then (j, c) :: memSet d r a b
    else if j = a then (if b = d a then r else (a, b) :: r)
    else if b = d a then (j, c) :: r else (a, b) :: (j, c) :: r

/-- `n` bytes from `a`. -/
def memRead (d : Nat → Byte) (m : Memory) (a n : Nat) : List Byte := (List.range n).map fun i => memGet d m (a + i)

/-- The memory with `bytes` from `a`. -/
def memWrite (d : Nat → Byte) (m : Memory) (a : Nat) : List Byte → Memory
  | [] => m
  | b :: r => memWrite d (memSet d m a b) (a + 1) r

/-- What an unlisted byte of a tier or a core store reads as: zero (08 R205). -/
def zeroByte : Nat → Byte := fun _ => 0

/-- The memory with `n` bytes from `a` all zero (for a memory whose unlisted bytes are zero). -/
def memZero (m : Memory) (a n : Nat) : Memory := m.filter fun c => c.1 < a || a + n ≤ c.1

/-- The listed bytes of `n` bytes from `a`, as offsets from `a`. -/
def memSlice (m : Memory) (a n : Nat) : Memory :=
  (m.filter fun c => decide (a ≤ c.1) && decide (c.1 < a + n)).map fun c => (c.1 - a, c.2)

/-- The memory with `n` bytes from `a` replaced by the offsets listed in `src` (zero elsewhere). -/
def memPaste (m : Memory) (a n : Nat) (src : Memory) : Memory :=
  (m.filter fun c => c.1 < a) ++ ((src.filter fun c => c.1 < n).map fun c => (a + c.1, c.2)) ++
    (m.filter fun c => a + n ≤ c.1)

/-! ### Bytes and fields -/

/-- `v` in `n` little-endian bytes (00 R4). -/
def leBytes : Nat → Nat → List Byte
  | 0, _ => []
  | n + 1, v => BitVec.ofNat 8 v :: leBytes n (v / 256)

/-- The number that little-endian bytes stand for (00 R4). -/
def leNat : List Byte → Nat
  | [] => 0
  | b :: r => b.toNat + 256 * leNat r

/-- `n` bytes of a record from `offset`, zeros past its end. -/
def slice (bytes : List Byte) (offset n : Nat) : List Byte :=
  let t := (bytes.drop offset).take n
  t ++ List.replicate (n - t.length) 0

/-- The `n`-byte field of a record at `offset`. -/
def field (bytes : List Byte) (offset n : Nat) : Nat := leNat (slice bytes offset n)

/-- A signed field of `n` bytes. -/
def sfield (bytes : List Byte) (offset n : Nat) : Int :=
  let v := field bytes offset n
  if v < 2 ^ (8 * n - 1) then v else (v : Int) - 2 ^ (8 * n)

/-- Bits `hi` to `lo` of a number. -/
def bits (v hi lo : Nat) : Nat := v / 2 ^ lo % 2 ^ (hi - lo + 1)

/-- One bit of a number. -/
def bit (v i : Nat) : Bool := v / 2 ^ i % 2 == 1

/-- A signed number as an unsigned field of `n` bytes. -/
def ofSigned (n : Nat) (v : Int) : Nat := (v % 2 ^ (8 * n)).toNat

/-- 0 or 1. -/
def b2n (b : Bool) : Nat := if b then 1 else 0

/-- `n` reserved bytes. -/
def zeros (n : Nat) : List Byte := List.replicate n 0

/-- The number whose bit `i` is set for every `i` of the list below 64. -/
def maskOf (l : List Nat) : Nat := (List.range 64).foldl (fun a i => if l.contains i then a + 2 ^ i else a) 0

/-- A record of exactly `n` bytes. -/
def padTo (n : Nat) (bytes : List Byte) : List Byte := slice bytes 0 n

/-- A list with element `i` changed. -/
def lmod {α : Type} : List α → Nat → (α → α) → List α
  | [], _, _ => []
  | a :: r, 0, f => f a :: r
  | a :: r, i + 1, f => a :: lmod r i f

/-- The last `n` elements. -/
def lastN {α : Type} (n : Nat) (l : List α) : List α := l.drop (l.length - n)

/-- A list without repeats that holds `k` too. -/
def addOnce (l : List Nat) (k : Nat) : List Nat := if l.contains k then l else l ++ [k]

/-- An element put before the first one that does not come strictly before it. -/
def insertBy {α : Type} (le : α → α → Bool) (x : α) : List α → List α
  | [] => [x]
  | a :: r => if le x a then x :: a :: r else a :: insertBy le x r

/-- A list in ascending order; equals keep their order. -/
def sortBy {α : Type} (le : α → α → Bool) (l : List α) : List α := l.foldr (insertBy le) []

end Sys2Proof.Machine
end

