-- ==== Sys2Proof/Config.lean ====
section
/-!
DEFINITION. What an implementation fixes and the manual leaves open, and the free values: constants without a body,
so that nothing can be proved about which value they take. Each is named in a log entry.
-/
namespace Sys2Proof.Config

/-- The `n`-th value that the manual leaves open; the counter is `State.freeCount`. -/
opaque freeValue : Nat → U64

/-- A byte of the companion's memory that neither Sirmo nor a command of this model has written (15 R350). -/
opaque companionByte : Nat → Byte

/-- Whether FMAC sets INVALID for infinity times zero plus a quiet NaN (04 R105: IEEE 754-2019 leaves it to the
implementation). -/
opaque fmaNaNInvalid : Bool

/-- The binary32 bits of a widened NaN of element `code` (05 R143 states none), by source ELEMENT and bits. -/
opaque widenedNaN : Nat → Nat → Word

/-- The signature a security block makes (20 R472): key slot and digest. -/
opaque sign : Nat → List Byte → List Byte

/-- Decoding of a symbol pattern beyond the limits of 08 Table 8-2: whether the decoder detects it (08 R197), by
the symbols as stored. -/
opaque patternDetected : List Byte → Bool

/-- The 16 bytes of a utilisation record (03 Table 3-3, PLACE_QUERY: no layout is given), by resource code, demand and
capacity. -/
opaque utilisation : Nat → Nat → Nat → BitVec 128

/-- PARENT that KIT_QUERY shows for a Kit that has none (03 R60, Table 3-1), by KIT_ID. -/
opaque topParent : Nat → Word

/-- APPEND_BEAT of a Sequence without a queued append (10 Table 10-1), by its POSITION. -/
opaque noAppendBeat : Nat → U64

/-- A prefill chunk fits on the other members of a peal Kit, by Kit and the list's rows, bytes read and attended tokens: the
cost terms that they send with FIT (10 R249) have no layout. -/
opaque membersFit : Nat → Nat → Nat → Nat → Bool

/-- Calibrated maximum clock of a core as measured at manufacture (01 R21): 600 MHz plus this many steps of 4 MHz, by
core ID. -/
opaque factoryClock : Nat → Fin 31

/-- Bytes that manufacture wrote into module flash and security blocks (20 R464, R472): what they are (an identifier of
the model) and the position of the byte. -/
opaque flashByte : Nat → Nat → Byte

/-- The replica of a shared weight's tile outside the module (03 R76, 08 R213), by handle and tile: the bytes of its payload, then of
its tag. -/
opaque replicaByte : Nat → Nat → Nat → Byte

/-- KIND of the log record of a failed tile CRC (06 R155 asks for the record; no table gives its code). -/
opaque tileCrcKind : Byte

/-- KIND of the log record that takes the REASON of a C_ERR (15 Table 15-6 asks for it; no table gives its code). -/
opaque agentErrorKind : Byte

/-- A Kit's peak demand at an arbitrated resource in blocks per µs (14 R337: no rule computes it), by KIT_ID, resource and the
cores it holds. -/
opaque peakDemand : Nat → Nat → Nat → Nat

end Sys2Proof.Config
end

