-- ==== Sys2Proof/Machine/Float.lean ====
section
/-!
DEFINITION. Binary floating point of the thread pipeline (04 R105 to R107): exact values, one rounding, flags.
-/
namespace Sys2Proof.Machine

/-- Rounding directions of IMM20 RM (04 Table 4-5). -/
inductive Rm where
  | nearestEven | towardZero | up | down
deriving DecidableEq, Repr

/-- A binary format by its exponent and fraction widths. -/
structure FpFormat where
  ebits : Nat
  mbits : Nat
deriving DecidableEq, Repr

/-- binary32, binary16 and bfloat16 (05 Table 5-2). -/
def binary32 : FpFormat := ⟨8, 23⟩
def binary16 : FpFormat := ⟨5, 10⟩
def bfloat16 : FpFormat := ⟨8, 7⟩

/-- Flags of one operation, in the order of FP_STATUS bits 0 to 4 (04 Table 4-6). -/
structure FpFlags where
  invalid : Bool := false
  divZero : Bool := false
  overflow : Bool := false
  underflow : Bool := false
  inexact : Bool := false
deriving DecidableEq, Repr

/-- The flags as bits [4:0] of FP_STATUS. -/
def FpFlags.bits (f : FpFlags) : Nat :=
  f.invalid.toNat + 2 * f.divZero.toNat + 4 * f.overflow.toNat + 8 * f.underflow.toNat + 16 * f.inexact.toNat

/-- A value read from its bits: a NaN (quiet or signalling), an infinity, or (-1)^neg * m * 2^e. -/
inductive FpVal where
  | nan (signalling : Bool)
  | inf (neg : Bool)
  | fin (neg : Bool) (m : Nat) (e : Int)
deriving DecidableEq, Repr

namespace FpFormat

def bias (f : FpFormat) : Nat := 2 ^ (f.ebits - 1) - 1
def width (f : FpFormat) : Nat := 1 + f.ebits + f.mbits
def expMask (f : FpFormat) : Nat := 2 ^ f.ebits - 1
def infBits (f : FpFormat) : Nat := f.expMask * 2 ^ f.mbits
def quietBit (f : FpFormat) : Nat := 2 ^ (f.mbits - 1)
/-- The default quiet NaN of 04 R105. -/
def defaultNaN (f : FpFormat) : Nat := f.infBits + f.quietBit
def maxFinite (f : FpFormat) : Nat := f.infBits - 1
def signBit (f : FpFormat) (neg : Bool) : Nat := neg.toNat * 2 ^ (f.ebits + f.mbits)

/-- The value of `bits`. -/
def decode (f : FpFormat) (bits : Nat) : FpVal :=
  let b := bits % 2 ^ f.width
  let neg := b / 2 ^ (f.ebits + f.mbits) == 1
  let ex := b / 2 ^ f.mbits % 2 ^ f.ebits
  let fr := b % 2 ^ f.mbits
  if ex = f.expMask then
    if fr = 0 then .inf neg else .nan (fr / f.quietBit == 0)
  else if ex = 0 then .fin neg fr (1 - (f.bias : Int) - f.mbits)
  else .fin neg (fr + 2 ^ f.mbits) ((ex : Int) - f.bias - f.mbits)

/-- A NaN operand made quiet (04 R105). -/
def quiet (f : FpFormat) (bits : Nat) : Nat :=
  let b := bits % 2 ^ f.width
  if b / f.quietBit % 2 = 1 then b else b + f.quietBit

end FpFormat

/-- Position of the leading bit. -/
def bitLength (m : Nat) : Nat := if m = 0 then 0 else Nat.log2 m + 1

/-- Whether a magnitude is rounded up: the kept part `sig`, the remainder below `2^shift` and whether more lies below. -/
def roundUp (rm : Rm) (neg : Bool) (sig rem shift : Nat) (sticky : Bool) : Bool :=
  match rm with
  | .nearestEven => decide (2 * rem > 2 ^ shift) || (2 * rem == 2 ^ shift && (sticky || sig % 2 == 1))
  | .towardZero => false
  | .up => !neg && (rem != 0 || sticky)
  | .down => neg && (rem != 0 || sticky)

/-- `m * 2^e`, plus something below its last bit when `sticky`, kept to a multiple of `2^q`: kept part, rest, width
of the rest and whether more lies below. -/
def splitAt (m : Nat) (e q : Int) (sticky : Bool) : Nat × Nat × Nat × Bool :=
  if q ≤ e then (m * 2 ^ (e - q).toNat, 0, 1, sticky)
  else
    let shift := (q - e).toNat
    if shift > bitLength m + 2 then (0, 1, 4, true)
    else (m / 2 ^ shift, m % 2 ^ shift, shift, sticky)

/-- The one rounding of a result (04 R105): the bits without sign of `m * 2^e` (`m > 0`), with its flags.
Tininess is detected after rounding (04 Table 4-6). -/
def roundMagnitude (f : FpFormat) (rm : Rm) (neg : Bool) (m : Nat) (e : Int) (sticky : Bool) : Nat × FpFlags :=
  let emin : Int := 1 - f.bias
  let top : Int := (bitLength m : Int) - 1 + e
  let tooBig : Nat × FpFlags :=
    (match rm with
      | .nearestEven => f.infBits
      | .towardZero => f.maxFinite
      | .up => if neg then f.maxFinite else f.infBits
      | .down => if neg then f.infBits else f.maxFinite,
     { overflow := true, inexact := true })
  if top > f.bias then tooBig
  else
    let q := max (top - f.mbits) (emin - f.mbits)
    let (sig, rem, shift, st) := splitAt m e q sticky
    let inexact := rem != 0 || st
    let sig' := if roundUp rm neg sig rem shift st then sig + 1 else sig
    let tiny : Bool :=
      if top ≥ emin then false
      else if top < emin - 1 then true
      else
        let (s0, r0, sh0, st0) := splitAt m e (top - f.mbits) sticky
        let s1 := if roundUp rm neg s0 r0 sh0 st0 then s0 + 1 else s0
        s1 < 2 ^ (f.mbits + 1)
    let flags : FpFlags := { inexact := inexact, underflow := tiny && inexact }
    -- a carry out of the significand raises the exponent field by itself
    let bits := if sig' < 2 ^ f.mbits then sig'
      else ((q + f.mbits + f.bias).toNat) * 2 ^ f.mbits + (sig' - 2 ^ f.mbits)
    if bits ≥ f.infBits then tooBig else (bits, flags)

/-- Rounding with its sign; an exact zero keeps the sign given. -/
def fpRound (f : FpFormat) (rm : Rm) (neg : Bool) (m : Nat) (e : Int) (sticky : Bool := false) : Nat × FpFlags :=
  if m = 0 && !sticky then (f.signBit neg, {})
  else
    let r := roundMagnitude f rm neg m e sticky
    (f.signBit neg + r.1, r.2)

/-- A signed dyadic `m * 2^e`. -/
structure Dyadic where
  m : Int
  e : Int
deriving DecidableEq, Repr

def Dyadic.add (a b : Dyadic) : Dyadic :=
  let e := min a.e b.e
  ⟨a.m * 2 ^ (a.e - e).toNat + b.m * 2 ^ (b.e - e).toNat, e⟩

def Dyadic.mul (a b : Dyadic) : Dyadic := ⟨a.m * b.m, a.e + b.e⟩

def Dyadic.lt (a b : Dyadic) : Bool :=
  let e := min a.e b.e
  decide (a.m * 2 ^ (a.e - e).toNat < b.m * 2 ^ (b.e - e).toNat)

def toDyadic (neg : Bool) (m : Nat) (e : Int) : Dyadic := ⟨if neg then -(m : Int) else m, e⟩

/-- Rounding of a signed dyadic; `zeroNeg` is the sign of an exact zero. -/
def roundDyadic (f : FpFormat) (rm : Rm) (zeroNeg : Bool) (d : Dyadic) : Nat × FpFlags :=
  if d.m = 0 then (f.signBit zeroNeg, {})
  else fpRound f rm (decide (d.m < 0)) d.m.natAbs d.e

/-- The NaN result of 04 R105 for operands given as bits, in order, and INVALID for a signalling one; `none` when no
operand is a NaN. -/
def nanResult (f : FpFormat) (ops : List Nat) : Option (Nat × FpFlags) :=
  let isNaN := fun b => match f.decode b with | .nan _ => true | _ => false
  let isSig := fun b => match f.decode b with | .nan s => s | _ => false
  match ops.find? isNaN with
  | none => none
  | some b => some (f.quiet b, { invalid := ops.any isSig })

def invalidResult (f : FpFormat) : Nat × FpFlags := (f.defaultNaN, { invalid := true })

def infResult (f : FpFormat) (neg : Bool) : Nat × FpFlags := (f.signBit neg + f.infBits, {})

/-- Sign of an exact zero sum (IEEE 754-2019 clause 6.3). -/
def zeroSumSign (rm : Rm) (a b : Bool) : Bool := if a = b then a else rm = .down

/-- SRC0 + SRC1 (FADD). -/
def fpAdd (f : FpFormat) (rm : Rm) (a b : Nat) : Nat × FpFlags :=
  match nanResult f [a, b] with
  | some r => r
  | none =>
    match f.decode a, f.decode b with
    | .inf n, .inf n' => if n = n' then infResult f n else invalidResult f
    | .inf n, _ => infResult f n
    | _, .inf n => infResult f n
    | .fin n m e, .fin n' m' e' =>
      roundDyadic f rm (if m = 0 && m' = 0 then zeroSumSign rm n n' else rm = .down)
        ((toDyadic n m e).add (toDyadic n' m' e'))
    | _, _ => invalidResult f

/-- The bits with the sign inverted. -/
def fpNegate (f : FpFormat) (a : Nat) : Nat := (a % 2 ^ f.width) ^^^ 2 ^ (f.ebits + f.mbits)

/-- SRC0 - SRC1 (FSUB). A NaN operand is propagated with its own sign (04 R105). -/
def fpSub (f : FpFormat) (rm : Rm) (a b : Nat) : Nat × FpFlags :=
  match nanResult f [a, b] with
  | some r => r
  | none => fpAdd f rm a (fpNegate f b)

/-- SRC0 * SRC1 (FMUL). -/
def fpMul (f : FpFormat) (rm : Rm) (a b : Nat) : Nat × FpFlags :=
  match nanResult f [a, b] with
  | some r => r
  | none =>
    match f.decode a, f.decode b with
    | .inf n, .inf n' => infResult f (n != n')
    | .inf n, .fin n' m _ => if m = 0 then invalidResult f else infResult f (n != n')
    | .fin n m _, .inf n' => if m = 0 then invalidResult f else infResult f (n != n')
    | .fin n m e, .fin n' m' e' => fpRound f rm (n != n') (m * m') (e + e')
    | _, _ => invalidResult f

/-- SRC0 * SRC1 + SRC2 with one rounding (FMAC). -/
def fpMac (f : FpFormat) (rm : Rm) (a b c : Nat) : Nat × FpFlags :=
  let zeroTimesInf : Bool :=
    match f.decode a, f.decode b with
    | .inf _, .fin _ 0 _ => true
    | .fin _ 0 _, .inf _ => true
    | _, _ => false
  match nanResult f [a, b, c] with
  | some (r, fl) => (r, { fl with invalid := fl.invalid || (zeroTimesInf && Config.fmaNaNInvalid) })
  | none =>
    if zeroTimesInf then invalidResult f
    else
      match f.decode a, f.decode b, f.decode c with
      | .fin n m e, .fin n' m' e', .fin n'' m'' e'' =>
        roundDyadic f rm (if m * m' = 0 && m'' = 0 then zeroSumSign rm (n != n') n'' else rm = .down)
          ((toDyadic (n != n') (m * m') (e + e')).add (toDyadic n'' m'' e''))
      | .fin _ _ _, .fin _ _ _, .inf n'' => infResult f n''
      | x, y, z =>
        let sx := match x with | .inf n => n | .fin n _ _ => n | .nan _ => false
        let sy := match y with | .inf n => n | .fin n _ _ => n | .nan _ => false
        match z with
        | .inf n'' => if n'' = (sx != sy) then infResult f n'' else invalidResult f
        | _ => infResult f (sx != sy)

/-- Order of two values that are not NaNs, with -0 below +0 when `signed`. -/
def fpLess (f : FpFormat) (signed : Bool) (a b : Nat) : Bool :=
  match f.decode a, f.decode b with
  | .inf n, .inf n' => n && !n'
  | .inf n, .fin _ _ _ => n
  | .fin _ _ _, .inf n => !n
  | .fin n m e, .fin n' m' e' =>
    if m = 0 && m' = 0 then signed && n && !n' else (toDyadic n m e).lt (toDyadic n' m' e')
  | _, _ => false

/-- minimum, maximum (FMIN, FMAX; 04 R105). -/
def fpMinMax (f : FpFormat) (isMax : Bool) (a b : Nat) : Nat × FpFlags :=
  match nanResult f [a, b] with
  | some r => r
  | none =>
    let less := fpLess f true a b
    ((if less != isMax then a else b) % 2 ^ f.width, {})

/-- minimumNumber, maximumNumber (FMINNUM, FMAXNUM; 04 R105): a single NaN operand is passed over. -/
def fpMinMaxNum (f : FpFormat) (isMax : Bool) (a b : Nat) : Nat × FpFlags :=
  match f.decode a, f.decode b with
  | .nan s, .nan s' => (f.quiet a, { invalid := s || s' })
  | .nan s, _ => (b % 2 ^ f.width, { invalid := s })
  | _, .nan s => (a % 2 ^ f.width, { invalid := s })
  | _, _ => fpMinMax f isMax a b

/-- Relations of FCMP (04 Table 4-10, 10h to 17h). -/
inductive FpRel where
  | eq | ne | lt | le | gt | ge | un | ord
deriving DecidableEq, Repr

/-- FCMP: the predicate, and INVALID only for a signalling NaN operand. -/
def fpCompare (f : FpFormat) (r : FpRel) (a b : Nat) : Bool × FpFlags :=
  match nanResult f [a, b] with
  | some (_, fl) => (r = .ne || r = .un, fl)
  | none =>
    let lt := fpLess f false a b
    let gt := fpLess f false b a
    ((match r with
      | .eq => !lt && !gt | .ne => lt || gt | .lt => lt | .le => !gt | .gt => gt | .ge => !lt
      | .un => false | .ord => true), {})

/-! ### The special functions (04 R106): the exact function, rounded once to nearest-even. -/

/-- floor(pi * 2^640). -/
def pi640 : Nat := 14333329926761567455775730701799299831126131522901418329710873694248203755857903894978459978948837038337184470360789102305252273090192709030764248428292776480232102476327552185579501988876367276
/-- floor(ln 2 * 2^640). -/
def ln640 : Nat := 3162442850577000144542819255265044123884198300717798677536341180773118696995660441338367561063358767323571958122307070903190084685977847936741854327993944726832264493303953239866611699627604094

/-- Integer square root by Newton's iteration from above, with fuel. -/
def isqrtLoop : Nat → Nat → Nat → Nat
  | 0, _, x => x
  | fuel + 1, n, x =>
    let y := (x + n / x) / 2
    if y < x then isqrtLoop fuel n y else x

def isqrt (n : Nat) : Nat := if n = 0 then 0 else isqrtLoop (Nat.log2 n + 2) n (2 ^ (Nat.log2 n / 2 + 1))

/-- Taylor sum of exp(-t) for fixed point `t` with `fb` fraction bits, `0 ≤ t < 1`: sum of (-t)^k / k!. -/
def expNegLoop (fb : Nat) (t : Int) : Nat → Nat → Int → Int → Int
  | 0, _, _, acc => acc
  | fuel + 1, k, term, acc =>
    let term' := -(term * t) / (2 ^ fb * (k : Int))
    if term' = 0 ∨ term' = -1 then acc else expNegLoop fb t fuel (k + 1) term' (acc + term')

/-- exp(-t) in `fb` fraction bits for fixed point `t ≥ 0`, to within a few hundred units. -/
def expNegFix (fb : Nat) (t : Nat) : Nat :=
  let l := ln640 / 2 ^ (640 - fb)
  let k := t / l
  let r := t - k * l
  (expNegLoop fb (r : Int) 400 1 (2 ^ fb) (2 ^ fb)).toNat / 2 ^ k

/-- Taylor sum of sin or cos for fixed point `t`: alternating terms in t². -/
def trigLoop (fb : Nat) (t2 : Int) : Nat → Nat → Int → Int → Int
  | 0, _, _, acc => acc
  | fuel + 1, k, term, acc =>
    let term' := -(term * t2) / (2 ^ fb * ((k + 1) * (k + 2) : Nat))
    if term' = 0 ∨ term' = -1 then acc else trigLoop fb t2 fuel (k + 2) term' (acc + term')

/-- atanh(z) = z + z^3/3 + ... in fixed point. -/
def atanhLoop (fb : Nat) (z2 : Int) : Nat → Nat → Int → Int → Int
  | 0, _, _, acc => acc
  | fuel + 1, k, p, acc =>
    let p' := p * z2 / 2 ^ fb
    if p' = 0 then acc else atanhLoop fb z2 fuel (k + 2) p' (acc + p' / ((k + 2 : Nat) : Int))

/-- A result known to lie within `slack` units of `v * 2^e` (`v > slack`): rounded, when both ends round alike. -/
def roundEnclosed (neg : Bool) (v slack : Nat) (e : Int) : Option (Nat × FpFlags) :=
  let lo := fpRound binary32 .nearestEven neg (v - slack) e true
  let hi := fpRound binary32 .nearestEven neg (v + slack) e true
  if lo = hi then some lo else none

/-- Working precisions tried in order; the last is beyond any case that binary32 operands can give. -/
def workingBits : List Nat := [96, 160, 320, 480]

/-- The first enclosure that rounds uniquely. -/
def firstRounded (g : Nat → Option (Nat × FpFlags)) : Nat × FpFlags :=
  match workingBits.findSome? g with
  | some r => r
  | none => (binary32.defaultNaN, {})

def sfuNaN (a : Nat) : Option (Nat × FpFlags) := nanResult binary32 [a]

/-- 1 / x. -/
def sfuRcp (a : Nat) : Nat × FpFlags :=
  match binary32.decode a with
  | .nan _ => (sfuNaN a).getD (invalidResult binary32)
  | .inf n => (binary32.signBit n, {})
  | .fin n m e =>
    if m = 0 then (binary32.signBit n + binary32.infBits, { divZero := true })
    else fpRound binary32 .nearestEven n (2 ^ 80 / m) (-80 - e) (2 ^ 80 % m != 0)

/-- Square root. -/
def sfuSqrt (a : Nat) : Nat × FpFlags :=
  match binary32.decode a with
  | .nan _ => (sfuNaN a).getD (invalidResult binary32)
  | .inf n => if n then invalidResult binary32 else infResult binary32 false
  | .fin n m e =>
    if m = 0 then (binary32.signBit n, {})
    else if n then invalidResult binary32
    else
      let k : Nat := if e % 2 = 0 then 80 else 81
      let v := m * 2 ^ k
      let r := isqrt v
      fpRound binary32 .nearestEven false r ((e - k) / 2) (r * r != v)

/-- 1 / square root. -/
def sfuRsqrt (a : Nat) : Nat × FpFlags :=
  match binary32.decode a with
  | .nan _ => (sfuNaN a).getD (invalidResult binary32)
  | .inf n => if n then invalidResult binary32 else (0, {})
  | .fin n m e =>
    if m = 0 then (binary32.signBit n + binary32.infBits, { divZero := true })
    else if n then invalidResult binary32
    else
      let k : Nat := if e % 2 = 0 then 160 else 161
      let r := isqrt (2 ^ k / m)
      fpRound binary32 .nearestEven false r (-((k : Int) + e) / 2) (r * r * m != 2 ^ k)

/-- 2^x. -/
def sfuExp2 (a : Nat) : Nat × FpFlags :=
  match binary32.decode a with
  | .nan _ => (sfuNaN a).getD (invalidResult binary32)
  | .inf n => if n then (0, {}) else infResult binary32 false
  | .fin n m e =>
    if m = 0 then (0x3F800000, {})
    else
      -- x = whole + frac / 2^149
      let x : Int := if n then -((m : Int) * 2 ^ (e + 149).toNat) else (m : Int) * 2 ^ (e + 149).toNat
      let whole := x / 2 ^ 149
      let frac := (x % 2 ^ 149).toNat
      if frac = 0 then fpRound binary32 .nearestEven false 1 whole
      else firstRounded fun p =>
        -- 2^frac = 2 * exp(-(1 - frac) ln 2)
        let t := (2 ^ 149 - frac) * (ln640 / 2 ^ (640 - p)) / 2 ^ 149
        roundEnclosed false (expNegFix p t) 1024 (whole + 1 - p)

/-- log2 x. -/
def sfuLog2 (a : Nat) : Nat × FpFlags :=
  match binary32.decode a with
  | .nan _ => (sfuNaN a).getD (invalidResult binary32)
  | .inf n => if n then invalidResult binary32 else infResult binary32 false
  | .fin n m e =>
    if m = 0 then (binary32.signBit true + binary32.infBits, { divZero := true })
    else if n then invalidResult binary32
    else
      let k := Nat.log2 m
      let whole : Int := e + k
      if m = 2 ^ k then
        if whole = 0 then (0, {}) else fpRound binary32 .nearestEven (decide (whole < 0)) whole.natAbs 0
      else firstRounded fun p =>
        let z : Int := ((m - 2 ^ k : Nat) : Int) * 2 ^ p / ((m + 2 ^ k : Nat) : Int)
        let ath := atanhLoop p (z * z / 2 ^ p) 400 1 z z
        let l := 2 * ath * 2 ^ p / ((ln640 / 2 ^ (640 - p) : Nat) : Int)
        let v := whole * 2 ^ p + l
        if v.natAbs ≤ 4096 then none else roundEnclosed (decide (v < 0)) v.natAbs 4096 (-(p : Int))

/-- sin(pi r) or cos(pi r) for `0 < r ≤ 1/2`, given as `r * 2^150`, rounded with the sign given. -/
def trigPi (cosine neg : Bool) (r : Nat) : Nat × FpFlags :=
  firstRounded fun p =>
    let fb := if cosine then p else p + 150 - Nat.log2 r
    let t : Int := (r * (pi640 / 2 ^ (640 - min 640 fb) * 2 ^ (fb - min 640 fb)) / 2 ^ 150 : Nat)
    let one : Int := 2 ^ fb
    let v := if cosine then trigLoop fb (t * t / one) 400 0 one one else trigLoop fb (t * t / one) 400 1 t t
    if v.natAbs ≤ 4096 then none else roundEnclosed neg v.natAbs 4096 (-(fb : Int))

/-- sin(pi x). -/
def sfuSinpi (a : Nat) : Nat × FpFlags :=
  match binary32.decode a with
  | .nan _ => (sfuNaN a).getD (invalidResult binary32)
  | .inf _ => invalidResult binary32
  | .fin n m e =>
    let x := if e ≥ 1 then 0 else m * 2 ^ (150 + e).toNat % 2 ^ 151
    -- |x| mod 2, in units of 2^-150
    if x % 2 ^ 150 = 0 then (binary32.signBit n, {})
    else
      let neg := n != decide (x > 2 ^ 150)
      let h := x % 2 ^ 150
      let r := if h > 2 ^ 149 then 2 ^ 150 - h else h
      if r = 2 ^ 149 then (binary32.signBit neg + 0x3F800000, {})
      else if r > 2 ^ 148 then trigPi true neg (2 ^ 149 - r)
      else trigPi false neg r

/-- cos(pi x). -/
def sfuCospi (a : Nat) : Nat × FpFlags :=
  match binary32.decode a with
  | .nan _ => (sfuNaN a).getD (invalidResult binary32)
  | .inf _ => invalidResult binary32
  | .fin _ m e =>
    let x := if e ≥ 1 then 0 else m * 2 ^ (150 + e).toNat % 2 ^ 151
    let h := if x > 2 ^ 150 then 2 ^ 151 - x else x
    -- 0 ≤ h ≤ 1 in units of 2^-150
    if h = 0 then (0x3F800000, {})
    else if h = 2 ^ 150 then (0xBF800000, {})
    else if h = 2 ^ 149 then (0, {})
    else
      let neg := decide (h > 2 ^ 149)
      let r := if neg then 2 ^ 150 - h else h
      if r > 2 ^ 148 then trigPi false neg (2 ^ 149 - r) else trigPi true neg r

/-- tanh x. -/
def sfuTanh (a : Nat) : Nat × FpFlags :=
  match binary32.decode a with
  | .nan _ => (sfuNaN a).getD (invalidResult binary32)
  | .inf n => (binary32.signBit n + 0x3F800000, {})
  | .fin n m e =>
    if m = 0 then (binary32.signBit n, {})
    else
      let top : Int := (bitLength m : Int) - 1 + e
      -- below 2^-13, x - x^3 < tanh x < x
      if top < -13 then fpRound binary32 .nearestEven n (m * 2 ^ 64 - 1) (e - 64) true
      else if top ≥ 5 then fpRound binary32 .nearestEven n (2 ^ 64 - 1) (-64) true
      else firstRounded fun p =>
        let t := if e + 1 + p ≥ 0 then m * 2 ^ (e + 1 + p).toNat else m / 2 ^ (-(e + 1 + p)).toNat
        let u := expNegFix p t
        let v := (2 ^ p - u) * 2 ^ p / (2 ^ p + u)
        roundEnclosed n v 4096 (-(p : Int))

end Sys2Proof.Machine
end

