-- ==== Sys2Proof/Machine/Formats.lean ====
section
/-!
DEFINITION. Element formats, matrix arithmetic and conversions (05_matrix_arithmetic.md), and CRC-32C
(06 R147).
-/
namespace Sys2Proof.Machine

/-! ### Format codes (05 R123, Table 5-1) -/

/-- Element width in bits by ELEMENT; 0 for a reserved one. -/
def elementWidth (el : Nat) : Nat :=
  match el with
  | 1 => 32 | 2 => 16 | 3 => 16 | 4 => 8 | 5 => 8 | 6 => 8 | 7 => 4
  | 8 => 8 | 9 => 8 | 10 => 6 | 11 => 6 | 12 => 4 | 13 => 8
  | _ => 0

/-- ELEMENT and BLK16 of a format code. -/
def codeElement (c : Nat) : Nat := c % 16
def codeBlk16 (c : Nat) : Bool := c / 16 % 2 == 1
/-- The element is of an MX format (8h to Dh). -/
def isMx (el : Nat) : Bool := 8 ≤ el && el ≤ 13
/-- A format code that 05 R123 does not refuse. -/
def codeValid (c : Nat) : Bool :=
  decide (c < 32) && elementWidth (codeElement c) != 0 && (!codeBlk16 c || isMx (codeElement c))
/-- Block size of a code: 32, or 16 with BLK16 (05 R125). -/
def blockSize (c : Nat) : Nat := if codeBlk16 c then 16 else 32

/-- The value of an element (05 Table 5-2). -/
inductive Elem where
  | nan (signalling : Bool)
  | inf (neg : Bool)
  | fin (neg : Bool) (m : Nat) (e : Int)
deriving DecidableEq, Repr

/-- A small float without infinities: fraction width, bias, bits. -/
def smallFloat (ebits mbits bias : Nat) (b : Nat) : Elem :=
  let neg := b / 2 ^ (ebits + mbits) % 2 == 1
  let ex := b / 2 ^ mbits % 2 ^ ebits
  let fr := b % 2 ^ mbits
  if ex = 0 then .fin neg fr (1 - (bias : Int) - mbits)
  else .fin neg (fr + 2 ^ mbits) ((ex : Int) - bias - mbits)

/-- A two's complement integer of `w` bits, scaled by `2^e`. -/
def intElem (w : Nat) (e : Int) (b : Nat) : Elem :=
  let v := b % 2 ^ w
  if v ≥ 2 ^ (w - 1) then .fin true (2 ^ w - v) e else .fin false v e

/-- Value of the bits of an element (05 R124). -/
def decodeElem (el b : Nat) : Elem :=
  let ieee := fun f => match FpFormat.decode f b with
    | .nan s => Elem.nan s | .inf n => .inf n | .fin n m e => .fin n m e
  match el with
  | 1 => ieee binary32
  | 2 => ieee binary16
  | 3 => ieee bfloat16
  | 4 | 8 => if b % 128 = 127 then .nan false else smallFloat 4 3 7 b
  | 5 | 9 =>
    if b / 4 % 32 = 31 then (if b % 4 = 0 then .inf (b / 128 % 2 == 1) else .nan false) else smallFloat 5 2 15 b
  | 6 => intElem 8 0 b
  | 7 => intElem 4 0 b
  | 10 => smallFloat 3 2 3 b
  | 11 => smallFloat 2 3 1 b
  | 12 => smallFloat 2 1 1 b
  | 13 => intElem 8 (-6) b
  | _ => .nan false

/-! ### The value of one chunk (05 R131, R132) -/

/-- One product of a chunk: the two elements and the exponents of their scales, `none` for a scale of FFh. A product
that R130 or the divergence rules supply as +0 is left out of the list. -/
structure Product where
  a : Elem
  b : Elem
  sa : Option Int
  sb : Option Int
deriving DecidableEq, Repr

/-- Exponent of an E8M0 scale byte; `none` for FFh. -/
def scaleExponent (s : Nat) : Option Int := if s % 256 = 255 then none else some ((s % 256 : Nat) - 127)

def Product.isNaN (p : Product) : Bool :=
  match p.sa, p.sb with
  | some _, some _ =>
    match p.a, p.b with
    | .nan _, _ => true
    | _, .nan _ => true
    | .inf _, .fin _ 0 _ => true
    | .fin _ 0 _, .inf _ => true
    | _, _ => false
  | _, _ => true

/-- The sign of an infinite product. -/
def Product.infSign (p : Product) : Option Bool :=
  match p.a, p.b with
  | .inf n, .inf n' => some (n != n')
  | .inf n, .fin n' _ _ => some (n != n')
  | .fin n _ _, .inf n' => some (n != n')
  | _, _ => none

/-- The exact product in units of `2^-640`. -/
def Product.units (p : Product) : Int :=
  match p.a, p.b, p.sa, p.sb with
  | .fin n m e, .fin n' m' e', some s, some s' =>
    let v : Int := (m * m' * 2 ^ (e + e' + s + s' + 640).toNat : Nat)
    if n != n' then -v else v
  | _, _, _, _ => 0

/-- The canonical NaN of matrix results. -/
def matrixNaN : Nat := 0x7FC00000

/-- The chunk value (05 R131, R132). -/
def chunkValue (ps : List Product) : Nat :=
  if ps.any Product.isNaN then matrixNaN
  else
    let infs := ps.filterMap Product.infSign
    if infs.any id && infs.any not then matrixNaN
    else match infs with
      | n :: _ => binary32.signBit n + binary32.infBits
      | [] => (roundDyadic binary32 .nearestEven false ⟨ps.foldl (fun s p => s + p.units) 0, -640⟩).1

/-- A NaN result of 7FC00000h (05 R134, R137). -/
def canonNaN (r : Nat × FpFlags) : Nat :=
  match binary32.decode r.1 with
  | .nan _ => matrixNaN
  | _ => r.1

/-- add() of 05 R134. -/
def matrixAdd (a b : Word) : Word := BitVec.ofNat 32 (canonNaN (fpAdd binary32 .nearestEven a.toNat b.toNat))
/-- Multiplication of 05 R137 (b). -/
def matrixMul (a b : Word) : Word := BitVec.ofNat 32 (canonNaN (fpMul binary32 .nearestEven a.toNat b.toNat))

/-! ### Conversions (05 R143) -/

/-- A magnitude rounded to nearest-even in a format without room for infinities, saturating at `maxBits`. -/
def roundSaturating (mbits bias maxBits : Nat) (m : Nat) (e : Int) : Nat × FpFlags :=
  if m = 0 then (0, {})
  else
    let top : Int := (bitLength m : Int) - 1 + e
    if top > 300 then (maxBits, { overflow := true, inexact := true })
    else
      let qmin : Int := 1 - (bias : Int) - mbits
      let q := max (top - mbits) qmin
      let (sig, rem, shift, st) := splitAt m e q false
      let inexact := rem != 0 || st
      let sig' := if roundUp .nearestEven false sig rem shift st then sig + 1 else sig
      let bits := if sig' < 2 ^ mbits then sig'
        else ((q + mbits + bias).toNat) * 2 ^ mbits + (sig' - 2 ^ mbits)
      if bits > maxBits then (maxBits, { overflow := true, inexact := true })
      else (bits, { inexact := inexact, underflow := inexact && decide (sig' < 2 ^ mbits) })

/-- A value rounded to the nearest integer, ties to even, saturating to `w` bits of two's complement. -/
def roundInteger (w : Nat) (neg : Bool) (m : Nat) (e : Int) : Nat × FpFlags :=
  let big := decide ((bitLength m : Int) - 1 + e > 40)
  let (sig, rem, shift, st) := splitAt m (if big then 0 else e) 0 false
  let mag := if roundUp .nearestEven neg sig rem shift st then sig + 1 else sig
  let limit := if neg then 2 ^ (w - 1) else 2 ^ (w - 1) - 1
  if big || mag > limit then
    (if neg then 2 ^ (w - 1) else 2 ^ (w - 1) - 1, { invalid := true })
  else
    (if neg then (2 ^ w - mag) % 2 ^ w else mag, { inexact := rem != 0 || st })

/-- Fraction width, bias and largest code of the small floats. -/
def smallFloatParams (el : Nat) : Nat × Nat × Nat :=
  match el with
  | 4 | 8 => (3, 7, 0x7E)
  | 5 | 9 => (2, 15, 0x7B)
  | 10 => (2, 3, 0x1F)
  | 11 => (3, 1, 0x1F)
  | _ => (1, 1, 0x07)

/-- A value converted to `el` (05 R143): code and flags. -/
def convertTo (el : Nat) (v : Elem) : Nat × FpFlags :=
  let toIeee := fun (f : FpFormat) => match v with
    | .nan s => (f.defaultNaN, ({ invalid := s } : FpFlags))
    | .inf n => infResult f n
    | .fin n m e => fpRound f .nearestEven n m e
  match el with
  | 1 => toIeee binary32
  | 2 => toIeee binary16
  | 3 => toIeee bfloat16
  | 6 | 7 | 13 =>
    let w := if el = 7 then 4 else 8
    match v with
    | .nan _ => (0, { invalid := true })
    | .inf n => (if n then 2 ^ (w - 1) else 2 ^ (w - 1) - 1, { invalid := true })
    | .fin n m e => roundInteger w n m (if el = 13 then e + 6 else e)
  | _ =>
    let (mbits, bias, maxBits) := smallFloatParams el
    let sign := fun (n : Bool) => n.toNat * 2 ^ (elementWidth el - 1)
    match v with
    | .nan s => (0x7F, { invalid := s })
    | .inf n => (sign n + (if el = 5 || el = 9 then 0x7C else maxBits), {})
    | .fin n m e =>
      let r := roundSaturating mbits bias maxBits m e
      (sign n + r.1, r.2)

/-- CVT: source ELEMENT and destination ELEMENT from 1h to 7h. A NaN widened to binary32 is an open value
(`Config.widenedNaN`). -/
def convert (src dst b : Nat) : Nat × FpFlags :=
  let v := decodeElem src (b % 2 ^ elementWidth src)
  match v, dst with
  | .nan s, 1 => ((Config.widenedNaN src (b % 2 ^ elementWidth src)).toNat, { invalid := s })
  | _, _ => convertTo dst v

/-- EMAX of 05 R143 (a). -/
def emax (el : Nat) : Int :=
  match el with
  | 8 => 8 | 9 => 15 | 10 => 4 | 11 => 2 | 12 => 2 | _ => 0

/-- One block quantised under 05 R143 (a) to (d): scale byte and element codes. -/
def quantBlock (el : Nat) (vs : List Word) : Nat × List Nat :=
  let es := vs.map fun v => decodeElem 1 v.toNat
  let special := es.any fun v => match v with | .nan _ => true | .inf _ => true | .fin _ _ _ => false
  if special then (255, vs.map fun _ => 0)
  else
    let tops := es.filterMap fun v => match v with
      | .fin _ m e => if m = 0 then none else some ((bitLength m : Int) - 1 + e)
      | _ => none
    match tops with
    | [] => (0, es.map fun v => (convertTo el v).1)
    | t :: ts =>
      let top := ts.foldl max t
      let x := max (-127) (min 127 (top - emax el))
      ((x + 127).toNat, es.map fun v => match v with
        | .fin n m e => (convertTo el (.fin n m (e - x))).1
        | _ => 0)

/-- Elements of width `w` packed little-endian into bytes (05 R129). -/
def packBits (w : Nat) (xs : List Nat) : List Byte :=
  let total := xs.foldr (fun x acc => acc * 2 ^ w + x % 2 ^ w) 0
  (List.range (xs.length * w / 8)).map fun i => BitVec.ofNat 8 (total / 2 ^ (8 * i))

/-- A list cut into runs of `n`, with fuel. -/
def chunksOf {α : Type} (n : Nat) : Nat → List α → List (List α)
  | 0, _ => []
  | fuel + 1, xs => if xs.isEmpty then [] else xs.take n :: chunksOf n fuel (xs.drop n)

/-- MQUANT of 16 rows of 256 values: element rows, then scale rows of an MX code (05 R143). -/
def quantise (code : Nat) (rows : List (List Word)) : List Byte :=
  let el := codeElement code
  let w := elementWidth el
  if isMx el then
    let blocks := rows.map fun r => (chunksOf (blockSize code) 16 r).map (quantBlock el)
    (blocks.flatMap fun bs => packBits w (bs.flatMap Prod.snd))
      ++ blocks.flatMap fun bs => bs.map fun b => BitVec.ofNat 8 b.1
  else rows.flatMap fun r => packBits w (r.map fun v => (convertTo el (decodeElem 1 v.toNat)).1)

/-! ### Accumulators (05 R134 to R136) -/

/-- routine append: the carried value is added at each occupied level from 0 (05 R135). -/
def appendLevels : Nat → Nat → Nat → List (Nat × List Word) → List Word → List (Nat × List Word)
  | 0, lvl, _, stack, v => (lvl, v) :: stack
  | fuel + 1, lvl, n, stack, v =>
    if n / 2 ^ lvl % 2 = 1 then
      match stack.find? (fun p => p.1 == lvl) with
      | some (_, top) =>
        appendLevels fuel (lvl + 1) n (stack.filter fun p => p.1 != lvl) (List.zipWith matrixAdd top v)
      | none => appendLevels fuel (lvl + 1) n stack v
    else (lvl, v) :: stack

/-- routine collapse: occupied levels are the set bits of COUNT (05 R135). -/
def collapseLevels (n : Nat) (stack : List (Nat × List Word)) : List Word :=
  let v := (List.range 11).foldl (fun (acc : Option (List Word)) lvl =>
    if n / 2 ^ lvl % 2 = 1 then
      match stack.find? (fun p => p.1 == lvl), acc with
      | some (_, top), none => some top
      | some (_, top), some v => some (List.zipWith matrixAdd top v)
      | none, a => a
    else acc) none
  v.getD (List.replicate 4096 0)

/-- routine T of 05 R134, on the chunk values from `b` on, with fuel: the canonical value of `n` chunks. -/
def canonicalValue : Nat → (Nat → Word) → Nat → Nat → Word
  | 0, chunk, b, _ => chunk b
  | fuel + 1, chunk, b, n =>
    if n ≤ 1 then chunk b
    else
      let h := 2 ^ Nat.log2 (n - 1)
      matrixAdd (canonicalValue fuel chunk b h) (canonicalValue fuel chunk (b + h) (n - h))

/-- 2^ceil(log2 n). -/
def ceilPow2 (n : Nat) : Nat := if n ≤ 1 then 1 else 2 ^ (Nat.log2 (n - 1) + 1)

/-- An aligned span (05 R136). -/
def spanAligned (base count : Nat) : Bool := 1 ≤ count && base % ceilPow2 count == 0

/-- The requirements of routine merge (05 R136). -/
def mergeable (lbase lcount rbase rcount : Nat) : Bool :=
  lcount == 2 ^ Nat.log2 lcount && lbase % (2 * lcount) == 0 && rbase == lbase + lcount
    && 1 ≤ rcount && rcount ≤ lcount

/-! ### CRC-32C (06 R147) -/

/-- One bit of the reflected CRC with polynomial 1EDC6F41h. -/
def crcBit (c : Nat) : Nat := if c % 2 = 1 then (c / 2) ^^^ 0x82F63B78 else c / 2

def crcByte (c : Nat) (b : Byte) : Nat :=
  let c := c ^^^ b.toNat
  crcBit (crcBit (crcBit (crcBit (crcBit (crcBit (crcBit (crcBit c)))))))

/-- CRC-32C: initial value and final exclusive-OR FFFFFFFFh. -/
def crc32c (bs : List Byte) : Nat := (bs.foldl crcByte 0xFFFFFFFF) ^^^ 0xFFFFFFFF

end Sys2Proof.Machine
end

