-- ==== Sys2Proof/Machine/BeatState.lean ====
section
/-!
DEFINITION. The state of the beat, of time and of the Almanac (02_beat_and_almanac.md).
-/
namespace Sys2Proof.Machine

/-- The phase of the running beat (02 Table 2-1). BUILD of the next beat overlaps WORK and GUARD, so it is a
flag of its own (`BeatState.building`). -/
inductive Phase where
  | downbeat | work | guard
deriving DecidableEq, Repr

/-- The lock states of Table 2-7 (02 R55). -/
inductive Lock where
  | locked | holdover | free
deriving DecidableEq, Repr

/-- An accepted BEAT_SET_PERIOD that has not taken effect (02 R29, R51). -/
structure PeriodChange where
  period : Nat
  buildShare : Nat
  guardShare : Nat
  effective : Nat
deriving DecidableEq, Repr

/-- The port state of the PTP clock (02 R56): it never masters. -/
inductive PtpPort where
  | listening | uncalibrated | slave
deriving DecidableEq, Repr

/-- External time (02 R56 to R58). Times in ns. -/
structure PtpState where
  source : Nat
  domain : Nat
  enabled : Bool
  port : PtpPort
  /-- Sequence of the last Sync taken, and its receive timestamp. -/
  syncSeq : Nat
  syncRx : Int
  /-- A two-step Sync waits for its Follow_Up. -/
  awaitFollowUp : Bool
  /-- Master-to-slave difference of the last Sync (receive time minus origin time and correction). -/
  masterToSlave : Int
  /-- Transmit time of the last Delay_Req, and its sequence. -/
  delayReqTx : Int
  delayReqSeq : Nat
  /-- The measured mean path delay. -/
  meanPath : Int
  /-- Offset of the module from the grandmaster in ns (TIME_QUERY). -/
  offset : Int
  /-- Correction that is still to be spread over beats, in ns. -/
  remaining : Int
deriving DecidableEq, Repr

/-- The beat (02 R26 to R33, R52 to R58). -/
structure BeatState where
  /-- The generators run (they stop in Vigil and before a verified image, 02 R27, 18 R430). -/
  running : Bool
  /-- The beat number, 64 bits (02 R27). -/
  number : Nat
  /-- Raised at each event of 02 R28 (a) to (c). -/
  formation : Nat
  phase : Phase
  /-- BUILD of the next beat has begun (02 Table 2-1). -/
  building : Bool
  /-- The instant D(number), in 10 ns units of `Clock.now`. -/
  start : Nat
  /-- P in 10 ns units (02 R26). -/
  period : Nat
  /-- BUILD_SHARE and GUARD_SHARE in parts per thousand (02 R29). -/
  buildShare : Nat
  guardShare : Nat
  /-- The change that waits for its EFFECTIVE_BEAT. -/
  change : Option PeriodChange
  /-- The lock state (02 R55, Table 2-7). -/
  lock : Lock
  /-- Instant at which HOLDOVER began. -/
  holdoverSince : Nat
  /-- Ring neighbours whose timing input is present, by light-engine direction 0 to 5. -/
  timingInputs : List Nat
  /-- Measured offset from the neighbours in ns (16 R381). -/
  offset : Int
  /-- Correction applied to the length of the running beat, in ns, from −10 to 10 (02 R57). -/
  slew : Int
  /-- The pair of 02 R58. -/
  pairBeat : Nat
  pairTai : Int
  /-- Device totals (02 end of Overrun; 21 R485). -/
  buildShort : Nat
  almanacLate : Nat
  almanacSkipped : Nat
  overrunSoft : Nat
  overrunHard : Nat
  transferOverrun : Nat
  ptp : PtpState
deriving DecidableEq, Repr

/-- One Almanac entry (02 Table 2-3); reserved bits are zero (R5). -/
structure AlmanacEntry where
  cycleBeat : Nat
  action : Nat
  valid : Bool
  oneShot : Bool
  offset : Nat
  targetKind : Nat
  target : Nat
  stride : Nat
  span : Nat
  arg0 : Nat
  context : Nat
  partition : Nat
  arg1 : Nat
deriving DecidableEq, Repr

/-- The states of Table 2-5 (02 R50). -/
inductive AlmanacMode where
  | disarmed | arming | armed
deriving DecidableEq, Repr

/-- An action of this beat that its slot has issued or passed (02 R47, R54). -/
structure AlmanacIssue where
  index : Nat
  slot : Nat
deriving DecidableEq, Repr

/-- The Almanac (02 R43 to R50). -/
structure AlmanacState where
  mode : AlmanacMode
  /-- CYCLE_LENGTH, 1 to 65,536. -/
  cycleLength : Nat
  /-- ORIGIN. -/
  origin : Nat
  /-- Entries with other than all-zero contents, by index. -/
  entries : List (Nat × AlmanacEntry)
  /-- Accepted writes that the next downbeat applies (02 R48), oldest first. -/
  staged : List (Nat × AlmanacEntry)
  /-- ALMANAC_DISARM accepted, effective at the next downbeat (02 Table 2-5). -/
  disarmAtDownbeat : Bool
  /-- Sample counts of SAMPLE_TELEMETRY entries (02 R46), by index; unlisted are 0. -/
  samples : List (Nat × Nat)
  /-- Due entries of the running beat that are not issued yet, with their slots, in order (02 R47). -/
  due : List AlmanacIssue
deriving DecidableEq, Repr

end Sys2Proof.Machine
end

