-- ==== Sys2Proof/Machine/BootState.lean ====
section
/-!
DEFINITION. The state of start-up, of firmware images and identity (20_insertion_start_and_trust.md), and of the
register window fields that nothing else holds (21_register_windows.md).
-/
namespace Sys2Proof.Machine

/-- Who holds the load area (Table 20-4, CLAIM). -/
inductive Claim where
  | none | companion | management
deriving DecidableEq, Repr

/-- What Sirmo keeps of a verified image (20 R463, R464; Table 1-4). -/
structure Image where
  header : List Byte
  digest : List Byte
  stationDigest : List Byte
  securityVersion : Nat
  raiseFloor : Bool
  buildId : Nat
deriving DecidableEq, Repr

/-- An image on its way in: its bytes by offset, the chunks that have arrived as offset and length, and its length once known. -/
structure Delivery where
  bytes : Memory
  chunks : List (Nat × Nat)
  length : Nat
  /-- FINAL or the end of the read has started verification. -/
  verifying : Bool
deriving DecidableEq, Repr

/-- A running FW_LIVE_UPDATE (20 R468). -/
structure LiveUpdate where
  command : Nat
  source : Nat
  length : Nat
  /-- Verified, so that the control cores restart at the next downbeat; restarted at an instant. -/
  verified : Bool
  restartedAt : Option Nat
deriving DecidableEq, Repr

/-- Start-up, images and the records of module flash (20). -/
structure BootState where
  /-- The edge dies have passed stage 1 (Table 20-2). -/
  stage1 : Bool
  lit : Bool
  loadReady : Bool
  trained : Bool
  fillDone : Bool
  stationsStarted : Bool
  diesTested : Bool
  flashRead : Bool
  released : Bool
  /-- A part of the image has been verified since power-up. -/
  verified : Bool
  rejectReason : Nat
  startFault : Nat
  claim : Claim
  /-- Boot window fields (Table 20-3). -/
  imageAddress : Nat
  imageBytes : Nat
  queue0Base : Nat
  queue0Log2 : Nat
  cring0Log2 : Nat
  cring0Base : Nat
  /-- The load area and the staging area (20 R466). -/
  load : Delivery
  staging : Delivery
  /-- Images: the one that runs, the one staged and verified, and the station firmware verified last, by number. -/
  running : Option Image
  staged : Option Image
  images : List (Nat × Image)
  liveUpdate : Option LiveUpdate
  /-- Rollback floor (20 R464). -/
  floor : Nat
  /-- Flash records: one fell back to its older copy; the floor record is missing (Table 20-8, FLAGS). -/
  fellBack : Bool
  floorMissing : Bool
  /-- Placement history: the last 256 report heads, oldest first. -/
  history : List (List Byte)
  /-- FILL_TIME in µs (21 Table 21-3). -/
  fillTime : Nat
  /-- Image bytes that datagrams brought for FW_DELIVER packets not yet read (20 R465 (b)), by queue and index. -/
  chunks : List ((Nat × Nat) × List Byte)
deriving DecidableEq, Repr

/-- Register window fields that no other part of the state holds (21 Tables 21-3 to 21-9). -/
structure WindowState where
  attention : U64
  attentionEnable : U64
  attentionVector : Nat
  chimeLowTotal : Nat
  doorbellDropped : Nat
  noticesDropped : Nat
  mgmtDropped : Nat
  /-- SNAPSHOT_BEAT, and the beat counters as they stood then, in the order of Table 21-7 (21 R484). -/
  snapshotBeat : Nat
  beatBlock : List Nat
  switches : Nat
  switchDeferred : Nat
  switchLongest : Nat
  scoreLate : Nat
  noResultCount : Nat
  syncAlarm : Nat
  summaryFail : Nat
  lanesRepaired : Nat
  /-- LANES_REPAIRED and SCRUB_PASSES of pairs, SCRUB_PASSES of slices. -/
  pairLanes : List (Nat × Nat)
  pairPasses : List (Nat × Nat)
  slicePasses : List (Nat × Nat)
  /-- Per pair die (32 p + d) and per SRAM part (440 s + 11 w + k): CE_COUNT and UE_COUNT. -/
  pairDies : List (Nat × (Nat × Nat))
  parts : List (Nat × (Nat × Nat))
  /-- Kit blocks as they stood at the last downbeat (21 R485), by block index: 128 bytes. -/
  kitBlocks : List (Nat × List Byte)
  /-- Per-Kit SWITCHES, SWITCH_DEFERRED and SWITCH_LONGEST, by Kit. -/
  kitSwitches : List (Nat × (Nat × (Nat × Nat)))
  /-- Function page counters (21 R490): COMMANDS_READ, COMMANDS_REFUSED, DOORBELL_DROPPED by function. -/
  pages : List (Nat × (Nat × (Nat × Nat)))
deriving DecidableEq, Repr

end Sys2Proof.Machine
end

