-- ==== Sys2Proof/Machine/FailState.lean ====
section
/-!
DEFINITION. The state of failures, of compute dies, base dies and edge dies, and of station firmware
(19_failure_and_intercalation.md, 01 R11 to R20).
-/
namespace Sys2Proof.Machine

/-- The states of Table 19-2, in the order of their codes. -/
inductive DieMode where
  | inService | intercalary | starting | measuring | failed | retired
deriving DecidableEq, Repr

/-- A compute die (19 R441). -/
structure ComputeDie where
  mode : DieMode
  /-- Instant of its failure, and whether a trip caused it (19 Table 19-2, 18 R428). -/
  failedAt : Nat
  byTrip : Bool
  /-- A STARTING die has passed and joins at the next downbeat; a die is to be released at a downbeat. -/
  joining : Bool
  releasing : Bool
  /-- Its clock table is older than its last recalibration (01 R13). -/
  staleTable : Bool
deriving DecidableEq, Repr

/-- A base die (19 R442). -/
structure BaseDie where
  out : Bool
  /-- Cause 0 to 3 of 19 R442 and the instant of the reset. -/
  cause : Nat
  since : Nat
  /-- Version of the station firmware its controller runs: 0 none, else the number of the image (boot). -/
  firmware : Nat
deriving DecidableEq, Repr

/-- An edge die (01 R17 to R20, 19 R446). -/
structure EdgeDie where
  up : Bool
  lost : Bool
  /-- Its security block is usable (20 R470). -/
  usable : Bool
  /-- The optical link of its management port. -/
  mgmtUp : Bool
  mgmtDownSince : Option Nat
deriving DecidableEq, Repr

/-- A running STATION_FW_UPDATE (19 R449). -/
structure StationUpdate where
  command : Nat
  gap : Nat
  image : Nat
  /-- Next station, the station whose controller restarts with the instant of its restart, stations to do again. -/
  next : Nat
  restarting : Option (Nat × Nat)
  again : List Nat
deriving DecidableEq, Repr

/-- Failures. -/
structure FailState where
  /-- Compute dies, base dies by station 0 to 53; edge dies by index 0 to 3. -/
  dies : List (Nat × ComputeDie)
  bases : List (Nat × BaseDie)
  edges : List (Nat × EdgeDie)
  /-- Calibrated maximum clocks in MHz that differ from the factory's (01 R21, 19 R445), by core ID. -/
  clocks : List (Nat × Nat)
  autoIntercalate : Bool
  /-- Dies that DIE_INTERCALATE ACTION 1 has just released (19, Compute dies and intercalation). -/
  passedOver : List Nat
  primary : Nat
  /-- The last edge die is lost (19 R448). -/
  stopped : Bool
  stationUpdate : Option StationUpdate
  /-- Image whose station firmware a station receives when it rejoins (19 R449 (e)). -/
  stationImage : Nat
  /-- SCRATCH granules written since their last fill (19 R443 (d)). -/
  written : List Nat
  /-- Pinned lines of a reset slice that fill again (19 R443 (b)): slot, object, line. -/
  repins : List (Nat × (Nat × Nat))
deriving DecidableEq, Repr

end Sys2Proof.Machine
end

