-- ==== Sys2Proof/Machine/LinkState.lean ====
section
/-!
DEFINITION. The state of the panel fabric, of its arbiters and carillons (14_panel_fabric_and_arbitration.md) and of
the Cijan Link (15_cijan_link.md).
-/
namespace Sys2Proof.Machine

/-- The states of Table 14-2. -/
inductive LinkMode where
  | off | bringup | inService | retraining | degraded | failed
deriving DecidableEq, Repr

/-- One direction of a die-to-die link (14 R324 to R328), as an entry of the fabric window (21 R488). -/
structure Link where
  mode : LinkMode
  /-- Data wires mapped onto spares at training (14 R324). -/
  mapped : Nat
  /-- Consecutive training failures. -/
  failures : Nat
  /-- Instants of the frame-check failures of the last 1 ms. -/
  frameErrors : List Nat
  replays : Nat
  retrains : Nat
  hot : Nat
deriving DecidableEq, Repr

/-- A request of an arbiter slot (14 R336): the block boundary at which it arrived, blocks, blocks transferred. -/
structure ArbRequest where
  arrival : Nat
  blocks : Nat
  progress : Nat
deriving DecidableEq, Repr

/-- A requester slot of an arbiter (14 R336, R337); COUNTER as the fabric window shows it (21 Table 21-10). -/
structure ArbSlot where
  weight : Nat
  counter : Int
  shown : Int
  requests : List ArbRequest
deriving DecidableEq, Repr

/-- A weighted-share arbiter (14 R336 to R340); slots that are not listed have nothing pending, their default weight, and the
counter that refills alone give. -/
structure Arbiter where
  grants : Nat
  /-- Block boundaries so far. -/
  boundaries : Nat
  slots : List (Nat × ArbSlot)
deriving DecidableEq, Repr

/-- A carillon transfer that a slice starts for a fill (14 R331 to R333, 07 R175): targets are stations. -/
structure Carillon where
  id : Nat
  source : Nat
  targets : List Nat
  /-- The requests that joined the fill. -/
  requests : List Nat
  /-- Targets that the present attempt has not reached yet, and answers on their way: target, true for an ACK. -/
  asked : List Nat
  answers : List (Nat × Bool)
  delivered : List Nat
  /-- Targets that have answered NACK and wait for a retry, and the instant of the last NACK. -/
  laggards : List Nat
  nackAt : Nat
  attempts : Nat
deriving DecidableEq, Repr

/-- The fabric. -/
structure FabricState where
  /-- Link directions by entry number of the fabric window. -/
  links : List (Nat × Link)
  /-- Arbiters by the numbers of the fabric window: 0 to 9 home ports, 10 to 57 ring engines, 58 to 65 Cijan engines. -/
  arbiters : List (Nat × Arbiter)
  /-- Refill windows begun, as far as 2 (14 R337). -/
  refills : Nat
  /-- Weights of ADMITTED slots that differ from 0: arbiter * 256 + slot (14 R337). -/
  weights : List (Nat × Nat)
  carillons : List Carillon
  /-- Carillon receive buffers in use by target: carillons (14 Table 14-5). -/
  receive : List (Nat × List Nat)
deriving DecidableEq, Repr

/-- The states of Table 15-3. -/
inductive DomainMode where
  | down | establishing | up | failing
deriving DecidableEq, Repr

/-- A coherent window (15 Table 15-5). -/
structure Window where
  deviceBase : Nat
  size : Nat
  hostBase : Nat
  partitions : Nat
  read : Bool
  write : Bool
  hint : Nat
  hintTarget : Nat
deriving DecidableEq, Repr

/-- The kinds of a transaction (15 Table 15-1, CREQ). -/
inductive TxnKind where
  | read | readExcl | write | writeUnlock
deriving DecidableEq, Repr

/-- A transaction of the arbiter (15 R351 to R353). -/
structure Txn where
  tag : Nat
  kind : TxnKind
  /-- Device physical address of its granule, and the engine that carries it. -/
  granule : Nat
  engine : Nat
  /-- Sent at least once; otherwise it waits for its granule. -/
  sent : Bool
  /-- Waits for the backoff of a C_NACK. -/
  backoff : Bool
  /-- It is sent with RETRY; the instant of its resend. -/
  retry : Bool
  resendAt : Nat
  nacks : Nat
  firstSend : Nat
  lastSend : Nat
  /-- The 128 bytes of a write. -/
  data : List Byte
  /-- The request of a group it serves, and the Context it acts for. -/
  request : Nat
  context : Nat
deriving DecidableEq, Repr

/-- A Cijan light engine (15 R342, R346): up, credits for CREQ headers and data units. -/
structure CijanEngine where
  up : Bool
  headerCredits : Nat
  dataCredits : Nat
deriving DecidableEq, Repr

/-- The Cijan Link. -/
structure CijanState where
  mode : DomainMode
  /-- The last accepted EPOCH, 0 for none; the epoch being established with its link block's host address. -/
  epoch : Nat
  pendingEpoch : Nat
  linkBlock : Nat
  /-- A LINK_HELLO held during FAILING (15 R364): its epoch and link block. -/
  heldHello : Option (Nat × Nat)
  aperture : Nat
  windows : List Window
  domainVector : Nat
  creqCredits : Nat
  /-- Companion latencies in ns at 99.9, 99.99 and 99.999 %. -/
  latencies : List Nat
  companionId : Nat
  /-- Cause of the last declaration (15 R362). -/
  cause : Nat
  downAt : Nat
  txns : List Txn
  engines : List CijanEngine
  /-- CIJAN_MALFORMED, CIJAN_STALE, CIJAN_NARROW (15 R345, R357), epochs accepted, domain losses. -/
  malformed : Nat
  stale : Nat
  narrow : Nat
  losses : Nat
  nackTotal : Nat
deriving DecidableEq, Repr

end Sys2Proof.Machine
end

