-- ==== Sys2Proof/Machine/MemState.lean ====
section
/-!
DEFINITION. The state of the two memory tiers, of tiles and of the protection of stored data
(06_tiles_and_checksums.md, 07_memory_tiers.md, 08_stored_data_protection.md, 09_visibility_and_fences.md).
-/
namespace Sys2Proof.Machine

/-- The modes of Table 7-1. -/
inductive GranuleMode where
  | cache | flushing | scratch
deriving DecidableEq, Repr

/-- A tier-1 granule (07 R165): the partition that holds it, its mode, the SPREAD run it belongs to (first granule,
number of granules; 07 R168), diagnostic mode (08 R215). -/
structure Granule where
  partition : Nat
  mode : GranuleMode
  spread : Option (Nat × Nat)
  diag : Bool
deriving DecidableEq, Repr

/-- A tier-2 granule (07 R191). -/
structure Granule2 where
  partition : Nat
  diag : Bool
deriving DecidableEq, Repr

/-- An accepted TIER1_REGION_SET (07 R169) that waits for its flush and its downbeat. -/
structure RegionChange where
  id : Nat
  first : Nat
  count : Nat
  mode : Nat
  spread : Bool
  /-- Every write-back is done; it applies at the next downbeat. -/
  flushed : Bool
  command : Nat
deriving DecidableEq, Repr

/-- The side tag of a tile (06 Table 6-1). -/
structure Tag where
  crc : Word
  version : Word
  format : Nat
  /-- FLAGS bit 0 VALID, bit 1 ZERO. -/
  flags : Nat
  producer : Word
deriving DecidableEq, Repr

/-- The states of Table 7-2; INVALID is the absence of the line. -/
inductive LineMode where
  | filling | clean | dirty | dead
deriving DecidableEq, Repr

/-- A cache line in a slot of tier 1 (07 R170, R173, R177). -/
structure Line where
  object : Nat
  line : Nat
  partition : Nat
  mode : LineMode
  pin : Bool
  /-- Order of its last use in its set (07 R174). -/
  lastUse : Nat
  /-- Beat of its installation (07 Table 7-3, EVICT_YOUNG). -/
  installed : Nat
deriving DecidableEq, Repr

/-- A fill entry of a slice (07 R175): the line it fills, its slot, and the requests that joined, in order. -/
structure Fill where
  station : Nat
  object : Nat
  line : Nat
  slot : Nat
  requesters : List Nat
  /-- Pins that wait for the line (07 R178). -/
  pins : List Nat
deriving DecidableEq, Repr

/-- A TIER1_PIN in progress (07 R178): lines that are not resident yet. -/
structure Pinning where
  id : Nat
  object : Nat
  lines : List Nat
  command : Nat
deriving DecidableEq, Repr

/-- The counters of Table 7-3 that are kept; the others are counted from the lines. -/
structure SliceCounters where
  fills : Nat
  mergedMisses : Nat
  evictClean : Nat
  evictDirty : Nat
  evictYoung : Nat
  deadReads : Nat
  /-- EVICT_YOUNG at the start of the running window of 65,536 beats, its first beat, and a notice sent (07 R181). -/
  windowBase : Nat
  windowBeat : Nat
  noticed : Bool
deriving DecidableEq, Repr

/-- A tile write in the pending-write table of a home port (06 R154). An entry of number 0 was open when its base die was reset: the
tile is read as RACED until it is next published (19 R443 (e)). -/
structure PendingTile where
  id : Nat
  object : Nat
  tile : Nat
  payload : List Byte
  tag : Tag
deriving DecidableEq, Repr

/-- A code word stored as given by ECC_RAW_WRITE, or with symbols in error (08 R197, R215): tier and data address
of the code word, its symbols as they are stored. A code word that is not listed is the one its data requires. -/
structure RawWord where
  tier : Nat
  address : Nat
  bytes : List Byte
  /-- The decoder finds it uncorrectable. -/
  bad : Bool
deriving DecidableEq, Repr

/-- An SRAM bank of a slice (08 R201, R202): macros marked FAILED, the macro the spare stands for, a rebuild in
progress, and the symbol errors of the last 1 ms as (macro, code word, instant). -/
structure Bank where
  failed : List Nat
  spareFor : Option Nat
  rebuilding : Option Nat
  errors : List (Nat × (Nat × Nat))
deriving DecidableEq, Repr

/-- A record of the error log (08 Table 8-5). -/
structure ErrorRecord where
  beat : Nat
  kind : Nat
  source : Nat
  station : Nat
  pair : Nat
  symbols : Nat
  address : Nat
  partition : Nat
  unit : Nat
  offset : Nat
deriving DecidableEq, Repr

/-- Counters of one stack pair or one slice (08 R214, 06 R155). -/
structure UnitCounters where
  corrected : Nat
  uncorrectable : Nat
  tileRace : Nat
  tileCrc : Nat
deriving DecidableEq, Repr

/-- A stack pair (01 R15, 08 R196 to R209). -/
structure Pair where
  /-- Pair dies marked FAILED (kept in module flash). -/
  failedDies : List Nat
  /-- Symbol errors of the last 1 ms: pair die, code word, instant (08 R198 (a)). -/
  errors : List (Nat × (Nat × Nat))
  /-- Poison list: pair-local addresses of code words (08 R209). -/
  poison : List Nat
  /-- Next code word of the scrub (08 R207), and the instant of the last step. -/
  scrubAt : Nat
  /-- Unreachable stacks (08 R200), and lane repairs made at training (08 R199) as (stack, die, lane). -/
  counters : UnitCounters
  /-- Stack training failed: the pair is out (20 R460). -/
  out : Bool
deriving DecidableEq, Repr

/-- A transfer in flight (09 R227 to R230, 11 R283, 16 R383). -/
structure Transfer where
  id : Nat
  ring : Bool
  /-- The command that started it, or the Almanac entry. -/
  command : Option Nat
  almanac : Option Nat
  kit : Option Nat
  context : Nat
  partition : Nat
  function : Nat
  /-- Completion Chime and value (0-based device Chime), if any. -/
  chime : Option (Nat × U64)
  tile : Bool
  rows : Nat
  rowBytes : Nat
  srcSpace : Nat
  dstSpace : Nat
  src : Nat
  dst : Nat
  srcHandle : Nat
  dstHandle : Nat
  srcStride : Nat
  dstStride : Nat
  /-- Beat in which it started, SPAN, and whether its deadline was missed (02 R42). -/
  beat : Nat
  span : Nat
  late : Bool
  /-- First error met (a status; 0 for none). -/
  error : Nat
  /-- A ring transfer (16 R383 to R386): its targets in list order, MULTI, those that have reported DONE, those that answered
  NACK with a status, and those whose OPEN is to be sent again. -/
  targets : List Nat
  multi : Bool
  delivered : List Nat
  failedTargets : List Nat
  nacked : List Nat
  /-- TIMEOUT in µs, DST_CHIME with its value, RECORD, and sends so far. -/
  timeout : Nat
  dstChime : Option (Nat × U64)
  record : Nat
  attempts : Nat
  startedAt : Nat
  /-- A HANDOFF or STEP_DONE of the peal itself (10 R252): the Kit and the bytes that it carries. -/
  handoff : Option Nat
  payload : List Byte
deriving DecidableEq, Repr

/-- Both tiers and what lies beside them. -/
structure MemState where
  /-- Allocatable tier 1 by tier-1 address after SPREAD mapping (07 R166, R168). -/
  t1 : Memory
  /-- Tier 2: pair `p` at `p * 2^37` plus the pair-local address (07 R190). -/
  t2 : Memory
  /-- Memory of the companion, by address from 8000_0000_0000h, as far as Sirmo or the companion has written it. -/
  companion : Memory
  /-- Tags by slot (granule × 2,048 + line) (06 R150); unlisted tags are zero. -/
  tags : List (Nat × Tag)
  /-- Slots whose DEAD bit is set in scratch mode (07 R182). -/
  deadBits : List Nat
  /-- Tier-1 code words with POISON set, by address div 128 (08 R201). -/
  poison1 : List Nat
  /-- Granules that are not (partition 0, CACHE, no run), by number. -/
  granules : List (Nat × Granule)
  granules2 : List (Nat × Granule2)
  regions : List RegionChange
  lines : List (Nat × Line)
  fills : List Fill
  pinnings : List Pinning
  /-- Use counter of 07 R174. -/
  uses : Nat
  counters : List (Nat × SliceCounters)
  /-- Tile writes in the pending-write tables of the ten home ports. -/
  pendingTiles : List PendingTile
  raw : List RawWord
  banks : List (Nat × Bank)
  slices : List (Nat × UnitCounters)
  /-- Next code word of each slice's scrub, by station. -/
  scrub1 : List (Nat × Nat)
  pairs : List Pair
  /-- Scrub intervals in 10 ns units, tier 2 and tier 1 (08 Table 8-4). -/
  scrubInterval2 : Nat
  scrubInterval1 : Nat
  /-- The error log: number of records written, and the last 65,536, oldest first (08 R214). -/
  logged : Nat
  log : List ErrorRecord
  /-- Corrected errors logged in this scrub pass, as (tier, code word) (08 R214). -/
  loggedCorrected : List (Nat × Nat)
  transfers : List Transfer
  requests : List Request
deriving DecidableEq, Repr

end Sys2Proof.Machine
end

