-- ==== Sys2Proof/Machine/CommandState.lean ====
section
/-!
DEFINITION. The state of packets, queues, completion rings, Contexts, partitions, memory objects and Chimes
(11_command_packets_and_queues.md, 12_contexts_objects_chimes.md).
-/
namespace Sys2Proof.Machine

/-- A command packet without its OPCODE (11 Table 11-1): FLAGS, the reserved byte, CHIME, CHIME_VALUE and the
48 bytes of PARAMS. -/
structure Packet where
  flags : Byte
  reserved : Byte
  chime : Word
  chimeValue : U64
  params : List Byte
deriving DecidableEq, Repr

/-- The 90 kinds of command: Table 11-8, and any other OPCODE (11 R267). -/
inductive Op where
  | deviceNop | deviceQuery | undefinedOpcode (code : Nat)
  | queueCreate | queueDestroy | queueStop | queueStart | queueQuery | cringSet
  | contextCreate | contextDestroy | contextQuery
  | coreRetire | dieIntercalate | clockRecalibrate
  | memAlloc | memFree | memQuery | dmaCopy
  | tier1RegionSet | tier1Config | tier1Pin | tier1Unpin | tier1Dead | tier1Counters | roInvalidate
  | modelBegin | modelDescribe | modelCommit | modelAbort | modelUnload | placeQuery | placeReplace
  | seqOpen | seqAppend | seqSet | seqPause | seqResume | seqTruncate | seqClose | seqQuery | seqPolicy
  | kitCreate | kitDestroy | kitQuery | kitLaunch
  | chimeInit | chimeSignal | chimeWait | chimeQuery | chimeClear
  | beatSetPeriod | almanacWrite | almanacRead | almanacArm | almanacDisarm | timeSetSource | timeQuery
  | overrunSetPolicy
  | pealForm | pealJoin | pealLeave | pealQuery | ringSend
  | partitionSet | partitionQuery
  | vfEnable | vfAssign | vfReset | vfFreeze | vfSave | vfRestore | vfResume
  | powerSetCap | powerQuery | thermalSetLimits | vigilEnter | vigilWake
  | eccDiagMode | eccRawWrite | eccRawRead | eccScrubSet | eccDieMark | eccLogRead
  | fwDeliver | fwLiveUpdate | identityQuery | attest
  | stationFwUpdate | edgePrimaryMove
deriving DecidableEq, Repr

/-- The states of Table 11-11. -/
inductive QueueMode where
  | free | active | stopped | broken | draining
deriving DecidableEq, Repr

/-- A queue descriptor (11 Table 11-10); OUTSTANDING is the number of outstanding commands that name the queue.
The slots of a management queue are held in the command firmware's working store (11 R271) as records returned. -/
structure Queue where
  ringBase : Nat
  head : Nat
  tail : Nat
  kit : Nat
  context : Nat
  partition : Nat
  log2Size : Nat
  function : Nat
  completionRing : Nat
  mode : QueueMode
  chimeBase : Nat
  chimeCount : Nat
  /-- The values QUEUE_CREATE gave, restored by KIT_DESTROY (11 R271). -/
  ownChimeBase : Nat
  ownChimeCount : Nat
  weight : Nat
  management : Bool
  /-- Leaf bit of the doorbell bitmap (11 R274). -/
  leaf : Bool
  /-- Records that the queue has returned in datagrams (11 R277), and its last 256 as (packet index, number, bytes). -/
  returned : Nat
  recent : List (Nat × (Nat × List Byte))
  /-- Source address and port of the last datagram (11 R277). -/
  peer : Nat × Nat
deriving DecidableEq, Repr

/-- A completion ring descriptor (11 Table 11-12) and the records that wait for it (11 R276): NOTICES_HELD is the
number of notices among them. -/
structure CRing where
  base : Nat
  produced : Nat
  consumed : Nat
  log2Size : Nat
  irqCount : Nat
  irqDelay : Nat
  vector : Nat
  noticesDropped : Nat
  /-- Records written and not yet announced by an interrupt, and the instant of the oldest. -/
  unsignalled : Nat
  oldestUnsignalled : Nat
  /-- Waiting records: `true` for a notice, with its bytes (LAP is filled in when it is written). -/
  waiting : List (Bool × List Byte)
  /-- Records of the unit last written in this lap, oldest first (11 R275). -/
  unit : List (List Byte)
deriving DecidableEq, Repr

/-- What an outstanding command waits for. -/
inductive Wait where
  /-- Earlier commands of its queue (11 R278 (b)). -/
  | barrier
  /-- The next downbeat, as the command of a later master, or behind such a command (11 R282). -/
  | held
  /-- Release, before which only group Bh is carried out (20 R459). -/
  | release
  /-- A Chime and a target (11 R300). -/
  | chime (chime target : Nat)
  /-- The downbeat at which its units move (03 R62). -/
  | kitCreate (kit : Nat)
  | kitDestroy (kit : Nat)
  | kitLaunch (kit address records : Nat)
  /-- The list it launched (02 R31). -/
  | list (id : Nat)
  /-- The run of admission, then the downbeat at which it takes effect (03 R73, R68, R88). -/
  | commit (kit report : Nat)
  | replace (kit report percentile margin : Nat)
  | unload (kit : Nat)
  | append (seq : Nat)
  | seqClose (seq : Nat)
  | queueDestroy (queue : Nat)
  | contextDestroy (context : Nat)
  | memFree (handle : Nat)
  /-- A transfer to start at a downbeat because it was read in GUARD (02 R32), with its descriptor's address. -/
  | startTransfer (ring : Bool) (descriptor : Nat)
  | transfer (id : Nat)
  | pin (id : Nat)
  | region (id : Nat)
  /-- The next downbeat, for an effect that applies there. -/
  | downbeat
  | partitionSet (partition : Nat)
  | beatChange
  | roInvalidate (kit : Nat)
  | coreRetire (core : Nat)
  | die (station : Nat)
  | recalibrate (station : Nat)
  | pealForm
  | pealJoin
  | pealLeave (member : Nat)
  | vfFreeze (function : Nat)
  | vfSave (function : Nat)
  | vfRestore (function : Nat)
  | vfResume (function : Nat)
  | vfReset (function : Nat)
  | vigil
  | wake
  | rebuild (index : Nat)
  | image
  | liveUpdate
  | stationUpdate
deriving DecidableEq, Repr

/-- A command that has been read and has not completed (11 Table 11-10, OUTSTANDING). -/
structure Command where
  id : Nat
  queue : Nat
  index : Nat
  op : Op
  packet : Packet
  wait : Wait
  /-- Beat and instant at which it counts as read (11 R278 (b)). -/
  readBeat : Nat
  readAt : Nat
  /-- Read (or started) before BUILD of the next beat began (02 R30 (b), 10 R241 (a)). -/
  beforeBuild : Bool
  /-- Value that RESULT returns when it completes with ST_OK. -/
  result : Nat
  /-- The queue's Context, function and namespace as they stood at the read. -/
  context : Nat
deriving DecidableEq, Repr

/-- A read command of this beat and the objects it names, for the contradiction of 11 R282: master (0 companion,
1 rack manager, 2 peal leader) and object keys. -/
structure NamedRead where
  master : Nat
  objects : List (Nat × Nat)
deriving DecidableEq, Repr

/-- The states of Table 12-3. -/
inductive ContextMode where
  | free | active | lost | destroying
deriving DecidableEq, Repr

/-- A Context entry (12 Table 12-2). KITS, QUEUES, SEQUENCES, OBJECTS and CHIMES are counted from the tables. -/
structure Context where
  mode : ContextMode
  partition : Nat
  function : Nat
  noticeRing : Nat
  lossStatus : Nat
  lossBeat : Nat
  lossOffset : Nat
  /-- The management queue whose source receives its notices (11 R266 (a)). -/
  viaQueue : Option Nat
deriving DecidableEq, Repr

/-- The states of Table 12-5. -/
inductive ObjectMode where
  | free | live | bound | retiring
deriving DecidableEq, Repr

/-- A run of stripe units of 257 code words in a pair: pair-local address of the first unit (07 R192). -/
structure Extent where
  pair : Nat
  base : Nat
deriving DecidableEq, Repr

/-- A memory object entry (12 Table 12-4). -/
structure Object where
  generation : Nat
  footprint : Nat
  tiles : Nat
  mode : ObjectMode
  tiled : Bool
  pool : Bool
  summary : Bool
  unreadable : Bool
  context : Nat
  partition : Nat
  firstPair : Nat
  pairs : List Nat
  bindings : Nat
  /-- Marked by CONTEXT_DESTROY (12 Table 12-3). -/
  marked : Bool
  /-- Stripe units in order of unit number (07 R192). -/
  units : List Extent
  /-- A pool or summary object: its pair and granules (10 R243). -/
  granules : List Nat
deriving DecidableEq, Repr

/-- A Chime record (12 Table 12-6); STATE follows from `error` and `context` (12 R297). -/
structure Chime where
  counter : U64
  error : Nat
  lowCount : Nat
  context : Nat
  partition : Nat
deriving DecidableEq, Repr

/-- A waiter of a Chime (12 R300). -/
inductive Waiter where
  | group (core group : Nat)
  | command (id : Nat)
deriving DecidableEq, Repr

/-- A waiter on a Chime with its target, in order of arrival. -/
structure ChimeWaiter where
  chime : Nat
  target : U64
  waiter : Waiter
deriving DecidableEq, Repr

/-- A signal on its way to a Chime record (12 R298), or a signal with an error status of its own. -/
structure Signal where
  chime : Nat
  value : U64
  error : Nat
  /-- 0 for Sirmo itself, else 1 more than 16 times the core plus the group: one group's signals arrive in order (09 R224). -/
  source : Nat
deriving DecidableEq, Repr

/-- A partition's carve-out other than its granules, which the granule tables hold (12 R284). -/
structure Partition where
  chimeBase : Nat
  chimeCount : Nat
  almanacFirst : Nat
  almanacCount : Nat
  contextLimit : Nat
  /-- TIER1_CONFIG (07 R185). -/
  youngBeats : Nat
  youngNotice : Nat
  deadStrict : Bool
deriving DecidableEq, Repr

/-- An accepted PARTITION_SET that waits for its downbeat (12 R285). -/
structure PartitionChange where
  partition : Nat
  tier1 : List Nat
  tier2 : List Nat
  chimeBase : Nat
  chimeCount : Nat
  almanacFirst : Nat
  almanacCount : Nat
  contextLimit : Nat
deriving DecidableEq, Repr

end Sys2Proof.Machine
end

