-- ==== Sys2Proof/Machine/PealState.lean ====
section
/-!
DEFINITION. The state of the peal (16_peal_torus.md; 03 R84 to R87; 10 R252) and of functions
(17_virtual_functions_and_migration.md).
-/
namespace Sys2Proof.Machine

/-- The membership states of Table 16-2. -/
inductive Membership where
  | alone | forming | joining | member | leaving | asleep
deriving DecidableEq, Repr

/-- The kinds of message that leave the module. -/
inductive MsgKind where
  /-- MSG_INTR (15 R360): fields function, vector. -/
  | intr
  /-- A reply or notice datagram (11 R277): fields queue, record number, COUNT. -/
  | reply
  | statusDatagram | icmpv6 | neighbourAdvertisement | ptpDelayReq
  /-- Cijan messages (15 Table 15-1). -/
  | dData | dAck | dErr | creq | linkReset | linkHelloDone | engineState | linkCredit
  /-- Ring messages (16 Table 16-1). -/
  | ringOpen | ringData | ringDone | ringNack | ringSync | ringCtrl | ringCredit | ringRetry | ringForward
deriving DecidableEq, Repr

/-- A message that has left the module: kind, destination (a port, a coordinate, a lane), fields and bytes. -/
structure Msg where
  kind : MsgKind
  dest : Nat
  fields : List Nat
  bytes : List Byte
deriving DecidableEq, Repr

/-- One lane: a ring light engine 6e + d (16 R366). -/
structure Lane16 where
  up : Bool
  /-- Credits for the data buffers of each virtual channel and the shared ones (16 R370). -/
  credits : List Nat
  shared : Nat
  controlCredits : Nat
  /-- Messages sent whose credit has not come back, with their channels, and messages that wait for a credit; messages sent
  again (16 R369). -/
  kept : List (Nat × Msg)
  waiting : List (Nat × Msg)
  retries : Nat
  /-- Last SYNC received: instant, neighbour's beat less the own one, its estimate, and the offsets measured in the last 64
  exchanges (0.25 ns units), newest first. -/
  syncAt : Nat
  beatDifference : Int
  neighbourEstimate : Int
  offsets : List Int
deriving DecidableEq, Repr

/-- An inbound ring transfer at a target (16 R384, R385). -/
structure Inbound where
  source : Nat
  transfer : Nat
  partition : Nat
  tile : Bool
  space : Nat
  dst : Nat
  handle : Nat
  length : Nat
  /-- Message indexes taken. -/
  taken : List Nat
  chime : Option (Nat × U64)
  error : Nat
  /-- A HANDOFF of a peal Kit, and the bytes of its batch taken so far by message (10 R252 (b)). -/
  batchKit : Option Nat
  batch : List (Nat × List Byte)
deriving DecidableEq, Repr

/-- A PREPARE reservation of a member (03 R86), or a share the leader asked for. -/
structure Reservation where
  kit : Nat
  firstLayer : Nat
  layerCount : Nat
  since : Nat
  sinceBeat : Nat
  /-- The beat S of a COMMIT. -/
  switchBeat : Option Nat
deriving DecidableEq, Repr

/-- A round at the leader (03 R64, R86): the Kit, the members asked, their answers (member, status, 0 for FIT). -/
structure Round where
  kit : Nat
  creation : Bool
  command : Nat
  members : List Nat
  answers : List (Nat × Nat)
  /-- Slot totals and reports of the answers, by member. -/
  slots : List (Nat × Nat)
  reports : List (Nat × List Byte)
  report : Nat
  since : Nat
  sinceBeat : Nat
deriving DecidableEq, Repr

/-- The peal as this module sees it. -/
structure PealState where
  mode : Membership
  pealId : Nat
  coordinate : Nat
  sizes : Nat × (Nat × Nat)
  founder : Bool
  leader : Option Nat
  /-- Members in the member map (coordinates), and lanes known to be down elsewhere as (member, lane). -/
  members : List Nat
  lanesDown : List (Nat × Nat)
  /-- TIMEOUT of a FORMING or JOINING module in ms and the instant it began. -/
  timeout : Nat
  since : Nat
  /-- Wiring fault (16 Table 16-7). -/
  fault : Option Nat
  /-- Coordinates reached while FORMING, and neighbours by direction. -/
  reached : List Nat
  neighbours : List (Nat × Nat)
  /-- Modules that report LOCKED while FORMING. -/
  locked : List Nat
  /-- The named downbeat of the own formation or admission: own beat number, and the beat number it takes. -/
  admitBeat : Option (Nat × Nat)
  /-- At the leader, joiners named and the beats at which they enter. -/
  admitting : List (Nat × Nat)
  /-- Leaves under way: member, MODE, L. -/
  leaving : List (Nat × (Nat × Nat))
  /-- Election: lowest candidate known and the beat of office. -/
  candidate : Option Nat
  officeBeat : Option Nat
  /-- Beats at which MODE 1 of a lost member is applied: (member, beat). -/
  lost : List Nat
  lanes : List Lane16
  timeParent : Nat
  /-- Estimate of the offset from the leader, 0.25 ns units (16 R381). -/
  estimate : Int
  resent : Nat
  forwarded : Nat
  inbound : List Inbound
  /-- The last 1,024 inbound transfers that are finished: source and transfer (16 R374). -/
  finished : List (Nat × Nat)
  reservations : List Reservation
  rounds : List Round
deriving DecidableEq, Repr

/-- The states of Table 17-3. -/
inductive FunctionMode where
  | disabled | enabled | freezing | frozen | saving | saved | restoring | resetting
deriving DecidableEq, Repr

/-- A virtual function's entry (17 Table 17-1). QUEUES and CONTEXTS are counted
from the tables. -/
structure VFunction where
  mode : FunctionMode
  firstQueue : Nat
  queueCount : Nat
  partitions : List Nat
  squashed : Nat
  freezeBeat : Nat
  imageBytes : Nat
  /-- VF_RESET came from a SAVED function (17 Table 17-8). -/
  wasSaved : Bool
  /-- VF_RESUME accepted, effective at the next downbeat. -/
  resuming : Bool
  /-- Target of a running VF_SAVE or source of a VF_RESTORE: space, address or handle, bytes. -/
  imageSpace : Nat
  imageAt : Nat
  imageLength : Nat
  imageReport : Nat
deriving DecidableEq, Repr

end Sys2Proof.Machine
end

