-- ==== Sys2Proof/Machine/PowerState.lean ====
section
/-!
DEFINITION. The state of the 48 V input, of power, heat and Vigil (18_power_and_thermal.md, 22_module_physical.md, and
the contacts of 20 R453 to R455).
-/
namespace Sys2Proof.Machine

/-- A lease of the rack cap (18 R413): its length and the instant of its last renewal, both in 10 ns units. -/
structure Lease where
  length : Nat
  renewedAt : Nat
deriving DecidableEq, Repr

/-- The states of Table 18-5. -/
inductive VigilMode where
  | awake | entering | vigil | waking
deriving DecidableEq, Repr

/-- The 48 V input as the module senses it (18 R423, 22 R495). -/
inductive InputMode where
  /-- Below the operating range, or no contact mated. -/
  | absent
  /-- Within 40 V to 60 V. -/
  | inRange
  /-- Outside 40 V to 60 V, within 36 V to 63 V, since an instant (ride-through, at most 10 ms). -/
  | riding (since : Nat)
deriving DecidableEq, Repr

/-- The contacts of the 48 V connector and what follows from them (20 R453 to R455, 22 R495). -/
structure InputState where
  returnMated : Bool
  prechargeMated : Bool
  mainMated : Bool
  mode : InputMode
  /-- Start of the unbroken interval of 20 R454. -/
  inRangeSince : Nat
  /-- The instant Q of qualification. -/
  qualifiedAt : Option Nat
  /-- The main switch: closed since (with its 20 ms ramp from there). -/
  switchClosed : Option Nat
  /-- The dies have power. -/
  powered : Bool
  /-- Last reading of the input voltage, 10 mV units. -/
  voltage : Nat
deriving DecidableEq, Repr

/-- Power, heat and Vigil (18 R411 to R433). -/
structure PowerState where
  input : InputState
  /-- The rack cap in mW (18 R411), the ramped cap (R412) and RAMP_UP in W per ms. -/
  rackCap : Nat
  rampedCap : Nat
  rampUp : Nat
  lease : Option Lease
  /-- A lease has lapsed and FALLBACK is in force (18 R413). -/
  lapsed : Bool
  fallback : Nat
  leaseLapsed : Nat
  capsAccepted : Nat
  /-- The thermal cap in mW (18 R426), and the instant since which every sensor has been 2 °C below. -/
  thermalCap : Nat
  coolSince : Option Nat
  tThrottle : Nat
  inletMax : Nat
  /-- The cap state is BELOW (Table 18-2). -/
  below : Bool
  /-- Target clock f in MHz and issue duty D (18 R420). -/
  clock : Nat
  duty : Nat
  throttleUs : Nat
  droopEvents : Nat
  /-- Compute dies whose cores a droop holds at 600 MHz: station and instant (18 R422). -/
  droops : List (Nat × Nat)
  /-- Input energy in nJ; ENERGY reads it in whole mJ (18 R424). -/
  energy : Nat
  /-- Commitments of Kits that have left ADMITTED by an unload since the last downbeat, mW (18 R416). -/
  departing : Nat
  /-- Meter means over the last 1 ms and the last 1 µs, mW. -/
  meanMs : Nat
  meanUs : Nat
  /-- Coolant inlet and outlet, 0.1 °C. -/
  inlet : Int
  outlet : Int
  /-- Last sensor readings in 0.1 °C: 0 to 53 compute dies, 54 to 57 edge dies, 64 to 83 stacks, 128 + s base dies. -/
  temps : List (Nat × Int)
  /-- Tripped units by the same numbers (18 R428). -/
  tripped : List Nat
  trips : Nat
  /-- The record of the power window (21 R486). -/
  telemetry : List Byte
  vigil : VigilMode
  /-- The edge die that was primary at entry (18, Vigil), while in Vigil. -/
  listener : Nat
deriving DecidableEq, Repr

end Sys2Proof.Machine
end

