-- ==== Sys2Proof/Machine/Inputs.lean ====
section
/-!
DEFINITION. What comes from outside with a command of the block: the pipeline instruction of a group, and the contents
of messages and readings.
-/
namespace Sys2Proof.Machine

/-- A pipeline instruction as a group issues it (04 Table 4-3): the core and the group, then the fields of the word
other than CLASS and OP, which the row's own constructor stands for. -/
structure Ins where
  core : Nat
  group : Nat
  pneg : Bool
  pred : BitVec 3
  dst : BitVec 7
  src0 : BitVec 7
  src1 : BitVec 7
  src2 : BitVec 7
  imm : BitVec 20
deriving DecidableEq, Repr

/-- What an OPEN carries beside its source and transfer (16 R384); a HANDOFF names its Kit (10 R252). -/
structure OpenFields where
  partition : Nat
  tile : Bool
  space : Nat
  dst : Nat
  handle : Nat
  length : Nat
  chime : Option (Nat × U64)
  handoff : Option Nat
deriving DecidableEq, Repr

/-- What a SYNC carries (16 R380, R381): the neighbour's beat and its estimate, and the offset of its downbeat that the exchange's
timestamps give (0.25 ns units). -/
structure SyncFields where
  beat : Nat
  estimate : Int
  offset : Int
deriving DecidableEq, Repr

/-- What a CTRL carries while a peal forms, admits a member or lets one leave (16 R376, R377, R388): the sender's membership state,
PEAL_ID, coordinate, lane and identity digest, its member map, the modules it knows to be LOCKED, the peal's period and shares with a
pending change, a named downbeat of its own count with the module it is for, and leaves under way. -/
structure CtrlFields where
  mode : Nat
  pealId : Nat
  coordinate : Nat
  fromLane : Nat
  digest : Nat
  members : List Nat
  locked : List Nat
  /-- SHAPE as PEAL_FORM codes it. -/
  shape : Nat
  period : Nat
  buildShare : Nat
  guardShare : Nat
  pending : Option (Nat × (Nat × (Nat × Nat)))
  named : Option (Nat × Nat)
  leaving : List (Nat × (Nat × Nat))
deriving DecidableEq, Repr

/-- A PTP message with its timestamps (02 R56), in ns. -/
structure PtpMessage where
  kind : Nat
  domain : Nat
  sequence : Nat
  twoStep : Bool
  origin : Int
  correction : Int
  received : Int
deriving DecidableEq, Repr

/-- Sensor readings (18 R426): dies and stacks by the unit numbers of `PowerState.temps`, inlet and outlet, 0.1 °C, the
meter's 1 ms mean in mW and the input voltage in 10 mV. -/
structure Readings where
  temps : List (Nat × Int)
  inlet : Int
  outlet : Int
  mean : Nat
  voltage : Nat
deriving DecidableEq, Repr

/-- The outcome of an edge die's self-test (01 R17, 20 R470). -/
structure EdgeResult where
  pass : Bool
  code : Nat
  parityGood : Bool
  usable : Bool
deriving DecidableEq, Repr

/-- An arrival at an arbiter during a grant (14 R338): its slot and its blocks. -/
structure Arrival where
  slot : Nat
  blocks : Nat
deriving DecidableEq, Repr

/-- The arrivals seen at the end of one block of a grant. -/
abbrev ArrivalList := List Arrival

/-- A code word read with symbols in error (08 R197): its tier, its tier-1 location or its pair and pair-local address as
pair * 2^37 + address, and the symbols. -/
structure Upset where
  tier : Nat
  address : Nat
  symbols : List Nat
deriving DecidableEq, Repr

end Sys2Proof.Machine
end

