-- ==== Sys2Proof/Syntax.lean ====
section
/-!
DEFINITION. The commands of the block: one constructor for each row of spec/opcode_table.json. Three families: packet
commands `(q) (p)`, read by the command firmware at HEAD of queue `q` (11 R259); pipeline instructions `(i)`, issued by a
group (04 R102); and events, whose operands name the unit they occur at and what comes from outside the module.
-/
namespace Sys2Proof
open Sys2Proof.Machine

/-- A command of the block. -/
inductive Instr where
  /-- DEVICE_NOP (11 R267): Command that does nothing and completes with ST_OK. -/
  | deviceNop (q : Nat) (p : Packet)
  /-- DEVICE_QUERY (21 R491): Command that copies a range of registers of one register window to a result address or a reply datagram. -/
  | deviceQuery (q : Nat) (p : Packet)
  /-- UNDEFINED_OPCODE (11 R267): A packet whose OPCODE is not in Table 11-8 is read and refused with ST_BAD_OPCODE. -/
  | undefinedOpcode (q : Nat) (code : Nat) (p : Packet)
  /-- QUEUE_CREATE (11 R272): Command that creates a command queue in ACTIVE with HEAD and TAIL 0. -/
  | queueCreate (q : Nat) (p : Packet)
  /-- QUEUE_DESTROY (11 R272): Command that frees an unbound queue, or puts it in DRAINING while commands are outstanding. -/
  | queueDestroy (q : Nat) (p : Packet)
  /-- QUEUE_STOP (11 R272): Command that moves an ACTIVE queue to STOPPED. -/
  | queueStop (q : Nat) (p : Packet)
  /-- QUEUE_START (11 R272): Command that restarts a STOPPED or BROKEN queue at a given HEAD. -/
  | queueStart (q : Nat) (p : Packet)
  /-- QUEUE_QUERY (11 R267): Command that copies a queue descriptor to a result address. -/
  | queueQuery (q : Nat) (p : Packet)
  /-- CRING_SET (11 R275): Command that configures or unsets one completion ring of a function. -/
  | cringSet (q : Nat) (p : Packet)
  /-- CONTEXT_CREATE (12 R288): Command that creates a Context in a partition for a function. -/
  | contextCreate (q : Nat) (p : Packet)
  /-- CONTEXT_DESTROY (12 R288): Command that destroys a Context, at once or through DESTROYING. -/
  | contextDestroy (q : Nat) (p : Packet)
  /-- CONTEXT_QUERY (12 R287): Command that copies the first 64 bytes of a Context entry. -/
  | contextQuery (q : Nat) (p : Packet)
  /-- CORE_RETIRE (19 R439): Command that retires a core at the first downbeat at which it holds no task. -/
  | coreRetire (q : Nat) (p : Packet)
  /-- DIE_INTERCALATE (19 R441): Command that intercalates or releases a compute die, or switches automatic intercalation off or on. -/
  | dieIntercalate (q : Nat) (p : Packet)
  /-- CLOCK_RECALIBRATE (19 R445): Command that starts measuring the per-core clock maxima of an intercalary or retired die. -/
  | clockRecalibrate (q : Nat) (p : Packet)
  /-- MEM_ALLOC (12 R293): Command that allocates, zeroes and returns a handle to a tier-2 memory object. -/
  | memAlloc (q : Nat) (p : Packet)
  /-- MEM_FREE (12 R295): Command that releases a memory object, or puts it in RETIRING while references remain. -/
  | memFree (q : Nat) (p : Packet)
  /-- MEM_QUERY (12 R294): Command that copies a memory object table entry. -/
  | memQuery (q : Nat) (p : Packet)
  /-- DMA_COPY (11 R283): Command that checks a DMA descriptor and starts the row copy it describes. -/
  | dmaCopy (q : Nat) (p : Packet)
  /-- TIER1_REGION_SET (07 R169): Command that changes the mode or SPREAD marking of tier-1 granules. -/
  | tier1RegionSet (q : Nat) (p : Packet)
  /-- TIER1_CONFIG (07 R185): Command that sets YOUNG_BEATS, YOUNG_NOTICE and DEAD_STRICT of a partition from the next downbeat. -/
  | tier1Config (q : Nat) (p : Packet)
  /-- TIER1_PIN (07 R178): Command that pins lines of a memory object, or reports the outcome of a dry run. -/
  | tier1Pin (q : Nat) (p : Packet)
  /-- TIER1_UNPIN (07 R185): Command that clears PIN on lines of a memory object. -/
  | tier1Unpin (q : Nat) (p : Packet)
  /-- TIER1_DEAD (07 R182): Command that declares cache-mode or scratch-mode lines dead. -/
  | tier1Dead (q : Nat) (p : Packet)
  /-- TIER1_COUNTERS (07 R180): Command that copies tier-1 counter records of a partition. -/
  | tier1Counters (q : Nat) (p : Packet)
  /-- RO_INVALIDATE (07 R187): Command that invalidates the read-only caches of a Kit's cores at the next downbeat. -/
  | roInvalidate (q : Nat) (p : Packet)
  /-- MODEL_BEGIN (03 R68): Command that opens a model load on a CREATED Kit. -/
  | modelBegin (q : Nat) (p : Packet)
  /-- MODEL_DESCRIBE (03 R72): Command that appends description records to an open load, all or none. -/
  | modelDescribe (q : Nat) (p : Packet)
  /-- MODEL_COMMIT (03 R81): Command that asks for admission of the open load. -/
  | modelCommit (q : Nat) (p : Packet)
  /-- MODEL_ABORT (03 R68): Command that discards an open load. -/
  | modelAbort (q : Nat) (p : Packet)
  /-- MODEL_UNLOAD (03 R68): Command that moves an ADMITTED Kit to UNLOADING with deferred completion. -/
  | modelUnload (q : Nat) (p : Packet)
  /-- PLACE_QUERY (03 R71): Command that writes a Kit's placement summary. -/
  | placeQuery (q : Nat) (p : Packet)
  /-- PLACE_REPLACE (03 R88): Command that re-runs admission of a Kit under new percentile and margin. -/
  | placeReplace (q : Nat) (p : Packet)
  /-- SEQ_OPEN (10 R240): Command that opens the lowest free Sequence of a Kit's range in WAITING. -/
  | seqOpen (q : Nat) (p : Packet)
  /-- SEQ_APPEND (10 R242): Command that queues an array of input tokens on a Sequence. -/
  | seqAppend (q : Nat) (p : Packet)
  /-- SEQ_SET (10 R241): Command that changes priority, interval, limit and AUTO_DECODE of a Sequence. -/
  | seqSet (q : Nat) (p : Packet)
  /-- SEQ_PAUSE (10 R240): Command that moves a Sequence to PAUSED. -/
  | seqPause (q : Nat) (p : Packet)
  /-- SEQ_RESUME (10 R240): Command that moves a PAUSED Sequence to PREFILL, DECODE or WAITING. -/
  | seqResume (q : Nat) (p : Packet)
  /-- SEQ_TRUNCATE (10 R244): Command that lowers POSITION and frees the pages above it. -/
  | seqTruncate (q : Nat) (p : Packet)
  /-- SEQ_CLOSE (10 R240): Command that frees a Sequence, or puts it in CLOSING while work is in flight. -/
  | seqClose (q : Nat) (p : Packet)
  /-- SEQ_QUERY (10 R241): Command that copies a Sequence table entry. -/
  | seqQuery (q : Nat) (p : Packet)
  /-- SEQ_POLICY (10 R254): Command that sets a Kit's sequence policy, including block-sparse attention. -/
  | seqPolicy (q : Nat) (p : Packet)
  /-- KIT_CREATE (03 R62): Command that creates a Kit from direct units of a parent, completing at the downbeat at which the units move. -/
  | kitCreate (q : Nat) (p : Packet)
  /-- KIT_DESTROY (03 R68): Command that destroys a Kit, at once or through RETIRING. -/
  | kitDestroy (q : Nat) (p : Packet)
  /-- KIT_QUERY (03 R71): Command that copies a Kit's parameters, state, LEVEL and DEGRADED flag. -/
  | kitQuery (q : Nat) (p : Packet)
  /-- KIT_LAUNCH (02 R30): Command that launches an admitted work list of a Kit at a downbeat. -/
  | kitLaunch (q : Nat) (p : Packet)
  /-- CHIME_INIT (12 R302): Command that sets counter, error, low count and owner of consecutive Chimes. -/
  | chimeInit (q : Nat) (p : Packet)
  /-- CHIME_SIGNAL (12 R298): Command that signals a Chime with a value under serial-number comparison. -/
  | chimeSignal (q : Nat) (p : Packet)
  /-- CHIME_WAIT (12 R300): Command that holds its queue until a Chime reaches a target or receives error status. -/
  | chimeWait (q : Nat) (p : Packet)
  /-- CHIME_QUERY (12 R302): Command that copies a Chime record and its waiter count. -/
  | chimeQuery (q : Nat) (p : Packet)
  /-- CHIME_CLEAR (12 R302): Command that clears ERROR and LOW_COUNT of consecutive Chimes. -/
  | chimeClear (q : Nat) (p : Packet)
  /-- BEAT_SET_PERIOD (02 R51): Command that schedules a new beat period and phase shares from an effective beat. -/
  | beatSetPeriod (q : Nat) (p : Packet)
  /-- ALMANAC_WRITE (02 R48): Command that writes 1 to 4,096 Almanac entries, all or nothing. -/
  | almanacWrite (q : Nat) (p : Packet)
  /-- ALMANAC_READ (02 R51): Command that copies Almanac entries to tier 1. -/
  | almanacRead (q : Nat) (p : Packet)
  /-- ALMANAC_ARM (02 R50): Command that checks the Almanac and arms it from an ORIGIN beat. -/
  | almanacArm (q : Nat) (p : Packet)
  /-- ALMANAC_DISARM (02 R50): Command that disarms the Almanac at the next downbeat. -/
  | almanacDisarm (q : Nat) (p : Packet)
  /-- TIME_SET_SOURCE (02 R51): Command that selects PTP or no time source at the peal leader. -/
  | timeSetSource (q : Nat) (p : Packet)
  /-- TIME_QUERY (02 R51): Command that reports beat number, TAI time of its downbeat, lock and PTP state. -/
  | timeQuery (q : Nat) (p : Packet)
  /-- OVERRUN_SET_POLICY (02 R51): Command that sets a Kit's overrun policy and limit from the next downbeat. -/
  | overrunSetPolicy (q : Nat) (p : Packet)
  /-- PEAL_FORM (16 R376): Command that starts forming a peal of a given identifier and shape. -/
  | pealForm (q : Nat) (p : Packet)
  /-- PEAL_JOIN (16 R377): Command that starts an ALONE module joining an existing peal. -/
  | pealJoin (q : Nat) (p : Packet)
  /-- PEAL_LEAVE (16 R388): Command at the leader that schedules a member to leave at beat L. -/
  | pealLeave (q : Nat) (p : Packet)
  /-- PEAL_QUERY (16 R391): Command that writes the membership, lock and member map record. -/
  | pealQuery (q : Nat) (p : Packet)
  /-- RING_SEND (16 R384): Command that checks a ring-transfer descriptor and starts the transfer to other members. -/
  | ringSend (q : Nat) (p : Packet)
  /-- PARTITION_SET (12 R285): Command that replaces a partition's carve-out at the next downbeat. -/
  | partitionSet (q : Nat) (p : Packet)
  /-- PARTITION_QUERY (12 R302): Command that writes a partition parameter block. -/
  | partitionQuery (q : Nat) (p : Packet)
  /-- VF_ENABLE (17 R396): Command that enables or disables a virtual function. -/
  | vfEnable (q : Nat) (p : Packet)
  /-- VF_ASSIGN (17 R395): Command that gives a virtual function its partitions and queue range. -/
  | vfAssign (q : Nat) (p : Packet)
  /-- VF_RESET (17 R398): Command that squashes, stops and tears down everything of a virtual function. -/
  | vfReset (q : Nat) (p : Packet)
  /-- VF_FREEZE (17 R400): Command that starts freezing a virtual function at its freeze beat. -/
  | vfFreeze (q : Nat) (p : Packet)
  /-- VF_SAVE (17 R403): Command that writes a frozen function's state as an image. -/
  | vfSave (q : Nat) (p : Packet)
  /-- VF_RESTORE (17 R406): Command that tests an image and rebuilds a function from it. -/
  | vfRestore (q : Nat) (p : Packet)
  /-- VF_RESUME (17 R408): Command that resumes a frozen function at the next downbeat. -/
  | vfResume (q : Nat) (p : Packet)
  /-- POWER_SET_CAP (18 R411): Command that sets the rack cap, ramp, lease and fallback. -/
  | powerSetCap (q : Nat) (p : Packet)
  /-- POWER_QUERY (18 R424): Command that writes a full telemetry record and renews a lease from a management queue. -/
  | powerQuery (q : Nat) (p : Packet)
  /-- THERMAL_SET_LIMITS (18 R426): Command that sets T_THROTTLE and INLET_MAX. -/
  | thermalSetLimits (q : Nat) (p : Packet)
  /-- VIGIL_ENTER (18 R429): Command that starts entry to Vigil. -/
  | vigilEnter (q : Nat) (p : Packet)
  /-- VIGIL_WAKE (18 R433): Command read at a management queue that cancels an entry to Vigil or completes a wake. -/
  | vigilWake (q : Nat) (p : Packet)
  /-- ECC_DIAG_MODE (08 R215): Command that puts a granule into or out of diagnostic mode. -/
  | eccDiagMode (q : Nat) (p : Packet)
  /-- ECC_RAW_WRITE (08 R215): Command that stores given data and check symbols in a diagnostic granule. -/
  | eccRawWrite (q : Nat) (p : Packet)
  /-- ECC_RAW_READ (08 R215): Command that reads a code word raw and decoded with its verdict. -/
  | eccRawRead (q : Nat) (p : Packet)
  /-- ECC_SCRUB_SET (08 R207): Command that sets the scrub interval of a tier. -/
  | eccScrubSet (q : Nat) (p : Packet)
  /-- ECC_DIE_MARK (08 R198): Command that marks or clears a pair die as FAILED. -/
  | eccDieMark (q : Nat) (p : Packet)
  /-- ECC_LOG_READ (08 R215): Command that copies error log records. -/
  | eccLogRead (q : Nat) (p : Packet)
  /-- FW_DELIVER (20 R465): Command that delivers an image chunk, starts verification, or abandons a delivery. -/
  | fwDeliver (q : Nat) (p : Packet)
  /-- FW_LIVE_UPDATE (20 R468): Command that verifies and installs a new command firmware image while running. -/
  | fwLiveUpdate (q : Nat) (p : Packet)
  /-- IDENTITY_QUERY (20 R472): Command that writes serial number, enrolled keys, factory signature and identity digest. -/
  | identityQuery (q : Nat) (p : Packet)
  /-- ATTEST (20 R472): Command that writes an attestation report signed by the primary's identity key. -/
  | attest (q : Nat) (p : Packet)
  /-- STATION_FW_UPDATE (19 R449): Command that starts updating station firmware station by station. -/
  | stationFwUpdate (q : Nat) (p : Packet)
  /-- EDGE_PRIMARY_MOVE (19 R447): Command that moves the primary role to a healthy standby edge die. -/
  | edgePrimaryMove (q : Nat) (p : Packet)
  /-- IADD (04 R104): Instruction that adds two registers modulo 2^32. -/
  | iadd (w : Ins)
  /-- ISUB (04 R104): Instruction that subtracts two registers modulo 2^32. -/
  | isub (w : Ins)
  /-- IMUL (04 R104): Instruction that writes the low 32 bits of a product. -/
  | imul (w : Ins)
  /-- IMULHS (04 R104): Instruction that writes the high 32 bits of a signed product. -/
  | imulhs (w : Ins)
  /-- IMULHU (04 R104): Instruction that writes the high 32 bits of an unsigned product. -/
  | imulhu (w : Ins)
  /-- IMAC (04 R104): Instruction that writes the low 32 bits of a product plus a third register. -/
  | imac (w : Ins)
  /-- SHL (04 R104): Instruction that shifts left. -/
  | shl (w : Ins)
  /-- SHR (04 R104): Instruction that shifts right logically. -/
  | shr (w : Ins)
  /-- SAR (04 R104): Instruction that shifts right arithmetically. -/
  | sar (w : Ins)
  /-- AND (04 R104): Instruction that forms a bitwise AND. -/
  | andBits (w : Ins)
  /-- OR (04 R104): Instruction that forms a bitwise OR. -/
  | orBits (w : Ins)
  /-- XOR (04 R104): Instruction that forms a bitwise exclusive OR. -/
  | xorBits (w : Ins)
  /-- NOT (04 R104): Instruction that forms a bitwise complement. -/
  | notBits (w : Ins)
  /-- POPC (04 R104): Instruction that counts set bits. -/
  | popc (w : Ins)
  /-- CLZ (04 R104): Instruction that counts leading zero bits. -/
  | clz (w : Ins)
  /-- SEL (04 R104): Instruction that selects one of two registers by a third. -/
  | sel (w : Ins)
  /-- ICMP (04 R104): Instruction that compares integers into a predicate. -/
  | icmp (rel : Nat) (w : Ins)
  /-- FADD (04 R105): Instruction that adds floating-point values with one rounding. -/
  | fadd (w : Ins)
  /-- FSUB (04 R105): Instruction that subtracts floating-point values. -/
  | fsub (w : Ins)
  /-- FMUL (04 R105): Instruction that multiplies floating-point values. -/
  | fmul (w : Ins)
  /-- FMAC (04 R105): Instruction that performs a fused multiply-add with one rounding. -/
  | fmac (w : Ins)
  /-- FMIN (04 R105): Instruction that forms the IEEE minimum. -/
  | fmin (w : Ins)
  /-- FMAX (04 R105): Instruction that forms the IEEE maximum. -/
  | fmax (w : Ins)
  /-- FMINNUM (04 R105): Instruction that forms the IEEE minimumNumber. -/
  | fminnum (w : Ins)
  /-- FMAXNUM (04 R105): Instruction that forms the IEEE maximumNumber. -/
  | fmaxnum (w : Ins)
  /-- FCMP (04 R104): Instruction that compares floating-point values into a predicate. -/
  | fcmp (rel : Nat) (w : Ins)
  /-- RCP (04 R106): Instruction that computes a correctly rounded reciprocal. -/
  | rcp (w : Ins)
  /-- SQRT (04 R106): Instruction that computes a correctly rounded square root. -/
  | sqrt (w : Ins)
  /-- RSQRT (04 R106): Instruction that computes a correctly rounded reciprocal square root. -/
  | rsqrt (w : Ins)
  /-- EXP2 (04 R106): Instruction that computes a correctly rounded 2^x. -/
  | exp2 (w : Ins)
  /-- LOG2 (04 R106): Instruction that computes a correctly rounded log2. -/
  | log2 (w : Ins)
  /-- SINPI (04 R106): Instruction that computes a correctly rounded sin(pi x). -/
  | sinpi (w : Ins)
  /-- COSPI (04 R106): Instruction that computes a correctly rounded cos(pi x). -/
  | cospi (w : Ins)
  /-- TANH (04 R106): Instruction that computes a correctly rounded tanh. -/
  | tanh (w : Ins)
  /-- MOV (04 R104): Instruction that copies a register or immediate. -/
  | mov (w : Ins)
  /-- MOVS (04 R94): Instruction that reads a special register. -/
  | movs (w : Ins)
  /-- LXCH (04 R107): Instruction that reads a register of another thread of the group. -/
  | lxch (w : Ins)
  /-- CVT (05 R143): Instruction that converts between number formats. -/
  | cvt (w : Ins)
  /-- PSET (04 R104): Instruction that sets a predicate from a value. -/
  | pset (w : Ins)
  /-- PGET (04 R104): Instruction that copies the predicates into a register. -/
  | pget (w : Ins)
  /-- BRA (04 R108): Instruction that branches unconditionally. -/
  | bra (w : Ins)
  /-- BRC (04 R108): Instruction that branches per thread and pushes divergence entries when threads disagree. -/
  | brc (w : Ins)
  /-- CALL (04 R108): Instruction that branches and pushes a RETURN entry. -/
  | call (w : Ins)
  /-- RET (04 R108): Instruction that pops a RETURN entry. -/
  | ret (w : Ins)
  /-- END (04 R109): Instruction that ends the active threads. -/
  | endThreads (w : Ins)
  /-- CLD (04 R111): Instruction that loads from the core store. -/
  | cld (w : Ins)
  /-- CST (04 R111): Instruction that stores to the core store. -/
  | cst (w : Ins)
  /-- LD (04 R114): Instruction that loads from memory at the point of coherence. -/
  | ld (ecc : Nat) (w : Ins)
  /-- LDC (04 R114): Instruction that loads through the constant cache. -/
  | ldc (w : Ins)
  /-- ST (04 R115): Instruction that stores whole 128-byte units to memory. -/
  | st (w : Ins)
  /-- AADD (04 R118): Atomic integer add. -/
  | aadd (noret : Bool) (w : Ins)
  /-- AFADD (04 R118): Atomic binary32 add in ascending thread order. -/
  | afadd (noret : Bool) (w : Ins)
  /-- AMIN (04 R118): Atomic signed minimum. -/
  | amin (noret : Bool) (w : Ins)
  /-- AMAX (04 R118): Atomic signed maximum. -/
  | amax (noret : Bool) (w : Ins)
  /-- AUMIN (04 R118): Atomic unsigned minimum. -/
  | aumin (noret : Bool) (w : Ins)
  /-- AUMAX (04 R118): Atomic unsigned maximum. -/
  | aumax (noret : Bool) (w : Ins)
  /-- AAND (04 R118): Atomic bitwise AND. -/
  | aand (noret : Bool) (w : Ins)
  /-- AOR (04 R118): Atomic bitwise OR. -/
  | aor (noret : Bool) (w : Ins)
  /-- AXOR (04 R118): Atomic bitwise exclusive OR. -/
  | axor (noret : Bool) (w : Ins)
  /-- AXCHG (04 R118): Atomic exchange, serialised by thread index. -/
  | axchg (noret : Bool) (w : Ins)
  /-- ACAS (04 R118): Atomic compare-and-swap, serialised by thread index. -/
  | acas (noret : Bool) (w : Ins)
  /-- FENCE (04 R119): Instruction that orders a group's accesses at a scope. -/
  | fence (w : Ins)
  /-- BAR (04 R121): Instruction that waits at a block barrier. -/
  | bar (w : Ins)
  /-- CHWAIT (04 R121): Instruction that waits for a Chime to reach a target. -/
  | chwait (w : Ins)
  /-- CHSET (04 R121): Instruction that signals a Chime. -/
  | chset (w : Ins)
  /-- NOP (04 R104): Instruction with no effect. -/
  | nop (w : Ins)
  /-- MBEGIN (05 R139): Instruction that empties an accumulator and sets its BASE. -/
  | mbegin (w : Ins)
  /-- MMA (05 R126): Instruction that appends one dense matrix chunk to an accumulator. -/
  | mma (w : Ins)
  /-- MMAS (05 R130): Instruction that appends two chunks from a 2:4 sparse panel. -/
  | mmas (w : Ins)
  /-- MREAD (05 R139): Instruction that reads collapsed accumulator values into registers. -/
  | mread (w : Ins)
  /-- MSTORE (05 R137): Instruction that writes a partial record or final results from an accumulator. -/
  | mstore (w : Ins)
  /-- MLOADP (05 R139): Instruction that loads a partial record into an accumulator. -/
  | mloadp (w : Ins)
  /-- MRED (05 R136): Instruction that merges two partial records. -/
  | mred (w : Ins)
  /-- MQUANT (05 R143): Instruction that quantises binary32 values to a format. -/
  | mquant (w : Ins)
  /-- TLOAD (06 R159): Instruction that reads and checks a tile into the core store. -/
  | tload (w : Ins)
  /-- TSTORE (06 R158): Instruction that publishes a tile from the core store. -/
  | tstore (w : Ins)
  /-- WINDOW_SWAP (04 R96): A waiting window group leaves and a ready resident group enters after write-back. -/
  | windowSwap (core : Nat) (slot : Nat)
  /-- LOAD_RETURN (04 R97): Data of a memory load or value-returning atomic returns to its group. -/
  | loadReturn (request : Nat)
  /-- STORE_ACK (09 R217): A home slice or port acknowledges a store, releasing waiting fences. -/
  | storeAck (request : Nat)
  /-- DOORBELL (11 R273): Write of a new TAIL to a queue doorbell register. -/
  | doorbell (function : Nat) (queue : Nat) (tail : U64)
  /-- CRING_DOORBELL (11 R275): Write of CONSUMED to a completion ring doorbell. -/
  | cringDoorbell (function : Nat) (ring : Nat) (consumed : U64)
  /-- IRQ_DELAY_EXPIRY (11 R276): The oldest unsignalled record has waited IRQ_DELAY and an interrupt is due. -/
  | irqDelayExpiry (function : Nat) (ring : Nat)
  /-- BOOT_GO (20 R466): Write to BOOT_GO that claims the load area and starts reading the image. -/
  | bootGo
  /-- ATTENTION (21 R482): Write-1-to-clear of ATTENTION bits. -/
  | attention (bits : U64)
  /-- REGISTER_WRITE (21 R477): Write to an RW register field without behaviour of its own. -/
  | registerWrite (address : Nat) (size : Nat) (value : U64)
  /-- DOWNBEAT (02 R30): Start of a beat: settles the previous beat and issues the launches of this beat in order. -/
  | downbeat
  /-- STEP_BUILDER_WALK (10 R247): At BUILD, the step builder applies results and composes each Kit's decode steps and prefill chunks. -/
  | stepBuilderWalk (late : List Nat)
  /-- SELECTION_DEADLINE (10 R257): At D(n) − 1 µs, steps whose selection is not published are removed or the list is incomplete. -/
  | selectionDeadline
  /-- SELECTION_PUBLISHED (10 R257): Score units finish and the merging unit publishes a selection tile. -/
  | selectionPublished (kit : Nat) (seq : Nat)
  /-- GUARD_START (02 R32): GUARD begins; no launch is issued and overrun deadlines are reached. -/
  | guardStart
  /-- TRANSFER_DEADLINE (02 R42): An Almanac-started transfer passes its deadline and a transfer overrun is recorded. -/
  | transferDeadline (transfer : Nat)
  /-- LAUNCH_WORK_LIST (02 R45): Almanac action that launches an admitted work list at its offset. -/
  | launchWorkList (index : Nat)
  /-- START_DMA (02 R45): Almanac action that starts a DMA descriptor. -/
  | startDma (index : Nat)
  /-- START_RING (02 R45): Almanac action that starts a ring transfer. -/
  | startRing (index : Nat)
  /-- SIGNAL_CHIME (02 R45): Almanac action that signals a Chime, optionally with the beat added. -/
  | signalChime (index : Nat)
  /-- SAMPLE_TELEMETRY (02 R46): Almanac action that writes a telemetry record to a ring. -/
  | sampleTelemetry (index : Nat)
  /-- CHIME_SIGNAL_APPLIED (12 R298): A signal arrives at a Chime record and is applied, waking satisfied waiters. -/
  | chimeSignalApplied (position : Nat)
  /-- TASK_START (13 R306): A ready task starts on a free eligible core. -/
  | taskStart (list : Nat) (task : Nat) (core : Nat)
  /-- TASK_RETIRE (13 R308): A task's last acknowledgement arrives and its core becomes free. -/
  | taskRetire (core : Nat)
  /-- SWITCH_REQUEST (13 R309): A ready task takes an eligible victim and the victim's core stops issuing. -/
  | switchRequest (list : Nat) (task : Nat) (core : Nat)
  /-- DRAIN_COMPLETE (13 R311): A victim core has drained and its save begins. -/
  | drainComplete (core : Nat)
  /-- SAVE_COMPLETE (13 R314): A task's save area writes are acknowledged. -/
  | saveComplete (core : Nat)
  /-- RESTORE_COMPLETE (13 R315): A switched-out task's state is rebuilt and it resumes. -/
  | restoreComplete (core : Nat)
  /-- TILE_PUBLICATION (06 R151): A tile arrives at a tier-1 slice, is checked and published. -/
  | tilePublication (request : Nat)
  /-- TILE_READ (06 R152): A slice serves a tile read of payload and tag together. -/
  | tileRead (request : Nat) (upsets : List Upset)
  /-- HOME_PORT_TILE_WRITE (06 R154): A tile write arrives at its home port, is checked and written. -/
  | homePortTileWrite (tile : Nat) (upsets : List Upset)
  /-- SLICE_ACCESS (07 R171): A load, store or atomic request arrives at its point of coherence. -/
  | sliceAccess (request : Nat) (station : Nat) (upsets : List Upset)
  /-- FILL_COMPLETE (07 R173): A tier-2 fill returns, is checked and installed and multicast to joined requesters. -/
  | fillComplete (station : Nat) (object : Nat) (line : Nat) (upsets : List Upset)
  /-- TRANSFER_COMPLETE (09 R227): Every write of a DMA has been performed and its completion Chime is signalled. -/
  | transferComplete (transfer : Nat) (upsets : List Upset)
  /-- SCRUB_STEP (08 R207): A scrub interval expires and one code word is read, decoded and if needed corrected. -/
  | scrubStep (tier : Nat) (unit : Nat) (symbols : List Nat)
  /-- MACRO_REBUILT (08 R202): Rebuild into the spare macro completes. -/
  | partRebuilt (station : Nat) (bank : Nat)
  /-- ADMISSION_COMPLETE (03 R73): A run of admission finishes and reserves or refuses. -/
  | admissionComplete (kit : Nat)
  /-- PREPARE (03 R86): Leader message naming a member's share, which the member admits and reserves. -/
  | prepare (kit : Nat) (block : List Byte)
  /-- PREPARE_ANSWER (03 R86): A member's FIT or NO_FIT answer reaches the leader. -/
  | prepareAnswer (kit : Nat) (member : Nat) (status : Nat) (slots : Nat) (report : List Byte)
  /-- PREPARE_WAIT_EXPIRY (03 R86): The leader's wait for answers ends and missing members count as failed. -/
  | prepareWaitExpiry (kit : Nat)
  /-- COMMIT (03 R86): Leader message that names the switch beat of a peal placement. -/
  | commit (kit : Nat) (beat : Nat) (slots : Nat)
  /-- RELEASE (03 R86): Leader message that releases PREPARE reservations. -/
  | release (kit : Nat)
  /-- RESERVATION_EXPIRY (03 R86): A member with no COMMIT or RELEASE releases its reservation. -/
  | reservationExpiry (kit : Nat)
  /-- OPEN (16 R385): Ring message that opens a transfer at a target, which checks it. -/
  | openTransfer (source : Nat) (transfer : Nat) (fields : OpenFields) (lane : Nat) (channel : Nat)
  /-- DATA (16 R384): Ring message whose payload a target writes. -/
  | data (source : Nat) (transfer : Nat) (index : Nat) (missing : List Nat) (payload : List Byte) (tags : List Byte) (lane : Nat) (channel : Nat)
  /-- DONE (16 R384): Ring message that reports a target's transfer complete to the source. -/
  | doneMessage (target : Nat) (transfer : Nat) (status : Nat) (lane : Nat) (channel : Nat)
  /-- NACK (16 R385): Ring message by which a target refuses a transfer. -/
  | nack (target : Nat) (transfer : Nat) (reason : Nat) (lane : Nat) (channel : Nat)
  /-- OPEN_RETRY (16 R385): The 2 µs retry of a refused single-target OPEN. -/
  | openRetry (transfer : Nat)
  /-- SYNC (16 R380): Ring timing message received and timestamped. -/
  | sync (lane : Nat) (fields : SyncFields)
  /-- SYNC_EXCHANGE (16 R380): The 16 µs timer sends SYNC on each lane. -/
  | syncExchange
  /-- CTRL (16 R376): Ring control message carrying formation data between members. -/
  | ctrl (lane : Nat) (fields : CtrlFields)
  /-- CREDIT (16 R370): Ring message returning buffer credits. -/
  | credit (lane : Nat) (channel : Nat) (count : Nat)
  /-- RETRY (16 R369): Ring message asking for a message whose CRC failed to be sent again. -/
  | retry (lane : Nat) (sequence : Nat)
  /-- CUT_THROUGH_FORWARD (16 R373): A message for another member is forwarded by the edge die without entering the mesh. -/
  | cutThroughForward (lane : Nat) (target : Nat) (via : Option Nat) (channel : Nat) (flits : Nat)
  /-- STEP_DONE (10 R252): The last member's result records reach the head for application. -/
  | stepDone (kit : Nat) (beat : Nat) (records : List Byte)
  /-- ELECT (16 R378): Election message naming the lowest leader candidate. -/
  | elect (lane : Nat) (candidate : Nat)
  /-- MEMBER_MAP_CHANGE (16 R374): A flooded member map change that rebuilds route tables. -/
  | memberMapChange (member : Nat) (lanes : Nat) (present : Bool)
  /-- PERIOD_CHANGE_PROPAGATE (02 R52): An accepted period change reaches a member over the ring links. -/
  | periodChangePropagate (period : Nat) (buildShare : Nat) (guardShare : Nat) (effective : Nat)
  /-- PEAL_KIT_CREATE_ROUND (03 R64): A peal KIT_CREATE block reaches a member, which checks and answers the leader. -/
  | pealKitCreateRound (kit : Nat) (block : List Byte)
  /-- RING_LINK_DOWN (16 R371): Loss of signal or FEC errors take a ring link down. -/
  | ringLinkDown (lane : Nat)
  /-- RING_LINK_RETRAIN (16 R371): A down ring link retrains every 10 ms. -/
  | ringLinkRetrain (lane : Nat) (success : Bool)
  /-- MEMBER_LOST (16 R389): No SYNC from a member for 200 µs marks it lost. -/
  | memberLost (member : Nat)
  /-- FORMATION_TIMEOUT (16 R375): A FORMING or JOINING module's TIMEOUT expires. -/
  | formationTimeout
  /-- TIMING_INPUT_LOST (02 R55): The last timing input is lost and the lock state goes to HOLDOVER. -/
  | timingInputLost (direction : Nat)
  /-- TIMING_INPUT_RESTORED (02 R55): A timing input returns and the module relocks. -/
  | timingInputRestored (direction : Nat)
  /-- HOLDOVER_TIMEOUT (02 R55): One second in HOLDOVER moves the lock state to FREE. -/
  | holdoverTimeout
  /-- PTP_MESSAGE (02 R56): A PTP message is received and timestamped at the management port. -/
  | ptpMessage (message : PtpMessage)
  /-- C_DATA (15 R352): Companion response carrying read data finishes a transaction. -/
  | cData (tag : Nat) (epoch : Nat) (payload : List Byte)
  /-- C_ACK (15 R352): Companion response acknowledging a write finishes a transaction. -/
  | cAck (tag : Nat) (epoch : Nat)
  /-- C_NACK (15 R352): Companion response asking for a retry of a transaction. -/
  | cNack (tag : Nat) (epoch : Nat)
  /-- CREQ_RESEND (15 R352): The backoff after a C_NACK expires and the request is sent again. -/
  | creqResend (tag : Nat)
  /-- C_ERR (15 R352): Companion error response that declares the domain down. -/
  | cErr (tag : Nat) (epoch : Nat) (reason : Nat)
  /-- DOMAIN_DOWN_COMPLETE (15 R347): The steps of FAILING complete and the domain is DOWN. -/
  | domainDownComplete
  /-- TRANSACTION_TIMEOUT (15 R352): No response for 1 ms declares the domain down. -/
  | transactionTimeout (tag : Nat)
  /-- D_READ (15 R356): Companion read of device memory or a register. -/
  | dRead (engine : Nat) (function : Nat) (tag : Nat) (address : Nat) (size : Nat)
  /-- D_WRITE (15 R357): Companion write of device memory or a register. -/
  | dWrite (engine : Nat) (function : Nat) (tag : Nat) (address : Nat) (payload : List Byte)
  /-- D_WRITE_TILE (15 R358): Companion tile write that is checked and published. -/
  | dWriteTile (engine : Nat) (function : Nat) (tag : Nat) (address : Nat) (payload : List Byte) (side : List Byte)
  /-- LINK_HELLO (15 R348): Companion message that starts an epoch. -/
  | linkHello (epoch : Nat) (linkBlock : Nat)
  /-- LINK_BLOCK_CHECKED (15 R349): The link block and window table have been read and the epoch accepted or rejected. -/
  | linkBlockChecked (block : List Byte) (table : List Byte)
  /-- LINK_RESET (15 R362): Companion reset message. -/
  | linkReset
  /-- LINK_RESET_TIMER (15 R347): In DOWN, Sirmo sends LINK_RESET once per ms. -/
  | linkResetTimer
  /-- LINK_CREDIT (15 R346): Credit message for link buffers. -/
  | linkCredit (engine : Nat) (headers : Nat) (units : Nat)
  /-- ENGINE_STATE (15 R361): Message reporting a Cijan engine's state. -/
  | engineState (engine : Nat) (up : Bool)
  /-- CIJAN_ENGINE_LOSS (15 R361): A Cijan light engine goes down and its traffic moves to the others. -/
  | cijanEngineLoss (engine : Nat)
  /-- MANAGEMENT_DATAGRAM (11 R277): A UDP datagram of packets for a management queue is received. -/
  | managementDatagram (edge : Nat) (source : Nat) (port : Nat) (bytes : List Byte)
  /-- STATUS_DATAGRAM (20 R457): A status request datagram is answered by a status datagram. -/
  | statusDatagram (edge : Nat) (source : Nat) (port : Nat) (bytes : List Byte)
  /-- STATUS_BROADCAST (20 R457): The 1 s timer sends a status datagram to all nodes. -/
  | statusBroadcast
  /-- ICMPV6_MESSAGE (20 R456): An ICMPv6 or neighbour-discovery message at a management port. -/
  | icmpv6Message (edge : Nat) (source : Nat) (kind : Nat) (bytes : List Byte)
  /-- WAKE_DATAGRAM (18 R432): A wake datagram at the listening receiver starts waking from Vigil. -/
  | wakeDatagram (source : Nat) (port : Nat) (bytes : List Byte)
  /-- WAKE_COMPLETE (18 R432): Dies, links and stacks are up, the image digest checks and cores are released. -/
  | wakeComplete (good : Bool)
  /-- VIGIL_ENTRY (18 R430): At D(E) the module disarms, stops the beat and enters Vigil. -/
  | vigilEntry
  /-- REFILL_WINDOW (14 R337): Each 1 µs window start refills the arbiter credit counters. -/
  | refillWindow
  /-- NEXT_GRANT (14 R338): A resource falls free and the arbiter grants the next slot. -/
  | nextGrant (resource : Nat) (late : List ArrivalList)
  /-- CARILLON_PAYLOAD (14 R332): A carillon payload reaches a target, which takes or drops it. -/
  | carillonPayload (carillon : Nat) (target : Nat)
  /-- CARILLON_ACK (14 R332): A target acknowledges a carillon payload. -/
  | carillonAck (carillon : Nat) (target : Nat)
  /-- CARILLON_NACK (14 R332): A target with no buffer refuses a carillon payload. -/
  | carillonNack (carillon : Nat) (target : Nat)
  /-- BUFFER_FREE (14 R332): A laggard reports a free buffer and the carillon is retried. -/
  | bufferFree (carillon : Nat) (target : Nat)
  /-- CARILLON_RETRY_TIMER (14 R332): Two µs after a NACK the laggards are retried. -/
  | carillonRetryTimer (carillon : Nat)
  /-- CARILLON_TIMEOUT (14 R333): A carillon with a Chime reaches its TIMEOUT and completes with partial delivery. -/
  | carillonTimeout (transfer : Nat)
  /-- LINK_TRAINING_RESULT (14 R325): A die-to-die link training attempt succeeds or fails. -/
  | linkTrainingResult (link : Nat) (success : Bool) (wires : Nat)
  /-- FRAME_REPLAY (14 R326): A frame-check mismatch asks the sender to replay frames. -/
  | frameReplay (link : Nat)
  /-- LINK_DEGRADED_RETRY (14 R325): A DEGRADED link tries training once every second. -/
  | linkDegradedRetry (link : Nat) (success : Bool) (wires : Nat)
  /-- GOVERNOR_STEP (18 R420): Every 1 µs the governor sets target clock and issue duty. -/
  | governorStep (mean : Nat)
  /-- DROOP (18 R422): A compute die's supply droops and its cores drop to 600 MHz. -/
  | droop (station : Nat) (holds : Bool)
  /-- LEASE_LAPSE (18 R413): A power lease expires and FALLBACK enters the effective cap. -/
  | leaseLapse
  /-- THERMAL_CAP_UPDATE (18 R426): The thermal cap is recomputed once per ms. -/
  | thermalCapUpdate (readings : Readings)
  /-- TELEMETRY_REWRITE (21 R486): The telemetry record of the power window is rewritten once per ms. -/
  | telemetryRewrite
  /-- THERMAL_TRIP (18 R428): A die or stack reaches its trip temperature and is taken out. -/
  | thermalTrip (unit : Nat)
  /-- TRIP_RECOVERY (18 R428): A tripped unit has read 20 °C below its trip for 1 s and may return. -/
  | tripRecovery (unit : Nat)
  /-- INPUT_VOLTAGE_FAULT (18 R423): The input falls below 36 V or rises above 63 V and all dies lose power. -/
  | inputVoltageFault (voltage : Nat)
  /-- RIDE_THROUGH_EXPIRY (18 R423): The input has been outside 40 to 60 V for 10 ms and power is removed. -/
  | rideThroughExpiry
  /-- PRECHARGE_MATE (20 R453): The precharge contact mates and input capacitance charges. -/
  | prechargeMate (voltage : Nat)
  /-- POWER_QUALIFIED (20 R454): The input has stayed in range for 50 ms and power is qualified. -/
  | powerQualified
  /-- MAIN_CONTACT_MATE (22 R495): The main contact mates and the main switch may close. -/
  | mainContactMate
  /-- WITHDRAWAL (20 R455): The contacts break in reverse order as the module is withdrawn. -/
  | withdrawal
  /-- EDGE_SELF_TEST (01 R17): Edge dies complete self-test and position check and the primary is chosen. -/
  | edgeSelfTest (results : List EdgeResult)
  /-- MGMT_LINK_UP (20 R457): A management port's link comes up. -/
  | mgmtLinkUp (edge : Nat)
  /-- LOAD_READY (20 R466): The load area has been filled and an image may be received. -/
  | loadReady
  /-- STACK_TRAINING (20 R460): Stack training with lane repair completes or marks pairs out. -/
  | stackTraining (failed : List Nat) (dies : List Nat) (lanes : List Nat)
  /-- IMAGE_VERIFIED (20 R464): An image's checks and signature complete, verifying or refusing it. -/
  | imageVerified
  /-- MEMORY_FILL (08 R205): The fill of both tiers completes. -/
  | memoryFill (micros : Nat)
  /-- STATION_FW_STARTED (20 R458): Station firmware has been copied and started at every station. -/
  | stationFwStarted
  /-- COMPUTE_SELF_TEST (20 R458): In-service compute dies complete self-test at start-up. -/
  | computeSelfTest (failed : List Nat) (flash : Nat)
  /-- CORE_RELEASE (20 R459): Cores are released at the first downbeat at which start-up conditions hold. -/
  | coreRelease
  /-- LIVE_UPDATE_CHECK (20 R468): 150 µs after restart the new firmware is accepted or rolled back. -/
  | liveUpdateCheck (running : Bool)
  /-- STATION_UPDATE_NEXT (19 R449): After GAP, the next station's firmware is written and its controller restarted. -/
  | stationUpdateNext
  /-- STATION_CONTROLLER_RESTART (19 R449): A station controller starts on new firmware or times out after 2 ms. -/
  | stationControllerRestart (success : Bool)
  /-- LAUNCH_ACK_TIMEOUT (19 R439): A core fails to acknowledge a launch, switch or restore within 2 µs and fails. -/
  | launchAckTimeout (core : Nat)
  /-- REPETITION (19 R435): A cancelled list launches again whole at the first suitable downbeat. -/
  | repetition (kit : Nat)
  /-- COMPUTE_DIE_FAILURE (19 R441): A compute die resets, stops its clock or trips and is FAILED. -/
  | computeDieFailure (station : Nat)
  /-- DIE_SELF_TEST_DONE (19 R441): A STARTING die's self-test passes or fails. -/
  | dieSelfTestDone (station : Nat) (pass : Bool)
  /-- DIE_RESTART_DONE (19 R441): A FAILED die's restart completes or fails. -/
  | dieRestartDone (station : Nat) (pass : Bool)
  /-- RECALIBRATION_DONE (19 R445): A die's clock measurement completes and its table is written. -/
  | recalibrationDone (station : Nat) (steps : List Nat)
  /-- STATION_WATCHDOG (19 R442): A station controller's watchdog lapses for 1 ms and its base die resets. -/
  | stationWatchdog (station : Nat)
  /-- BASE_DIE_REJOIN (19 R442): A reset base die has trained, refilled and rejoined the mesh. -/
  | baseDieRejoin (station : Nat)
  /-- EDGE_HEARTBEAT_TIMEOUT (19 R446): An edge die's heartbeat is missing for 4 µs and it is lost. -/
  | edgeHeartbeatTimeout (edge : Nat)
  /-- MGMT_LINK_LOSS (19 R447): The primary's management optical link has been down for 1 s. -/
  | mgmtLinkLoss
  /-- FREEZE_COMPLETE (17 R402): A FREEZING function meets its conditions and becomes FROZEN. -/
  | freezeComplete (function : Nat)
  /-- IMAGE_WRITTEN (17 R403): A function's image has been written and it becomes SAVED. -/
  | imageWritten (function : Nat) (error : Nat)
  /-- RESTORE_REBUILT (17 R407): A restore has rebuilt the function and it becomes FROZEN. -/
  | restoreRebuilt (function : Nat)
  /-- VF_RESET_COMPLETE (17 R399): Every step of a function reset is done and it returns to ENABLED. -/
  | vfResetComplete (function : Nat)
  /-- INPUT_RANGE_EXCURSION (18 R423): The 48 V input leaves 40 V to 60 V but stays between 36 V and 63 V, so ride-through starts with f held at 600 MHz. -/
  | inputRangeExcursion (voltage : Nat)
  /-- INPUT_RANGE_RETURN (18 R423): The input returns within 40 V to 60 V, ending ride-through or starting the qualification count after a loss. -/
  | inputRangeReturn (voltage : Nat)
  /-- PEAL_KIT_CREATE_ANSWER (03 R64): A member's accept or refuse answer to a peal KIT_CREATE block reaches the leader, which creates the Kit when all accept or completes with the lowest refusal. -/
  | pealKitCreateAnswer (kit : Nat) (member : Nat) (status : Nat)
  /-- RESTORE_IMAGE_TESTED (17 R406): The read of a VF_RESTORE image ends and its tests either refuse the command or move the function to RESTORING. -/
  | restoreImageTested (function : Nat)
  /-- LINK_HOT_WINDOW (14 R328): At the end of each 1 µs window a link that carried more than 80 % of its payload rate counts in LINK_HOT. -/
  | linkHotWindow (link : Nat) (bytes : Nat)
  /-- ROUTER_STATE_ERROR (19 R442): An uncorrectable error in router or control-node state resets the base die. -/
  | routerStateError (station : Nat)
deriving DecidableEq, Repr

end Sys2Proof
end

