-- ==== Sys2Proof/Machine/State.lean ====
section
/-!
DEFINITION. The state of the block, the reasons a command can stop, and the state after reset.
-/
namespace Sys2Proof.Machine
open Sys2Proof

/-- The machine. -/
structure State where
  /-- Time since power-up in 10 ns units. -/
  now : Nat
  /-- The next identifier for a command, list, request, transfer or carillon of this model. -/
  nextId : Nat
  /-- Free values used so far. -/
  freeCount : Nat
  beat : BeatState
  almanac : AlmanacState
  kits : List (Nat × Kit)
  creations : List KitCreation
  unitReturns : List UnitReturn
  sequences : List (Nat × Sequence)
  queues : List (Nat × Queue)
  crings : List (Nat × CRing)
  /-- Outstanding commands, oldest first. -/
  commands : List Command
  /-- Commands read in the running beat, for 11 R282. -/
  namedReads : List NamedRead
  contexts : List (Nat × Context)
  objects : List (Nat × Object)
  chimes : List (Nat × Chime)
  waiters : List ChimeWaiter
  signals : List Signal
  partitions : List (Nat × Partition)
  partitionChanges : List PartitionChange
  functions : List (Nat × VFunction)
  cores : List (Nat × Core)
  lists : List WorkList
  mem : MemState
  fabric : FabricState
  cijan : CijanState
  peal : PealState
  power : PowerState
  fail : FailState
  boot : BootState
  win : WindowState
  /-- Everything that has left the module, newest first. -/
  outbox : List Msg
  /-- Commands that wait, first in first out. -/
  pending : List Instr
deriving DecidableEq, Repr

/-- Why a command stops with a fault. -/
inductive Fault where
  /-- Raised by an event or instruction whose operand names a unit (core, station, lane, edge die, pair, engine) that the
  module does not have. Safe: no such event exists. -/
  | noSuchUnit
deriving DecidableEq, Repr

/-- Why a command is refused. -/
inductive Refusal where
  /-- Raised by an arm that has no meaning yet. Safe: nothing is claimed of it. -/
  | notModelled (mnemonic : String)
deriving DecidableEq, Repr

/-- The contents of a pair at power-up. -/
def Pair.reset : Pair :=
  { failedDies := [], errors := [], poison := [], scrubAt := 0, counters := ⟨0, 0, 0, 0⟩, out := false }

/-- Memory at power-up. -/
def MemState.reset : MemState :=
  { t1 := [], t2 := [], companion := [], tags := [], deadBits := [], poison1 := [], granules := [], granules2 := [],
    regions := [], lines := [], fills := [], pinnings := [], uses := 0, counters := [], pendingTiles := [], raw := [],
    banks := [], slices := [], scrub1 := [], pairs := List.replicate 10 Pair.reset, scrubInterval2 := 6400,
    scrubInterval1 := 100, logged := 0, log := [], loggedCorrected := [], transfers := [], requests := [] }

/-- A lane at power-up. -/
def Lane16.reset : Lane16 :=
  { up := false, credits := [2, 2, 2, 2], shared := 8, controlCredits := 16, kept := [], waiting := [], retries := 0,
    syncAt := 0, beatDifference := 0, neighbourEstimate := 0, offsets := [] }

/-- External time at power-up: no source (02 R56). -/
def PtpState.reset : PtpState :=
  { source := 0, domain := 0, enabled := false, port := .listening, syncSeq := 0, syncRx := 0,
    awaitFollowUp := false, masterToSlave := 0, delayReqTx := 0, delayReqSeq := 0, meanPath := 0, offset := 0,
    remaining := 0 }

/-- The beat at power-up: the generators stand still (02 R27). -/
def BeatState.reset : BeatState :=
  { running := false, number := 0, formation := 0, phase := .downbeat, building := false, start := 0, period := 25000,
    buildShare := 100, guardShare := 50, change := none, lock := .locked, holdoverSince := 0, timingInputs := [],
    offset := 0, slew := 0, pairBeat := 0, pairTai := 0, buildShort := 0, almanacLate := 0, almanacSkipped := 0,
    overrunSoft := 0, overrunHard := 0, transferOverrun := 0,
    ptp := PtpState.reset }

/-- The Almanac at power-up. -/
def AlmanacState.reset : AlmanacState :=
  { mode := .disarmed, cycleLength := 1, origin := 0, entries := [], staged := [], disarmAtDownbeat := false,
    samples := [], due := [] }

/-- The fabric at power-up. -/
def FabricState.reset : FabricState :=
  { links := [], arbiters := [], refills := 0, weights := [], carillons := [], receive := [] }

/-- A Cijan engine at power-up. -/
def CijanEngine.reset : CijanEngine :=
  { up := false, headerCredits := 0, dataCredits := 0 }

/-- The Cijan Link at power-up. -/
def CijanState.reset : CijanState :=
  { mode := .down, epoch := 0, pendingEpoch := 0, linkBlock := 0, heldHello := none, aperture := 0, windows := [],
    domainVector := 0, creqCredits := 0, latencies := [], companionId := 0, cause := 0, downAt := 0, txns := [],
    engines := List.replicate 4 CijanEngine.reset, malformed := 0, stale := 0, narrow := 0, losses := 0,
    nackTotal := 0 }

/-- The peal at power-up: alone at no coordinate. -/
def PealState.reset : PealState :=
  { mode := .alone, pealId := 0, coordinate := 0, sizes := (1, (1, 1)), founder := false, leader := none,
    members := [], lanesDown := [], timeout := 0, since := 0, fault := none, reached := [], neighbours := [],
    locked := [], admitBeat := none, admitting := [], leaving := [], candidate := none, officeBeat := none, lost := [],
    lanes := List.replicate 24 Lane16.reset, timeParent := 0, estimate := 0, resent := 0,
    forwarded := 0, inbound := [], finished := [], reservations := [], rounds := [] }

/-- The input before insertion: no contact is mated. -/
def InputState.reset : InputState :=
  { returnMated := false, prechargeMated := false, mainMated := false, mode := .absent, inRangeSince := 0,
    qualifiedAt := none, switchClosed := none, powered := false, voltage := 0 }

/-- Power at power-up (18 R411, R412, R426): no contact is mated. -/
def PowerState.reset : PowerState :=
  { input := InputState.reset,
    rackCap := 4000000, rampedCap := 4000000, rampUp := 100, lease := none, lapsed := false, fallback := 0,
    leaseLapsed := 0, capsAccepted := 0, thermalCap := 4000000, coolSince := none, tThrottle := 95, inletMax := 45,
    below := false, clock := 600, duty := 64, throttleUs := 0, droopEvents := 0, droops := [], energy := 0, departing := 0,
    meanMs := 0, meanUs := 0, inlet := 0, outlet := 0, temps := [], tripped := [], trips := 0,
    telemetry := List.replicate 128 0, vigil := .awake, listener := 0 }

/-- The stations whose compute die is intercalary at power-up (19, example). -/
def intercalaryStations : List Nat := [6, 13, 27, 34, 41, 47]

/-- A compute die at power-up. -/
def ComputeDie.reset (station : Nat) : ComputeDie :=
  { mode := if intercalaryStations.contains station then .intercalary else .inService, failedAt := 0, byTrip := false,
    joining := false, releasing := false, staleTable := false }

/-- Failures at power-up. -/
def FailState.reset : FailState :=
  { dies := (List.range 54).map fun s => (s, ComputeDie.reset s),
    bases := (List.range 54).map fun s => (s, { out := false, cause := 0, since := 0, firmware := 0 }),
    edges := (List.range 4).map fun e =>
      (e, { up := false, lost := false, usable := false, mgmtUp := false, mgmtDownSince := none }),
    clocks := [], autoIntercalate := true, passedOver := [], primary := 0, stopped := false,
    stationUpdate := none, stationImage := 0, written := [], repins := [] }

/-- Start-up at power-up. -/
def BootState.reset : BootState :=
  { stage1 := false, lit := false, loadReady := false, trained := false, fillDone := false, stationsStarted := false,
    diesTested := false, flashRead := false, released := false, verified := false, rejectReason := 0, startFault := 0,
    claim := .none, imageAddress := 0, imageBytes := 0, queue0Base := 0, queue0Log2 := 0, cring0Log2 := 0,
    cring0Base := 0, load := ⟨[], [], 0, false⟩, staging := ⟨[], [], 0, false⟩, running := none,
    staged := none, images := [], liveUpdate := none, floor := 0, fellBack := false, floorMissing := true,
    history := [], fillTime := 0, chunks := [] }

/-- Register window fields at power-up (21). -/
def WindowState.reset : WindowState :=
  { attention := 0, attentionEnable := 0, attentionVector := 0, chimeLowTotal := 0, doorbellDropped := 0,
    noticesDropped := 0, mgmtDropped := 0, snapshotBeat := 0, beatBlock := List.replicate 12 0, switches := 0,
    switchDeferred := 0, switchLongest := 0,
    scoreLate := 0, noResultCount := 0, syncAlarm := 0, summaryFail := 0, lanesRepaired := 0, pairLanes := [],
    pairPasses := [], slicePasses := [], pairDies := [], parts := [], kitBlocks := [], kitSwitches := [], pages := [] }

/-- Management queue 1, which exists from power-up (11 R271). -/
def Queue.one : Queue :=
  { ringBase := 0, head := 0, tail := 0, kit := 0xFFFFFFFF, context := 65535, partition := 0, log2Size := 8,
    function := 0, completionRing := 0, mode := .active, chimeBase := 0, chimeCount := 4194304, ownChimeBase := 0,
    ownChimeCount := 4194304, weight := 1, management := true, leaf := false, returned := 0, recent := [],
    peer := (0, 0) }

/-- The device Context (12 R286). -/
def Context.device : Context :=
  { mode := .active, partition := 0, function := 0, noticeRing := 0, lossStatus := 0, lossBeat := 0, lossOffset := 0,
    viaQueue := none }

/-- The machine right after power-up (20 R453): no contact is mated, no die has power, nothing has been written. -/
def State.reset : State :=
  { now := 0, nextId := 1, freeCount := 0, beat := .reset, almanac := .reset, kits := [], creations := [],
    unitReturns := [],    sequences := [], queues := [(1, Queue.one)], crings := [], commands := [], namedReads := [],
    contexts := [(65535, Context.device)], objects := [], chimes := [], waiters := [], signals := [],
    partitions := [], partitionChanges := [], functions := [], cores := [], lists := [], mem := .reset,
    fabric := .reset, cijan := .reset, peal := .reset, power := .reset, fail := .reset, boot := .reset,
    win := .reset, outbox := [], pending := [] }

end Sys2Proof.Machine
end

