-- ==== Sys2Proof/Machine/Access.lean ====
section
/-!
DEFINITION. Where bytes live: granules and SPREAD runs (07 R165 to R168), memory objects in tier 2 (07 R190 to R192, 06
R153), the device physical address map (07 R194), coherent windows (15 R350), and reads and writes through them.
-/
namespace Sys2Proof.Machine
open Sys2Proof

/-! ### Granules -/

/-- Station and way of an allocatable granule (07 R165, granule_place). -/
def granulePlace (g : Nat) : Nat × Nat :=
  let sr := if g < 1944 then (g % 54, g / 54) else
    let k := g - 1944
    let j := k % 52
    (if j < 5 then j else j + 1, 36 + k / 52)
  (sr.1, if sr.1 = 5 ∨ sr.1 = 53 then sr.2 + 4 else sr.2 + 2)

/-- The granule of a way of a slice; none for a reserved way (07 R164, R165). -/
def placeGranule (station way : Nat) : Option Nat :=
  let low := if station = 5 ∨ station = 53 then 4 else 2
  if way < low ∨ 40 ≤ way ∨ 54 ≤ station then none else
    let r := way - low
    if r < 36 then some (r * 54 + station)
    else some (1944 + (r - 36) * 52 + if station < 5 then station else station - 1)

/-- A granule as it is at reset: of partition 0, in CACHE mode (07, Regions). -/
def Granule.initial : Granule := { partition := 0, mode := .cache, spread := none, diag := false }
/-- A tier-2 granule as it is at reset. -/
def Granule2.initial : Granule2 := { partition := 0, diag := false }

/-- Granule `g` of tier 1. -/
def State.granule (s : State) (g : Nat) : Granule := tgetD s.mem.granules g Granule.initial
/-- Granule `g` of tier 2. -/
def State.granule2 (s : State) (g : Nat) : Granule2 := tgetD s.mem.granules2 g Granule2.initial

/-- The tier-1 location of a tier-1 address (07 R166, R168). -/
def State.spreadMap (s : State) (a : Nat) : Nat :=
  match (s.granule (a / 2 ^ 23)).spread with
  | none => a
  | some (g0, n) =>
    let d := a - g0 * 2 ^ 23
    let l := d / 4096
    (g0 + l % n) * 2 ^ 23 + l / n * 4096 + d % 4096

/-- The granules that `n` bytes from tier-1 address `a` touch. -/
def granulesOf (a n : Nat) : List Nat := (List.range ((a + n + 2 ^ 23 - 1) / 2 ^ 23 - a / 2 ^ 23)).map (· + a / 2 ^ 23)

/-- `n` bytes from `a` lie wholly in SCRATCH granules of the partition (07 R167). -/
def State.inScratch (s : State) (partition a n : Nat) : Bool :=
  decide (0 < n) && decide (a + n ≤ 2 ^ 34) &&
    (granulesOf a n).all fun g => (s.granule g).partition == partition && (s.granule g).mode == .scratch

/-- The parts into which the multiples of `size` cut `n` bytes from `a`: first address and length. -/
def pieces (size : Nat) : Nat → Nat → Nat → List (Nat × Nat)
  | 0, _, _ => []
  | fuel + 1, a, n =>
    if n = 0 then [] else
      let k := min n (size - a % size)
      (a, k) :: pieces size fuel (a + k) (n - k)

/-- The 4,096-byte pieces of a range. -/
def linePieces (a n : Nat) : List (Nat × Nat) := pieces 4096 (n / 4096 + 2) a n

/-! ### Coherent windows -/

/-- The window of the present epoch that maps `n` bytes from device address `a` for the partition (15 R350). -/
def State.window (s : State) (partition a n : Nat) : Option Window :=
  if s.cijan.mode = .up then
    s.cijan.windows.find? fun w =>
      decide (w.deviceBase ≤ a) && decide (a + n ≤ w.deviceBase + w.size) && bit w.partitions partition
  else none

/-- Host address of a device address in a window. -/
def Window.host (w : Window) (a : Nat) : Nat := w.hostBase + (a - w.deviceBase)

/-- Any window that maps the address, whatever the partition. -/
def State.anyWindow (s : State) (a : Nat) : Option Window :=
  s.cijan.windows.find? fun w => decide (w.deviceBase ≤ a) && decide (a < w.deviceBase + w.size)

/-- The address lies in the range of coherent windows (07 Table 7-8). -/
def isCoherent (a : Nat) : Bool := 0x800000000000 ≤ a && a < 2 ^ 48

/-- The companion's bytes from a device address. -/
def State.companionRead (s : State) (a n : Nat) : List Byte :=
  match s.anyWindow a with
  | some w => memRead Config.companionByte s.mem.companion (w.host a) n
  | none => memRead Config.companionByte s.mem.companion a n

/-- The companion's memory with bytes written from a device address. -/
def State.companionWrite (s : State) (a : Nat) (bytes : List Byte) : State :=
  let h := match s.anyWindow a with
    | some w => w.host a
    | none => a
  { s with mem := { s.mem with companion := memWrite Config.companionByte s.mem.companion h bytes } }

/-! ### Device physical addresses -/

/-- What a device physical address names (07 Table 7-8). -/
inductive Region where
  | tier1 | tier2 (pair offset : Nat) | registers | coherent | unmapped
deriving DecidableEq, Repr

/-- Bytes of data of a stack pair (07 R190). -/
def pairBytes : Nat := 109951162368

/-- The region of a device physical address (07 R194). -/
def region (a : Nat) : Region :=
  if a < 2 ^ 34 then .tier1
  else if a < 0x010000000000 then .unmapped
  else if a < 0x024000000000 then
    let p := (a - 0x010000000000) / 0x2000000000
    let o := (a - 0x010000000000) % 0x2000000000
    if p < 10 ∧ o < pairBytes then .tier2 p o else .unmapped
  else if a < 0x700000000000 then .unmapped
  else if a < 0x800000000000 then .registers
  else if a < 2 ^ 48 then .coherent
  else .unmapped

/-- Key of a byte of tier 2 in `MemState.t2`. -/
def t2Key (pair offset : Nat) : Nat := pair * 2 ^ 37 + offset

/-- Tier-2 granule of a pair-local address (07 R191). -/
def granule2Of (pair offset : Nat) : Nat :=
  if offset < 102 * 2 ^ 30 then pair * 102 + offset / 2 ^ 30
  else 1020 + (pair * 429496320 + (offset - 102 * 2 ^ 30)) / 2 ^ 30

/-- `n` bytes from `a` may be named by a command or descriptor of the partition, `whole` for the physical function:
SCRATCH granules of the partition or a coherent window, and tier 2 for the physical function (07 R167, R194, 11 R283). -/
def State.nameable (s : State) (whole : Bool) (partition a n : Nat) : Bool :=
  match region a with
  | .tier1 => s.inScratch partition a n
  | .tier2 p o => whole && decide (o + n ≤ pairBytes) && decide (p < 10)
  | .coherent => (s.window partition a n).isSome
  | _ => false

/-- A parameter block, descriptor or result lies in SCRATCH granules of the partition or in a coherent window
(11 R261). -/
def State.blockAt (s : State) (partition a n align : Nat) : Bool :=
  decide (a % align = 0) && s.nameable false partition a n

/-! ### Tags, dead lines and poison -/

/-- A tag of zeros (06 R150). -/
def Tag.zero : Tag := { crc := 0, version := 0, format := 0, flags := 0, producer := 0 }

/-- The tag of a slot of tier 1. -/
def State.tag (s : State) (slot : Nat) : Tag := tgetD s.mem.tags slot Tag.zero

/-- The 16 bytes of a tag (06 Table 6-1). -/
def Tag.bytes (t : Tag) : List Byte :=
  leBytes 4 t.crc.toNat ++ leBytes 4 t.version.toNat ++ leBytes 1 t.format ++ leBytes 1 t.flags ++ zeros 2 ++
    leBytes 4 t.producer.toNat

/-- A tag from its 16 bytes. -/
def Tag.ofBytes (b : List Byte) : Tag :=
  { crc := .ofNat 32 (field b 0 4), version := .ofNat 32 (field b 4 4), format := field b 8 1, flags := field b 9 1,
    producer := .ofNat 32 (field b 12 4) }

/-- The table of tags with one put; a tag of zeros is not listed. -/
def MemState.setTag (m : MemState) (slot : Nat) (t : Tag) : MemState :=
  { m with tags := if t = Tag.zero then terase m.tags slot else tset m.tags slot t }

/-- VALID cleared in the tag of a slot (06 R150). -/
def MemState.clearValid (m : MemState) (slot : Nat) : MemState :=
  let t := tgetD m.tags slot Tag.zero
  m.setTag slot { t with flags := t.flags / 2 * 2 }

/-- A write to bytes of one line of tier 1 by other means than publication: the bytes, VALID cleared, a dead scratch line
alive again with a zero tag (06 R150, 07 R183), the poison of the code words it covers whole cleared (08 R209). -/
def MemState.writeLine (m : MemState) (a : Nat) (bytes : List Byte) : MemState :=
  let slot := a / 4096
  let m1 := if m.deadBits.contains slot then
      { m with deadBits := m.deadBits.filter (· != slot) }.setTag slot Tag.zero
    else m.clearValid slot
  { m1 with
    t1 := memWrite zeroByte m1.t1 a bytes
    poison1 := m1.poison1.filter fun c => !(decide (a ≤ c * 128) && decide (c * 128 + 128 ≤ a + bytes.length))
    raw := m1.raw.filter fun r =>
      !(r.tier == 1 && decide (a ≤ r.address) && decide (r.address + 128 ≤ a + bytes.length)) }

/-- Bytes of the pieces of a range, in order. -/
def splitBytes : List (Nat × Nat) → List Byte → List (Nat × List Byte)
  | [], _ => []
  | (a, n) :: r, b => (a, b.take n) :: splitBytes r (b.drop n)

/-- Bytes read by tier-1 address. -/
def State.readT1 (s : State) (a n : Nat) : List Byte :=
  (linePieces a n).flatMap fun p => memRead zeroByte s.mem.t1 (s.spreadMap p.1) p.2

/-- Bytes written by tier-1 address. -/
def State.writeT1 (s : State) (a : Nat) (bytes : List Byte) : State :=
  let m := (splitBytes (linePieces a bytes.length) bytes).foldl (fun m p => m.writeLine (s.spreadMap p.1) p.2) s.mem
  { s with mem := m, fail := { s.fail with
    written := ((linePieces a bytes.length).map fun p => s.spreadMap p.1 / 2 ^ 23).foldl addOnce s.fail.written } }

/-- Bytes of tier 2 by pair and offset. -/
def State.readT2 (s : State) (pair offset n : Nat) : List Byte := memRead zeroByte s.mem.t2 (t2Key pair offset) n

/-- The poison list of a pair without the code words that a write covers whole (08 R209). -/
def Pair.clearPoison (p : Pair) (offset n : Nat) : Pair :=
  { p with poison := p.poison.filter fun c => !(decide (offset ≤ c) && decide (c + 512 ≤ offset + n)) }

/-- Bytes of tier 2 written. -/
def State.writeT2 (s : State) (pair offset : Nat) (bytes : List Byte) : State :=
  { s with mem := { s.mem with
      t2 := memWrite zeroByte s.mem.t2 (t2Key pair offset) bytes
      pairs := lmod s.mem.pairs pair fun p => p.clearPoison offset bytes.length
      raw := s.mem.raw.filter fun r =>
        !(r.tier == 2 && decide (t2Key pair offset ≤ r.address) &&
          decide (r.address + 512 ≤ t2Key pair offset + bytes.length)) } }

/-- Bytes read at a device physical address (07 R194). -/
def State.sysRead (s : State) (a n : Nat) : List Byte :=
  match region a with
  | .tier1 => s.readT1 a n
  | .tier2 p o => s.readT2 p o n
  | .coherent => s.companionRead a n
  | _ => zeros n

/-- Bytes written at a device physical address. -/
def State.sysWrite (s : State) (a : Nat) (bytes : List Byte) : State :=
  match region a with
  | .tier1 => s.writeT1 a bytes
  | .tier2 p o => s.writeT2 p o bytes
  | .coherent => s.companionWrite a bytes
  | _ => s

/-- A result written in whole 128-byte units, zeros past its end (11 R261 (b)). -/
def State.writeResult (s : State) (a : Nat) (bytes : List Byte) : State :=
  s.sysWrite a (padTo ((bytes.length + 127) / 128 * 128) bytes)

/-! ### Memory objects -/

/-- Stripe unit size: 257 code words (07 R192). -/
def unitBytes : Nat := 131584

/-- Footprint of a tiled object of `n` tiles (06 R153). -/
def tiledFootprint (n : Nat) : Nat := n * 4096 + ceilDiv n 32 * 512

/-- Object offset of the payload of tile `i` (06 R153). -/
def tileOffset (i : Nat) : Nat := i / 32 * unitBytes + i % 32 * 4096

/-- Object offset of the tag of tile `i` of an object of `n` tiles (06 R153). -/
def tagOffset (n i : Nat) : Nat :=
  i / 32 * unitBytes + (if i / 32 = (n - 1) / 32 then n - i / 32 * 32 else 32) * 4096 + i % 32 * 16

/-- Where an object offset lies: pair and pair-local address. A pool object is its granules one after another (10 R243). -/
def Object.locate (o : Object) (off : Nat) : Nat × Nat :=
  if o.pool then
    match o.granules[off / 2 ^ 30]? with
    | some g => (g / 102, g % 102 * 2 ^ 30 + off % 2 ^ 30)
    | none => (0, pairBytes)
  else
    match o.units[off / unitBytes]? with
    | some e => (e.pair, e.base + off % unitBytes)
    | none => (0, pairBytes)

/-- `n` bytes of an object in tier 2. -/
def State.objRead2 (s : State) (o : Object) (off n : Nat) : List Byte :=
  (pieces unitBytes (n / unitBytes + 2) off n).flatMap fun p => let l := o.locate p.1; s.readT2 l.1 l.2 p.2

/-- Bytes of an object written in tier 2. -/
def State.objWrite2 (s : State) (o : Object) (off : Nat) (bytes : List Byte) : State :=
  (splitBytes (pieces unitBytes (bytes.length / unitBytes + 2) off bytes.length) bytes).foldl
    (fun s p => let l := o.locate p.1; s.writeT2 l.1 l.2 p.2) s

/-- The stored tag of a tile of an object. -/
def State.objTag2 (s : State) (o : Object) (i : Nat) : Tag := Tag.ofBytes (s.objRead2 o (tagOffset o.tiles i) 16)

/-- The tag of a tile of an object written in tier 2. -/
def State.setObjTag2 (s : State) (o : Object) (i : Nat) (t : Tag) : State :=
  s.objWrite2 o (tagOffset o.tiles i) t.bytes

/-- Object offset of line `l` (07, Cache mode; 06 R153). -/
def Object.lineOffset (o : Object) (l : Nat) : Nat := if o.tiled then tileOffset l else l * 4096

/-- Bytes of an object that its lines cover: payloads, or the whole of an untiled object. -/
def Object.span (o : Object) : Nat := if o.tiled then o.tiles * 4096 else o.footprint

/-- Number of lines of an object. -/
def Object.lines (o : Object) : Nat := if o.tiled then o.tiles else o.footprint / 4096

/-- Handle of an object (12 R292). -/
def Object.handle (o : Object) (index : Nat) : Nat := index + o.generation * 2 ^ 20 + o.partition * 2 ^ 48

/-- The object that a handle names (12 R292): index and entry. -/
def State.objectOf (s : State) (handle : Nat) : Option (Nat × Object) :=
  let i := handle % 2 ^ 20
  match tget s.objects i with
  | some o => if o.mode ≠ .free ∧ handle = o.handle i then some (i, o) else none
  | none => none

/-- The code words (pair and pair-local address) of an object range (08). -/
def Object.codeWords (o : Object) (off n : Nat) : List (Nat × Nat) :=
  (pieces 512 (n / 512 + 2) off n).map fun p => let l := o.locate p.1; (l.1, l.2 / 512 * 512)

/-- A code word of tier 2 is poisoned (08 R209). -/
def State.poisoned2 (s : State) (pair a : Nat) : Bool :=
  (match s.mem.pairs[pair]? with
    | some p => p.poison.contains (a / 512 * 512)
    | none => false) || s.mem.raw.any fun r => r.tier == 2 && r.bad && r.address == t2Key pair (a / 512 * 512)

/-- Any code word of tier 1 behind `n` bytes from a location is poisoned. -/
def State.poisoned1 (s : State) (loc n : Nat) : Bool :=
  (s.mem.poison1.any fun c => decide (c * 128 < loc + n) && decide (loc < c * 128 + 128)) ||
    s.mem.raw.any fun r => r.tier == 1 && r.bad && decide (r.address < loc + n) && decide (loc < r.address + 128)

/-- A read at a device physical address meets poisoned data (08 R210). -/
def State.poisonedAt (s : State) (a n : Nat) : Bool :=
  match region a with
  | .tier1 => (linePieces a n).any fun p => s.poisoned1 (s.spreadMap p.1) p.2
  | .tier2 p o => (pieces 512 (n / 512 + 2) o n).any fun q => s.poisoned2 p q.1
  | _ => false

end Sys2Proof.Machine
end

