-- ==== Sys2Proof/Machine/Flags.lean ====
section
/-!
DEFINITION. Status codes (11 Table 11-6), the ranks of pipeline faults (04 R122, 06 R160, 08 R210), FP_STATUS (04 R107),
ATTENTION (21 R481, R482) and the error log (08 R214).
-/
namespace Sys2Proof.Machine
open Sys2Proof

/-! ### Status codes (11 Table 11-6) -/

def stOk : Nat := 0x0000
def stBadOpcode : Nat := 0x0101
def stNotPermitted : Nat := 0x0102
def stBadParam : Nat := 0x0103
def stContextLost : Nat := 0x0104
def stStateConflict : Nat := 0x0105
def stPreempted : Nat := 0x0106
def stImageRejected : Nat := 0x0107
def stNoFit : Nat := 0x0201
def stPinCap : Nat := 0x0202
def stAlmanacCrowded : Nat := 0x0203
def stSeqFull : Nat := 0x0204
def stSeqLimit : Nat := 0x0205
def stNoSpace : Nat := 0x0206
def stBudget : Nat := 0x0207
def stIllegal : Nat := 0x0301
def stDivergence : Nat := 0x0302
def stMisaligned : Nat := 0x0303
def stCoreStoreRange : Nat := 0x0304
def stWindowRange : Nat := 0x0305
def stNarrowWrite : Nat := 0x0306
def stDeadRead : Nat := 0x0307
def stMatrixDiverged : Nat := 0x0308
def stMatrixFormat : Nat := 0x0309
def stReductionOrder : Nat := 0x030A
def stMemoryError : Nat := 0x0401
def stTileCrc : Nat := 0x0402
def stTileRace : Nat := 0x0403
def stTileUntagged : Nat := 0x0404
def stTileFormat : Nat := 0x0405
def stOverrun : Nat := 0x0501
def stUnlocked : Nat := 0x0502
def stSeqClosed : Nat := 0x0503
def stSquashed : Nat := 0x0504
def stCoherentDown : Nat := 0x0505
def stPartial : Nat := 0x0506
def stUnreachable : Nat := 0x0507

/-! ### Messages, free values and time -/

/-- The next free value. -/
def State.free (s : State) : U64 := Config.freeValue s.freeCount

/-- The state with one free value used. -/
def State.useFree (s : State) : State := { s with freeCount := s.freeCount + 1 }

/-- A message leaves the module. -/
def State.send (s : State) (m : Msg) : State := { s with outbox := m :: s.outbox }

/-- A message interrupt (15 R360). -/
def State.interrupt (s : State) (function vector : Nat) : State := s.send ⟨.intr, function, [function, vector], []⟩

/-- Time passes up to `t` at least. -/
def State.clockTo (s : State) (t : Nat) : State := { s with now := max s.now t }

/-- Offset of the present instant within the running beat, in 10 ns units. -/
def State.offset (s : State) : Nat := s.now - s.beat.start

/-! ### ATTENTION and the error log -/

/-- Bit `b` of ATTENTION is set; a rise of an enabled bit sends an interrupt (21 R482). -/
def State.attend (s : State) (b : Nat) : State :=
  let was := s.win.attention.getLsbD b
  let s1 := { s with win := { s.win with attention := s.win.attention ||| BitVec.ofNat 64 (2 ^ b) } }
  if !was && s.win.attentionEnable.getLsbD b then s1.interrupt 0 s.win.attentionVector else s1

/-- The ATTENTION bit that a log record of a KIND sets (21 Table 21-5). -/
def attentionOfKind : Nat → Option Nat
  | 0x02 => some 3
  | 0x04 => some 3
  | 0x0D => some 3
  | 0x05 => some 0
  | 0x08 => some 1
  | 0x09 => some 2
  | 0x0E => some 4
  | 0x10 => some 6
  | 0x11 => some 5
  | 0x14 => some 7
  | 0x15 => some 8
  | 0x16 => some 9
  | 0x17 => some 10
  | _ => none

/-- A record of the error log (08 R214): the ring keeps the last 65,536. -/
def State.logRecord (s : State) (r : ErrorRecord) : State :=
  let s1 := { s with mem := { s.mem with logged := s.mem.logged + 1, log := lastN 65536 (s.mem.log ++ [r]) } }
  match attentionOfKind r.kind with
  | some b => s1.attend b
  | none => s1

/-- A record of the error log at this instant. -/
def State.logEvent (s : State) (kind source station pair symbols address partition unit : Nat) : State :=
  s.logRecord { beat := s.beat.number, kind, source, station, pair, symbols, address, partition, unit,
                offset := s.offset }

/-- A failure event's record (19 R451). -/
def State.logFailure (s : State) (kind station unit : Nat) : State := s.logEvent kind 0 station 0xFF 0 0 0xFF unit

/-- The 32 bytes of a log record (08 Table 8-5). -/
def ErrorRecord.bytes (r : ErrorRecord) : List Byte :=
  leBytes 8 r.beat ++ leBytes 1 r.kind ++ leBytes 1 r.source ++ leBytes 1 r.station ++ leBytes 1 r.pair ++
    leBytes 4 r.symbols ++ leBytes 8 r.address ++ leBytes 1 r.partition ++ leBytes 1 r.unit ++ zeros 2 ++
    leBytes 4 r.offset

/-! ### FP_STATUS (04 R107) -/

/-- Sticky flags are added to FP_STATUS of a group. -/
def Group.addFlags (g : Group) (flags : Nat) : Group := { g with fpStatus := g.fpStatus ||| BitVec.ofNat 32 flags }

/-! ### Ranks of pipeline faults (04 Table 4-9, 05 R144, 06 R160, 07 R184, 08 R210) -/

/-- Pipeline faults from the highest rank down. -/
def faultRanks : List Nat :=
  [stIllegal, stDivergence, stMisaligned, stCoreStoreRange, stWindowRange, stNarrowWrite, stDeadRead, stMemoryError,
   stMatrixDiverged, stMatrixFormat, stReductionOrder, stTileCrc, stTileRace, stTileUntagged, stTileFormat]

/-- Rank of a status: 0 is highest. -/
def faultRank (status : Nat) : Nat := (faultRanks.findIdx? (· == status)).getD 99

/-- The highest-ranking of the statuses met, if any (04 R122). -/
def topFault (l : List Nat) : Option Nat := faultRanks.find? fun f => l.contains f

end Sys2Proof.Machine
end

