-- ==== Sys2Proof/Machine/Operands.lean ====
section
/-!
DEFINITION. The operands of commands (11 R259, R260) and of pipeline instructions (04 R98, R102, R104).
-/
namespace Sys2Proof.Machine
open Sys2Proof

/-! ### Registers of a group -/

/-- The 64 words of register `r` (04 R93). -/
def Group.reg (g : Group) (r : Nat) : List Word := tgetD g.regs r (List.replicate 64 0)

/-- Register `r` of thread `t`. -/
def Group.read (g : Group) (r t : Nat) : Word := (g.reg r).getD t 0

/-- The register pair `r`, `r + 1` of thread `t` (04, Registers). -/
def Group.readPair (g : Group) (r t : Nat) : Nat := (g.read r t).toNat + (g.read (r + 1) t).toNat * 2 ^ 32

/-- Register `r` takes `f t` in every thread of the mask; it counts as written (13 R313). -/
def Group.write (g : Group) (r : Nat) (mask : U64) (f : Nat → Word) : Group :=
  let old := g.reg r
  let new := (List.range 64).map fun t => if mask.getLsbD t then f t else old.getD t 0
  { g with
    regs := if new.all (· == 0) then terase g.regs r else tset g.regs r new
    written := addOnce g.written r }

/-- Consecutive registers from `r` take the words that `f` gives for each thread (04 R104 (b)). -/
def Group.writeMany (g : Group) (r n : Nat) (mask : U64) (f : Nat → List Word) : Group :=
  (List.range n).foldl (fun g i => g.write (r + i) mask fun t => (f t).getD i 0) g

/-- Predicate `n`: P7 reads 1 in every thread (04, Registers). -/
def Group.predMask (g : Group) (n : Nat) : U64 := if n = 7 then BitVec.allOnes 64 else g.preds.getD n 0

/-- Predicate `n` takes `f t` in every thread of the mask. -/
def Group.writePred (g : Group) (n : Nat) (mask : U64) (f : Nat → Bool) : Group :=
  let new := BitVec.ofNat 64 (maskOf ((List.range 64).filter fun t =>
    if mask.getLsbD t then f t else (g.predMask n).getLsbD t))
  { g with preds := lmod g.preds n fun _ => new }

/-- The threads in which an instruction executes (04 R102). -/
def Group.exec (g : Group) (i : Ins) : U64 :=
  let p := g.predMask i.pred.toNat
  g.active &&& (if i.pneg then ~~~p else p)

/-- The lowest thread of a mask. -/
def lowestThread (m : U64) : Option Nat := (List.range 64).find? fun t => m.getLsbD t

/-- The threads of a mask, ascending. -/
def threadsOf (m : U64) : List Nat := (List.range 64).filter fun t => m.getLsbD t

/-! ### The register cache (04 R99, R100) -/

/-- One use of a register: it becomes the most recently used; a miss takes an entry, the least recently used leaving. -/
def touchCache (c : List RegCacheEntry) (r : Nat) (write : Bool) : List RegCacheEntry :=
  match c.find? (·.register == r) with
  | some e => (c.filter (·.register != r)) ++ [{ e with dirty := e.dirty || write }]
  | none => (if c.length < 8 then c else c.drop 1) ++ [{ register := r, dirty := write }]

/-- The uses of one instruction: its sources in order, then its destinations. -/
def Group.touch (g : Group) (sources dests : List Nat) : Group :=
  let c := sources.foldl (fun c r => touchCache c r false) g.regCache
  { g with regCache := dests.foldl (fun c r => touchCache c r true) c }

/-- Issue delay of an instruction in arithmetic cycles (04 R100). -/
def Group.issueDelay (g : Group) (sources dests : List Nat) : Nat :=
  let step (acc : List RegCacheEntry × Nat × Nat) (r : Nat) (w : Bool) :=
    let hit := acc.1.any (·.register == r)
    let evicted := !hit && decide (8 ≤ acc.1.length) && (acc.1.head?.map (·.dirty)).getD false
    (touchCache acc.1 r w, (if hit || w then acc.2.1 else acc.2.1 + 1), if evicted then acc.2.2 + 1 else acc.2.2)
  let a := sources.foldl (fun acc r => step acc r false) (g.regCache, 0, 0)
  let b := dests.foldl (fun acc r => step acc r true) a
  4 * (b.2.1 - 1) + 4 * (b.2.2 - 1)

/-! ### Parameters of commands (11 R260, Table 11-2) -/

/-- Sizes of the parameters of each command, in the order of its defining table. -/
def paramSizes : Op → List Nat
  | .deviceNop => []
  | .undefinedOpcode _ => []
  | .deviceQuery => [1, 4, 4, 8]
  | .queueCreate => [4, 1, 1, 1, 1, 8, 2, 2, 4, 4]
  | .queueDestroy => [4]
  | .queueStop => [4]
  | .queueStart => [4, 8]
  | .queueQuery => [4, 8]
  | .cringSet => [2, 1, 1, 1, 2, 2, 8]
  | .contextCreate => [2, 1, 1]
  | .contextDestroy => [2]
  | .contextQuery => [2, 8]
  | .coreRetire => [4]
  | .dieIntercalate => [1, 1]
  | .clockRecalibrate => [1, 8]
  | .memAlloc => [2, 1, 8]
  | .memFree => [8]
  | .memQuery => [8, 8]
  | .dmaCopy => [8]
  | .tier1RegionSet => [4, 4, 1, 1]
  | .tier1Config => [1, 1, 4, 1]
  | .tier1Pin => [8, 8, 8, 1, 8]
  | .tier1Unpin => [8, 8, 8]
  | .tier1Dead => [8, 8, 8]
  | .tier1Counters => [1, 1, 4, 8]
  | .roInvalidate => [4]
  | .modelBegin => [4, 1]
  | .modelDescribe => [4, 4, 8]
  | .modelCommit => [4, 8]
  | .modelAbort => [4]
  | .modelUnload => [4]
  | .placeQuery => [4, 8]
  | .placeReplace => [4, 1, 1, 8]
  | .seqOpen => [4, 1, 2, 4, 1, 4, 8, 4, 8]
  | .seqAppend => [4, 8, 4]
  | .seqSet => [4, 1, 2, 4, 1]
  | .seqPause => [4]
  | .seqResume => [4]
  | .seqTruncate => [4, 4]
  | .seqClose => [4]
  | .seqQuery => [4, 8]
  | .seqPolicy => [4, 4, 2, 2, 2, 2, 2, 4, 2]
  | .kitCreate => [8]
  | .kitDestroy => [4]
  | .kitQuery => [4, 8]
  | .kitLaunch => [4, 8, 4]
  | .chimeInit => [4, 4, 8, 2]
  | .chimeSignal => [4, 8]
  | .chimeWait => [4, 8]
  | .chimeQuery => [4, 8]
  | .chimeClear => [4, 4]
  | .beatSetPeriod => [4, 2, 2, 8]
  | .almanacWrite => [4, 4, 8]
  | .almanacRead => [4, 4, 8]
  | .almanacArm => [4, 8]
  | .almanacDisarm => []
  | .timeSetSource => [1, 1, 1]
  | .timeQuery => [8]
  | .overrunSetPolicy => [4, 1, 1]
  | .pealForm => [8, 2, 1, 4]
  | .pealJoin => [8, 4]
  | .pealLeave => [2, 1]
  | .pealQuery => [8]
  | .ringSend => [8]
  | .partitionSet => [1, 8]
  | .partitionQuery => [1, 8]
  | .vfEnable => [2, 1]
  | .vfAssign => [2, 8]
  | .vfReset => [2]
  | .vfFreeze => [2]
  | .vfSave => [2, 1, 8, 8]
  | .vfRestore => [2, 1, 8, 8, 8]
  | .vfResume => [2]
  | .powerSetCap => [4, 2, 2, 4]
  | .powerQuery => [8]
  | .thermalSetLimits => [1, 1]
  | .vigilEnter => []
  | .vigilWake => []
  | .eccDiagMode => [1, 4, 1]
  | .eccRawWrite => [8, 8]
  | .eccRawRead => [8, 8]
  | .eccScrubSet => [1, 4]
  | .eccDieMark => [1, 1, 1]
  | .eccLogRead => [4, 4, 8]
  | .fwDeliver => [1, 4, 4]
  | .fwLiveUpdate => [8, 8]
  | .identityQuery => [8]
  | .attest => [8, 8]
  | .stationFwUpdate => [4]
  | .edgePrimaryMove => [1]

/-- Offsets of parameters from PARAMS: each starts at the next multiple of its size (11 R260). -/
def paramOffsets : Nat → List Nat → List (Nat × Nat)
  | _, [] => []
  | o, n :: r => let a := ceilDiv o n * n; (a, n) :: paramOffsets (a + n) r

/-- Parameter `k` of a command. -/
def param (op : Op) (p : Packet) (k : Nat) : Nat :=
  match (paramOffsets 0 (paramSizes op))[k]? with
  | some (o, n) => field p.params o n
  | none => 0

/-- Packet offset of parameter `k`, for DETAIL of ST_BAD_PARAM (11 Table 11-4). -/
def paramAt (op : Op) (k : Nat) : Nat :=
  match (paramOffsets 0 (paramSizes op))[k]? with
  | some (o, _) => 16 + o
  | none => 0xFF

/-- Packet offset of the first reserved byte of PARAMS that is not zero (11 R260, 00 R5). -/
def reservedParam (op : Op) (p : Packet) : Option Nat :=
  let used := paramOffsets 0 (paramSizes op)
  ((List.range 48).find? fun i =>
    (p.params.getD i 0 != 0) && !(used.any fun u => decide (u.1 ≤ i) && decide (i < u.1 + u.2))).map (· + 16)

/-- Packet offset of the first header field that is refused (11 R259). -/
def reservedHeader (p : Packet) : Option Nat :=
  if 8 ≤ p.flags.toNat then some 2
  else if p.reserved ≠ 0 then some 3
  else if p.chime.toNat ≥ 2 ^ 22 ∨ (p.flags.getLsbD 0 = false ∧ p.chime ≠ 0) then some 4
  else if p.flags.getLsbD 0 = false ∧ p.chimeValue ≠ 0 then some 8
  else none

end Sys2Proof.Machine
end

