-- ==== Sys2Proof/Machine/Ops.lean ====
section
/-!
DEFINITION. The shared operations: status records and notices (11 R262 to R266, R275 to R277), completion of commands,
Chimes (12 R297 to R301), and the loss of a Context as far as its own tables go (12 R290).
-/
namespace Sys2Proof.Machine
open Sys2Proof

/-! ### Cores and groups -/

/-- A core as it is before it has run anything. -/
def Core.initial : Core :=
  { phase := .idle, block := none, window := [none, none, none, none], lastSlot := 3, switchAt := 0, freeSince := 0,
    lastContext := 65535, lastList := 0, constCache := [], descCache := [], instrCache := [], corrected := 0,
    correctedAt := [], retired := false, retiring := false }

/-- Core `c`. -/
def State.core (s : State) (c : Nat) : Core := tgetD s.cores c Core.initial

/-- The state with a core changed. -/
def State.modCore (s : State) (c : Nat) (f : Core → Core) : State := { s with cores := tupd s.cores c Core.initial f }

/-- The group of a core. -/
def State.group (s : State) (c g : Nat) : Option Group := (s.core c).block.bind fun b => b.groups[g]?

/-- The state with a group changed. -/
def State.modGroup (s : State) (c g : Nat) (f : Group → Group) : State :=
  s.modCore c fun k => { k with block := k.block.map fun b => { b with groups := lmod b.groups g f } }

/-- The state with a core's block changed. -/
def State.modBlock (s : State) (c : Nat) (f : Block → Block) : State :=
  s.modCore c fun k => { k with block := k.block.map f }

/-! ### Tables with entries that stand for unlisted ones -/

/-- A Chime after memory fill (12 R297). -/
def Chime.initial : Chime := { counter := 0, error := 0, lowCount := 0, context := 65535, partition := 0 }

/-- Chime `c`. -/
def State.chime (s : State) (c : Nat) : Chime := tgetD s.chimes c Chime.initial

/-- The state with a Chime's record put. -/
def State.setChime (s : State) (c : Nat) (h : Chime) : State :=
  { s with chimes := if h = Chime.initial then terase s.chimes c else tset s.chimes c h }

/-- STATE of a Chime (12 R297). -/
def Chime.state (h : Chime) : Nat := if h.error ≠ 0 then 2 else if h.context ≠ 65535 then 1 else 0

/-- A completion ring that is unset. -/
def CRing.unset : CRing :=
  { base := 0, produced := 0, consumed := 0, log2Size := 6, irqCount := 0, irqDelay := 0, vector := 0,
    noticesDropped := 0, unsignalled := 0, oldestUnsignalled := 0, waiting := [], unit := [] }

/-- Completion ring `ring` of a function. -/
def State.cring (s : State) (function ring : Nat) : CRing := tgetD s.crings (function * 32 + ring) CRing.unset

/-- The state with a completion ring put. -/
def State.setCring (s : State) (function ring : Nat) (r : CRing) : State :=
  { s with crings := tset s.crings (function * 32 + ring) r }

/-- A Context that is FREE. -/
def Context.free : Context :=
  { mode := .free, partition := 0, function := 0, noticeRing := 0, lossStatus := 0, lossBeat := 0, lossOffset := 0,
    viaQueue := none }

/-- Context `c`. -/
def State.context (s : State) (c : Nat) : Context := tgetD s.contexts c Context.free

/-- A Context is lost, also while it is destroyed after its loss (11 R270). -/
def State.lostContext (s : State) (c : Nat) : Bool :=
  let k := s.context c
  k.mode == .lost || (k.mode == .destroying && k.lossStatus != 0)

/-- A queue that is FREE. -/
def Queue.free : Queue := { Queue.one with mode := .free, management := false, context := 65535 }

/-- Queue `q`. -/
def State.queue (s : State) (q : Nat) : Queue := tgetD s.queues q Queue.free

/-- The state with a queue changed. -/
def State.modQueue (s : State) (q : Nat) (f : Queue → Queue) : State := { s with queues := tmod s.queues q f }

/-- A partition as it is at reset: empty, with the defaults of 07 R181. -/
def Partition.initial : Partition :=
  { chimeBase := 0, chimeCount := 0, almanacFirst := 0, almanacCount := 0, contextLimit := 0, youngBeats := 4,
    youngNotice := 65536, deadStrict := false }

/-- Partition `p`. -/
def State.partition (s : State) (p : Nat) : Partition := tgetD s.partitions p Partition.initial

/-- A function that is DISABLED. -/
def VFunction.initial : VFunction :=
  { mode := .disabled, firstQueue := 0, queueCount := 0, partitions := [], squashed := 0, freezeBeat := 0,
    imageBytes := 0, wasSaved := false, resuming := false, imageSpace := 0, imageAt := 0,
    imageLength := 0, imageReport := 0 }

/-- Function `f`. -/
def State.function (s : State) (f : Nat) : VFunction := tgetD s.functions f VFunction.initial

/-- The function that owns a partition: the virtual function that may use it, else physical function 0 (17 R393). -/
def State.ownerOf (s : State) (partition : Nat) : Nat :=
  match s.functions.find? fun f => f.2.partitions.contains partition with
  | some (f, _) => f
  | none => 0

/-! ### Function page counters (21 R490) -/

/-- COMMANDS_READ, COMMANDS_REFUSED and DOORBELL_DROPPED of a function's page changed. -/
def State.page (s : State) (f read refused dropped : Nat) : State :=
  let o := tgetD s.win.pages f (0, 0, 0)
  { s with win := { s.win with pages := tset s.win.pages f (o.1 + read, o.2.1 + refused, o.2.2 + dropped) } }

/-! ### Completion rings (11 R275, R276) -/

/-- The address of a ring can be written now (11 R281). -/
def State.ringOpen (s : State) (r : CRing) : Bool :=
  r.base != 0 && (!(isCoherent r.base) || s.cijan.mode == .up)

/-- A ring has room for a record (11 R276). -/
def CRing.room (r : CRing) : Bool := r.produced - r.consumed < 2 ^ r.log2Size

/-- LAP of the record with number `n` (11 R263). -/
def lapOf (n log2Size : Nat) : Nat := n / 2 ^ log2Size % 255 + 1

/-- A record with its LAP. -/
def withLap (bytes : List Byte) (lap : Nat) : List Byte := bytes.take 4 ++ leBytes 1 lap ++ bytes.drop 5

/-- One record written into a ring that has room: its 128-byte unit whole, and the interrupt once the unsignalled
records number IRQ_COUNT (11 R275, R276). -/
def State.putRecord (s : State) (function ring : Nat) (bytes : List Byte) : State :=
  let r := s.cring function ring
  let slot := r.produced % 2 ^ r.log2Size
  let rec1 := withLap bytes (lapOf r.produced r.log2Size)
  let unit := if slot % 4 = 0 then [rec1] else r.unit ++ [rec1]
  let s1 := s.sysWrite (r.base + 128 * (slot / 4)) (padTo 128 unit.flatten)
  let n := r.unsignalled + 1
  let due := r.irqCount != 0 && decide (r.irqCount ≤ n)
  let r1 := { r with
    produced := r.produced + 1
    unit
    unsignalled := if due then 0 else n
    oldestUnsignalled := if r.unsignalled = 0 then s.now else r.oldestUnsignalled }
  let s2 := s1.setCring function ring r1
  if due then s2.interrupt function r.vector else s2

/-- Waiting records of a ring are written in order while there is room (11 R276). -/
def State.flushRing (s : State) (function ring : Nat) : Nat → State
  | 0 => s
  | fuel + 1 =>
    let r := s.cring function ring
    match r.waiting with
    | [] => s
    | (_, b) :: rest =>
      if s.ringOpen r && r.room then
        ((s.setCring function ring { r with waiting := rest }).putRecord function ring b).flushRing function ring fuel
      else s

/-- A reply, or a notice, for a ring: written, or kept waiting; of notices at most 1,024 wait (11 R276). -/
def State.addRecord (s : State) (function ring : Nat) (notice : Bool) (bytes : List Byte) : State :=
  let r := s.cring function ring
  let f := s.function function
  let lossNotice := notice && leNat ((bytes.drop 2).take 2) == 0x000E && !f.wasSaved
  if f.mode == .resetting && !lossNotice then s
  else if s.ringOpen r && r.room && r.waiting.isEmpty then s.putRecord function ring bytes
  else if notice && decide (1024 ≤ (r.waiting.filter (·.1)).length) then
    let s1 := s.setCring function ring { r with noticesDropped := (r.noticesDropped + 1) % 2 ^ 32 }
    { s1 with win := { s1.win with noticesDropped := s1.win.noticesDropped + 1 } }.attend 17
  else s.setCring function ring { r with waiting := r.waiting ++ [(notice, bytes)] }

/-- A record that returns in a datagram of its queue, with its number (11 R277); replies are kept for duplicates. -/
def State.addDatagram (s : State) (q : Nat) (index : Option Nat) (bytes : List Byte) : State :=
  let k := s.queue q
  let b := withLap bytes (lapOf k.returned k.log2Size)
  let head := leBytes 2 1 ++ leBytes 2 1 ++ leBytes 4 q ++ leBytes 8 k.returned
  let s1 := s.modQueue q fun k =>
    { k with returned := k.returned + 1, recent := lastN 256 (k.recent ++ [(index.getD (2 ^ 64), k.returned, b)]) }
  s1.send ⟨.reply, k.peer.1, [q, k.returned, 1, k.peer.2], head ++ b⟩

/-! ### Records (11 R263, R266) -/

/-- A reply (11 Table 11-3) without LAP. -/
def replyBytes (status code context queue detail index result : Nat) : List Byte :=
  leBytes 2 status ++ leBytes 2 code ++ [0, 0] ++ leBytes 2 context ++ leBytes 4 queue ++ leBytes 4 detail ++
    leBytes 8 index ++ leBytes 8 result

/-- A notice (11 Table 11-3) without LAP. -/
def noticeBytes (status code context arg1 detail beat arg0 : Nat) : List Byte :=
  leBytes 2 status ++ leBytes 2 code ++ [0, 1] ++ leBytes 2 context ++ leBytes 4 arg1 ++ leBytes 4 detail ++
    leBytes 8 beat ++ leBytes 8 arg0

/-- Who receives a notice (11 R266). -/
inductive NoticeTo where
  | context (c : Nat) | partition (p : Nat) | companion | function (f : Nat)
deriving DecidableEq, Repr

/-- A notice of an event of the running beat (11 R266, Table 11-7). -/
def State.notice (s : State) (dest : NoticeTo) (code status context detail arg0 arg1 : Nat) : State :=
  let b := noticeBytes status code context arg1 detail s.beat.number arg0
  match dest with
  | .context c =>
    let k := s.context c
    match k.viaQueue with
    | some q => s.addDatagram q none b
    | none => s.addRecord k.function k.noticeRing true b
  | .partition p => s.addRecord (s.ownerOf p) 0 true b
  | .companion => s.addRecord 0 0 true b
  | .function f => s.addRecord f 0 true b

/-- QUEUE_BROKEN: a queue enters BROKEN (11 Table 11-11, R266 (e)). -/
def State.breakQueue (s : State) (q cause value : Nat) : State :=
  let k := s.queue q
  ((s.modQueue q fun k => { k with mode := .broken, leaf := false }).notice (.function k.function) 0x000F stOk
    k.context cause value q).attend 16

/-! ### Completion (11 R262) -/

/-- The device Chime that a packet's header names in its queue's namespace. -/
def Queue.deviceChime (k : Queue) (c : Nat) : Nat := k.chimeBase + c

/-- The OPCODE of a command (11 Table 11-8). -/
def opcodeOf : Op → Nat
  | .deviceNop => 0x0000 | .deviceQuery => 0x0001 | .undefinedOpcode c => c
  | .contextCreate => 0x0010 | .contextDestroy => 0x0011 | .contextQuery => 0x0012
  | .queueCreate => 0x0020 | .queueDestroy => 0x0021 | .queueStop => 0x0022 | .queueStart => 0x0023
  | .queueQuery => 0x0024 | .cringSet => 0x0028
  | .coreRetire => 0x0030 | .dieIntercalate => 0x0031 | .clockRecalibrate => 0x0032
  | .memAlloc => 0x1000 | .memFree => 0x1001 | .memQuery => 0x1002 | .dmaCopy => 0x1010
  | .tier1RegionSet => 0x1100 | .tier1Config => 0x1101 | .tier1Pin => 0x1110 | .tier1Unpin => 0x1111
  | .tier1Dead => 0x1120 | .tier1Counters => 0x1130 | .roInvalidate => 0x1140
  | .modelBegin => 0x2000 | .modelDescribe => 0x2001 | .modelCommit => 0x2002 | .modelAbort => 0x2003
  | .modelUnload => 0x2004 | .placeQuery => 0x2010 | .placeReplace => 0x2011
  | .seqOpen => 0x3000 | .seqAppend => 0x3001 | .seqSet => 0x3002 | .seqPause => 0x3003 | .seqResume => 0x3004
  | .seqTruncate => 0x3005 | .seqClose => 0x3006 | .seqQuery => 0x3007 | .seqPolicy => 0x3010
  | .kitCreate => 0x4000 | .kitDestroy => 0x4001 | .kitQuery => 0x4002 | .kitLaunch => 0x4010
  | .chimeInit => 0x5000 | .chimeSignal => 0x5001 | .chimeWait => 0x5002 | .chimeQuery => 0x5003
  | .chimeClear => 0x5004
  | .beatSetPeriod => 0x6001 | .almanacWrite => 0x6010 | .almanacRead => 0x6011 | .almanacArm => 0x6012
  | .almanacDisarm => 0x6013 | .timeSetSource => 0x6020 | .timeQuery => 0x6021 | .overrunSetPolicy => 0x6030
  | .pealForm => 0x7000 | .pealJoin => 0x7001 | .pealLeave => 0x7002 | .pealQuery => 0x7003 | .ringSend => 0x7010
  | .partitionSet => 0x8000 | .partitionQuery => 0x8001
  | .vfEnable => 0x8010 | .vfAssign => 0x8011 | .vfReset => 0x8012 | .vfFreeze => 0x8020 | .vfSave => 0x8021
  | .vfRestore => 0x8022 | .vfResume => 0x8023
  | .powerSetCap => 0x9000 | .powerQuery => 0x9001 | .thermalSetLimits => 0x9002 | .vigilEnter => 0x9010
  | .vigilWake => 0x9011
  | .eccDiagMode => 0xA010 | .eccRawWrite => 0xA011 | .eccRawRead => 0xA012 | .eccScrubSet => 0xA020
  | .eccDieMark => 0xA030 | .eccLogRead => 0xA040
  | .fwDeliver => 0xB000 | .fwLiveUpdate => 0xB001 | .stationFwUpdate => 0xB002 | .identityQuery => 0xB010
  | .attest => 0xB011 | .edgePrimaryMove => 0xB020

/-- Every command of 11 Table 11-8. -/
def allOps : List Op :=
  [.deviceNop, .deviceQuery, .contextCreate, .contextDestroy, .contextQuery, .queueCreate, .queueDestroy, .queueStop,
   .queueStart, .queueQuery, .cringSet, .coreRetire, .dieIntercalate, .clockRecalibrate, .memAlloc, .memFree, .memQuery,
   .dmaCopy, .tier1RegionSet, .tier1Config, .tier1Pin, .tier1Unpin, .tier1Dead, .tier1Counters, .roInvalidate, .modelBegin,
   .modelDescribe, .modelCommit, .modelAbort, .modelUnload, .placeQuery, .placeReplace, .seqOpen, .seqAppend, .seqSet,
   .seqPause, .seqResume, .seqTruncate, .seqClose, .seqQuery, .seqPolicy, .kitCreate, .kitDestroy, .kitQuery, .kitLaunch,
   .chimeInit, .chimeSignal, .chimeWait, .chimeQuery, .chimeClear, .beatSetPeriod, .almanacWrite, .almanacRead,
   .almanacArm, .almanacDisarm, .timeSetSource, .timeQuery, .overrunSetPolicy, .pealForm, .pealJoin, .pealLeave,
   .pealQuery, .ringSend, .partitionSet, .partitionQuery, .vfEnable, .vfAssign, .vfReset, .vfFreeze, .vfSave, .vfRestore,
   .vfResume, .powerSetCap, .powerQuery, .thermalSetLimits, .vigilEnter, .vigilWake, .eccDiagMode, .eccRawWrite,
   .eccRawRead, .eccScrubSet, .eccDieMark, .eccLogRead, .fwDeliver, .fwLiveUpdate, .identityQuery, .attest,
   .stationFwUpdate, .edgePrimaryMove]

/-- The command with an OPCODE. -/
def opOf (code : Nat) : Op := (allOps.find? fun o => opcodeOf o == code).getD (.undefinedOpcode code)

/-- A packet's flags. -/
def Packet.signal (p : Packet) : Bool := p.flags.getLsbD 0
def Packet.quiet (p : Packet) : Bool := p.flags.getLsbD 1
def Packet.barrier (p : Packet) : Bool := p.flags.getLsbD 2

/-- A command completes: its status record (unless QUIET and ST_OK), then its header Chime on its way with CHIME_VALUE,
and with the status as error status if it is not ST_OK (11 R262). -/
def State.complete (s : State) (c : Command) (status detail result : Nat) : State :=
  let k := s.queue c.queue
  let s1 := { s with commands := s.commands.filter (·.id != c.id) }
  let b := replyBytes status (opcodeOf c.op) c.context c.queue detail c.index result
  let s2 :=
    if c.packet.quiet && status == stOk then s1
    else if k.management then s1.addDatagram c.queue (some c.index) b
    else s1.addRecord k.function k.completionRing false b
  if c.packet.signal then
    { s2 with signals := s2.signals ++
        [{ chime := k.deviceChime c.packet.chime.toNat, value := c.packet.chimeValue, error := status, source := 0 }] }
  else s2

/-- The outstanding command with an identifier. -/
def State.command (s : State) (id : Nat) : Option Command := s.commands.find? (·.id == id)

/-- A command completes by its identifier. -/
def State.completeId (s : State) (id status detail result : Nat) : State :=
  match s.command id with
  | some c => s.complete c status detail result
  | none => s

/-- Every outstanding command that `f` names completes with ST_OK and its RESULT. -/
def State.completeWhere (s : State) (f : Command → Bool) : State :=
  (s.commands.filter f).foldl (fun s c => s.complete c stOk 0 c.result) s

/-- An outstanding command waits for something else. -/
def State.setWait (s : State) (id : Nat) (w : Wait) : State :=
  { s with commands := s.commands.map fun c => if c.id = id then { c with wait := w } else c }

/-! ### Chimes (12 R298 to R301) -/

/-- Serial comparison of 12 R298: `reached`. -/
def reached (counter target : U64) : Bool := (counter - target).toNat < 2 ^ 63

/-- A waiter is released: a group takes ERROR into DST of its executing threads and goes on (12 R301); a CHIME_WAIT
completes, with the error status if there is one. -/
def State.releaseWaiter (s : State) (error : Nat) (w : ChimeWaiter) : State :=
  match w.waiter with
  | .group core group =>
    s.modGroup core group fun g =>
      match g.wait with
      | .chime _ _ dst mask =>
        { g.write dst mask fun _ => BitVec.ofNat 32 error with wait := .none, readySince := s.now, pc := g.pc + 8 }
      | _ => g
  | .command id => s.completeId id error 0 0

/-- The waiters of a Chime that `f` names are released, in order of arrival. -/
def State.releaseWaiters (s : State) (c : Nat) (f : ChimeWaiter → Bool) : State :=
  let gone (w : ChimeWaiter) : Bool := w.chime == c && f w
  let s1 := { s with waiters := s.waiters.filter fun w => !gone w }
  (s.waiters.filter gone).foldl (fun s w => s.releaseWaiter (s.chime c).error w) s1

/-- set_error of 12 R298. -/
def State.setError (s : State) (c status : Nat) : State :=
  let h := s.chime c
  let s1 := if h.error = 0 then s.setChime c { h with error := status } else s
  s1.releaseWaiters c fun _ => true

/-- chime_signal of 12 R298. -/
def State.signalChime (s : State) (c : Nat) (v : U64) : State :=
  let h := s.chime c
  let d := (v - h.counter).toNat
  if d = 0 ∨ 2 ^ 63 ≤ d then
    let s1 := s.setChime c { h with lowCount := min (h.lowCount + 1) 0xFFFF }
    { s1 with win := { s1.win with chimeLowTotal := s1.win.chimeLowTotal + 1 } }
  else if 2 ^ 62 < d then s.setError c stBadParam
  else (s.setChime c { h with counter := v }).releaseWaiters c fun w => reached v w.target

/-- A signal arrives at its Chime: the value, then an error status (11 R262). -/
def State.applySignal (s : State) (g : Signal) : State :=
  let s1 := s.signalChime g.chime g.value
  if g.error ≠ 0 then s1.setError g.chime g.error else s1

/-- A signal is issued; it is applied when it arrives (12 R300). -/
def State.issueSignal (s : State) (chime : Nat) (value : U64) (source : Nat) : State :=
  { s with signals := s.signals ++ [{ chime, value, error := 0, source }] }

/-- The wait of a waiter is over already (12 R300). -/
def State.chimeReady (s : State) (c : Nat) (target : U64) : Bool :=
  (s.chime c).error != 0 || reached (s.chime c).counter target

/-! ### Lookups over tables -/

/-- Kit `k`. -/
def State.kit (s : State) (k : Nat) : Option Kit := tget s.kits k

/-- The state with a Kit changed. -/
def State.modKit (s : State) (k : Nat) (f : Kit → Kit) : State := { s with kits := tmod s.kits k f }

/-- Sequence `q`. -/
def State.seq (s : State) (q : Nat) : Option Sequence := tget s.sequences q

/-- The state with a Sequence changed. -/
def State.modSeq (s : State) (q : Nat) (f : Sequence → Sequence) : State := { s with sequences := tmod s.sequences q f }

/-- The launched list with an identifier. -/
def State.list (s : State) (id : Nat) : Option WorkList := s.lists.find? (·.id == id)

/-- The state with a list changed. -/
def State.modList (s : State) (id : Nat) (f : WorkList → WorkList) : State :=
  { s with lists := s.lists.map fun l => if l.id = id then f l else l }

/-- The state with an object changed. -/
def State.modObject (s : State) (i : Nat) (f : Object → Object) : State := { s with objects := tmod s.objects i f }

/-- The state with a Context changed. -/
def State.modContext (s : State) (c : Nat) (f : Context → Context) : State := { s with contexts := tmod s.contexts c f }

/-- The state with a function changed. -/
def State.modFunction (s : State) (f : Nat) (g : VFunction → VFunction) : State :=
  { s with functions := tupd s.functions f VFunction.initial g }

/-- Kits of a Context, in any state but free (12 Table 12-2). -/
def State.kitsOf (s : State) (ctx : Nat) : List Nat := (s.kits.filter fun k => k.2.context == ctx).map (·.1)
/-- Queues of a Context that are not FREE. -/
def State.queuesOf (s : State) (ctx : Nat) : List Nat :=
  (s.queues.filter fun q => q.2.context == ctx && q.2.mode != .free).map (·.1)
/-- Sequences of a Context that are not FREE. -/
def State.seqsOf (s : State) (ctx : Nat) : List Nat :=
  (s.sequences.filter fun q => q.2.context == ctx && q.2.mode != .free).map (·.1)
/-- Objects of a Context that are not FREE. -/
def State.objectsOf (s : State) (ctx : Nat) : List Nat :=
  (s.objects.filter fun o => o.2.context == ctx && o.2.mode != .free).map (·.1)
/-- Chimes whose CONTEXT names a Context. -/
def State.chimesOf (s : State) (ctx : Nat) : List Nat := (s.chimes.filter fun c => c.2.context == ctx).map (·.1)

/-- Outstanding commands of a queue, without one of them. -/
def State.outstanding (s : State) (q except : Nat) : Nat :=
  (s.commands.filter fun c => c.queue == q && c.id != except).length

end Sys2Proof.Machine
end

