-- ==== Sys2Proof/Machine/Command.lean ====
section
/-!
DEFINITION. How a command packet is read, judged and started (11 R259 to R262, R268 to R270, R278 to R282), whatever its
effect is: the effects are in the files of their families.
-/
namespace Sys2Proof.Machine
open Sys2Proof

/-- What a command comes to when it is started (11 R262, R269). -/
inductive Verdict where
  /-- It completes with ST_OK and a RESULT. -/
  | done (s : State) (result : Nat)
  /-- It has had effects and completes with another status. -/
  | fail (s : State) (status detail result : Nat)
  /-- It is refused, with no side effect: status, DETAIL, RESULT. -/
  | refuse (status detail result : Nat)
  /-- It stays outstanding; RESULT is what it returns when it completes with ST_OK. -/
  | defer (s : State) (wait : Wait) (result : Nat)

/-- A command as its effect sees it: the outstanding command and its queue. -/
structure Call where
  cmd : Command
  queue : Queue

/-- Parameter `k`. -/
def Call.arg (c : Call) (k : Nat) : Nat := param c.cmd.op c.cmd.packet k
/-- Function, partition and Context of the queue. -/
def Call.function (c : Call) : Nat := c.queue.function
def Call.partition (c : Call) : Nat := c.queue.partition
def Call.context (c : Call) : Nat := c.queue.context
/-- The physical function issues the command. -/
def Call.physical (c : Call) : Bool := c.queue.function == 0

/-- ST_BAD_PARAM naming parameter `k` (11 Table 11-4). -/
def Call.bad (c : Call) (k : Nat) : Verdict := .refuse stBadParam (paramAt c.cmd.op k) 0
/-- ST_BAD_PARAM in a parameter block. -/
def badBlock (offset : Nat) : Verdict := .refuse stBadParam 0xFF offset
/-- ST_STATE_CONFLICT (11 Table 11-4): object kind and STATE; RESULT is the current beat. -/
def State.conflict (s : State) (kind state : Nat) : Verdict :=
  .refuse stStateConflict (state + kind * 2 ^ 16 + 0xFFF * 2 ^ 20) s.beat.number
/-- ST_STATE_CONFLICT naming the member that holds a role (11 Table 11-4, kind Ah). -/
def State.roleConflict (s : State) (coordinate : Nat) : Verdict :=
  .refuse stStateConflict (0xA * 2 ^ 16 + coordinate % 4096 * 2 ^ 20) s.beat.number
/-- Any other refusal. -/
def plain (status : Nat) : Verdict := .refuse status 0 0

/-! ### Permission (11 Table 11-9) and the orders of masters (11 Table 11-14) -/

/-- Group of an OPCODE. -/
def opGroup (op : Op) : Nat := opcodeOf op / 4096

/-- The function may issue the command (11 Table 11-9). -/
def permitted (op : Op) (function : Nat) : Bool :=
  function == 0 ||
  match op with
  | .deviceNop | .deviceQuery | .contextCreate | .contextDestroy | .contextQuery | .queueCreate | .queueDestroy
  | .queueStop | .queueStart | .queueQuery | .cringSet => true
  | .almanacWrite | .almanacRead | .timeQuery | .overrunSetPolicy | .powerQuery | .identityQuery | .attest => true
  | .undefinedOpcode _ => true
  | o => 1 ≤ opGroup o && opGroup o ≤ 5

/-- The command changes some object (11 R282). -/
def changes : Op → Bool
  | .deviceNop | .deviceQuery | .undefinedOpcode _ | .queueQuery | .contextQuery | .memQuery | .tier1Counters
  | .placeQuery | .seqQuery | .kitQuery | .chimeWait | .chimeQuery | .almanacRead | .timeQuery | .pealQuery
  | .partitionQuery | .powerQuery | .eccRawRead | .eccLogRead | .identityQuery | .attest => false
  | _ => true

/-- KIT_ID of a peal Kit: bit 27 (03 R59). -/
def isPealKit (k : Nat) : Bool := bit k 27

/-- The order of masters for a command: 0 companion, 1 rack manager, 2 peal leader (11 Table 11-14). -/
def State.masterOrder (s : State) (op : Op) (kit : Nat) : List Nat :=
  match opGroup op with
  | 1 | 3 | 4 | 5 | 6 => [0, 1]
  | 9 => [1, 0]
  | 2 =>
    if isPealKit kit then [2, 0, 1]
    else if (op = .modelCommit ∨ op = .placeReplace) ∧ s.peal.reservations ≠ [] then [2, 0, 1]
    else [0, 1]
  | _ => []

/-- Master of a queue. -/
def Queue.master (q : Queue) : Nat := if q.management then 1 else 0

/-- The objects that a command names, by kind and number (11 R282): kinds as 11 Table 11-5, 0 for device-wide settings,
and 16 for Almanac entries, 17 partitions, 18 units of Kits. -/
def State.named (s : State) (op : Op) (q : Queue) (p : Packet) : List (Nat × Nat) :=
  let a := param op p
  match op with
  | .memAlloc => [(2, a 0)]
  | .memFree | .memQuery | .tier1Pin | .tier1Unpin => [(3, a 0)]
  | .tier1Dead =>
    if a 0 = 0 then (granulesOf (a 1) (a 2)).map fun g => (8, g) else [(3, a 0)]
  | .dmaCopy =>
    let d := s.sysRead (a 0) 64
    ([field d 24 8, field d 32 8].filter (· != 0)).map fun h => (3, h)
  | .tier1RegionSet => (List.range (min (a 1) 2048)).map fun i => (8, a 0 + i)
  | .tier1Config | .tier1Counters => [(17, a 0)]
  | .roInvalidate | .modelBegin | .modelDescribe | .modelCommit | .modelAbort | .modelUnload | .placeQuery
  | .placeReplace | .seqOpen | .seqPolicy | .kitDestroy | .kitQuery | .kitLaunch | .overrunSetPolicy => [(5, a 0)]
  | .seqAppend | .seqSet | .seqPause | .seqResume | .seqTruncate | .seqClose | .seqQuery => [(6, a 0)]
  | .kitCreate =>
    let b := s.sysRead (a 0) 64
    let n := min (field b 14 2) 4096
    [(5, field b 0 4), (2, field b 8 2), (1, field b 16 4)] ++
      (if field b 4 4 = 0xFFFFFFFF then [] else [(5, field b 4 4)]) ++
      (List.range n).map fun i => (18, field (s.sysRead (field b 48 8 + 4 * i) 4) 0 4)
  | .chimeInit | .chimeClear => (List.range (min (a 1) 65536)).map fun i => (4, q.deviceChime (a 0 + i))
  | .chimeSignal | .chimeWait | .chimeQuery => [(4, q.deviceChime (a 0))]
  | .beatSetPeriod => [(0, 3)]
  | .almanacWrite | .almanacRead => (List.range (min (a 1) 65536)).map fun i => (16, a 0 + i)
  | .almanacArm => [(0, 1), (0, 2)]
  | .almanacDisarm => [(0, 2)]
  | .timeSetSource => [(0, 7)]
  | .powerSetCap => [(0, 4)]
  | .thermalSetLimits => [(0, 5)]
  | .vigilEnter | .vigilWake => [(0, 6)]
  | _ => []

/-- KIT_ID that a command of group 2h names. -/
def kitOfCommand (op : Op) (p : Packet) : Nat := if opGroup op = 2 then param op p 0 else 0

/-- Two lists of objects have one in common. -/
def sharesObject (a b : List (Nat × Nat)) : Bool := a.any fun x => b.contains x

/-- The command comes from a master that is not first in its kind's order, and changes some object (11 R282). -/
def State.mustHold (s : State) (c : Command) (q : Queue) : Bool :=
  changes c.op &&
    match s.masterOrder c.op (kitOfCommand c.op c.packet) with
    | [] => false
    | m :: _ => m != q.master

/-- A held command of the same queue names the same object (11 R282). -/
def State.heldBehind (s : State) (c : Command) (q : Queue) : Bool :=
  let n := s.named c.op q c.packet
  s.commands.any fun o =>
    o.queue == c.queue && o.wait == .held && o.id != c.id && sharesObject n (s.named o.op q o.packet)

/-- The winner over a held command among the commands read in the same beat, if any (11 R282). -/
def State.contradicted (s : State) (c : Command) (q : Queue) : Option Nat :=
  let order := s.masterOrder c.op (kitOfCommand c.op c.packet)
  let rank (m : Nat) : Nat := (order.findIdx? (· == m)).getD 9
  let n := s.named c.op q c.packet
  if changes c.op then (s.namedReads.find? fun r => decide (rank r.master < rank q.master) && sharesObject n r.objects).map (·.master)
  else none

/-! ### Judgement (11 R269, R270) -/

/-- The commands that a lost Context of the queue does not stop (11 R270); KIT_DESTROY and SEQ_CLOSE of an object that is
lost are accepted by its state table. -/
def State.lossExempt (s : State) (c : Command) : Bool :=
  match c.op with
  | .contextDestroy | .contextQuery | .queueDestroy => true
  | .kitDestroy => (s.kit (param c.op c.packet 0)).any fun k => k.mode == .lost
  | .seqClose => (s.seq (param c.op c.packet 0)).any fun q => q.mode == .lost
  | _ => false

/-- Packet offset of the first field of the packet that is refused as malformed (11 R259, R260). -/
def malformed (c : Command) : Option Nat :=
  match reservedHeader c.packet with
  | some o => some o
  | none =>
    match c.op with
    | .undefinedOpcode _ => none
    | op => reservedParam op c.packet

/-- The verdict on a command: its effect's own, with the general refusals put where 11 R269 ranks them. -/
def judge (effect : Call → State → Verdict) (k : Call) (s : State) : Verdict :=
  match k.cmd.op with
  | .undefinedOpcode _ => plain stBadOpcode
  | op =>
    if !(permitted op k.function) then plain stNotPermitted
    else
      let v := effect k s
      match v with
      | .refuse st d r =>
        if st = stNotPermitted then v
        else
          match malformed k.cmd with
          | some o => .refuse stBadParam (if st = stBadParam ∧ d < o then d else o)
              (if st = stBadParam ∧ d < o then r else 0)
          | none =>
            if st = stBadParam ∨ st = stNarrowWrite then v
            else if s.lostContext k.context ∧ !(s.lossExempt k.cmd) then plain stContextLost
            else v
      | _ =>
        match malformed k.cmd with
        | some o => .refuse stBadParam o 0
        | none => if s.lostContext k.context ∧ !(s.lossExempt k.cmd) then plain stContextLost else v

/-- The outcome of a verdict for an outstanding command. -/
def State.conclude (s : State) (c : Command) : Verdict → State
  | .done s' r => s'.complete c stOk 0 r
  | .fail s' st d r => s'.complete c st d r
  | .refuse st d r => (s.page (s.queue c.queue).function 0 1 0).complete c st d r
  | .defer s' w r =>
    { s' with commands := s'.commands.map fun o => if o.id = c.id then { o with wait := w, result := r } else o }

/-- What a command that changes something names, noted for the beat (11 R282); a refused command changes nothing. -/
def State.noted (s : State) (c : Command) (q : Queue) : Verdict → List NamedRead
  | .refuse _ _ _ => []
  | _ => if changes c.op then [{ master := q.master, objects := s.named c.op q c.packet }] else []

/-- An outstanding command starts. -/
def State.start (effectOf : Op → Call → State → Verdict) (s : State) (c : Command) : State :=
  let q := s.queue c.queue
  let v := judge (effectOf c.op) ⟨c, q⟩ s
  let note := s.noted c q v
  let s1 := s.conclude c v
  { s1 with namedReads := s1.namedReads ++ note }

/-- A command that has been read starts, waits for release, or is held (20 R459, 11 R278 (b), R282). -/
def State.admitCommand (effectOf : Op → Call → State → Verdict) (s : State) (c : Command) : State :=
  let q := s.queue c.queue
  if !s.boot.released && opGroup c.op != 0xB then s.setWait c.id .release
  else if s.mustHold c q || s.heldBehind c q then s.setWait c.id .held
  else s.start effectOf c

/-! ### Reading (11 R268, R276, R278, R281) -/

/-- The control cores read packets: an edge die is primary, not in Vigil, not restarting (20 R468 (c), 18 Table 18-5). -/
def State.reading (s : State) : Bool :=
  s.boot.stage1 && !s.fail.stopped && s.power.vigil != .vigil && s.power.vigil != .waking &&
    !((s.boot.liveUpdate.bind (·.restartedAt)).isSome)

/-- Address of a packet slot (11 R271). -/
def Queue.slot (q : Queue) (i : Nat) : Nat := q.ringBase + 64 * (i % 2 ^ q.log2Size)

/-- Sirmo may read the packet at HEAD of the queue: the queue is ACTIVE with a packet, no CHIME_WAIT holds it, its
completion ring takes records, and its ring can be reached. -/
def State.readable (s : State) (q : Queue) (qn : Nat) : Bool :=
  s.reading && q.mode == .active && decide (q.head < q.tail) &&
    (q.function == 0 || (s.function q.function).mode == .enabled) &&
    !(s.commands.any fun c => c.queue == qn && c.op == .chimeWait) &&
    (q.management || (let r := s.cring q.function q.completionRing; r.base != 0 && r.room && r.waiting.isEmpty)) &&
    (q.management || !(isCoherent q.ringBase) || s.cijan.mode == .up)

/-- The packet at HEAD cannot be read: cause of QUEUE_BROKEN (11 Table 11-11). -/
def State.unreadable (s : State) (q : Queue) : Option Nat :=
  if q.management then none
  else if isCoherent q.ringBase then
    if (s.window q.partition (q.slot q.head) 64).any (·.read) then none else some 3
  else if s.poisonedAt (q.slot q.head) 64 then some 2
  else none

/-- Sirmo reads the packet at HEAD of queue `qn`, checks it and starts it (11 R278 (a)). -/
def State.runCommand (effectOf : Op → Call → State → Verdict) (s : State) (op : Op) (qn : Nat) (p : Packet) : State :=
  let q := s.queue qn
  if !s.readable q qn then s
  else
    match s.unreadable q with
    | some cause => s.breakQueue qn cause q.head
    | none =>
      let s1 := s.modQueue qn fun k => { k with head := k.head + 1, leaf := decide (k.head + 1 < k.tail) }
      if !s.boot.verified && opGroup op != 0xB then
        { s1 with win := { s1.win with mgmtDropped := s1.win.mgmtDropped + 1 } }
      else
        let c : Command :=
          { id := s.nextId, queue := qn, index := q.head, op, packet := p, wait := .barrier,
            readBeat := s.beat.number, readAt := s.now, beforeBuild := !s.beat.building, result := 0,
            context := q.context }
        let s2 := ({ s1 with nextId := s.nextId + 1, commands := s1.commands ++ [c] }).page q.function 1 0 0
        if p.barrier && s.commands.any (fun o => o.queue == qn) then s2
        else s2.admitCommand effectOf c

end Sys2Proof.Machine
end

