-- ==== Sys2Proof/Machine/QueueCommands.lean ====
section
/-!
DEFINITION. Effects of the commands of queues, completion rings and Contexts, and of DEVICE_NOP (11 R267, R271 to R275, 12
R286 to R288).
-/
namespace Sys2Proof.Machine
open Sys2Proof

/-- The first refusal whose condition holds, else the given verdict. -/
def guards (l : List (Bool × Verdict)) (v : Verdict) : Verdict :=
  match l with
  | [] => v
  | (c, r) :: t => if c then r else guards t v

/-- A block or result named by parameter `k` breaks 11 R261 (a) or (b); an address among coherent windows is tested against
the windows only while the domain is up. -/
def Call.blockBad (c : Call) (s : State) (k n align : Nat) : Bool :=
  let a := c.arg k
  a % align != 0 ||
    if isCoherent a && s.cijan.mode != .up then false else !(s.nameable false c.partition a n)

/-- Parameter `k` names a coherent window while the domain is down (11 R281). -/
def Call.domainDown (c : Call) (s : State) (k : Nat) : Bool := isCoherent (c.arg k) && s.cijan.mode != .up

/-- The refusals of a result address of `n` bytes in parameter `k` (11 R261, R281). -/
def Call.resultGuards (c : Call) (s : State) (k n : Nat) : List (Bool × Verdict) :=
  [(c.blockBad s k ((n + 127) / 128 * 128) 128, c.bad k), (c.domainDown s k, plain stCoherentDown)]

/-- The result of a command written at the address in parameter `k`, and completion (11 R261 (b)). -/
def Call.result (c : Call) (s : State) (k : Nat) (bytes : List Byte) (ret : Nat := 0) : Verdict :=
  .done (s.writeResult (c.arg k) bytes) ret

/-- A reply datagram of its own with a result (20 R472, 21 R491). -/
def State.resultDatagram (s : State) (q : Nat) (bytes : List Byte) : State :=
  let k := s.queue q
  let head := leBytes 2 1 ++ leBytes 2 1 ++ leBytes 4 q ++ leBytes 8 k.returned
  s.send ⟨.reply, k.peer.1, [q, k.returned, 1, k.peer.2], head ++ bytes⟩

/-! ### State codes (11 Table 11-5) -/

def QueueMode.code : QueueMode → Nat
  | .free => 0 | .active => 1 | .stopped => 2 | .broken => 3 | .draining => 4
def ContextMode.code : ContextMode → Nat
  | .free => 0 | .active => 1 | .lost => 2 | .destroying => 3
def ObjectMode.code : ObjectMode → Nat
  | .free => 0 | .live => 1 | .bound => 2 | .retiring => 3
def KitMode.code : KitMode → Nat
  | .created => 1 | .loading => 2 | .placing => 3 | .admitted => 4 | .unloading => 5 | .retiring => 6 | .lost => 7
def GranuleMode.code : GranuleMode → Nat
  | .cache => 0 | .flushing => 1 | .scratch => 2
def FunctionMode.code : FunctionMode → Nat
  | .disabled => 0 | .enabled => 1 | .freezing => 2 | .frozen => 3 | .saving => 4 | .saved => 5 | .restoring => 6
  | .resetting => 7
def AlmanacMode.code : AlmanacMode → Nat
  | .disarmed => 0 | .arming => 1 | .armed => 2

/-! ### Ranges of functions -/

/-- Queue `q` lies in the range of a function (17 R394). -/
def State.inRange (s : State) (function q : Nat) : Bool :=
  let inside (f : Nat × VFunction) : Bool :=
    decide (f.2.firstQueue ≤ q) && decide (q < f.2.firstQueue + f.2.queueCount)
  if function = 0 then !(s.functions.any inside)
  else (tget s.functions function).any fun f => inside (function, f)

/-- A function may use a partition (17 R393). -/
def State.usable (s : State) (function partition : Nat) : Bool :=
  function == 0 || (s.function function).partitions.contains partition

/-- A function exists and is ENABLED; function 0 always is (17 R396). -/
def State.functionMode (s : State) (f : Nat) : FunctionMode := if f = 0 then .enabled else (s.function f).mode

/-- A virtual function names a queue outside its range (11 R268). -/
def Call.queueDenied (c : Call) (s : State) (q : Nat) : Bool := !c.physical && !(s.inRange c.function q)

/-- The Chime range of a partition (12 R284): partition 0 has all. -/
def State.chimeRange (s : State) (p : Nat) : Nat × Nat :=
  if p = 0 then (0, 4194304) else ((s.partition p).chimeBase, (s.partition p).chimeCount)

/-- A Chime range lies inside a partition's (12 R284). -/
def State.chimesInside (s : State) (p base count : Nat) : Bool :=
  let r := s.chimeRange p
  decide (r.1 ≤ base) && decide (base + count ≤ r.1 + r.2)

/-! ### DEVICE_NOP and queues -/

/-- DEVICE_NOP (11 R267). -/
def deviceNopEffect (_ : Call) (s : State) : Verdict := .done s 0

/-- Packets with an undefined OPCODE are refused before any effect (11 R267). -/
def undefinedOpcodeEffect (_ : Call) (_ : State) : Verdict := plain stBadOpcode

/-- The lowest FREE queue in the range of a function, for QUEUE_CREATE with QUEUE FFFFFFFFh (11 R271, 17 R394). -/
def State.lowestFreeQueue (s : State) (f : Nat) : Option Nat :=
  firstFrom (fun i => (tget s.queues i).isNone && s.inRange f i) (if f = 0 then 0 else (s.function f).firstQueue)
    (if f = 0 then s.queues.length + (s.functions.map (·.2.queueCount)).sum + 1 else (s.function f).queueCount)

/-- QUEUE_CREATE (11 R267, R268, R271, R272). -/
def queueCreateEffect (c : Call) (s : State) : Verdict :=
  let (q, lg, itf, weight) := (c.arg 0, c.arg 1, c.arg 2, c.arg 3)
  let (ring, base, ctx, f) := (c.arg 4, c.arg 5, c.arg 6, c.arg 7)
  let (cb, cc) := (c.arg 8, c.arg 9)
  let k := s.context ctx
  let chosen := if q = 0xFFFFFFFF then s.lowestFreeQueue f else some q
  guards
    [(!c.physical && (f != c.function || (q != 0xFFFFFFFF && !(s.inRange c.function q))), plain stNotPermitted),
     (!c.physical && k.mode != .free && k.function != c.function, plain stNotPermitted),
     (q != 0xFFFFFFFF && (decide (1048576 ≤ q) || !(s.inRange f q)), c.bad 0),
     (decide (lg < 4) || decide (16 < lg) || (itf == 1 && decide (10 < lg)), c.bad 1),
     (decide (1 < itf) || (itf == 1 && f != 0), c.bad 2),
     (decide (weight < 1) || decide (64 < weight), c.bad 3),
     (decide (31 < ring), c.bad 4),
     (if itf = 1 then base != 0 else base % 4096 != 0 || (k.mode != .free &&
       !(s.nameable false k.partition base (64 * 2 ^ lg))), c.bad 5),
     (k.mode != .free && k.function != f && ctx != 65535, c.bad 6),
     (decide (4095 < f), c.bad 7),
     (k.mode != .free && !(s.chimesInside k.partition cb cc), c.bad 8),
     (decide (cc < 1) || decide (4194304 < cc), c.bad 9),
     (s.lostContext ctx, plain stContextLost),
     (k.mode != .active, s.conflict 2 k.mode.code),
     (q != 0xFFFFFFFF && (tget s.queues q).isSome, s.conflict 1 (s.queue q).mode.code),
     (chosen.isNone || (itf == 1 && decide (256 ≤ (s.queues.filter (·.2.management)).length)), plain stNoSpace)]
    (let n := chosen.getD 0
     let e : Queue :=
      { ringBase := base, head := 0, tail := 0, kit := 0xFFFFFFFF, context := ctx, partition := k.partition,
        log2Size := lg, function := f, completionRing := ring, mode := .active, chimeBase := cb, chimeCount := cc,
        ownChimeBase := cb, ownChimeCount := cc, weight, management := itf == 1, leaf := false, returned := 0,
        recent := [], peer := c.queue.peer }
     .done { s with queues := tset s.queues n e } n)

/-- A queue is bound to a Kit. -/
def Queue.bound (q : Queue) : Bool := q.kit != 0xFFFFFFFF

/-- The refusals of a command that names a queue in parameter 0 (11 R268). -/
def Call.queueGuards (c : Call) (s : State) : List (Bool × Verdict) :=
  [(c.queueDenied s (c.arg 0), plain stNotPermitted), (decide (1048576 ≤ c.arg 0), c.bad 0)]

/-- The queue that parameter 0 names belongs to a lost Context (11 R270). -/
def Call.queueLost (c : Call) (s : State) : List (Bool × Verdict) :=
  [((s.queue (c.arg 0)).mode != .free && s.lostContext (s.queue (c.arg 0)).context, plain stContextLost)]

/-- QUEUE_DESTROY (11 Table 11-11); it completes when nothing else of the queue is outstanding. -/
def queueDestroyEffect (c : Call) (s : State) : Verdict :=
  let q := c.arg 0
  let k := s.queue q
  guards (c.queueGuards s ++
    [(k.mode == .free || k.mode == .draining || k.bound, s.conflict 1 k.mode.code)])
    (.defer (if s.outstanding q c.cmd.id = 0 then s else s.modQueue q fun k => { k with mode := .draining, leaf := false })
      (.queueDestroy q) 0)

/-- QUEUE_STOP (11 Table 11-11). -/
def queueStopEffect (c : Call) (s : State) : Verdict :=
  let k := s.queue (c.arg 0)
  guards (c.queueGuards s ++ c.queueLost s ++ [(k.mode != .active, s.conflict 1 k.mode.code)])
    (.done (s.modQueue (c.arg 0) fun k => { k with mode := .stopped, leaf := false }) 0)

/-- QUEUE_START (11 Table 11-11). -/
def queueStartEffect (c : Call) (s : State) : Verdict :=
  let k := s.queue (c.arg 0)
  guards (c.queueGuards s ++ c.queueLost s ++ [(k.mode != .stopped && k.mode != .broken, s.conflict 1 k.mode.code)])
    (.done (s.modQueue (c.arg 0) fun k => { k with mode := .active, head := c.arg 1, tail := c.arg 1 }) 0)

/-- The 64 bytes of a queue descriptor (11 Table 11-10). -/
def State.queueBytes (s : State) (q : Nat) : List Byte :=
  let k := s.queue q
  leBytes 8 k.ringBase ++ leBytes 8 k.head ++ leBytes 8 k.tail ++ leBytes 4 k.kit ++ leBytes 2 k.context ++
    leBytes 1 k.partition ++ leBytes 1 k.log2Size ++ leBytes 2 k.function ++ leBytes 1 k.completionRing ++
    leBytes 1 k.mode.code ++ leBytes 4 k.chimeBase ++ leBytes 4 k.chimeCount ++ leBytes 1 k.weight ++
    leBytes 1 (b2n k.management) ++ zeros 2 ++ leBytes 8 (s.outstanding q 0) ++ zeros 8

/-- QUEUE_QUERY (11 R267): a FREE queue's descriptor is zeros but for KIT_ID. -/
def queueQueryEffect (c : Call) (s : State) : Verdict :=
  guards (c.queueGuards s ++ [(c.blockBad s 1 128 128, c.bad 1)] ++ c.queueLost s ++
      [(c.domainDown s 1, plain stCoherentDown)]) (c.result s 1 (s.queueBytes (c.arg 0)))

/-! ### Completion rings -/

/-- The first namer of a completion ring: lowest queue, then lowest Context (11 R275). -/
def State.ringNamer (s : State) (f ring : Nat) : Option (Nat × Nat) :=
  match s.queues.find? fun q =>
      q.2.mode != .free && !q.2.management && q.2.function == f && q.2.completionRing == ring with
  | some q => some (1, q.2.mode.code)
  | none =>
    match s.contexts.find? fun k =>
        k.2.mode != .free && k.2.viaQueue.isNone && k.2.function == f && k.2.noticeRing == ring with
    | some k => some (2, k.2.mode.code)
    | none => none

/-- CRING_SET (11 R275): PRODUCED and CONSUMED return to 0; held notices are kept and written to the ring as set. -/
def cringSetEffect (c : Call) (s : State) : Verdict :=
  let (f, ring, lg) := (c.arg 0, c.arg 1, c.arg 2)
  let base := c.arg 6
  let r := s.cring f ring
  let at_ := (List.range 64).any fun p => s.usable f p && s.nameable false p base (32 * 2 ^ lg)
  guards
    [(!c.physical && f != c.function, plain stNotPermitted),
     (decide (4095 < f), c.bad 0), (decide (31 < ring), c.bad 1), (decide (lg < 6) || decide (16 < lg), c.bad 2),
     (base != 0 && (base % 128 != 0 || !at_), c.bad 6),
     (decide (r.consumed < r.produced) && (s.ringNamer f ring).isSome,
      let n := (s.ringNamer f ring).getD (0, 0)
      s.conflict n.1 n.2)]
    (let r1 : CRing :=
      { r with
        base, produced := 0, consumed := 0, log2Size := lg, irqCount := c.arg 3, irqDelay := c.arg 4,
        vector := c.arg 5, unsignalled := 0, unit := [] }
     .done ((s.setCring f ring r1).flushRing f ring (r.waiting.length + 1)) 0)

/-! ### Contexts -/

/-- Contexts of a partition that are not FREE, the device Context left out. -/
def State.contextCount (s : State) (p : Nat) : Nat :=
  (s.contexts.filter fun k => k.2.partition == p && k.2.mode != .free && k.1 != 65535).length

/-- CONTEXT_CREATE (12 Table 12-3). -/
def contextCreateEffect (c : Call) (s : State) : Verdict :=
  let (f, p, ring) := (c.arg 0, c.arg 1, c.arg 2)
  let mode := s.functionMode f
  let enabled := mode == .enabled
  let n := tfree s.contexts 0
  let pending := s.partitionChanges.find? (·.partition == p)
  guards
    [(!c.physical && f != c.function, plain stNotPermitted),
     (decide (4095 < f), c.bad 0),
     (decide (63 < p) || (enabled && !(s.usable f p)), c.bad 1),
     (decide (31 < ring) || (enabled && !c.queue.management && (s.cring f ring).base == 0), c.bad 2),
     (!enabled, s.conflict 9 mode.code),
     (pending.any fun x => decide (x.contextLimit ≤ s.contextCount p), s.conflict 0 0),
     (decide (65535 ≤ n) || (p != 0 && decide ((s.partition p).contextLimit ≤ s.contextCount p)), plain stNoSpace)]
    (let k : Context :=
      { mode := .active, partition := p, function := f, noticeRing := ring, lossStatus := 0, lossBeat := 0,
        lossOffset := 0, viaQueue := if c.queue.management then some c.cmd.queue else none }
     .done { s with contexts := tset s.contexts n k } n)

/-- A Context of another function is not a virtual function's to name. -/
def Call.contextDenied (c : Call) (s : State) (ctx : Nat) : Bool :=
  !c.physical && (s.context ctx).mode != .free && (s.context ctx).function != c.function

/-- The Chimes of a Context return to the device Context (12 R288, disowned). -/
def State.disown (s : State) (ctx : Nat) : State :=
  (s.chimesOf ctx).foldl (fun s c => s.setChime c { s.chime c with context := 65535, partition := 0 }) s

/-- CONTEXT_DESTROY (12 Table 12-3); what remains to be freed is freed as it becomes free, and it completes then. -/
def contextDestroyEffect (c : Call) (s : State) : Verdict :=
  let ctx := c.arg 0
  let k := s.context ctx
  let busy := !((s.kitsOf ctx).isEmpty && (s.queuesOf ctx).isEmpty && (s.seqsOf ctx).isEmpty)
  guards
    [(c.contextDenied s ctx, plain stNotPermitted),
     (ctx == 65535 || c.queue.context == ctx, s.conflict 2 k.mode.code),
     (k.mode == .free || k.mode == .destroying || (k.mode == .active && busy), s.conflict 2 k.mode.code)]
    (.defer ((s.disown ctx).modContext ctx fun k => { k with mode := .destroying }) (.contextDestroy ctx) 0)

/-- The first 64 bytes of a Context entry (12 Table 12-2). -/
def State.contextBytes (s : State) (ctx : Nat) : List Byte :=
  let k := s.context ctx
  leBytes 1 k.mode.code ++ leBytes 1 k.partition ++ leBytes 2 k.function ++ leBytes 1 k.noticeRing ++ zeros 1 ++
    leBytes 2 k.lossStatus ++ leBytes 8 k.lossBeat ++ leBytes 4 k.lossOffset ++ leBytes 4 (s.kitsOf ctx).length ++
    leBytes 4 (s.queuesOf ctx).length ++ leBytes 4 (s.seqsOf ctx).length ++ leBytes 4 (s.objectsOf ctx).length ++
    leBytes 4 (if ctx = 65535 then 4194304 - (s.chimes.filter fun h => h.2.context != 65535).length
      else (s.chimesOf ctx).length) ++ zeros 24

/-- CONTEXT_QUERY (12 R287). -/
def contextQueryEffect (c : Call) (s : State) : Verdict :=
  guards ([(c.contextDenied s (c.arg 0), plain stNotPermitted)] ++ c.resultGuards s 1 64)
    (c.result s 1 (s.contextBytes (c.arg 0)))

/-! ### Chimes (12 R302) -/

/-- A range of Chimes is inside the queue's namespace (12 R302, 03 R65). -/
def Call.inNamespace (c : Call) (first count : Nat) : Bool := first + count ≤ c.queue.chimeCount

/-- The device Chimes of a range. -/
def Call.chimes (c : Call) (first count : Nat) : List Nat :=
  (List.range count).map fun i => c.queue.deviceChime (first + i)

/-- A Chime of a range leaves its partition by a PARTITION_SET that is pending; the Chimes a change takes away or brings
(12 R285). -/
def State.chimeMoves (s : State) (chime : Nat) : Bool :=
  s.partitionChanges.any fun x =>
    let r := s.chimeRange x.partition
    let was := decide (r.1 ≤ chime) && decide (chime < r.1 + r.2)
    let will := decide (x.chimeBase ≤ chime) && decide (chime < x.chimeBase + x.chimeCount)
    was && !will

/-- CHIME_INIT (12 Table 12-7). -/
def chimeInitEffect (c : Call) (s : State) : Verdict :=
  let (first, n, ctx) := (c.arg 0, c.arg 1, c.arg 3)
  let all := c.chimes first (min n 65536)
  let k := s.context ctx
  let waiter := all.find? fun h => s.waiters.any (·.chime == h)
  let moving := all.find? fun h => s.chimeMoves h
  guards
    [(!(c.inNamespace first n), c.bad 0),
     (decide (n < 1) || decide (65536 < n), c.bad 1),
     (ctx != 65535 && (k.mode == .free || k.partition != c.partition), c.bad 3),
     (ctx != 65535 && s.lostContext ctx, plain stContextLost),
     (waiter.isSome, s.conflict 4 (s.chime (waiter.getD 0)).state),
     (ctx != 65535 && moving.isSome, s.conflict 4 (s.chime (moving.getD 0)).state)]
    (.done (all.foldl (fun s h => s.setChime h
        { counter := BitVec.ofNat 64 (c.arg 2), error := 0, lowCount := 0, context := ctx,
          partition := if ctx = 65535 then 0 else k.partition }) s) 0)

/-- CHIME_SIGNAL (12 Table 12-7): it is applied, and RESULT holds the resulting COUNTER. -/
def chimeSignalEffect (c : Call) (s : State) : Verdict :=
  let h := c.queue.deviceChime (c.arg 0)
  guards [(!(c.inNamespace (c.arg 0) 1), c.bad 0)]
    (let s1 := s.signalChime h (BitVec.ofNat 64 (c.arg 1))
     .done s1 (s1.chime h).counter.toNat)

/-- CHIME_WAIT (12 R300, R301): it holds its queue until the target is reached or the Chime has error status. -/
def chimeWaitEffect (c : Call) (s : State) : Verdict :=
  let h := c.queue.deviceChime (c.arg 0)
  let t := BitVec.ofNat 64 (c.arg 1)
  let e := (s.chime h).error
  guards [(!(c.inNamespace (c.arg 0) 1), c.bad 0)]
    (if e ≠ 0 then .fail s e 0 0
     else if reached (s.chime h).counter t then .done s 0
     else .defer { s with waiters := s.waiters ++ [{ chime := h, target := t, waiter := .command c.cmd.id }] }
      (.chime h (c.arg 1)) 0)

/-- A Chime record (12 Table 12-6) and its number of waiters. -/
def State.chimeBytes (s : State) (h : Nat) : List Byte :=
  let k := s.chime h
  leBytes 8 k.counter.toNat ++ leBytes 2 k.error ++ leBytes 2 k.lowCount ++ leBytes 2 k.context ++ leBytes 1 k.state ++
    leBytes 1 k.partition ++ leBytes 4 (s.waiters.filter (·.chime == h)).length

/-- CHIME_QUERY (12 Table 12-7). -/
def chimeQueryEffect (c : Call) (s : State) : Verdict :=
  guards ([(!(c.inNamespace (c.arg 0) 1), c.bad 0)] ++ c.resultGuards s 1 20)
    (c.result s 1 (s.chimeBytes (c.queue.deviceChime (c.arg 0))))

/-- CHIME_CLEAR (12 Table 12-7). -/
def chimeClearEffect (c : Call) (s : State) : Verdict :=
  guards [(!(c.inNamespace (c.arg 0) (c.arg 1)), c.bad 0),
      (decide (c.arg 1 < 1) || decide (65536 < c.arg 1), c.bad 1)]
    (.done ((c.chimes (c.arg 0) (c.arg 1)).foldl
      (fun s h => s.setChime h { s.chime h with error := 0, lowCount := 0 }) s) 0)

end Sys2Proof.Machine
end

