-- ==== Sys2Proof/Machine/Cache.lean ====
section
/-!
DEFINITION. Tier 1 as a cache of tier 2: home slices, victims, fills, write-backs and pins (07 R170 to R184), the outcome of a
tile check (06 R155), poison (08 R209 to R211).
-/
namespace Sys2Proof.Machine
open Sys2Proof

/-! ### Where a line may lie -/

/-- The partition's CACHE granules in a slice, ascending way (07 R170). -/
def State.cacheGranules (s : State) (p station : Nat) : List Nat :=
  (List.range 38).filterMap fun w =>
    (placeGranule station (w + 2)).filter fun g => (s.granule g).partition == p && (s.granule g).mode == .cache

/-- S of 07 R170: stations whose slices hold a CACHE granule of the partition. -/
def State.cacheStations (s : State) (p : Nat) : List Nat :=
  (List.range 54).filter fun st => !(s.cacheGranules p st).isEmpty

/-- Home slice of a line and its set there (07 R170); none when the partition has no CACHE granule. -/
def homeOf (stations : List Nat) (object line : Nat) : Option (Nat × Nat) :=
  let n := stations.length
  (stations[(object + line) % n]?).map fun st => (st, line / n % 2048)

/-- Home slice and set of a line of an object of a partition. -/
def State.home (s : State) (p object line : Nat) : Option (Nat × Nat) := homeOf (s.cacheStations p) object line

/-- The slot of a set of a granule. -/
def slotOf (g set : Nat) : Nat := g * 2048 + set

/-- Station of a slot. -/
def slotStation (slot : Nat) : Nat := (granulePlace (slot / 2048)).1

/-- The resident line of a key: its slot and entry. -/
def State.findLine (s : State) (object line : Nat) : Option (Nat × Line) :=
  s.mem.lines.find? fun l => l.2.object == object && l.2.line == line

/-! ### Counters (07 R180, R181; 08 R214; 06 R155) -/

/-- Counters of a slice for a partition before anything has been counted. -/
def SliceCounters.zero : SliceCounters :=
  { fills := 0, mergedMisses := 0, evictClean := 0, evictDirty := 0, evictYoung := 0, deadReads := 0, windowBase := 0,
    windowBeat := 0, noticed := false }

/-- Counter record of a slice for a partition. -/
def State.sliceCounters (s : State) (station p : Nat) : SliceCounters :=
  tgetD s.mem.counters (station * 64 + p) SliceCounters.zero

/-- The state with a counter record changed. -/
def State.count (s : State) (station p : Nat) (f : SliceCounters → SliceCounters) : State :=
  { s with mem := { s.mem with counters := tupd s.mem.counters (station * 64 + p) SliceCounters.zero f } }

/-- The counter record at an instant: a new window of 65,536 beats begins when the last has passed (07 R181). -/
def SliceCounters.window (k : SliceCounters) (beat : Nat) : SliceCounters :=
  if k.windowBeat + 65536 ≤ beat then { k with windowBase := k.evictYoung, windowBeat := beat, noticed := false } else k

/-- An eviction is counted; CACHE_THRASH is sent at most once per slice and window (07 R181). -/
def State.countEviction (s : State) (station p : Nat) (dirty young : Bool) : State :=
  let s1 := s.count station p fun k =>
    let k := k.window s.beat.number
    { k with
      evictClean := k.evictClean + b2n (!dirty)
      evictDirty := k.evictDirty + b2n dirty
      evictYoung := k.evictYoung + b2n young }
  let k := s1.sliceCounters station p
  let limit := (s.partition p).youngNotice
  if limit ≠ 0 ∧ !k.noticed ∧ limit < k.evictYoung - k.windowBase then
    (s1.count station p fun k => { k with noticed := true }).notice (.partition p) 0x0006 stOk 65535 (station + p * 256)
      (k.evictYoung - k.windowBase) limit
  else s1

/-- Counters of a slice or pair before anything has been counted. -/
def UnitCounters.zero : UnitCounters := ⟨0, 0, 0, 0⟩

/-- Counters of a slice changed. -/
def State.countSlice (s : State) (station : Nat) (f : UnitCounters → UnitCounters) : State :=
  { s with mem := { s.mem with slices := tupd s.mem.slices station UnitCounters.zero f } }

/-- Counters of a pair changed. -/
def State.countPair (s : State) (pair : Nat) (f : UnitCounters → UnitCounters) : State :=
  { s with mem := { s.mem with pairs := lmod s.mem.pairs pair fun p => { p with counters := f p.counters } } }

/-- The outcome of a tile check is counted in its slice; a failed CRC is logged with the PRODUCER of the tag and the pair or
slice (06 R155). -/
def State.countTile (s : State) (station pair status : Nat) (t : Tag) : State :=
  if status = stTileRace then s.countSlice station fun c => { c with tileRace := c.tileRace + 1 }
  else if status = stTileCrc then
    (s.countSlice station fun c => { c with tileCrc := c.tileCrc + 1 }).logEvent Config.tileCrcKind.toNat 2
      (if pair = 0xFF then station else 0xFF) pair t.producer.toNat 0 0xFF 0xFF
  else s

/-! ### Tiles -/

/-- CRC of a tile (06 R147): payload, then tag bytes 8 to 15. -/
def tileCrcOf (payload : List Byte) (t : Tag) : Word := BitVec.ofNat 32 (crc32c (payload ++ t.bytes.drop 8))

/-- tile_outcome of 06 R155. -/
def tileOutcome (memoryError raced : Bool) (expected : Nat) (payload : List Byte) (t : Tag) : Nat :=
  if memoryError then stMemoryError
  else if tileCrcOf payload t = t.crc then
    if !(bit t.flags 0) then stTileUntagged
    else if expected ≠ 0 ∧ t.format ≠ expected then stTileFormat
    else stOk
  else if raced then stTileRace
  else stTileCrc

/-- The entry of a tile in the pending-write table of its home port (06 R154). -/
def State.pendingTile (s : State) (object tile : Nat) : Option PendingTile :=
  s.mem.pendingTiles.find? fun t => t.object == object && t.tile == tile

/-- A tile has such an entry. -/
def State.tilePending (s : State) (object tile : Nat) : Bool := (s.pendingTile object tile).isSome

/-- What a read of a tile finds while its entry stands: each code word and the tag is the old one or the new one, and which
is open. -/
def racedTile (free : Nat) (p : PendingTile) (payload : List Byte) (t : Tag) : List Byte × Tag :=
  ((List.range 8).flatMap fun i => slice (if bit free i then p.payload else payload) (512 * i) 512,
   if bit free 8 then { p.tag with version := t.version + 1 } else t)

/-! ### Poison (08 R209) -/

/-- Capacity of a poison list. -/
def poisonCapacity : Nat := 4096

/-- A code word of tier 2 enters the poison list of its pair; with the list full its object becomes unreadable. -/
def State.poison2 (s : State) (pair a : Nat) (object : Option Nat) : State :=
  let w := a / 512 * 512
  match s.mem.pairs[pair]? with
  | none => s
  | some p =>
    if p.poison.contains w then s
    else if p.poison.length < poisonCapacity then
      { s with mem := { s.mem with pairs := lmod s.mem.pairs pair fun p => { p with poison := p.poison ++ [w] } } }
    else
      let s1 := match object with
        | some i => s.modObject i fun o => { o with unreadable := true }
        | none => s
      s1.logEvent 0x0E 0 0xFF pair 0 w 0xFF 0xFF

/-- POISON is set on the code words behind `n` bytes of tier 1. -/
def State.poison1 (s : State) (loc n : Nat) : State :=
  let words := (List.range (ceilDiv (loc % 128 + n) 128)).map fun i => loc / 128 + i
  { s with mem := { s.mem with poison1 := words.foldl addOnce s.mem.poison1 } }

/-- An uncorrectable error met by an access: logged once for a code word, and the partition owner told (08 R211). -/
def State.reportError (s : State) (kind source station pair address partition handle line : Nat) : State :=
  let known := s.mem.log.any fun r => r.kind == kind && r.address == address && r.station == station && r.pair == pair
  let s1 := if kind = 0x02 then s.countPair pair fun c => { c with uncorrectable := c.uncorrectable + 1 }
    else s.countSlice station fun c => { c with uncorrectable := c.uncorrectable + 1 }
  if known then s1 else
    (s1.logEvent kind source station pair 0 address partition 0xFF).notice (.partition partition) 0x0007 stMemoryError
      65535 (station + pair * 256) handle line

/-! ### Write-back, eviction, installation -/

/-- A line's bytes in tier 1. -/
def State.lineData (s : State) (slot : Nat) : List Byte := memRead zeroByte s.mem.t1 (slot * 4096) 4096

/-- A dirty line is written back whole, a tiled one with its tag (07 R173); code words with POISON set enter the poison
list, and are written all the same (08 R209). -/
def State.writeBack (s : State) (slot : Nat) (l : Line) : State :=
  match tget s.objects l.object with
  | none => s
  | some o =>
    let off := o.lineOffset l.line
    let s1 := s.objWrite2 o off (s.lineData slot)
    let s2 := if o.tiled then s1.setObjTag2 o l.line (s.tag slot) else s1
    let bad := (List.range 32).filter fun i => s.mem.poison1.contains (slot * 32 + i)
    bad.foldl (fun s i => let w := o.locate (off + i * 128); s.poison2 w.1 w.2 (some l.object)) s2

/-- A slot becomes INVALID: its line leaves, its bytes, tag and poison are gone. -/
def State.dropLine (s : State) (slot : Nat) : State :=
  let m := { s.mem with
    t1 := memZero s.mem.t1 (slot * 4096) 4096
    lines := terase s.mem.lines slot
    poison1 := s.mem.poison1.filter fun c => c / 32 != slot }
  { s with mem := m.setTag slot Tag.zero }

/-- A line is evicted as a victim (07 Table 7-2). -/
def State.evict (s : State) (slot : Nat) : State :=
  match tget s.mem.lines slot with
  | none => s
  | some l =>
    let young := decide (s.beat.number - l.installed < (s.partition l.partition).youngBeats)
    let st := slotStation slot
    match l.mode with
    | .dirty => ((s.writeBack slot l).countEviction st l.partition true young).dropLine slot
    | .clean => (s.countEviction st l.partition false young).dropLine slot
    | _ => s.dropLine slot

/-- The victim of a set (07 R174): lowest INVALID way, lowest DEAD way, least recently used unpinned way. -/
def State.victim (s : State) (granules : List Nat) (set : Nat) : Option Nat :=
  let slots := granules.map fun g => slotOf g set
  match slots.find? fun x => (tget s.mem.lines x).isNone with
  | some x => some x
  | none =>
    match slots.find? fun x => (tget s.mem.lines x).any fun l => l.mode == .dead with
    | some x => some x
    | none =>
      (slots.filterMap fun x => (tget s.mem.lines x).bind fun l =>
        if (l.mode == .clean || l.mode == .dirty) && !l.pin then some (l.lastUse, x) else none).foldl
        (fun best e => match best with
          | none => some e
          | some b => if e.1 < b.1 then some e else some b) none |>.map (·.2)

/-- A use of the line in a slot (07 R174). -/
def State.useLine (s : State) (slot : Nat) : State :=
  { s with mem := { s.mem with
      uses := s.mem.uses + 1
      lines := tmod s.mem.lines slot fun l => { l with lastUse := s.mem.uses + 1 } } }

/-- A line installed in a slot: its bytes and tag, state CLEAN (07 Table 7-2). -/
def State.installLine (s : State) (slot object line p : Nat) (data : List Byte) (tag : Tag) (pin : Bool) : State :=
  let s1 := (s.evict slot).dropLine slot
  let m := { s1.mem with
    t1 := memWrite zeroByte s1.mem.t1 (slot * 4096) data
    uses := s1.mem.uses + 1
    lines := tset s1.mem.lines slot
      { object, line, partition := p, mode := .clean, pin, lastUse := s1.mem.uses + 1, installed := s.beat.number } }
  { s1 with mem := m.setTag slot tag }

/-- What a fill brings: status of check (c), bytes, tag, and the 512-byte parts that are poisoned (06 R149 (c), 08 R209). -/
structure FillData where
  status : Nat
  bytes : List Byte
  tag : Tag
  bad : List Nat

/-- A fill read from tier 2. -/
def State.fillData (s : State) (index : Nat) (o : Object) (line : Nat) : FillData :=
  let off := o.lineOffset line
  let bytes := s.objRead2 o off 4096
  let bad := (List.range 8).filter fun i => let w := o.locate (off + i * 512); s.poisoned2 w.1 w.2
  if o.tiled then
    let stored := (bytes, s.objTag2 o line)
    let (bytes, tag) := match s.pendingTile index line with
      | some p => racedTile s.free.toNat p stored.1 stored.2
      | none => stored
    let tw := o.locate (tagOffset o.tiles line)
    let st := tileOutcome (!bad.isEmpty || s.poisoned2 tw.1 tw.2 || o.unreadable) (s.tilePending index line) 0 bytes tag
    ⟨st, bytes, tag, []⟩
  else ⟨if o.unreadable then stMemoryError else stOk, bytes, Tag.zero, bad⟩

/-- A fill ends in a slot: installed when it passes, and counted (07 Table 7-2). -/
def State.endFill (s : State) (slot index : Nat) (o : Object) (line : Nat) (pin : Bool) : State × Nat :=
  let f := s.fillData index o line
  let s : State := if o.tiled && s.tilePending index line then s.useFree else s
  let st := slotStation slot
  if f.status = stOk then
    let s1 := (s.installLine slot index line o.partition f.bytes f.tag pin).count st o.partition fun k =>
      { k with fills := k.fills + 1 }
    (f.bad.foldl (fun s i => s.poison1 (slot * 4096 + i * 512) 512) s1, stOk)
  else
    ((s.dropLine slot).countTile st (o.locate (o.lineOffset line)).1 f.status f.tag, f.status)

/-- What an access that is performed at once finds: the state, a status, and the slot of the resident line. -/
structure Touched where
  s : State
  status : Nat
  slot : Nat

/-- A line of an object made resident for an access of a command or a transfer: served from the resident line, or through
a fill that ends at once (07 R171, R173, R183, R184). -/
def State.touchLine (s : State) (index : Nat) (o : Object) (line : Nat) (write : Bool) : Touched :=
  if o.unreadable then ⟨s, stMemoryError, 0⟩ else
  match s.home o.partition index line with
  | none => ⟨s, stWindowRange, 0⟩
  | some (st, set) =>
    match s.findLine index line with
    | some (slot, l) =>
      match l.mode with
      | .dead =>
        let s1 := if write then s else s.count st o.partition fun k => { k with deadReads := k.deadReads + 1 }
        if !write && (s.partition o.partition).deadStrict then ⟨s1, stDeadRead, slot⟩
        else
          let r := (s1.dropLine slot).endFill slot index o line false
          ⟨r.1, r.2, slot⟩
      | .filling =>
        let r := (s.dropLine slot).endFill slot index o line false
        ⟨r.1, r.2, slot⟩
      | _ => ⟨s.useLine slot, stOk, slot⟩
    | none =>
      match s.victim (s.cacheGranules o.partition st) set with
      | none => ⟨s, stWindowRange, 0⟩
      | some slot =>
        let r := (s.evict slot).endFill slot index o line false
        ⟨r.1, r.2, slot⟩

/-- Bytes of a line written: DIRTY, VALID cleared, poison of whole code words cleared (07 Table 7-2). -/
def State.writeSlot (s : State) (slot at_ : Nat) (bytes : List Byte) : State :=
  let m := s.mem.writeLine (slot * 4096 + at_) bytes
  { s with mem := { m with lines := tmod m.lines slot fun l => { l with mode := .dirty } } }

/-- A read of an object range at its point of coherence by a command or transfer: state, first error, bytes (zeros where
an error was met). -/
def State.objRead (s : State) (index : Nat) (o : Object) (off n : Nat) : State × Nat × List Byte :=
  (linePieces off n).foldl (fun (s, st, out) p =>
    let t := s.touchLine index o (p.1 / 4096) false
    if t.status ≠ stOk then (t.s, if st = stOk then t.status else st, out ++ zeros p.2)
    else
      let loc := t.slot * 4096 + p.1 % 4096
      if t.s.poisoned1 loc p.2 then (t.s, if st = stOk then stMemoryError else st, out ++ zeros p.2)
      else (t.s, st, out ++ memRead zeroByte t.s.mem.t1 loc p.2)) (s, stOk, [])

/-- A write of an object range at its point of coherence, by segment offset. -/
def State.objWrite (s : State) (index : Nat) (o : Object) (off : Nat) (bytes : List Byte) : State × Nat :=
  (splitBytes (linePieces off bytes.length) bytes).foldl (fun (s, st) p =>
    let t := s.touchLine index o (p.1 / 4096) true
    if t.status ≠ stOk then (t.s, if st = stOk then t.status else st)
    else (t.s.writeSlot t.slot (p.1 % 4096) p.2, st)) (s, stOk)

/-! ### Pins (07 R176 to R179) -/

/-- Pinned lines of a slice, of every partition or of one. -/
def State.pinnedIn (s : State) (station : Nat) (p : Option Nat) : Nat :=
  (s.mem.lines.filter fun l =>
    l.2.pin && slotStation l.1 == station && (match p with | some x => l.2.partition == x | none => true)).length

/-- Pinned lines of a partition in one set of its CACHE ways. -/
def State.pinnedInSet (s : State) (granules : List Nat) (set : Nat) : Nat :=
  (granules.filter fun g => (tget s.mem.lines (slotOf g set)).any (·.pin)).length

/-- Least number of unpinned CACHE ways over the sets of a slice (07 Table 7-3). -/
def State.minFreeWays (s : State) (station p : Nat) : Nat :=
  let gs := s.cacheGranules p station
  let pins := s.mem.lines.filter fun l => l.2.pin && gs.contains (l.1 / 2048)
  gs.length - (pins.foldl (fun m l => max m ((pins.filter fun x => x.1 % 2048 == l.1 % 2048).length)) 0)

/-- The slot that a new pinned line takes (07 R177): the set with the fewest pins, then the lowest way without one. -/
def State.pinSlot (s : State) (station p : Nat) : Option Nat :=
  let gs := s.cacheGranules p station
  let pins := s.mem.lines.filter fun l => l.2.pin && gs.contains (l.1 / 2048)
  let most := pins.foldl (fun m l => max m ((pins.filter fun x => x.1 % 2048 == l.1 % 2048).length)) 0
  let inSet (set : Nat) : Nat := (pins.filter fun x => x.1 % 2048 == set).length
  let set := ((List.range (most + 1)).findSome? fun k => (List.range 2048).find? fun st => inSet st == k).getD 0
  (gs.find? fun g => !((tget s.mem.lines (slotOf g set)).any (·.pin))).map fun g => slotOf g set

/-- The failing limit of 07 R176 for a slice that would take `more` pinned lines: 0 for none. -/
def State.pinLimit (s : State) (station p more : Nat) : Nat :=
  let gs := s.cacheGranules p station
  if 61440 < s.pinnedIn station none + more then 1
  else if gs.isEmpty && decide (0 < more) then 3
  else if gs.length * 2048 < s.pinnedIn station (some p) + more + 2048 && decide (0 < more) then 2
  else 0

/-- A resident unpinned line is pinned: it moves to the slot of 07 R177 with its state. -/
def State.pinLine (s : State) (slot : Nat) : State :=
  match tget s.mem.lines slot with
  | none => s
  | some l =>
    if l.pin then s else
    match s.pinSlot (slotStation slot) l.partition with
    | none => s
    | some dst =>
      if dst = slot then { s with mem := { s.mem with lines := tset s.mem.lines slot { l with pin := true } } }
      else
        let data := s.lineData slot
        let tag := s.tag slot
        let bad := (List.range 32).filter fun i => s.mem.poison1.contains (slot * 32 + i)
        let s1 := ((s.dropLine slot).evict dst).dropLine dst
        let m := { s1.mem with
          t1 := memWrite zeroByte s1.mem.t1 (dst * 4096) data
          lines := tset s1.mem.lines dst { l with pin := true }
          poison1 := bad.foldl (fun a i => addOnce a (dst * 32 + i)) s1.mem.poison1 }
        { s1 with mem := m.setTag dst tag }

/-- A pinned line is unpinned: it becomes the most recently used of its hash set (07 Table 7-2), in a way there. -/
def State.unpinLine (s : State) (slot : Nat) : State :=
  match tget s.mem.lines slot with
  | none => s
  | some l =>
    if !l.pin then s else
    match s.home l.partition l.object l.line with
    | none => s
    | some (st, set) =>
      if slot % 2048 = set then
        ({ s with mem := { s.mem with lines := tset s.mem.lines slot { l with pin := false } } }).useLine slot
      else
        match s.victim (s.cacheGranules l.partition st) set with
        | none =>
          (if l.mode = .dirty then s.writeBack slot l else s).dropLine slot
        | some dst =>
          let data := s.lineData slot
          let tag := s.tag slot
          let s1 := ((s.evict dst).dropLine dst).dropLine slot
          let m := { s1.mem with
            t1 := memWrite zeroByte s1.mem.t1 (dst * 4096) data
            lines := tset s1.mem.lines dst { l with pin := false } }
          ({ s1 with mem := m.setTag dst tag }).useLine dst

/-- Lines of an object that are resident: slots. -/
def State.objectSlots (s : State) (index : Nat) : List Nat := (s.mem.lines.filter fun l => l.2.object == index).map (·.1)

/-- Every line of an object is dropped without write-back, pins included (07 R179). -/
def State.dropObject (s : State) (index : Nat) : State := (s.objectSlots index).foldl (fun s x => s.dropLine x) s

end Sys2Proof.Machine
end

