-- ==== Sys2Proof/Machine/ObjectCommands.lean ====
section
/-!
DEFINITION. Memory objects (12 R292 to R296), the tier-1 commands (07 R167 to R185) and partitions (12 R284, R285).
-/
namespace Sys2Proof.Machine
open Sys2Proof

/-! ### Tier-2 space (07 R191, R192), in code words of 512 bytes -/

/-- Pair, first code word and end of a tier-2 granule's parts. -/
def granule2Parts (g : Nat) : List (Nat × Nat × Nat) :=
  if g < 1020 then [(g / 102, g % 102 * 2 ^ 21, (g % 102 + 1) * 2 ^ 21)]
  else
    let lo := (g - 1020) * 2 ^ 21
    let hi := min (lo + 2 ^ 21) 8388600
    (List.range 10).filterMap fun p =>
      let a := max lo (p * 838860)
      let b := min hi ((p + 1) * 838860)
      if a < b then some (p, 102 * 2 ^ 21 + a - p * 838860, 102 * 2 ^ 21 + b - p * 838860) else none

/-- Ascending ranges with those that touch joined. -/
def joinRanges : List (Nat × Nat) → List (Nat × Nat)
  | [] => []
  | (a, b) :: r =>
    match joinRanges r with
    | (c, d) :: t => if b = c then (a, d) :: t else (a, b) :: (c, d) :: t
    | [] => [(a, b)]

/-- The space of a partition in a pair. -/
def State.space2 (s : State) (p pair : Nat) : List (Nat × Nat) :=
  joinRanges ((((List.range 102).map (· + pair * 102)) ++ [1020, 1021, 1022, 1023]).flatMap fun g =>
    if (s.granule2 g).partition = p then
      (granule2Parts g).filterMap fun (x : Nat × Nat × Nat) => if x.1 = pair then some (x.2.1, x.2.2) else none
    else [])

/-- Q of 07 R192: pairs in which a partition holds tier-2 space. -/
def State.pairsOf (s : State) (p : Nat) : List Nat := (List.range 10).filter fun q => !(s.space2 p q).isEmpty

/-- A list of ranges put in ascending order. -/
def insertRange (x : Nat × Nat) : List (Nat × Nat) → List (Nat × Nat)
  | [] => [x]
  | y :: r => if y.1 < x.1 then y :: insertRange x r else x :: y :: r

/-- Code words that objects hold in a pair, ascending: stripe units, and the whole granules of pools. -/
def State.used2 (s : State) (pair : Nat) : List (Nat × Nat) :=
  (s.objects.flatMap fun o =>
    if o.2.mode = .free then [] else
    (o.2.units.filterMap fun u => if u.pair = pair then some (u.base / 512, u.base / 512 + 257) else none) ++
    (o.2.granules.flatMap fun g => (granule2Parts g).filterMap fun x =>
      if x.1 = pair then some (x.2.1, x.2.2) else none)).foldl (fun l x => insertRange x l) []

/-- What ascending used ranges leave of a range. -/
def gapsIn (lo hi : Nat) : List (Nat × Nat) → List (Nat × Nat)
  | [] => if lo < hi then [(lo, hi)] else []
  | (a, b) :: r =>
    if b ≤ lo then gapsIn lo hi r
    else if hi ≤ a then (if lo < hi then [(lo, hi)] else [])
    else (if lo < a then [(lo, a)] else []) ++ gapsIn (max lo b) hi r

/-- Free runs of a partition in a pair. -/
def State.free2 (s : State) (p pair : Nat) : List (Nat × Nat) :=
  (s.space2 p pair).flatMap fun x => gapsIn x.1 x.2 (s.used2 pair)

/-- Free stripe units of a list of runs. -/
def freeUnits (runs : List (Nat × Nat)) : Nat := (runs.map fun r => (r.2 - r.1) / 257).sum

/-- The lowest-addressed run of 257 code words taken from the runs. -/
def takeUnit : List (Nat × Nat) → Option (Nat × List (Nat × Nat))
  | [] => none
  | (a, b) :: r =>
    if a + 257 ≤ b then some (a, (a + 257, b) :: r)
    else (takeUnit r).map fun x => (x.1, (a, b) :: x.2)

/-- `n` stripe units from unit `u` on, each in pair Q[(first + u) mod q] (07 R192). -/
def layUnits (q : List Nat) (first : Nat) : Nat → Nat → List (Nat × List (Nat × Nat)) → Option (List Extent)
  | _, 0, _ => some []
  | u, n + 1, runs =>
    match q[(first + u) % q.length]? with
    | none => none
    | some pair =>
      match takeUnit (tgetD runs pair []) with
      | none => none
      | some (w, rest) => (layUnits q first (u + 1) n (tset runs pair rest)).map fun l => ⟨pair, w * 512⟩ :: l

/-- Position of the greatest of a list, the lowest of equals. -/
def argmax (l : List Nat) : Nat :=
  ((List.range l.length).foldl (fun (b : Nat × Nat) i =>
    if b.2 < l.getD i 0 + 1 then (i, l.getD i 0 + 1) else b) (0, 0)).1

/-- Layout of a footprint in a partition: FIRST_PAIR and the stripe units (12 R293). -/
def State.layout2 (s : State) (p footprint : Nat) : Option (Nat × List Extent) :=
  let q := s.pairsOf p
  let runs := q.map fun x => (x, s.free2 p x)
  let first := argmax (runs.map fun r => freeUnits r.2)
  (layUnits q first 0 (ceilDiv footprint unitBytes) runs).map fun l => (first, l)

/-- The code words of an object's units are written with zeros, and its poison cleared (12 R293). -/
def State.zeroUnits (s : State) (units : List Extent) : State :=
  units.foldl (fun s u =>
    { s with mem := { s.mem with
        t2 := memZero s.mem.t2 (t2Key u.pair u.base) unitBytes
        pairs := lmod s.mem.pairs u.pair fun p => p.clearPoison u.base unitBytes } }) s

/-- The next GENERATION (12 R292). -/
def nextGeneration (g : Nat) : Nat := g % (2 ^ 28 - 1) + 1

/-- The lowest FREE index of the memory object table. -/
def State.freeObject (s : State) : Nat :=
  (firstFrom (fun i => (tget s.objects i).all fun o => o.mode == .free) 0 (s.objects.length + 1)).getD 0

/-- GENERATION that an index held last. -/
def State.lastGeneration (s : State) (i : Nat) : Nat := ((tget s.objects i).map (·.generation)).getD 0

/-- MEM_ALLOC (12 R293, Table 12-5). -/
def memAllocEffect (c : Call) (s : State) : Verdict :=
  let (ctx, flags, size) := (c.arg 0, c.arg 1, c.arg 2)
  let k := s.context ctx
  let tiled := flags == 1
  let sizeGood := if tiled then decide (1 ≤ size) && decide (size ≤ 2 ^ 28 - 1)
    else size % 4096 == 0 && decide (4096 ≤ size) && decide (size ≤ 1099511623680)
  let footprint := if !sizeGood then 0 else if tiled then tiledFootprint size else size
  let i := s.freeObject
  guards
    [(k.mode != .free && k.function != c.function, plain stNotPermitted),
     (decide (1 < flags), c.bad 1), (!sizeGood, c.bad 2),
     (s.lostContext ctx, plain stContextLost),
     (k.mode != .active, s.conflict 2 k.mode.code)]
    (match s.layout2 k.partition footprint with
     | none => plain stNoSpace
     | some (first, units) =>
       if 1048576 ≤ i then plain stNoSpace else
       let o : Object :=
         { generation := nextGeneration (s.lastGeneration i), footprint, tiles := if tiled then size else 0,
           mode := .live, tiled, pool := false, summary := false, unreadable := false, context := ctx,
           partition := k.partition, firstPair := first, pairs := (units.map (·.pair)).foldl addOnce [], bindings := 0,
           marked := false, units, granules := [] }
       .done ({ s with objects := tset s.objects i o }.zeroUnits units) (o.handle i))

/-! ### References and release (12 R295, R296) -/

/-- The handles that an outstanding command names (12 R295). -/
def State.handlesOf (s : State) (c : Command) : List Nat :=
  ((s.named c.op (s.queue c.queue) c.packet).filterMap fun x => if x.1 = 3 ∧ x.2 ≠ 0 then some x.2 else none)

/-- REFS of a handle, without one command (12 R295). -/
def State.refs (s : State) (handle except : Nat) : Nat :=
  (s.commands.filter fun c => c.id != except && c.op != .memFree && (s.handlesOf c).contains handle).length +
  (s.mem.transfers.filter fun t => t.command.isNone && (t.srcHandle == handle || t.dstHandle == handle)).length

/-- Release of an object (12 R296): pins and lines dropped, poison removed, units returned; GENERATION is kept. -/
def State.releaseObject (s : State) (i : Nat) : State :=
  match tget s.objects i with
  | none => s
  | some o =>
    let s1 := s.dropObject i
    let s2 := o.units.foldl (fun s u =>
      { s with mem := { s.mem with pairs := lmod s.mem.pairs u.pair fun p => p.clearPoison u.base unitBytes } }) s1
    s2.modObject i fun o =>
      { o with mode := .free, units := [], granules := [], unreadable := false, marked := false, bindings := 0 }

/-- The refusals of a command that names an object by the handle in parameter `k` (12 R292, 07 R185). -/
def Call.handleGuards (c : Call) (s : State) (k : Nat) : List (Bool × Verdict) :=
  let h := c.arg k
  let p := h / 2 ^ 48 % 64
  [(!c.physical && !(s.usable c.function p), plain stNotPermitted),
   ((s.objectOf h).isNone || (!c.physical && p != c.partition), c.bad k)]

/-- The refusals by state of the object in parameter `k`: lost owner, RETIRING (11 R270, 12 Table 12-5). -/
def Call.objectGuards (c : Call) (s : State) (k : Nat) : List (Bool × Verdict) :=
  match s.objectOf (c.arg k) with
  | none => []
  | some (_, o) =>
    [(s.lostContext o.context, plain stContextLost), (o.mode == .retiring, s.conflict 3 o.mode.code)]

/-- MEM_FREE (12 Table 12-5): it completes when REFS is 0 and the object has been released. -/
def memFreeEffect (c : Call) (s : State) : Verdict :=
  match s.objectOf (c.arg 0) with
  | none => guards (c.handleGuards s 0) (c.bad 0)
  | some (i, o) =>
    guards (c.handleGuards s 0 ++ c.objectGuards s 0 ++ [(o.mode == .bound, s.conflict 3 o.mode.code)])
      (if s.refs (c.arg 0) c.cmd.id = 0 then .done (s.releaseObject i) 0
       else .defer (s.modObject i fun o => { o with mode := .retiring }) (.memFree (c.arg 0)) 0)

/-- The 64 bytes of a memory object entry (12 Table 12-4). -/
def State.objectBytes (s : State) (i : Nat) (o : Object) (except : Nat) : List Byte :=
  let h := o.handle i
  leBytes 8 h ++ leBytes 8 o.footprint ++ leBytes 4 o.tiles ++ leBytes 1 o.mode.code ++
    leBytes 1 (b2n o.tiled + 2 * b2n o.pool + 4 * b2n o.summary + 8 * b2n o.unreadable) ++ leBytes 2 o.context ++
    leBytes 1 o.partition ++ leBytes 1 o.firstPair ++ leBytes 2 (maskOf o.pairs) ++ leBytes 4 (s.refs h except) ++
    leBytes 2 o.bindings ++ zeros 2 ++
    leBytes 4 ((s.mem.lines.filter fun l => l.2.object == i && l.2.pin).length) ++ leBytes 8 o.units.length ++ zeros 16

/-- MEM_QUERY (12 R294); the query itself counts among REFS. -/
def memQueryEffect (c : Call) (s : State) : Verdict :=
  match s.objectOf (c.arg 0) with
  | none => guards (c.handleGuards s 0) (c.bad 0)
  | some (i, o) =>
    guards (c.handleGuards s 0 ++ [(c.blockBad s 1 128 128, c.bad 1)] ++ c.objectGuards s 0 ++
        [(c.domainDown s 1, plain stCoherentDown)])
      (c.result s 1 (s.objectBytes i o 0))

/-! ### Live structures (07 R167) -/

/-- Two ranges overlap. -/
def overlap (a n b m : Nat) : Bool := decide (a < b + m) && decide (b < a + n)

/-- Tier-1 addresses of live structures of 07 R167: first address and length. -/
def State.liveRanges (s : State) : List (Nat × Nat) :=
  (s.kits.flatMap fun k =>
    (if k.1 = 0 then [] else [(k.2.scratchBase, k.2.scratchSize)]) ++
    match k.2.placement with
    | some p => p.lists.map fun l => (l.address, l.bytes)
    | none => []) ++
  (s.creations.map fun x => (x.kit.scratchBase, x.kit.scratchSize)) ++
  (s.lists.filter (fun l => !l.finished)).flatMap (fun l =>
    (l.address, 64 * l.tasks.length) :: l.tasks.flatMap fun t =>
      [(t.record.descTable, 32 * t.record.descCount), (t.record.saveArea, if t.record.preemptible then 2 ^ 22 else 0)]) ++
  (s.sequences.filter (fun q => q.2.mode != .free)).map (fun q => (q.2.output, 128 * q.2.outputLen)) ++
  (s.queues.filter (fun q => q.2.mode != .free && !q.2.management)).map (fun q => (q.2.ringBase, 64 * 2 ^ q.2.log2Size)) ++
  (s.crings.filter (fun r => r.2.base != 0)).map (fun r => (r.2.base, 32 * 2 ^ r.2.log2Size)) ++
  (s.almanac.entries.filter (fun e => e.2.valid && (e.2.action == 2 || e.2.action == 3))).map (fun e => (e.2.arg0, 128)) ++
  (s.commands.flatMap fun c =>
    match c.op with
    | .seqAppend => [(param c.op c.packet 1, 128 * param c.op c.packet 2)]
    | .tier1Pin => [(param c.op c.packet 4, if param c.op c.packet 4 = 0 then 0 else 128)]
    | .modelCommit => [(param c.op c.packet 1, 128)]
    | .placeReplace => [(param c.op c.packet 3, 128)]
    | .vfRestore => [(param c.op c.packet 4, 128)]
    | .clockRecalibrate => [(param c.op c.packet 1, 128)]
    | _ => [])

/-- A live structure overlaps a granule. -/
def State.liveIn (s : State) (g : Nat) : Bool :=
  s.liveRanges.any fun r => r.2 != 0 && overlap r.1 r.2 (g * 2 ^ 23) (2 ^ 23)

/-! ### TIER1_REGION_SET (07 R169, Table 7-1) -/

/-- The state with a granule changed. -/
def State.modGranule (s : State) (g : Nat) (f : Granule → Granule) : State :=
  let n := f (s.granule g)
  let t := if n = Granule.initial then terase s.mem.granules g else tset s.mem.granules g n
  { s with mem := { s.mem with granules := t } }

/-- A line whose partition keeps it when granules leave the cache region: the others are written back and dropped. -/
def State.flushSlot (s : State) (slot : Nat) : State :=
  match tget s.mem.lines slot with
  | none => s
  | some l => (if l.mode = .dirty then s.writeBack slot l else s).dropLine slot

/-- Slots of the lines in a granule. -/
def State.granuleSlots (s : State) (g : Nat) : List Nat := (s.mem.lines.filter fun l => l.1 / 2048 == g).map (·.1)

/-- The slices of the partition's cache region once `gone` granules have left it and `come` have joined. -/
def State.cacheStationsAfter (s : State) (p : Nat) (gone come : List Nat) : List Nat :=
  (List.range 54).filter fun st =>
    ((s.cacheGranules p st).any fun g => !gone.contains g) || come.any fun g => (granulePlace g).1 == st

/-- First slice whose pinned lines do not fit once `gone` has left (07 Table 7-1, R176): station and pinned lines. -/
def State.pinMisfit (s : State) (p : Nat) (gone : List Nat) : Option (Nat × Nat) :=
  (((gone.map fun g => (granulePlace g).1).foldl addOnce []).filterMap fun st =>
    let pinned := s.pinnedIn st (some p)
    let left := ((s.cacheGranules p st).filter fun g => !gone.contains g).length
    if (gone.any fun g => (s.granuleSlots g).any fun x => (tget s.mem.lines x).any (·.pin)) &&
      decide (left * 2048 < pinned + 2048) then some (st, pinned) else none).head?

/-- The pinned line of a slot that leaves with its granule moves to another CACHE way (07 Table 7-1). -/
def State.movePin (s : State) (slot : Nat) : State :=
  match tget s.mem.lines slot with
  | none => s
  | some l =>
    if !l.pin then s.flushSlot slot
    else
      match s.pinSlot (slotStation slot) l.partition with
      | none => s
      | some dst =>
        let data := s.lineData slot
        let tag := s.tag slot
        let s1 := ((s.evict dst).dropLine dst).dropLine slot
        let m := { s1.mem with
          t1 := memWrite zeroByte s1.mem.t1 (dst * 4096) data
          lines := tset s1.mem.lines dst l }
        { s1 with mem := m.setTag dst tag }

/-- Granules of a command: `count` from `first`. -/
def granuleRun (first count : Nat) : List Nat := (List.range count).map (· + first)

/-- A granule's run is named in part only (07 R169). -/
def State.partialRun (s : State) (gs : List Nat) : Bool :=
  gs.any fun g => match (s.granule g).spread with
    | some (g0, n) => !((granuleRun g0 n).all gs.contains)
    | none => false

/-- Granules of a TIER1_REGION_SET that leave the cache region (07 R169). -/
def Call.regionLeaving (c : Call) (s : State) : List Nat :=
  (granuleRun (c.arg 0) (min (c.arg 1) 2048)).filter fun g => c.arg 2 == 1 && (s.granule g).mode == .cache

/-- Granules of a TIER1_REGION_SET that join the cache region. -/
def Call.regionComing (c : Call) (s : State) : List Nat :=
  (granuleRun (c.arg 0) (min (c.arg 1) 2048)).filter fun g => c.arg 2 != 1 && (s.granule g).mode == .scratch

/-- The refusals of TIER1_REGION_SET (07 R169, Table 7-1). -/
def tier1RegionSetRefusals (c : Call) (s : State) : List (Bool × Verdict) :=
  let (first, count, mode, spread) := (c.arg 0, c.arg 1, c.arg 2, c.arg 3)
  let gs := granuleRun first (min count 2048)
  let gr := gs.map s.granule
  let owner := (s.granule first).partition
  let foreign (g : Granule) : Bool := g.partition != if c.physical then owner else c.partition
  let toScratch := mode == 1
  let leaving := c.regionLeaving s
  let coming := c.regionComing s
  let before := s.cacheStations owner
  let after := s.cacheStationsAfter owner leaving coming
  let anyPin := s.mem.lines.any fun l => l.2.pin && l.2.partition == owner
  let misfit := s.pinMisfit owner leaving
  let live := gs.any fun g => (s.granule g).mode == .scratch && s.liveIn g &&
    (!toScratch || spread == 1 || (s.granule g).spread.isSome)
  let pending := gs.any fun g => s.partitionChanges.any fun x =>
    ((s.granule g).partition == x.partition) != x.tier1.contains g
  [(!c.physical && gr.any (fun g => !(s.usable c.function g.partition)), plain stNotPermitted),
   (decide (2047 < first) || gr.any foreign, c.bad 0),
   (decide (count < 1) || decide (2048 < first + count) || (spread == 1 && (decide (count < 2) || decide (64 < count))),
    c.bad 1),
   (decide (1 < mode) || (spread == 1 && mode != 1), c.bad 2),
   (decide (1 < spread), c.bad 3),
   (gr.any (fun g => g.mode == .flushing) || s.mem.regions.any (fun r => overlap r.first r.count first count),
    s.conflict 8 1),
   (s.partialRun gs, s.conflict 8 2),
   (live, s.conflict 8 2),
   (pending || gr.any (·.diag), s.conflict 8 (gr.head?.map (·.mode.code) |>.getD 0)),
   (before != after && anyPin, s.conflict 8 (gr.head?.map (·.mode.code) |>.getD 0)),
   (misfit.isSome,
    let m := misfit.getD (0, 0)
    .refuse stStateConflict (8 * 2 ^ 16 + 0xFFF * 2 ^ 20) (m.2 + m.1 * 2 ^ 32))]

/-- The lines of the granules that leave are flushed, and their pinned lines move; where the slices of the cache region change, so are
its other lines (07 Table 7-1, R170). -/
def Call.regionFlush (c : Call) (s : State) : State :=
  let owner := (s.granule (c.arg 0)).partition
  let leaving := c.regionLeaving s
  let s1 := leaving.foldl (fun s g => s.modGranule g fun k => { k with mode := .flushing }) s
  let s2 := leaving.foldl (fun s g => (s.granuleSlots g).foldl (fun s x => s.movePin x) s) s1
  if s.cacheStations owner = s.cacheStationsAfter owner leaving (c.regionComing s) then s2 else
    (s2.mem.lines.filter fun l => l.2.partition == owner && !l.2.pin).foldl (fun s l => s.flushSlot l.1) s2

/-- The region change of a TIER1_REGION_SET. -/
def Call.regionChange (c : Call) : RegionChange :=
  { id := c.cmd.id, first := c.arg 0, count := c.arg 1, mode := c.arg 2, spread := c.arg 3 == 1, flushed := true, command := c.cmd.id }

/-- TIER1_REGION_SET (07 R169, Table 7-1). It completes at the downbeat at which the change takes effect. -/
def tier1RegionSetEffect (c : Call) (s : State) : Verdict :=
  guards (tier1RegionSetRefusals c s)
    (let s3 := c.regionFlush s
     .defer { s3 with mem := { s3.mem with regions := s3.mem.regions ++ [c.regionChange] } } (.region c.cmd.id) 0)

/-- A region change takes effect at a downbeat (07 Table 7-1): lines read as zero, every tag is zero, contents of granules
that return to CACHE are discarded; a SPREAD run is made or its granules are unmarked. -/
def State.applyRegion (s : State) (r : RegionChange) : State :=
  (granuleRun r.first r.count).foldl (fun s g =>
    let was := (s.granule g).mode
    let next : GranuleMode := if r.mode = 1 then .scratch else .cache
    let s1 := s.modGranule g fun k =>
      { k with mode := next, spread := if r.spread then some (r.first, r.count) else none }
    if was = next then s1 else
      { s1 with
        mem := { s1.mem with
          t1 := memZero s1.mem.t1 (g * 2 ^ 23) (2 ^ 23)
          tags := s1.mem.tags.filter fun t => t.1 / 2048 != g
          deadBits := s1.mem.deadBits.filter fun x => x / 2048 != g
          poison1 := s1.mem.poison1.filter fun x => x / 65536 != g }
        fail := { s1.fail with written := s1.fail.written.filter (· != g) } }) s

/-- Every flushed region change takes effect and its command completes (07 R169). -/
def State.applyRegions (s : State) : State :=
  let s1 := s.mem.regions.foldl (fun s r => (s.applyRegion r).completeId r.command stOk 0 0) s
  { s1 with mem := { s1.mem with regions := [] } }

/-! ### Other tier-1 commands (07 R185) -/

/-- The refusals of a partition named in parameter `k` (07 R185). -/
def Call.partitionGuards (c : Call) (s : State) (k : Nat) : List (Bool × Verdict) :=
  [(!c.physical && !(s.usable c.function (c.arg k)), plain stNotPermitted),
   (decide (63 < c.arg k) || (!c.physical && c.arg k != c.partition), c.bad k)]

/-- TIER1_CONFIG (07 R181, R184, R185): it takes effect and completes at the next downbeat. -/
def tier1ConfigEffect (c : Call) (s : State) : Verdict :=
  guards (c.partitionGuards s 0 ++
    [(decide (c.arg 1 < 1), c.bad 1), (decide (1 < c.arg 3), c.bad 3)])
    (.defer s .downbeat 0)

/-- The settings of an accepted TIER1_CONFIG. -/
def State.applyTier1Config (s : State) (p : Packet) : State :=
  let a := param .tier1Config p
  { s with partitions := tupd s.partitions (a 0) Partition.initial fun k =>
      { k with youngBeats := a 1, youngNotice := a 2, deadStrict := a 3 == 1 } }

/-- Slices that lines of an object touch, ascending, with the number of lines among them that are not pinned yet. -/
def State.pinDemand (s : State) (i : Nat) (o : Object) (lines : List Nat) : List (Nat × Nat) :=
  let st := s.cacheStations o.partition
  lines.foldl (fun t l =>
    match homeOf st i l with
    | none => t
    | some (h, _) => tupd t h 0 fun n => n + b2n (!((s.findLine i l).any fun x => x.2.pin))) []

/-- The result record of a pin (07 R178). -/
def State.pinRecord (s : State) (p : Nat) (demand : List (Nat × Nat)) (failing : Option (Nat × Nat)) : List Byte :=
  let f := failing.getD (0xFF, 0)
  leBytes 2 (if failing.isSome then stPinCap else stOk) ++ leBytes 1 f.1 ++ leBytes 1 f.2 ++ leBytes 4 demand.length ++
    zeros 8 ++ demand.flatMap fun d =>
      let gs := (s.cacheGranules p d.1).length
      let pinned := s.pinnedIn d.1 (some p) + d.2
      leBytes 1 d.1 ++ zeros 3 ++ leBytes 4 pinned ++ leBytes 4 (gs * 2048 - pinned) ++
        leBytes 2 (gs - max (ceilDiv pinned 2048) (if d.2 = 0 then gs - s.minFreeWays d.1 p else 0)) ++ zeros 2

/-- Lines named from a first LINE, with the refusal of a range that passes the object (07 Table 7-4). -/
def Call.lineGuards (c : Call) (o : Object) : List (Bool × Verdict) :=
  [(decide (o.lines ≤ c.arg 1), c.bad 1), (decide (c.arg 2 < 1) || decide (o.lines < c.arg 1 + c.arg 2), c.bad 2)]

/-- The lines of a command. -/
def Call.lineRun (c : Call) (o : Object) : List Nat := (List.range (min (c.arg 2) o.lines)).map (· + c.arg 1)

/-- Objects that hold any part of a tier-2 granule. -/
def State.objectsInGranule (s : State) (g : Nat) : List (Nat × Object) :=
  let parts := granule2Parts g
  s.objects.filter fun o => o.2.mode != .free &&
    (o.2.granules.contains g || o.2.units.any fun u => parts.any fun x =>
      x.1 == u.pair && overlap (u.base / 512) 257 x.2.1 (x.2.2 - x.2.1))

/-- What bars a change of carve-out (12 R285 (b) to (e), (g)), each with the refusal. -/
def State.inTheWay (s : State) (x : PartitionChange) : List (Bool × Verdict) :=
  let p := x.partition
  let moved1 := (List.range 2048).filter fun g => ((s.granule g).partition == p) != x.tier1.contains g
  let moved2 := (List.range 1024).filter fun g => ((s.granule2 g).partition == p) != x.tier2.contains g
  let stuck1 := moved1.find? fun g =>
    let k := s.granule g
    (s.granuleSlots g).any (fun x => (tget s.mem.lines x).any (·.pin)) || k.mode == .flushing || k.diag || s.liveIn g ||
      s.mem.fills.any fun f => f.slot / 2048 == g && !f.pins.isEmpty
  let runs := s.mem.regions.filter (·.spread)
  let spread := moved1.any fun g => (s.granule g).spread.isSome || runs.any fun r => (granuleRun r.first r.count).contains g
  let stuck2 := (moved2.flatMap fun g => s.objectsInGranule g).foldl (fun (m : Option (Nat × Object)) o =>
    match m with
    | none => some o
    | some x => if o.1 < x.1 then some o else m) none
  let own := s.partition p
  let leavesC (h : Nat) : Bool :=
    decide (own.chimeBase ≤ h) && decide (h < own.chimeBase + own.chimeCount) &&
      !(decide (x.chimeBase ≤ h) && decide (h < x.chimeBase + x.chimeCount))
  let kits := (s.kits.map (·.2) ++ s.creations.map (·.kit)).filter (·.partition == p)
  let inNs (h : Nat) : Bool :=
    (kits.any fun k => decide (k.chimeBase ≤ h) && decide (h < k.chimeBase + k.chimeCount)) ||
    s.queues.any fun q => q.2.partition == p && q.2.mode != .free && decide (q.2.chimeBase ≤ h) &&
      decide (h < q.2.chimeBase + q.2.chimeCount)
  let nsHit := (List.range own.chimeCount).find? fun i => leavesC (own.chimeBase + i) && inNs (own.chimeBase + i)
  let wait := (s.waiters.filter fun w => leavesC w.chime).map (·.chime)
  let owned := (s.chimes.filter fun h => leavesC h.1 && h.2.context != 65535 && h.2.partition == p).map (·.1)
  let stuckC := (wait ++ owned ++ (match nsHit with | some i => [own.chimeBase + i] | none => [])).foldl
    (fun (m : Option Nat) h => match m with | none => some h | some x => some (min x h)) none
  let stuckA := s.almanac.entries.any fun e => e.2.valid && decide (own.almanacFirst ≤ e.1) &&
    decide (e.1 < own.almanacFirst + own.almanacCount) &&
      !(decide (x.almanacFirst ≤ e.1) && decide (e.1 < x.almanacFirst + x.almanacCount))
  [(stuck1.isSome, s.conflict 8 (s.granule (stuck1.getD 0)).mode.code),
   (stuck2.isSome, s.conflict 3 ((stuck2.map (·.2.mode.code)).getD 0)),
   (stuckC.isSome, s.conflict 4 (s.chime (stuckC.getD 0)).state),
   (stuckA, s.conflict 7 s.almanac.mode.code),
   (decide (x.contextLimit < s.contextCount p), s.conflict 0 0),
   (spread, s.conflict 8 2)]

/-- What a command that leads from `s` to `t` would bring into a granule, Chime or Almanac entry that changes hands by a
PARTITION_SET already accepted (12 R285). -/
def State.crossing (s t : State) : Option Verdict :=
  s.partitionChanges.findSome? fun x =>
    ((s.inTheWay x).zip (t.inTheWay x)).findSome? fun e => if !e.1.1 && e.2.1 then some e.2.2 else none

/-- The verdict on a command, refused where it crosses a PARTITION_SET that is pending (12 R285). -/
def State.heedPartitions (s : State) : Verdict → Verdict
  | .done t r => match s.crossing t with
    | some v => v
    | none => .done t r
  | .defer t w r => match s.crossing t with
    | some v => v
    | none => .defer t w r
  | v => v

/-- The slice whose limit a TIER1_PIN would pass, with the reason (07 R178). -/
def Call.pinFailing (c : Call) (s : State) (i : Nat) (o : Object) : Option (Nat × Nat) :=
  ((s.pinDemand i o (c.lineRun o)).find? fun d => s.pinLimit d.1 o.partition d.2 != 0).map fun d =>
    (d.1, s.pinLimit d.1 o.partition d.2)

/-- The refusals of TIER1_PIN for an object. -/
def Call.pinRefusals (c : Call) (s : State) (i : Nat) (o : Object) : List (Bool × Verdict) :=
  let demand := s.pinDemand i o (c.lineRun o)
  let size := (16 + 16 * demand.length + 127) / 128 * 128
  let wantsResult := c.arg 4 != 0 || c.arg 3 == 1
  let pinned := if s.partitionChanges.isEmpty then s else (c.lineRun o).foldl (fun s l =>
    let x := s.touchLine i o l false
    if x.status = stOk then x.s.pinLine x.slot else x.s) s
  let moving := s.crossing pinned
  c.handleGuards s 0 ++ c.lineGuards o ++
    [(decide (1 < c.arg 3), c.bad 3), (wantsResult && c.blockBad s 4 size 128, c.bad 4)] ++ c.objectGuards s 0 ++
    [(o.pool || o.summary, s.conflict 3 o.mode.code), (moving.isSome, moving.getD (s.conflict 8 0)),
     (wantsResult && c.domainDown s 4, plain stCoherentDown)]

/-- The record of a TIER1_PIN is written, if the command names a place for it; `before` is the state it describes. -/
def Call.pinReport (c : Call) (before : State) (i : Nat) (o : Object) (s : State) : State :=
  if c.arg 4 = 0 then s
  else s.writeResult (c.arg 4) (before.pinRecord o.partition (before.pinDemand i o (c.lineRun o)) (c.pinFailing before i o))

/-- The lines of a TIER1_PIN that tier 1 already holds are pinned at once. -/
def Call.pinResident (c : Call) (s : State) (i : Nat) (o : Object) : State :=
  (c.lineRun o).foldl (fun s l =>
    match s.findLine i l with
    | some (slot, k) => if k.mode = .clean ∨ k.mode = .dirty then s.pinLine slot else s
    | none => s) s

/-- The lines of a TIER1_PIN that are still to be filled. -/
def Call.pinMissing (c : Call) (s : State) (i : Nat) (o : Object) : List Nat :=
  (c.lineRun o).filter fun l => !(((c.pinResident s i o).findLine i l).any fun x => x.2.pin)

/-- TIER1_PIN (07 R178). -/
def tier1PinEffect (c : Call) (s : State) : Verdict :=
  match s.objectOf (c.arg 0) with
  | none => guards (c.handleGuards s 0) (c.bad 0)
  | some (i, o) =>
    guards (c.pinRefusals s i o)
      (let out := c.pinReport s i o
       if c.arg 3 = 1 then .done (out s) 0
       else if (s.cacheStations o.partition).isEmpty then .fail (out s) stPinCap (3 * 256) 0
       else match c.pinFailing s i o with
         | some f => .fail (out s) stPinCap (f.1 + f.2 * 256) 0
         | none =>
           let s2 := out (c.pinResident s i o)
           let missing := c.pinMissing s i o
           if missing.isEmpty then .done s2 0
           else .defer { s2 with mem := { s2.mem with
               pinnings := s2.mem.pinnings ++ [{ id := c.cmd.id, object := i, lines := missing, command := c.cmd.id }] } }
             (.pin c.cmd.id) 0)

/-- TIER1_UNPIN (07 Table 7-4). -/
def tier1UnpinEffect (c : Call) (s : State) : Verdict :=
  match s.objectOf (c.arg 0) with
  | none => guards (c.handleGuards s 0) (c.bad 0)
  | some (i, o) =>
    guards (c.handleGuards s 0 ++ c.lineGuards o ++ c.objectGuards s 0)
      (.done ((c.lineRun o).foldl (fun s l =>
        match s.findLine i l with
        | some (slot, _) => s.unpinLine slot
        | none => s) s) 0)

/-- One line of an object is declared dead (07 Table 7-2). -/
def State.deadLine (s : State) (i l : Nat) : State × Nat :=
  match s.findLine i l with
  | none => (s, 0)
  | some (slot, k) =>
    if k.mode = .clean ∨ k.mode = .dirty then
      if k.pin then (s, 1)
      else ({ s with mem := { s.mem with
          t1 := memZero s.mem.t1 (slot * 4096) 4096
          lines := tset s.mem.lines slot { k with mode := .dead } } }, 0)
    else (s, 0)

/-- A scratch line is declared dead: its bytes read as zero from then on (07 R182, R183). -/
def State.deadSlot (s : State) (slot : Nat) : State :=
  { s with mem := { s.mem with
      t1 := memZero s.mem.t1 (slot * 4096) 4096
      deadBits := addOnce s.mem.deadBits slot } }

/-- TIER1_DEAD (07 R182): RESULT is SKIPPED_PINNED. -/
def tier1DeadEffect (c : Call) (s : State) : Verdict :=
  if c.arg 0 = 0 then
    let (a, n) := (c.arg 1, c.arg 2)
    let p := if c.physical then (s.granule (a / 2 ^ 23)).partition else c.partition
    guards
      [(!c.physical && !(s.usable c.function (s.granule (a / 2 ^ 23)).partition), plain stNotPermitted),
       (a % 4096 != 0 || !(s.inScratch p a (max n 1)), c.bad 1), (n == 0 || n % 4096 != 0, c.bad 2)]
      (.done ((linePieces a n).foldl (fun s x => s.deadSlot (s.spreadMap x.1 / 4096)) s) 0)
  else
    match s.objectOf (c.arg 0) with
    | none => guards (c.handleGuards s 0) (c.bad 0)
    | some (i, o) =>
      guards (c.handleGuards s 0 ++ c.lineGuards o ++ c.objectGuards s 0)
        (let r := (c.lineRun o).foldl (fun (x : State × Nat) l => let y := x.1.deadLine i l; (y.1, x.2 + y.2)) (s, 0)
         .done r.1 r.2)

/-- A tier-1 counter record (07 Table 7-3). -/
def State.counterBytes (s : State) (station p : Nat) : List Byte :=
  let k := s.sliceCounters station p
  let gs := (s.cacheGranules p station).length
  let pinned := s.pinnedIn station (some p)
  leBytes 8 k.fills ++ leBytes 8 k.mergedMisses ++ leBytes 8 k.evictClean ++ leBytes 8 k.evictDirty ++
    leBytes 8 k.evictYoung ++ leBytes 8 k.deadReads ++ leBytes 4 pinned ++ leBytes 4 (gs * 2048 - pinned) ++
    leBytes 2 (s.minFreeWays station p) ++ leBytes 1 station ++ leBytes 1 p ++ zeros 4

/-- TIER1_COUNTERS (07 R180, R185). -/
def tier1CountersEffect (c : Call) (s : State) : Verdict :=
  let n := c.arg 2
  guards (c.partitionGuards s 0 ++
    [(decide (53 < c.arg 1), c.bad 1), (decide (n < 1) || decide (54 < c.arg 1 + n), c.bad 2)] ++
    c.resultGuards s 3 (64 * min n 54))
    (c.result s 3 ((List.range (min n 54)).flatMap fun i => s.counterBytes (c.arg 1 + i) (c.arg 0)))

/-- A Kit may be named by the command: it exists, and its partition is the queue's, or the function's, or the function is
physical (07 R185). -/
def Call.kitGuards (c : Call) (s : State) (k : Nat) : List (Bool × Verdict) :=
  match s.kit (c.arg k) with
  | none => [(true, c.bad k)]
  | some x =>
    [(!c.physical && !(s.usable c.function x.partition), plain stNotPermitted),
     (!c.physical && x.partition != c.partition, c.bad k)]

/-- RO_INVALIDATE (07 R187 (c)): at the next downbeat. -/
def roInvalidateEffect (c : Call) (s : State) : Verdict :=
  guards (c.kitGuards s 0 ++ [((s.kit (c.arg 0)).any fun k => s.lostContext k.context, plain stContextLost)])
    (.defer s (.roInvalidate (c.arg 0)) 0)

/-! ### Partitions (12 R284, R285) -/

/-- Numbers of the set bits of a map. -/
def mapBits (n : Nat) (bytes : List Byte) : List Nat := (List.range n).filter fun g => (bytes.getD (g / 8) 0).getLsbD (g % 8)

/-- A map of `n` bytes with the given bits. -/
def bitMap (n : Nat) (l : List Nat) : List Byte :=
  (List.range n).map fun i => BitVec.ofNat 8 (maskOf ((List.range 8).filter fun b => l.contains (8 * i + b)))

/-- Who will hold a tier-1 granule once every pending change has taken effect. -/
def State.futureOwner (s : State) (g : Nat) : Nat :=
  match s.partitionChanges.find? fun x => x.tier1.contains g with
  | some x => x.partition
  | none =>
    let o := (s.granule g).partition
    if s.partitionChanges.any (fun x => x.partition == o) then 0 else o

/-- Who will hold a tier-2 granule. -/
def State.futureOwner2 (s : State) (g : Nat) : Nat :=
  match s.partitionChanges.find? fun x => x.tier2.contains g with
  | some x => x.partition
  | none =>
    let o := (s.granule2 g).partition
    if s.partitionChanges.any (fun x => x.partition == o) then 0 else o

/-- Ranges of Chimes and of Almanac entries that other partitions will hold. -/
def State.otherRanges (s : State) (p : Nat) (f : PartitionChange → Nat × Nat) (g : Partition → Nat × Nat) :
    List (Nat × Nat) :=
  (List.range 64).filterMap fun q =>
    if q = 0 ∨ q = p then none else
      match s.partitionChanges.find? (·.partition == q) with
      | some x => some (f x)
      | none => some (g (s.partition q))

/-- The carve-out that the parameter block of a PARTITION_SET describes (12 Table 12-1). -/
def Call.partitionChange (c : Call) (s : State) : PartitionChange :=
  let b := s.sysRead (c.arg 1) 512
  { partition := c.arg 0, tier1 := mapBits 2048 (slice b 0 256), tier2 := mapBits 1024 (slice b 256 128)
    chimeBase := field b 384 4, chimeCount := field b 388 4, almanacFirst := field b 392 4, almanacCount := field b 396 4
    contextLimit := field b 400 4 }

/-- The refusals of PARTITION_SET (12 R285). -/
def partitionSetRefusals (c : Call) (s : State) : List (Bool × Verdict) :=
  let p := c.arg 0
  let b := s.sysRead (c.arg 1) 512
  let x := c.partitionChange s
  let taken1 := x.tier1.find? fun g => s.futureOwner g != 0 && s.futureOwner g != p
  let taken2 := x.tier2.find? fun g => (s.futureOwner2 g != 0 && s.futureOwner2 g != p)
  let cut (r : Nat × Nat) (x n : Nat) : Bool := n != 0 && r.2 != 0 && overlap r.1 r.2 x n
  [(decide (p < 1) || decide (63 < p), c.bad 0), (c.blockBad s 1 512 64, c.bad 1),
   (taken1.isSome, badBlock (taken1.getD 0 / 8)), (taken2.isSome, badBlock (256 + taken2.getD 0 / 8)),
   (decide (2 ^ 22 ≤ x.chimeBase), badBlock 384),
   (decide (2 ^ 22 < x.chimeBase + x.chimeCount) ||
     (s.otherRanges p (fun x => (x.chimeBase, x.chimeCount)) (fun x => (x.chimeBase, x.chimeCount))).any
       (fun r => cut r x.chimeBase x.chimeCount), badBlock 388),
   (decide (65535 < x.almanacFirst), badBlock 392),
   (decide (65536 < x.almanacFirst + x.almanacCount) ||
     (s.otherRanges p (fun x => (x.almanacFirst, x.almanacCount)) (fun x => (x.almanacFirst, x.almanacCount))).any
       (fun r => cut r x.almanacFirst x.almanacCount), badBlock 396),
   (decide (65535 < x.contextLimit), badBlock 400),
   ((slice b 404 108).any (· != 0), badBlock (404 + ((slice b 404 108).findIdx? (· != 0)).getD 0))] ++
   s.inTheWay x ++
   [(s.partitionChanges.any (·.partition == p), s.conflict 0 0), (c.domainDown s 1, plain stCoherentDown)]

/-- PARTITION_SET (12 R285). -/
def partitionSetEffect (c : Call) (s : State) : Verdict :=
  guards (partitionSetRefusals c s)
    (.defer { s with partitionChanges := s.partitionChanges ++ [c.partitionChange s] } (.partitionSet (c.arg 0)) 0)

/-- A granule of tier 1 passes to another partition in CACHE mode, its lines gone (07, Regions; 12 R285). -/
def State.giveGranule (s : State) (g p : Nat) : State :=
  let s1 := (s.granuleSlots g).foldl (fun s x => s.flushSlot x) s
  ({ s1 with mem := { s1.mem with
      t1 := memZero s1.mem.t1 (g * 2 ^ 23) (2 ^ 23)
      tags := s1.mem.tags.filter fun t => t.1 / 2048 != g
      deadBits := s1.mem.deadBits.filter fun x => x / 2048 != g } }).modGranule g
    fun k => { k with partition := p, mode := .cache }

/-- The state with a tier-2 granule changed. -/
def State.modGranule2 (s : State) (g : Nat) (f : Granule2 → Granule2) : State :=
  let n := f (s.granule2 g)
  let t := if n = Granule2.initial then terase s.mem.granules2 g else tset s.mem.granules2 g n
  { s with mem := { s.mem with granules2 := t } }

/-- An accepted PARTITION_SET takes effect (12 R285): its counter records are cleared, unpinned lines of a cache region
whose slices change are written back and dropped (07 R170). -/
def State.applyPartition (s : State) (x : PartitionChange) : State :=
  let p := x.partition
  let moved := (List.range 2048).filter fun g => ((s.granule g).partition == p) != x.tier1.contains g
  let flush (s : State) (q : Nat) : State :=
    (s.mem.lines.filter fun l => l.2.partition == q && !l.2.pin).foldl (fun s l => s.flushSlot l.1) s
  let s0 := if moved.isEmpty then s else flush (flush s p) 0
  let s1 := moved.foldl (fun s g => s.giveGranule g (if x.tier1.contains g then p else 0)) s0
  let s2 := (List.range 1024).foldl (fun s g =>
    if ((s.granule2 g).partition == p) != x.tier2.contains g then
      s.modGranule2 g fun k => { k with partition := if x.tier2.contains g then p else 0 }
    else s) s1
  { s2 with
    mem := { s2.mem with counters := s2.mem.counters.filter fun k => k.1 % 64 != p }
    partitions := tupd s2.partitions p Partition.initial fun k =>
      { k with chimeBase := x.chimeBase, chimeCount := x.chimeCount, almanacFirst := x.almanacFirst,
               almanacCount := x.almanacCount, contextLimit := x.contextLimit } }

/-- The 512 bytes of a partition's carve-out (12 Table 12-1). -/
def State.partitionBytes (s : State) (p : Nat) : List Byte :=
  let k := s.partition p
  let r := if p = 0 then (0, 4194304, 0, 65536, 65535)
    else (k.chimeBase, k.chimeCount, k.almanacFirst, k.almanacCount, k.contextLimit)
  bitMap 256 ((List.range 2048).filter fun g => (s.granule g).partition == p) ++
    bitMap 128 ((List.range 1024).filter fun g => (s.granule2 g).partition == p) ++ leBytes 4 r.1 ++ leBytes 4 r.2.1 ++
    leBytes 4 r.2.2.1 ++ leBytes 4 r.2.2.2.1 ++ leBytes 4 r.2.2.2.2 ++ zeros 108

/-- PARTITION_QUERY (12 R302). -/
def partitionQueryEffect (c : Call) (s : State) : Verdict :=
  guards ([(decide (63 < c.arg 0), c.bad 0)] ++ c.resultGuards s 1 512) (c.result s 1 (s.partitionBytes (c.arg 0)))

end Sys2Proof.Machine
end

