-- ==== Sys2Proof/Machine/ReedSolomon.lean ====
section
/-!
DEFINITION. The Reed-Solomon codes of stored data (08 R195 to R197): arithmetic in GF(2^8), syndromes, and the decoding of erasures
with further symbol errors, over all byte lanes of a code word at once.
-/
namespace Sys2Proof.Machine
open Sys2Proof

/-- Multiplication in GF(2^8) by x (08 R195): the field polynomial is 11Dh. -/
def gfDouble (a : Nat) : Nat := if 128 ≤ a then (2 * a) ^^^ 0x11D else 2 * a

/-- Product in GF(2^8), over the bits of `b` from the lowest. -/
def gfMulFrom : Nat → Nat → Nat → Nat
  | 0, _, _ => 0
  | fuel + 1, a, b => (if b % 2 = 1 then a else 0) ^^^ gfMulFrom fuel (gfDouble a) (b / 2)

/-- Product in GF(2^8). -/
def gfMul (a b : Nat) : Nat := gfMulFrom 8 a b

/-- Power in GF(2^8). -/
def gfPow (a : Nat) : Nat → Nat
  | 0 => 1
  | n + 1 => gfMul a (gfPow a n)

/-- Inverse in GF(2^8). -/
def gfInv (a : Nat) : Nat := gfPow a 254

/-- α to a power. -/
def alpha (i : Nat) : Nat := gfPow 2 (i % 255)

/-- The parameters of a code (08 Table 8-1). -/
structure Code where
  symbols : Nat
  data : Nat
  size : Nat
deriving DecidableEq, Repr

/-- The code of a tier. -/
def codeOf (tier : Nat) : Code := if tier = 2 then ⟨20, 16, 32⟩ else ⟨10, 8, 16⟩

/-- Check symbols. -/
def Code.checks (c : Code) : Nat := c.symbols - c.data

/-- Locator of symbol `j`: the power of x that it stands at. -/
def Code.locator (c : Code) (j : Nat) : Nat := alpha (c.symbols - 1 - j)

/-- The bytes of byte lane `b`, symbol 0 first. -/
def Code.lane (c : Code) (bytes : List Byte) (b : Nat) : List Nat :=
  (List.range c.symbols).map fun j => (bytes.getD (j * c.size + b) 0).toNat

/-- Syndromes of a lane: its polynomial at the roots of g(x). -/
def Code.syndromes (c : Code) (lane : List Nat) : List Nat :=
  (List.range c.checks).map fun i => lane.foldl (fun a v => gfMul a (alpha i) ^^^ v) 0

/-- Coefficients, lowest first, of the product of (x + r) over the roots. -/
def rootsPoly : List Nat → List Nat
  | [] => [1]
  | r :: l =>
    let p := rootsPoly l
    let shifted := 0 :: p
    let scaled := (p.map (gfMul r)) ++ [0]
    (shifted.zip scaled).map fun x => x.1 ^^^ x.2

/-- Sum of products of two lists. -/
def gfDot (a b : List Nat) : Nat := ((a.zip b).map fun x => gfMul x.1 x.2).foldl (· ^^^ ·) 0

/-- Syndromes are explained by errors at the locators `xs` alone. -/
def explained (xs syndromes : List Nat) : Bool :=
  let l := rootsPoly xs
  (List.range (syndromes.length - xs.length)).all fun k => gfDot l (syndromes.drop k) == 0

/-- The magnitude at locator `x`, the others being `rest`. -/
def magnitude (x : Nat) (rest syndromes : List Nat) : Nat :=
  gfMul (gfDot (rootsPoly rest) syndromes) (gfInv (rest.foldl (fun a r => gfMul a (x ^^^ r)) 1))

/-- Positions of a code word that explain every lane: the erasures and the fewest further symbols (08 R197). -/
def Code.positions (c : Code) (erased : List Nat) (all : List (List Nat)) : Option (List Nat) :=
  let free := (List.range c.symbols).filter fun j => !(erased.contains j)
  let good (t : List Nat) : Bool :=
    decide (erased.length + 2 * t.length ≤ c.checks) && all.all fun s => explained ((erased ++ t).map c.locator) s
  let one := free.map fun j => [j]
  let two := free.flatMap fun j => (free.filter (j < ·)).map fun k => [j, k]
  ((([] : List Nat) :: one ++ two).find? good).map fun t => erased ++ t

/-- What the decoder makes of a code word: the word that the code requires, and the symbols in error; none when it is
uncorrectable (08 R197). -/
def Code.decode (c : Code) (erased : List Nat) (bytes : List Byte) : Option (List Byte × List Nat) :=
  let lanes := (List.range c.size).map (c.lane bytes)
  let syn := lanes.map c.syndromes
  match c.positions erased syn with
  | none => none
  | some ps =>
    let fix (b j : Nat) : Nat :=
      let v := (bytes.getD (j * c.size + b) 0).toNat
      if ps.contains j then
        v ^^^ magnitude (c.locator j) ((ps.filter (· != j)).map c.locator) (syn.getD b [])
      else v
    let out := (List.range (c.symbols * c.size)).map fun i => BitVec.ofNat 8 (fix (i % c.size) (i / c.size))
    some (out, (List.range c.symbols).filter fun j =>
      slice out (j * c.size) c.size != slice bytes (j * c.size) c.size)

/-- The code word of data: its check symbols are those that an erasure of them gives (08 R195). -/
def Code.encode (c : Code) (data : List Byte) : List Byte :=
  let bytes := padTo (c.data * c.size) data ++ zeros (c.checks * c.size)
  match c.decode ((List.range c.checks).map (· + c.data)) bytes with
  | some (out, _) => out
  | none => bytes

end Sys2Proof.Machine
end

