-- ==== Sys2Proof/Machine/Protection.lean ====
section
/-!
DEFINITION. Protection of stored data (08): what the decoders find in code words that are read, FAILED dies and macros, rebuild,
scrub, and the ECC commands.
-/
namespace Sys2Proof.Machine
open Sys2Proof

/-! ### Code words and the parts that hold them (08 R195, R196, R201) -/

/-- Where a code word is stored: station, way and offset in the way, or pair and pair-local address. -/
inductive WordPlace where
  | t1 (station way off : Nat)
  | t2 (pair off : Nat)
deriving DecidableEq, Repr

/-- Tier of a code word. -/
def WordPlace.tier : WordPlace → Nat
  | .t1 _ _ _ => 1
  | .t2 _ _ => 2

/-- Data address of a code word (08 Table 8-1). -/
def WordPlace.address : WordPlace → Nat
  | .t1 _ way off => way * 2 ^ 23 + off / 128 * 128
  | .t2 _ off => off / 512 * 512

/-- The code word at a location of allocatable tier 1. -/
def wordT1 (loc : Nat) : WordPlace :=
  let p := granulePlace (loc / 2 ^ 23)
  .t1 p.1 p.2 (loc % 2 ^ 23)

/-- Location of a tier-1 code word in allocatable tier 1; none in a reserved way. -/
def WordPlace.loc : WordPlace → Option Nat
  | .t1 station way off => (placeGranule station way).map fun g => g * 2 ^ 23 + off / 128 * 128
  | .t2 _ _ => none

/-- Key of a code word in the list of raw words. -/
def WordPlace.key : WordPlace → Nat
  | .t1 station way off =>
    match WordPlace.loc (.t1 station way off) with
    | some l => l
    | none => 2 ^ 34 + (station * 40 + way) * 2 ^ 23 + off / 128 * 128
  | .t2 pair off => t2Key pair (off / 512 * 512)

/-- Pair die of symbol `j` of a code word (08 R196). -/
def pairDie (off j : Nat) : Nat := (j + 4 * (off / 512 % 8)) % 32

/-- The bank of a way (08 R201). -/
def State.bank (s : State) (station way : Nat) : Bank :=
  tgetD s.mem.banks (station * 40 + way) { failed := [], spareFor := none, rebuilding := none, errors := [] }

/-- The state with a bank changed. -/
def State.modBank (s : State) (station way : Nat) (f : Bank → Bank) : State :=
  { s with mem := { s.mem with banks := tset s.mem.banks (station * 40 + way) (f (s.bank station way)) } }

/-- Macro that serves symbol `j`: the spare once it has been rebuilt. -/
def Bank.partOf (b : Bank) (j : Nat) : Nat := if b.spareFor = some j ∧ b.rebuilding = none then 10 else j

/-- Symbols that a bank decodes as erasures (08 R202). -/
def Bank.erased (b : Bank) : List Nat := (List.range 10).filter fun j => b.failed.contains (b.partOf j)

/-- The part that holds symbol `j` of a code word. -/
def State.partOf (s : State) (w : WordPlace) (j : Nat) : Nat :=
  match w with
  | .t1 st way _ => (s.bank st way).partOf j
  | .t2 _ off => pairDie off j

/-- Symbols of a code word that are decoded as erasures (08 R197). -/
def State.erasures (s : State) (w : WordPlace) : List Nat :=
  match w with
  | .t1 st way _ => (s.bank st way).erased
  | .t2 pair off => (List.range 20).filter fun j => (s.mem.pairs[pair]?).any fun p => p.failedDies.contains (pairDie off j)

/-- The code word lies in a granule in diagnostic mode. -/
def State.diagnostic (s : State) (w : WordPlace) : Bool :=
  match w with
  | .t1 _ _ _ => (w.loc).any fun l => (s.granule (l / 2 ^ 23)).diag
  | .t2 pair off => (s.granule2 (granule2Of pair off)).diag

/-- Partition of a code word; FFh for none. -/
def State.wordPartition (s : State) (w : WordPlace) : Nat :=
  match w with
  | .t1 _ _ _ => match w.loc with
    | some l => (s.granule (l / 2 ^ 23)).partition
    | none => 0xFF
  | .t2 pair off => (s.granule2 (granule2Of pair off)).partition

/-- The object that holds a tier-2 code word: index, entry, object offset. -/
def State.objectAt (s : State) (pair off : Nat) : Option (Nat × (Object × Nat)) :=
  s.objects.findSome? fun (e : Nat × Object) =>
    if e.2.mode = .free then none
    else
      let inUnits := (List.range e.2.units.length).findSome? fun u => (e.2.units[u]?).bind fun x =>
        if x.pair = pair ∧ x.base ≤ off ∧ off < x.base + unitBytes then some (u * unitBytes + (off - x.base)) else none
      let inPool := (List.range e.2.granules.length).findSome? fun i => (e.2.granules[i]?).bind fun g =>
        if g = granule2Of pair off then some (i * 2 ^ 30 + off % 2 ^ 30) else none
      (inUnits.orElse fun _ => inPool).map fun o => (e.1, (e.2, o))

/-- Line of an object offset (07, Cache mode). -/
def Object.lineOf (o : Object) (off : Nat) : Nat :=
  if o.tiled then off / unitBytes * 32 + min (off % unitBytes / 4096) 31 else off / 4096

/-- Handle and line of the object that a code word belongs to; zeros for none. -/
def State.wordObject (s : State) (w : WordPlace) : Nat × Nat :=
  match w with
  | .t2 pair off => match s.objectAt pair off with
    | some (i, (o, at_)) => (o.handle i, o.lineOf at_)
    | none => (0, 0)
  | .t1 _ _ _ =>
    match w.loc.bind fun l => tget s.mem.lines (l / 4096) with
    | some l => match tget s.objects l.object with
      | some o => (o.handle l.object, l.line)
      | none => (0, 0)
    | none => (0, 0)

/-! ### Marks (08 R198, R202) -/

/-- A mask of symbol numbers. -/
def symbolMask (l : List Nat) : Nat := maskOf l

/-- A pair die is marked FAILED (08 R198). -/
def State.markDie (s : State) (pair die source : Nat) : State :=
  match s.mem.pairs[pair]? with
  | none => s
  | some p =>
    if p.failedDies.contains die then s else
      let s1 : State := { s with mem := { s.mem with pairs := lmod s.mem.pairs pair fun p =>
        { p with failedDies := p.failedDies ++ [die] } } }
      let s2 := (s1.logEvent 0x05 source 0xFF pair 0 0 0xFF die).notice .companion 0x0009 stOk 65535
        (pair * 256 + die * 65536) 0 0
      if p.failedDies.length + 1 = 3 then
        (s2.logEvent 0x08 source 0xFF pair 0 0 0xFF 0xFF).notice .companion 0x000A stOk 65535 (pair * 256) 0 0
      else s2

/-- A macro is marked FAILED: rebuild into the spare begins, or it stays an erasure (08 R202). -/
def State.markMacro (s : State) (station way m source : Nat) : State :=
  let b := s.bank station way
  if b.failed.contains m then s else
    let s1 := s.modBank station way fun b =>
      { b with failed := b.failed ++ [m],
               spareFor := if b.spareFor.isNone && decide (m < 10) then some m else b.spareFor,
               rebuilding := if b.spareFor.isNone && decide (m < 10) then some m else b.rebuilding }
    let s2 := s1.logEvent 0x06 source station 0xFF 0 (way * 2 ^ 23) 0xFF m
    if (s1.bank station way).erased.length = 2 ∧ (s.bank station way).erased.length < 2 then
      (s2.logEvent 0x09 source station 0xFF 0 (way * 2 ^ 23) 0xFF 0xFF).notice .companion 0x000B stOk 65535
        (station + way * 65536) 0 0
    else s2

/-- Errors of the last 1 ms, with new ones added. -/
def addErrors (l : List (Nat × (Nat × Nat))) (now word : Nat) (parts : List Nat) : List (Nat × (Nat × Nat)) :=
  (l.filter fun e => now < e.2.2 + 100000) ++ parts.map fun p => (p, (word, now))

/-- Parts with errors in 16 or more distinct code words. -/
def overParts (l : List (Nat × (Nat × Nat))) : List Nat :=
  ((l.map (·.1)).foldl addOnce []).filter fun p =>
    16 ≤ (((l.filter (·.1 == p)).map (·.2.1)).foldl addOnce []).length

/-- Symbol errors are attributed to the parts that hold the symbols, which may fail by it (08 R198 (a), R202). -/
def State.attribute_ (s : State) (w : WordPlace) (symbols : List Nat) (source : Nat) : State :=
  let parts := symbols.map (s.partOf w)
  match w with
  | .t1 st way off =>
    let s1 := s.modBank st way fun b => { b with errors := addErrors b.errors s.now (off / 128) parts }
    (overParts (s1.bank st way).errors).foldl (fun s m => s.markMacro st way m source) s1
  | .t2 pair off =>
    let s1 : State := { s with mem := { s.mem with pairs := lmod s.mem.pairs pair fun p =>
      { p with errors := addErrors p.errors s.now (off / 512) parts } } }
    (((s1.mem.pairs[pair]?).map fun p => overParts p.errors).getD []).foldl (fun s d => s.markDie pair d source) s1

/-- MACRO_REBUILT (08 R202 (a)). -/
def State.partRebuilt (s : State) (station way : Nat) : State :=
  match (s.bank station way).rebuilding with
  | none => s
  | some m =>
    (s.modBank station way fun b => { b with rebuilding := none }).logEvent 0x07 5 station 0xFF 0 (way * 2 ^ 23) 0xFF m

/-! ### Counters and log records of errors (08 R214) -/

/-- Beats in one second, at the running period. -/
def State.beatsPerSecond (s : State) : Nat := ceilDiv 100000000 (max s.beat.period 1)

/-- Station and pair of a code word for the log. -/
def WordPlace.station : WordPlace → Nat
  | .t1 st _ _ => st
  | .t2 _ _ => 0xFF
def WordPlace.pair : WordPlace → Nat
  | .t1 _ _ _ => 0xFF
  | .t2 p _ => p

/-- The counters of the pair or slice of a code word changed. -/
def State.countWord (s : State) (w : WordPlace) (f : UnitCounters → UnitCounters) : State :=
  match w with
  | .t1 st _ _ => s.countSlice st f
  | .t2 p _ => s.countPair p f

/-- CE_COUNT and UE_COUNT of the parts that hold symbols of a code word (21 R487). -/
def State.countParts (s : State) (w : WordPlace) (symbols : List Nat) (ce ue : Nat) : State :=
  let bump (x : Nat × Nat) : Nat × Nat := (x.1 + ce, x.2 + ue)
  { s with win := match w with
    | .t1 st way _ => { s.win with parts := symbols.foldl (fun t j =>
        tupd t (440 * st + 11 * way + s.partOf w j) (0, 0) bump) s.win.parts }
    | .t2 p _ => { s.win with pairDies := symbols.foldl (fun t j => tupd t (32 * p + s.partOf w j) (0, 0) bump) s.win.pairDies } }

/-- A corrected error: counted for its unit and parts, logged at most once per code word and scrub pass and 1,024 times a second. -/
def State.corrected (s : State) (w : WordPlace) (symbols : List Nat) (source : Nat) : State :=
  let s1 := (s.countWord w fun c => { c with corrected := c.corrected + 1 }).countParts w symbols 1 0
  let kind := if w.tier = 2 then 0x01 else 0x03
  let key := (w.tier, w.key)
  let recent := (s.mem.log.filter fun r => r.kind == kind && r.station == w.station && r.pair == w.pair &&
    decide (s.beat.number < r.beat + s.beatsPerSecond)).length
  if s.mem.loggedCorrected.contains key ∨ 1024 ≤ recent then s1
  else
    let s2 : State := { s1 with mem := { s1.mem with loggedCorrected := s1.mem.loggedCorrected ++ [key] } }
    s2.logEvent kind source w.station w.pair (symbolMask symbols) w.address (s.wordPartition w)
      (match symbols with
        | [j] => s.partOf w j
        | _ => 0xFF)

/-- Poison of a code word (08 R209). -/
def State.poisonWord (s : State) (w : WordPlace) : State :=
  match w with
  | .t1 _ _ _ => match w.loc with
    | some l => s.poison1 l 128
    | none => s
  | .t2 pair off => s.poison2 pair off ((s.objectAt pair off).map (·.1))

/-- A code word is poisoned. -/
def State.isPoisoned (s : State) (w : WordPlace) : Bool :=
  match w with
  | .t1 _ _ _ => (w.loc).any fun l => s.poisoned1 l 128
  | .t2 pair off => s.poisoned2 pair off

/-- An uncorrectable code word: poisoned, counted, logged once and told to the partition's owner (08 R209, R211). -/
def State.uncorrectable (s : State) (w : WordPlace) (symbols : List Nat) (source : Nat) : State :=
  let o := s.wordObject w
  let s1 := (if s.isPoisoned w then s else s.poisonWord w).countParts w symbols 0 1
  s1.reportError (if w.tier = 2 then 0x02 else 0x04) source w.station w.pair w.address (s.wordPartition w) o.1 o.2

/-- A word in a diagnostic granule is read: its errors are logged with SOURCE 3, and nothing else follows (08 R216). -/
def State.diagRead (s : State) (w : WordPlace) (symbols : List Nat) (good : Bool) : State :=
  if symbols.isEmpty && good then s
  else s.logEvent (if w.tier = 2 then (if good then 0x01 else 0x02) else if good then 0x03 else 0x04) 3 w.station w.pair
    (symbolMask symbols) w.address (s.wordPartition w) 0xFF

/-- The bytes of the listed data symbols become free values: a pattern that the decoder does not detect (08 R197). -/
def State.corrupt (s : State) (w : WordPlace) (symbols : List Nat) : State :=
  let size := (codeOf w.tier).size
  let data := symbols.filter (· < (codeOf w.tier).data)
  data.foldl (fun s j =>
    let bytes := leBytes size s.free.toNat
    let m := match w with
      | .t1 _ _ _ => match w.loc with
        | some l => { s.mem with t1 := memWrite zeroByte s.mem.t1 (l + j * size) bytes }
        | none => s.mem
      | .t2 _ _ => { s.mem with t2 := memWrite zeroByte s.mem.t2 (w.key + j * size) bytes }
    ({ s with mem := m }).useFree) s

/-- A code word is read with symbols in error (08 R197): corrected, uncorrectable, or passed by the decoder. -/
def State.seeWord (s : State) (w : WordPlace) (symbols : List Nat) (source : Nat) : State :=
  if symbols.isEmpty then s
  else
    let c := codeOf w.tier
    let erased := s.erasures w
    let further := symbols.filter fun j => !(erased.contains j)
    let good := decide (erased.length + 2 * further.length ≤ c.checks)
    if s.diagnostic w then s.diagRead w symbols good
    else if good then (s.attribute_ w further source).corrected w symbols source
    else if decide (erased.length ≤ c.checks) && !(Config.patternDetected (symbols.map (BitVec.ofNat 8))) then
      s.corrupt w further
    else (s.attribute_ w further source).uncorrectable w symbols source

/-- The code words that an access reads with symbols in error. -/
def State.observe (s : State) (l : List Upset) : State :=
  l.foldl (fun s u =>
    let w := if u.tier = 2 then WordPlace.t2 (u.address / 2 ^ 37) (u.address % 2 ^ 37) else wordT1 u.address
    s.seeWord w u.symbols 0) s

/-! ### Scrub (08 R207, R208, R212) -/

/-- Code words of a unit: a pair, or a slice. -/
def scrubWords (tier : Nat) : Nat := if tier = 2 then 214748364 else 2621440

/-- The code word with a number in a unit's scrub order. -/
def scrubPlace (tier unit n : Nat) : WordPlace :=
  if tier = 2 then .t2 unit (n * 512) else .t1 unit (n / 65536) (n % 65536 * 128)

/-- Next code word of a unit's scrub. -/
def State.scrubNext (s : State) (tier unit : Nat) : Nat :=
  if tier = 2 then ((s.mem.pairs[unit]?).map (·.scrubAt)).getD 0 else tgetD s.mem.scrub1 unit 0

/-- The scrub goes on; at the end of a pass the passes are counted and corrected errors may be logged again. -/
def State.scrubTo (s : State) (tier unit n : Nat) : State :=
  let wrapped := n == scrubWords tier
  let n1 := if wrapped then 0 else n
  let mine (k : Nat × Nat) : Bool :=
    k.1 == tier && (if tier = 2 then k.2 / 2 ^ 37 == unit else (granulePlace (k.2 / 2 ^ 23)).1 == unit)
  let m := if tier = 2 then { s.mem with pairs := lmod s.mem.pairs unit fun p => { p with scrubAt := n1 } }
    else { s.mem with scrub1 := tset s.mem.scrub1 unit n1 }
  if wrapped then
    { s with
      mem := { m with loggedCorrected := m.loggedCorrected.filter fun k => !mine k }
      win := if tier = 2 then { s.win with pairPasses := tupd s.win.pairPasses unit 0 (· + 1) }
        else { s.win with slicePasses := tupd s.win.slicePasses unit 0 (· + 1) } }
  else { s with mem := m }

/-- The repair that scrub makes of a word it has just poisoned, from the module's own other tier (08 R212). -/
def State.scrubRepair (s : State) (w : WordPlace) : State :=
  match w with
  | .t1 _ _ _ =>
    match w.loc with
    | none => s
    | some l =>
      if (tget s.mem.lines (l / 4096)).any fun x => x.mode == .clean then
        (s.dropLine (l / 4096)).logEvent 0x0A 1 w.station w.pair 0 w.address (s.wordPartition w) 0xFF
      else s
  | .t2 pair off =>
    match s.objectAt pair off with
    | none => s
    | some (i, (o, at_)) =>
      match s.findLine i (o.lineOf at_) with
      | some (slot, x) =>
        let start := at_ - o.lineOffset x.line
        if x.mode = .clean ∧ start + 512 ≤ 4096 ∧ !(s.poisoned1 (slot * 4096 + start) 512) then
          (s.writeT2 pair (off / 512 * 512) (memRead zeroByte s.mem.t1 (slot * 4096 + start / 512 * 512) 512)).logEvent
            0x0A 1 w.station w.pair 0 w.address (s.wordPartition w) 0xFF
        else s
      | none => s

/-- SCRUB_STEP: the next code word of a pair or slice is read, with the symbols found in error. -/
def State.scrubStep (s : State) (tier unit : Nat) (symbols : List Nat) : State :=
  let n := s.scrubNext tier unit
  let w := scrubPlace tier unit n
  let s1 :=
    if s.diagnostic w || s.isPoisoned w then s
    else
      let s2 := s.seeWord w symbols 1
      if s2.isPoisoned w then s2.scrubRepair w else s2
  s1.scrubTo tier unit (n + 1)

/-! ### The ECC commands (08 R215, Table 8-6) -/

/-- Bytes as free values. -/
def State.freeBytes (s : State) (n : Nat) : List Byte :=
  (List.range n).map fun i => BitVec.ofNat 8 (Config.freeValue (s.freeCount + i)).toNat

/-- The code word of a device physical address; none if it names no word of either tier or is not aligned. -/
def rawPlace (a : Nat) : Option WordPlace :=
  match region a with
  | .tier1 => if a % 128 = 0 then some (wordT1 a) else none
  | .tier2 p o => if o % 512 = 0 then some (.t2 p o) else none
  | _ => none

/-- Data bytes of a code word as memory holds them. -/
def State.wordData (s : State) (w : WordPlace) : List Byte :=
  match w with
  | .t1 _ _ _ => memRead zeroByte s.mem.t1 w.key 128
  | .t2 _ _ => memRead zeroByte s.mem.t2 w.key 512

/-- A raw word takes effect: the data that it decodes to, or the mark that it does not decode. -/
def State.setRaw (s : State) (w : WordPlace) (bytes : List Byte) : State :=
  let c := codeOf w.tier
  let r := c.decode (s.erasures w) bytes
  let data := match r with
    | some (out, _) => out.take (c.data * c.size)
    | none => s.wordData w
  let raw := (s.mem.raw.filter fun x => !(x.tier == w.tier && x.address == w.key)) ++
    [{ tier := w.tier, address := w.key, bytes, bad := r.isNone }]
  let m := match w with
    | .t1 _ _ _ => { s.mem with t1 := memWrite zeroByte s.mem.t1 w.key data,
                                poison1 := s.mem.poison1.filter (· != w.key / 128), raw }
    | .t2 pair off => { s.mem with t2 := memWrite zeroByte s.mem.t2 w.key data, raw,
                                   pairs := lmod s.mem.pairs pair fun p => p.clearPoison (off / 512 * 512) 512 }
  { s with mem := m }

/-- Raw words are decoded again after a mark has changed. -/
def State.redecode (s : State) : State :=
  s.mem.raw.foldl (fun s r =>
    s.setRaw (if r.tier = 2 then .t2 (r.address / 2 ^ 37) (r.address % 2 ^ 37) else wordT1 r.address) r.bytes) s

/-- A granule is filled again under 08 R205. -/
def State.refillGranule (s : State) (tier g : Nat) : State :=
  if tier = 1 then
    let m := { s.mem with
      t1 := memZero s.mem.t1 (g * 2 ^ 23) (2 ^ 23)
      poison1 := s.mem.poison1.filter fun c => c / 65536 != g
      deadBits := s.mem.deadBits.filter fun x => x / 2048 != g
      tags := s.mem.tags.filter fun t => t.1 / 2048 != g
      raw := s.mem.raw.filter fun r => !(r.tier == 1 && r.address / 2 ^ 23 == g) }
    { s with mem := m }
  else
    (granule2Parts g).foldl (fun s x =>
      let lo := x.2.1 * 512
      let n := (x.2.2 - x.2.1) * 512
      let m := { s.mem with
        t2 := memZero s.mem.t2 (t2Key x.1 lo) n
        pairs := lmod s.mem.pairs x.1 fun p => p.clearPoison lo n
        raw := s.mem.raw.filter fun r => !(r.tier == 2 && decide (t2Key x.1 lo ≤ r.address) &&
          decide (r.address < t2Key x.1 lo + n)) }
      { s with mem := m }) s

/-- A tier-2 granule holds part of an object. -/
def State.holdsObject (s : State) (g : Nat) : Bool :=
  (granule2Parts g).any fun x => (s.used2 x.1).any fun u => decide (u.1 < x.2.2) && decide (x.2.1 < u.2)

/-- A granule enters or leaves diagnostic mode. -/
def State.setDiag (s : State) (tier g : Nat) (on : Bool) : State :=
  if tier = 1 then s.modGranule g fun k => { k with diag := on } else s.modGranule2 g fun k => { k with diag := on }

/-- A granule may enter diagnostic mode: in partition 0, and SCRATCH and free of live structures in tier 1, or free of objects in tier 2
(08 Table 8-6). -/
def State.diagFit (s : State) (tier g : Nat) : Bool :=
  if tier = 1 then (s.granule g).partition == 0 && (s.granule g).mode == .scratch && (s.granule g).spread.isNone && !(s.liveIn g)
  else (s.granule2 g).partition == 0 && !(s.holdsObject g)

/-- ECC_DIAG_MODE. -/
def eccDiagModeEffect (c : Call) (s : State) : Verdict :=
  let tier := c.arg 0
  let g := c.arg 1
  let count := if tier = 1 then 2048 else 1024
  let fit := s.diagFit tier g
  let was := if tier = 1 then (s.granule g).diag else (s.granule2 g).diag
  guards
    [(tier != 1 && tier != 2, c.bad 0), (decide (count ≤ g), c.bad 1), (decide (1 < c.arg 2), c.bad 2),
     (c.arg 2 == 1 && !fit, s.conflict 8 (if tier = 1 then (s.granule g).mode.code else 0))]
    (if c.arg 2 = 1 then .done (s.setDiag tier g true) 0
     else if was then .done ((s.setDiag tier g false).refillGranule tier g) 0
     else .done s 0)

/-- ECC_RAW_WRITE. -/
def eccRawWriteEffect (c : Call) (s : State) : Verdict :=
  match rawPlace (c.arg 0) with
  | none => c.bad 0
  | some w =>
    let n := (codeOf w.tier).symbols * (codeOf w.tier).size
    guards [(c.blockBad s 1 n 64, c.bad 1), (!(s.diagnostic w), s.conflict 8 0), (c.domainDown s 1, plain stCoherentDown)]
      (.done (s.setRaw w (s.sysRead (c.arg 1) n)) 0)

/-- The record of ECC_RAW_READ (08 Table 8-7). A poisoned word whose symbols this model does not keep has RAW and SYMBOLS free. -/
def State.rawRecord (s : State) (w : WordPlace) : List Byte :=
  let c := codeOf w.tier
  let erased := s.erasures w
  let stored := s.mem.raw.find? fun r => r.tier == w.tier && r.address == w.key
  let unknown := stored.isNone && s.isPoisoned w
  let raw := match stored with
    | some r => r.bytes
    | none => if unknown then s.freeBytes (c.symbols * c.size) else c.encode (s.wordData w)
  let d := if unknown then none else c.decode erased raw
  let data := match d with
    | some (out, _) => out.take (c.data * c.size)
    | none => []
  let symbols := match d with
    | some (_, l) => symbolMask l
    | none => s.free.toNat % 2 ^ 20
  let verdict := match d with
    | some (_, l) => if l.isEmpty then 0 else 1
    | none => 2
  padTo 640 raw ++ padTo 512 data ++ leBytes 4 verdict ++ leBytes 4 symbols ++ leBytes 4 (symbolMask erased) ++ zeros 116

/-- ECC_RAW_READ. -/
def eccRawReadEffect (c : Call) (s : State) : Verdict :=
  match rawPlace (c.arg 0) with
  | none => c.bad 0
  | some w =>
    let next : State := { s with freeCount := s.freeCount + 640 }
    guards (c.resultGuards s 1 1280) (c.result next 1 (s.rawRecord w))

/-- ECC_SCRUB_SET: the interval is in units of the tier's step, 1 µs in tier 2 and 0.25 µs in tier 1 (08 Table 8-4). -/
def eccScrubSetEffect (c : Call) (s : State) : Verdict :=
  let tier := c.arg 0
  let v := c.arg 1
  let ok := if tier = 2 then decide (16 ≤ v) && decide (v ≤ 1024) else decide (1 ≤ v) && decide (v ≤ 256)
  guards [(tier != 1 && tier != 2, c.bad 0), (!ok, c.bad 1)]
    (.done { s with mem := if tier = 2 then { s.mem with scrubInterval2 := v * 100 }
                           else { s.mem with scrubInterval1 := v * 25 } } 0)

/-- ECC_DIE_MARK (08 R198 (c)). -/
def eccDieMarkEffect (c : Call) (s : State) : Verdict :=
  guards [(decide (10 ≤ c.arg 0), c.bad 0), (decide (32 ≤ c.arg 1), c.bad 1), (decide (1 < c.arg 2), c.bad 2)]
    (if c.arg 2 = 1 then .done (s.markDie (c.arg 0) (c.arg 1) 3).redecode 0
     else
       let s1 : State := { s with mem := { s.mem with pairs := lmod s.mem.pairs (c.arg 0) fun p =>
         { p with failedDies := p.failedDies.filter (· != c.arg 1) } } }
       .done s1.redecode 0)

/-- The record at place `n` of the error log: the latest whose number is `n` modulo 65,536, zeros where none is kept (08 R214). -/
def State.logRecordBytes (s : State) (n : Nat) : List Byte :=
  let kept := s.mem.log.length
  let latest := s.mem.logged
  let number := if latest = 0 then 0 else (latest - 1) - ((latest - 1) % 65536 + 65536 - n) % 65536
  let back := latest - 1 - number
  if latest = 0 ∨ kept ≤ back then zeros 32
  else match s.mem.log[kept - 1 - back]? with
    | some r => r.bytes
    | none => zeros 32

/-- ECC_LOG_READ: records by their number since power-up; the ring keeps the last 65,536 (08 R214). -/
def eccLogReadEffect (c : Call) (s : State) : Verdict :=
  let first := c.arg 0
  let count := c.arg 1
  guards
    ([(decide (65536 ≤ first), c.bad 0), (decide (count < 1) || decide (65536 < first + count), c.bad 1)] ++
      c.resultGuards s 2 (32 * min count 65536))
    (c.result s 2 ((List.range count).flatMap fun i => s.logRecordBytes (first + i)))

end Sys2Proof.Machine
end

