-- ==== Sys2Proof/Machine/Transfers.lean ====
section
/-!
DEFINITION. Transfers by DMA: the descriptor and its checks (11 R283), what a transfer moves (09 R227 to R230, 06 R149, R156,
08 R210 (c)), its completion and its deadline (02 R42).
-/
namespace Sys2Proof.Machine
open Sys2Proof

/-! ### Ranges of objects as transfers and accesses address them -/

/-- Part of an object range: a resident line with an offset in it, or bytes of a tag block, which are served in tier 2. -/
inductive ObjPart where
  | line (l at_ n : Nat)
  | tagBlock (off n : Nat)

/-- The parts of an object range by object offset, tag blocks included (06 R153). -/
def Object.rawParts (o : Object) (off n : Nat) : List ObjPart :=
  if !o.tiled then (linePieces off n).map fun p => .line (p.1 / 4096) (p.1 % 4096) p.2
  else
    (pieces unitBytes (n / unitBytes + 2) off n).flatMap fun p =>
      let u := p.1 / unitBytes
      let r := p.1 % unitBytes
      let pay := min 32 (o.tiles - 32 * u) * 4096
      let k := min p.2 (pay - r)
      ((linePieces (u * 131072 + r) k).map fun x => ObjPart.line (x.1 / 4096) (x.1 % 4096) x.2) ++
        if k < p.2 then [.tagBlock (p.1 + k) (p.2 - k)] else []

/-- What a read brings: state, status, bytes. -/
structure Got where
  s : State
  status : Nat
  bytes : List Byte

/-- A read of one part of an object at its point of coherence. -/
def State.readPart (s : State) (i : Nat) (o : Object) : ObjPart → Got
  | .line l at_ n =>
    let t := s.touchLine i o l false
    if t.status ≠ stOk then ⟨t.s, t.status, zeros n⟩
    else
      let loc := t.slot * 4096 + at_
      if t.s.poisoned1 loc n then ⟨t.s, stMemoryError, zeros n⟩ else ⟨t.s, stOk, memRead zeroByte t.s.mem.t1 loc n⟩
  | .tagBlock off n =>
    if o.unreadable || (o.codeWords off n).any fun w => s.poisoned2 w.1 w.2 then ⟨s, stMemoryError, zeros n⟩
    else ⟨s, stOk, s.objRead2 o off n⟩

/-- A read of an object range by object offset: first error, and the bytes. -/
def State.objReadRaw (s : State) (i : Nat) (o : Object) (off n : Nat) : Got :=
  (o.rawParts off n).foldl (fun g p =>
    let r := g.s.readPart i o p
    ⟨r.s, if g.status = stOk then r.status else g.status, g.bytes ++ r.bytes⟩) ⟨s, stOk, []⟩

/-- A write of an object range by object offset. -/
def State.objWriteRaw (s : State) (i : Nat) (o : Object) (off : Nat) (bytes : List Byte) : State × Nat :=
  let r := (o.rawParts off bytes.length).foldl (fun (x : State × Nat × List Byte) p =>
    match p with
    | .line l at_ n =>
      let t := x.1.touchLine i o l true
      if t.status ≠ stOk then (t.s, if x.2.1 = stOk then t.status else x.2.1, x.2.2.drop n)
      else (t.s.writeSlot t.slot at_ (x.2.2.take n), x.2.1, x.2.2.drop n)
    | .tagBlock off n => (x.1.objWrite2 o off (x.2.2.take n), x.2.1, x.2.2.drop n)) (s, stOk, bytes)
  (r.1, r.2.1)

/-! ### Reads and writes of a transfer, by space -/

/-- Bytes of one 128-byte unit of a transfer's source at its point of coherence: physical address or object offset. -/
def State.unitRead (s : State) (space handle a n : Nat) : Got :=
  if space = 1 then
    match s.objectOf handle with
    | none => ⟨s, stBadParam, zeros n⟩
    | some (i, o) => s.objReadRaw i o a n
  else
    match region a with
    | .tier1 =>
      let slots := (linePieces a n).map fun p => (s.spreadMap p.1) / 4096
      let dead := slots.any s.mem.deadBits.contains
      let strict := (s.partition (s.granule (a / 2 ^ 23)).partition).deadStrict
      let s1 := if dead then s.count (slotStation (slots.headD 0)) (s.granule (a / 2 ^ 23)).partition
        (fun k => { k with deadReads := k.deadReads + 1 }) else s
      if dead && strict then ⟨s1, stDeadRead, zeros n⟩
      else if s.poisonedAt a n then ⟨s1, stMemoryError, zeros n⟩
      else ⟨s1, stOk, s.readT1 a n⟩
    | _ => if s.poisonedAt a n then ⟨s, stMemoryError, zeros n⟩ else ⟨s, stOk, s.sysRead a n⟩

/-- Bytes written at a transfer's destination. -/
def State.unitWrite (s : State) (space handle a : Nat) (bytes : List Byte) : State × Nat :=
  if space = 1 then
    match s.objectOf handle with
    | none => (s, stBadParam)
    | some (i, o) => s.objWriteRaw i o a bytes
  else (s.sysWrite a bytes, stOk)

/-- The destination code words that received bad data are poisoned, within the module (08 R210 (c)). -/
def State.unitPoison (s : State) (space handle a n : Nat) : State :=
  if space = 1 then
    match s.objectOf handle with
    | none => s
    | some (i, o) =>
      (o.rawParts a n).foldl (fun s p =>
        match p with
        | .line l at_ n =>
          let t := s.touchLine i o l true
          if t.status ≠ stOk then t.s
          else
            let s1 := t.s.poison1 (t.slot * 4096 + at_) n
            { s1 with mem := { s1.mem with lines := tmod s1.mem.lines t.slot fun l => { l with mode := .dirty } } }
        | .tagBlock off n => (o.codeWords off n).foldl (fun s w => s.poison2 w.1 w.2 (some i)) s) s
  else
    match region a with
    | .tier1 => (linePieces a n).foldl (fun s p => s.poison1 (s.spreadMap p.1) p.2) s
    | .tier2 p o => (pieces 512 (n / 512 + 2) o n).foldl (fun s q => s.poison2 p q.1 none) s
    | _ => s

/-! ### Tiles of a transfer -/

/-- A tile with its tag as a transfer reads it. -/
structure GotTile where
  s : State
  status : Nat
  payload : List Byte
  tag : Tag
  station : Nat

/-- A zero-filled tile in place of a dead one (06 R157). -/
def zeroTile (t : Tag) : Tag :=
  let t1 : Tag := { t with flags := 3, producer := 0 }
  { t1 with crc := tileCrcOf (zeros 4096) t1 }

/-- One tile read at its point of coherence, with its tag (06 R152, 07 R183). -/
def State.tileGet (s : State) (space handle a : Nat) : GotTile :=
  if space = 1 then
    match s.objectOf handle with
    | none => ⟨s, stBadParam, zeros 4096, Tag.zero, 0⟩
    | some (i, o) =>
      let t := s.touchLine i o (a / 4096) false
      if t.status ≠ stOk then ⟨t.s, t.status, zeros 4096, Tag.zero, 0⟩
      else if t.s.poisoned1 (t.slot * 4096) 4096 then ⟨t.s, stMemoryError, zeros 4096, Tag.zero, 0⟩
      else ⟨t.s, stOk, t.s.lineData t.slot, t.s.tag t.slot, slotStation t.slot⟩
  else
    match region a with
    | .tier1 =>
      let slot := s.spreadMap a / 4096
      let p := (s.granule (a / 2 ^ 23)).partition
      if s.mem.deadBits.contains slot then
        let s1 := s.count (slotStation slot) p fun k => { k with deadReads := k.deadReads + 1 }
        if (s.partition p).deadStrict then ⟨s1, stDeadRead, zeros 4096, Tag.zero, 0⟩
        else ⟨s1, stOk, zeros 4096, zeroTile (s.tag slot), slotStation slot⟩
      else if s.poisoned1 (slot * 4096) 4096 then ⟨s, stMemoryError, zeros 4096, Tag.zero, 0⟩
      else ⟨s, stOk, s.lineData slot, s.tag slot, slotStation slot⟩
    | _ => ⟨s, stTileUntagged, zeros 4096, Tag.zero, 0⟩

/-- A payload and tag stored in a slot of tier 1 as one publication: VERSION one above the stored one (06 R151 (c)). -/
def MemState.publish (m : MemState) (slot : Nat) (payload : List Byte) (t : Tag) : MemState :=
  let v := (tgetD m.tags slot Tag.zero).version + 1
  let m1 := { m with
    t1 := memWrite zeroByte m.t1 (slot * 4096) payload
    deadBits := m.deadBits.filter (· != slot)
    poison1 := m.poison1.filter fun c => c / 32 != slot
    raw := m.raw.filter fun r => !(r.tier == 1 && r.address / 4096 == slot) }
  m1.setTag slot { t with version := v }

/-- The home slice's part of a tile's publication to tier 2 before the write: an unpinned copy is dropped (07 R172). -/
def State.dropCopy (s : State) (i l : Nat) : State :=
  match s.findLine i l with
  | some (slot, x) => if x.pin ∨ x.mode = .filling ∨ x.mode = .dead then s else s.dropLine slot
  | none => s

/-- A tile written at its home port (06 R154 (b), (c); 08 R204), then installed over a pinned copy (07 R172): a tag block that
cannot be read is not rewritten. -/
def State.writeTile (s : State) (i : Nat) (o : Object) (l : Nat) (payload : List Byte) (t : Tag) : State × Nat :=
  let w := o.locate (tagOffset o.tiles l)
  let s1 := s.objWrite2 o (tileOffset l) payload
  if s.poisoned2 w.1 w.2 then (s1, stMemoryError)
  else
    let t1 : Tag := { t with version := (s.objTag2 o l).version + 1 }
    let s2 := s1.setObjTag2 o l t1
    match s2.findLine i l with
    | some (slot, x) =>
      if x.pin && x.mode != .filling then
        let m := { s2.mem with
          t1 := memWrite zeroByte s2.mem.t1 (slot * 4096) payload
          poison1 := s2.mem.poison1.filter fun c => c / 32 != slot
          raw := s2.mem.raw.filter fun r => !(r.tier == 1 && r.address / 4096 == slot)
          lines := tmod s2.mem.lines slot fun k => { k with mode := .clean } }
        ({ s2 with mem := m.setTag slot t1 }, stOk)
      else (s2, stOk)
    | none => (s2, stOk)

/-- A tile published at once, as a transfer does: in tier 1 by its slice (06 R151), in tier 2 by its home port (06 R154). -/
def State.tilePut (s : State) (space handle a : Nat) (payload : List Byte) (t : Tag) : State × Nat :=
  if space = 1 then
    match s.objectOf handle with
    | none => (s, stBadParam)
    | some (i, o) => (s.dropCopy i (a / 4096)).writeTile i o (a / 4096) payload t
  else
    match region a with
    | .tier1 =>
      let s1 := { s with mem := s.mem.publish (s.spreadMap a / 4096) payload t }
      ({ s1 with fail := { s1.fail with written := addOnce s1.fail.written (s.spreadMap a / 2 ^ 23) } }, stOk)
    | _ => (s, stBadParam)

/-- PRODUCER of a tile of this module (06 R148). -/
def State.producer (s : State) (kind unit : Nat) : Word :=
  BitVec.ofNat 32 (kind * 2 ^ 28 + s.peal.coordinate % 2 ^ 12 * 2 ^ 16 + unit % 2 ^ 16)

/-- The tag of a tile that a unit produces: FLAGS 01h, its PRODUCER, and a CRC computed under 06 R147. -/
def tagFor (payload : List Byte) (format : Nat) (producer : Word) : Tag :=
  let t : Tag := { crc := 0, version := 0, format, flags := 1, producer }
  { t with crc := tileCrcOf payload t }

/-! ### The descriptor and its checks (11 Table 11-15, R283) -/

/-- The fields of a DMA descriptor as a transfer that has not started: identifier and times are filled in at the start. -/
def descriptor (b : List Byte) : Transfer :=
  { id := 0, ring := false, command := none, almanac := none, kit := none, context := 0, partition := 0, function := 0,
    chime := none, tile := bit (field b 0 1) 0, rows := field b 4 4, rowBytes := field b 40 4,
    srcSpace := field b 1 1 % 16, dstSpace := field b 1 1 / 16, src := field b 8 8, dst := field b 16 8,
    srcHandle := field b 24 8, dstHandle := field b 32 8, srcStride := field b 44 4, dstStride := field b 48 4,
    beat := 0, span := 0, late := false, error := 0, targets := [], multi := false,
    delivered := [], failedTargets := [], nacked := [], timeout := 0, dstChime := none, record := 0, attempts := 0,
    startedAt := 0, handoff := none, payload := [] }

/-- Source and destination address of row `i`. -/
def Transfer.srcRow (t : Transfer) (i : Nat) : Nat := t.src + i * t.srcStride
def Transfer.dstRow (t : Transfer) (i : Nat) : Nat := t.dst + i * t.dstStride

/-- Some destination row overlaps `n` bytes from `a`. -/
def Transfer.hitsDst (t : Transfer) (a : Nat) : Bool :=
  let n := t.rowBytes
  let j := if a < t.dst + n then 0 else if t.dstStride = 0 then t.rows else (a - t.dst - n) / t.dstStride + 1
  decide (j < t.rows) && decide (t.dstRow j < a + n) && decide (a < t.dstRow j + n)

/-- Source and destination overlap within one space and handle. -/
def Transfer.overlaps (t : Transfer) : Bool :=
  t.srcSpace == t.dstSpace && t.srcHandle == t.dstHandle &&
    (List.range t.rows).any fun i => t.hitsDst (t.srcRow i)

/-- One side of a transfer lies where its descriptor may name it (11 R283 (a)). -/
def State.sideGood (s : State) (whole : Bool) (partition : Nat) (tile : Bool) (space handle rows n : Nat)
    (row : Nat → Nat) : Bool :=
  if space = 1 then
    match s.objectOf handle with
    | none => false
    | some (_, o) =>
      (whole || o.partition == partition) && (!tile || o.tiled) &&
        (List.range rows).all fun i => decide (row i + n ≤ if tile then o.span else o.footprint)
  else
    (List.range rows).all fun i =>
      if isCoherent (row i) && s.cijan.mode != .up then true else s.nameable whole partition (row i) n

/-- Some row of a side in space 0 lies among coherent windows. -/
def sideCoherent (space rows : Nat) (row : Nat → Nat) : Bool :=
  space == 0 && (List.range rows).any fun i => isCoherent (row i)

/-- A side's rows lie in tier 2 by physical address, where no tile has a tag of its own by address. -/
def sideTier2 (space rows : Nat) (row : Nat → Nat) : Bool :=
  space == 0 && (List.range rows).any fun i => match region (row i) with | .tier2 _ _ => true | _ => false

/-- The first failing check of a descriptor: status and the offset of the field. -/
def State.dmaCheck (s : State) (whole : Bool) (partition : Nat) (b : List Byte) : Option (Nat × Nat) :=
  let t := descriptor b
  let spaceCode := field b 1 1
  let tag (ok : Bool) (st off : Nat) : Option (Nat × Nat) := if ok then none else some (st, off)
  let rows := min t.rows 65536
  let shape :=
    [tag (decide (field b 0 1 < 4)) stBadParam 0, tag (decide (spaceCode % 16 < 2 ∧ spaceCode / 16 < 2)) stBadParam 1,
     tag (field b 2 2 == 0) stBadParam 2, tag (decide (1 ≤ t.rows ∧ t.rows ≤ 65536)) stBadParam 4,
     tag (s.sideGood whole partition t.tile t.srcSpace t.srcHandle rows t.rowBytes t.srcRow) stBadParam 8,
     tag (s.sideGood whole partition t.tile t.dstSpace t.dstHandle rows t.rowBytes t.dstRow) stBadParam 16,
     tag (t.srcSpace == 1 || t.srcHandle == 0) stBadParam 24, tag (t.dstSpace == 1 || t.dstHandle == 0) stBadParam 32,
     tag (decide (128 ≤ t.rowBytes ∧ t.rowBytes ≤ 2 ^ 31)) stBadParam 40, tag (field b 52 4 == 0) stBadParam 52,
     tag (!t.overlaps) stBadParam 16]
  let narrow :=
    [tag (t.dst % 128 == 0) stNarrowWrite 16, tag (t.rowBytes % 128 == 0) stNarrowWrite 40,
     tag (t.dstStride % 128 == 0) stNarrowWrite 48]
  let tiles := if t.tile then
      [tag (t.src % 4096 == 0) stBadParam 8, tag (t.dst % 4096 == 0) stBadParam 16,
       tag (!(sideCoherent t.srcSpace rows t.srcRow || sideTier2 t.srcSpace rows t.srcRow)) stBadParam 8,
       tag (!(sideCoherent t.dstSpace rows t.dstRow || sideTier2 t.dstSpace rows t.dstRow)) stBadParam 16,
       tag (t.rowBytes % 4096 == 0) stBadParam 40, tag (t.srcStride % 4096 == 0) stBadParam 44,
       tag (t.dstStride % 4096 == 0) stBadParam 48]
    else []
  let firstShape := shape.filterMap id
  match firstShape with
  | _ :: _ => some (stBadParam, firstShape.foldl (fun m e => min m e.2) 64)
  | [] =>
    match narrow.filterMap id ++ tiles.filterMap id with
    | e :: _ => some e
    | [] => none

/-- A descriptor names a coherent window while the domain is down (15 R363 (c)). -/
def State.dmaDomainDown (s : State) (b : List Byte) : Bool :=
  let t := descriptor b
  let rows := min t.rows 65536
  s.cijan.mode != .up && (sideCoherent t.srcSpace rows t.srcRow || sideCoherent t.dstSpace rows t.dstRow)

/-! ### Start, completion, deadline -/

/-- A transfer joins those in flight. -/
def State.beginTransfer (s : State) (t : Transfer) : State :=
  { s with
    nextId := s.nextId + 1
    mem := { s.mem with transfers := s.mem.transfers ++
      [{ t with id := s.nextId, beat := s.beat.number, startedAt := s.now }] } }

/-- DMA_COPY starts, its descriptor checked (11 R283). -/
def Call.startDma (c : Call) (s : State) : Verdict :=
  let b := s.sysRead (c.arg 0) 64
  match s.dmaCheck c.physical c.partition b with
  | some (st, off) => if st = stBadParam then badBlock off else .refuse st 0xFF off
  | none =>
    if s.dmaDomainDown b then plain stCoherentDown else
    let t := descriptor b
    let owners := [t.srcHandle, t.dstHandle].filterMap fun h => s.objectOf h
    match owners.find? fun o => s.lostContext o.2.context || o.2.mode == .retiring with
    | some (_, o) => if s.lostContext o.context then plain stContextLost else s.conflict 3 o.mode.code
    | none =>
      let t1 := { t with command := some c.cmd.id, context := c.context, partition := c.partition, function := c.function }
      .defer (s.beginTransfer t1) (.transfer s.nextId) 0

/-- DMA_COPY (11 R283); read in GUARD, it starts at the next downbeat (02 R32). -/
def dmaCopyEffect (c : Call) (s : State) : Verdict :=
  guards [(c.blockBad s 0 64 64, c.bad 0), (c.domainDown s 0, plain stCoherentDown)]
    (if s.beat.phase = .guard then .defer s (.startTransfer false (c.arg 0)) 0 else c.startDma s)

/-- The transfer with an identifier. -/
def State.transfer (s : State) (id : Nat) : Option Transfer := s.mem.transfers.find? (·.id == id)

/-- The state with a transfer changed. -/
def State.modTransfer (s : State) (id : Nat) (f : Transfer → Transfer) : State :=
  { s with mem := { s.mem with transfers := s.mem.transfers.map fun t => if t.id = id then f t else t } }

/-- The handle lies off the module or in a coherent window, where no poisoned data goes. -/
def offModule (space a : Nat) : Bool := space == 0 && isCoherent a

/-- One unit of a transfer: 128 bytes, or a tile that is checked at its destination (06 R149 (d)) and published with the DMA
engine as PRODUCER (06 Table 6-2; engines' numbers are open). -/
def Transfer.moveUnit (t : Transfer) (x : State × Nat) (src dst : Nat) : State × Nat :=
  let keep (st : Nat) : Nat := if x.2 = stOk then st else x.2
  if t.tile then
    let g := x.1.tileGet t.srcSpace t.srcHandle src
    if g.status ≠ stOk then (g.s, keep g.status)
    else
      let st := tileOutcome false false 0 g.payload g.tag
      if st ≠ stOk then (g.s.countTile g.station 0xFF st g.tag, keep st)
      else
        let unit := g.s.free.toNat
        let w := g.s.useFree.tilePut t.dstSpace t.dstHandle dst g.payload (tagFor g.payload g.tag.format (g.s.producer 2 unit))
        (w.1, keep w.2)
  else
    let g := x.1.unitRead t.srcSpace t.srcHandle src 128
    if g.status = stMemoryError then
      (if offModule t.dstSpace dst then g.s else g.s.unitPoison t.dstSpace t.dstHandle dst 128, keep stMemoryError)
    else if g.status ≠ stOk then (g.s, keep g.status)
    else
      let w := g.s.unitWrite t.dstSpace t.dstHandle dst g.bytes
      (w.1, keep w.2)

/-- Every unit of a transfer is moved: state and first error (09 R227, R229). -/
def State.moveAll (s : State) (t : Transfer) : State × Nat :=
  let unit := if t.tile then 4096 else 128
  (List.range t.rows).foldl (fun x i =>
    (List.range (t.rowBytes / unit)).foldl (fun x j => t.moveUnit x (t.srcRow i + j * unit) (t.dstRow i + j * unit)) x)
    (s, t.error)

/-- A transfer ends: its command completes, or its Chime is signalled, with its error status if it has one (09 R227, R230). -/
def State.endTransfer (s : State) (t : Transfer) (error : Nat) : State :=
  let s1 := { s with mem := { s.mem with transfers := s.mem.transfers.filter (·.id != t.id) } }
  let s2 := match t.command with
    | some id => s1.completeId id error 0 0
    | none => s1
  match t.command, t.chime with
  | none, some (c, v) => { s2 with signals := s2.signals ++ [{ chime := c, value := v, error, source := 0 }] }
  | _, _ => s2

/-- TRANSFER_COMPLETE: every write of a DMA has been performed (09 R227). -/
def State.transferComplete (s : State) (id : Nat) : State :=
  match s.transfer id with
  | none => s
  | some t =>
    if t.ring then s else
      let r := s.moveAll t
      r.1.endTransfer t r.2

/-- A transfer overrun (02 R42): counted for the device and the Kit; the transfer runs on. -/
def State.transferDeadline (s : State) (id : Nat) : State :=
  match s.transfer id with
  | none => s
  | some t =>
    if t.almanac.isNone ∨ t.late then s
    else
      let s1 := s.modTransfer id fun t => { t with late := true }
      let s2 := { s1 with beat := { s1.beat with transferOverrun := s1.beat.transferOverrun + 1 } }
      match t.kit with
      | some k => s2.modKit k fun k => { k with transferOverrun := k.transferOverrun + 1 }
      | none => s2

end Sys2Proof.Machine
end

