-- ==== Sys2Proof/Machine/Torus.lean ====
section
/-!
DEFINITION. Paths through the torus (16 R366, R368, R372, R374) and pipeline order (03 R85).
-/
namespace Sys2Proof.Machine
open Sys2Proof

/-! ### The torus -/

/-- Size of dimension 0 to 2. -/
def dimSize (sizes : Nat × (Nat × Nat)) (i : Nat) : Nat :=
  match i with | 0 => sizes.1 | 1 => sizes.2.1 | _ => sizes.2.2

/-- Component of a coordinate (03 R67). -/
def component (m i : Nat) : Nat := m / 16 ^ i % 16

/-- A coordinate with a component replaced. -/
def withComponent (m i v : Nat) : Nat := m + v * 16 ^ i - component m i * 16 ^ i

/-- A coordinate lies in the shape. -/
def inShape (sizes : Nat × (Nat × Nat)) (m : Nat) : Bool :=
  decide (m < 4096) && (List.range 3).all fun i => decide (component m i < dimSize sizes i)

/-- The neighbour in direction d: 0 X+, 1 X−, 2 Y+, 3 Y−, 4 Z+, 5 Z− (16 R366). -/
def neighbour (sizes : Nat × (Nat × Nat)) (m d : Nat) : Nat :=
  let n := max 1 (dimSize sizes (d / 2))
  let v := component m (d / 2)
  withComponent m (d / 2) (if d % 2 = 0 then (v + 1) % n else (v + n - 1) % n)

/-- The opposite direction. -/
def opposite (d : Nat) : Nat := if d % 2 = 0 then d + 1 else d - 1

/-- Members of a shape. -/
def shapeMembers (sizes : Nat × (Nat × Nat)) : List Nat :=
  (List.range sizes.2.2).flatMap fun z => (List.range sizes.2.1).flatMap fun y =>
    (List.range sizes.1).map fun x => x + 16 * y + 256 * z

/-- Hops in one dimension, as a direction repeated (16 R372 (a)). -/
def dimHops (sizes : Nat × (Nat × Nat)) (a b i : Nat) : List Nat :=
  let n := max 1 (dimSize sizes i)
  let d := (component b i + n - component a i % n) % n
  if 2 * d ≤ n then List.replicate d (2 * i) else List.replicate (n - d) (2 * i + 1)

/-- The directions of a path in dimension order. -/
def torusPath (sizes : Nat × (Nat × Nat)) (a b : Nat) : List Nat :=
  dimHops sizes a b 0 ++ dimHops sizes a b 1 ++ dimHops sizes a b 2

/-- The member is in the map, and neither leaving now, asleep nor lost (16 R372). -/
def State.memberUp (s : State) (m : Nat) : Bool := s.peal.members.contains m

/-- An engine of a member serves. -/
def State.engineUp (s : State) (m engine : Nat) : Bool :=
  if m = s.peal.coordinate then (s.peal.lanes[engine]?).any (·.up) else !(s.peal.lanesDown.contains (m, engine))

/-- Lanes up on a path, and whether the members that it passes and its end are in the map. -/
def State.lanesOn (s : State) : Nat → List Nat → List Nat → Option (List Nat)
  | _, [], lanes => if lanes.isEmpty then none else some lanes
  | m, d :: r, lanes =>
    let n := neighbour s.peal.sizes m d
    if s.memberUp n then
      s.lanesOn n r (lanes.filter fun e => s.engineUp m (6 * e + d) && s.engineUp n (6 * e + opposite d))
    else none

/-- A path to a member: hops, lanes up, and the intermediate member of a detour. -/
structure Route where
  hops : Nat
  lanes : List Nat
  via : Option Nat
deriving DecidableEq, Repr

/-- Lanes of the path of rule (a) between two members. -/
def State.directLanes (s : State) (a b : Nat) : Option (List Nat) :=
  s.lanesOn a (torusPath s.peal.sizes a b) [0, 1, 2, 3]

/-- A path by way of an intermediate member (16 R372 (b)). -/
def State.detour (s : State) (a b via : Nat) : Option Route :=
  match s.directLanes a via, s.directLanes via b with
  | some x, some y =>
    let l := x.filter y.contains
    if l.isEmpty then none
    else some { hops := (torusPath s.peal.sizes a via).length + (torusPath s.peal.sizes via b).length, lanes := l, via := some via }
  | _, _ => none

/-- The path of a message to a member (16 R372); none where the member is unreachable. -/
def State.route (s : State) (b : Nat) : Option Route :=
  let a := s.peal.coordinate
  if !(s.memberUp b) then none
  else
    match s.directLanes a b with
    | some l => some { hops := (torusPath s.peal.sizes a b).length, lanes := l, via := none }
    | none =>
      (sortBy (fun x y => decide (x ≤ y)) s.peal.members).foldl (fun (best : Option Route) v =>
        if v = a ∨ v = b then best
        else match s.detour a b v, best with
          | some r, some q => if r.hops < q.hops then some r else best
          | some r, none => some r
          | none, _ => best) none

/-! ### Pipeline order (03 R85) -/

/-- Rank of a coordinate in pipeline order over a torus of the given sizes (03 R85). -/
def pipelineRank (sizes : Nat × (Nat × Nat)) (c : Nat) : Nat :=
  let (nx, ny) := (sizes.1, sizes.2.1)
  let (x, y, z) := (c % 16, c / 16 % 16, c / 256 % 16)
  let y' := if z % 2 = 0 then y else ny - 1 - y
  let row := z * ny + y'
  row * nx + if row % 2 = 0 then x else nx - 1 - x

/-- Members of a peal Kit in pipeline order. -/
def State.pipeline (s : State) (k : Kit) : List Nat :=
  sortBy (fun a b => decide (pipelineRank s.peal.sizes a ≤ pipelineRank s.peal.sizes b))
    (k.units.filterMap fun u => match u with | .module m => some m | _ => none)

/-- The member after this one in pipeline order. -/
def State.nextMember (s : State) (k : Kit) : Option Nat :=
  let l := s.pipeline k
  (l.findIdx? (· == s.peal.coordinate)).bind fun i => l[i + 1]?

/-- Hops and lanes of a Kit's HANDOFF: one hop on four lanes where there is no next member. -/
def State.handoffReach (s : State) (k : Kit) : Nat × Nat :=
  match (s.nextMember k).bind s.route with
  | some r => (r.hops, r.lanes.length)
  | none => (1, 4)

end Sys2Proof.Machine
end

