-- ==== Sys2Proof/Machine/Ring.lean ====
section
/-!
DEFINITION. Messages on the lanes (16 R369 to R373) and ring transfers at their source (16 R383 to R386).
-/
namespace Sys2Proof.Machine
open Sys2Proof

/-! ### Lanes (16 R369, R370) -/

/-- Buffers reserved to each data channel, shared ones, and control ones (16 R370). -/
def Lane16.fresh (l : Lane16) : Lane16 :=
  { l with credits := [2, 2, 2, 2], shared := 8, controlCredits := 16, kept := [], waiting := [] }

/-- A credit taken for a message of a channel: a reserved buffer of its channel first, then a shared one; channel 4 has its own. -/
def Lane16.take (l : Lane16) (channel : Nat) : Option Lane16 :=
  if 4 ≤ channel then (if l.controlCredits = 0 then none else some { l with controlCredits := l.controlCredits - 1 })
  else if 0 < l.credits.getD channel 0 then some { l with credits := lmod l.credits channel (· - 1) }
  else if 0 < l.shared then some { l with shared := l.shared - 1 }
  else none

/-- A credit comes back. -/
def Lane16.give (l : Lane16) (channel : Nat) : Lane16 :=
  if 4 ≤ channel then { l with controlCredits := min 16 (l.controlCredits + 1) }
  else if l.shared < 8 then { l with shared := l.shared + 1 }
  else { l with credits := lmod l.credits channel fun n => min 2 (n + 1) }

/-- The state with a lane put. -/
def State.setLane (s : State) (i : Nat) (l : Lane16) : State :=
  { s with peal := { s.peal with lanes := lmod s.peal.lanes i fun _ => l } }

/-- A message goes out on a lane, or waits there for a credit (16 R369, R370); on a lane that is down it is lost, and sent again
under 16 R374. -/
def State.onLane (s : State) (i channel : Nat) (m : Msg) : State :=
  match s.peal.lanes[i]? with
  | none => s
  | some l =>
    if !l.up then s
    else match (if l.waiting.isEmpty then l.take channel else none) with
      | some l1 => (s.setLane i { l1 with kept := l1.kept ++ [(channel, m)] }).send m
      | none => s.setLane i { l with waiting := l.waiting ++ [(channel, m)] }

/-- Waiting messages of a lane go out while there are credits. -/
def State.flushLane (s : State) (i : Nat) : Nat → State
  | 0 => s
  | fuel + 1 =>
    match s.peal.lanes[i]? with
    | none => s
    | some l =>
      match l.waiting with
      | [] => s
      | (c, m) :: rest =>
        match l.take c with
        | none => s
        | some l1 => ((s.setLane i { l1 with waiting := rest, kept := l1.kept ++ [(c, m)] }).send m).flushLane i fuel

/-- The first kept message of a channel leaves. -/
def dropKept (channel : Nat) : List (Nat × Msg) → List (Nat × Msg)
  | [] => []
  | x :: r => if x.1 = channel then r else x :: dropKept channel r

/-- CREDIT: the neighbour returns credits of a channel (16 R369, R370). -/
def State.laneCredit (s : State) (i channel count : Nat) : State :=
  match s.peal.lanes[i]? with
  | none => s
  | some l =>
    let n := min count ((l.kept.filter (·.1 == channel)).length)
    let l1 := (List.range n).foldl (fun (l : Lane16) _ => { l.give channel with kept := dropKept channel l.kept }) l
    (s.setLane i l1).flushLane i l1.waiting.length

/-- RETRY: a message that the neighbour discarded is sent again; `sequence` counts the messages without credit, oldest first
(16 R369). -/
def State.laneRetry (s : State) (i sequence : Nat) : State :=
  match s.peal.lanes[i]? with
  | none => s
  | some l =>
    match l.kept[sequence]? with
    | some (_, m) => (s.setLane i { l with retries := l.retries + 1 }).send m
    | none => s

/-- First direction of a route from this module. -/
def State.firstDirection (s : State) (b : Nat) (r : Route) : Nat :=
  let path := torusPath s.peal.sizes s.peal.coordinate (r.via.getD b)
  path.headD 0

/-- A message to a member on the lane at a position among those up on the path (16 R384 (b)); none where it is unreachable. -/
def State.toMember (s : State) (b position : Nat) (kind : MsgKind) (fields : List Nat) (bytes : List Byte) : State :=
  match s.route b with
  | none => s
  | some r =>
    let e := r.lanes.getD (position % max 1 r.lanes.length) 0
    let i := 6 * e + s.firstDirection b r
    s.onLane i 0 ⟨kind, b, i :: fields, bytes⟩

/-! ### The descriptor (16 R383) -/

/-- Targets that a descriptor names. -/
def State.ringTargets (s : State) (b : List Byte) : List Nat :=
  if bit (field b 0 1) 2 then
    (List.range (field b 4 1)).map fun i => field (s.sysRead (field b 64 8 + 4 * i) 4) 0 4
  else [field b 2 2 % 4096]

/-- The fields of a descriptor as a transfer that has not started. -/
def State.ringTransfer (s : State) (b : List Byte) : Transfer :=
  let flags := field b 0 1
  let add := if bit flags 1 then s.beat.number else 0
  let multi := bit flags 2
  let t := descriptor []
  { t with
    ring := true, tile := bit flags 0, rows := 1, rowBytes := field b 40 8
    srcSpace := field b 1 1 % 16, dstSpace := field b 1 1 / 16, src := field b 8 8, dst := field b 16 8
    srcHandle := field b 24 8, dstHandle := field b 32 8
    targets := s.ringTargets b, multi
    timeout := if multi then (if field b 6 2 = 0 then 100 else field b 6 2) else 0
    dstChime := if bit flags 3 then some (field b 48 4 % 2 ^ 22, BitVec.ofNat 64 (field b 80 8 + add)) else none
    record := field b 72 8 }

/-- The source's checks of a descriptor: status and the offset of the field (16 R383, 11 R283 (a) to (c)). -/
def State.ringCheck (s : State) (whole : Bool) (partition : Nat) (b : List Byte) : Option (Nat × Nat) :=
  let t := s.ringTransfer b
  let flags := field b 0 1
  let multi := bit flags 2
  let tag (ok : Bool) (st off : Nat) : Option (Nat × Nat) := if ok then none else some (st, off)
  let list := field b 64 8
  let count := field b 4 1
  let place (a n align : Nat) : Bool := a % align == 0 && (isCoherent a || s.nameable whole partition a n)
  let first :=
    [tag (decide (flags < 16)) stBadParam 0,
     tag (decide (field b 1 1 % 16 < 2 ∧ field b 1 1 / 16 < 2)) stBadParam 1,
     tag (if multi then field b 2 2 == 0 else decide (field b 2 2 < 4096)) stBadParam 2,
     tag (if multi then decide (1 ≤ count ∧ count ≤ 64) else count == 0) stBadParam 4, tag (field b 5 1 == 0) stBadParam 5,
     tag (s.sideGood whole partition t.tile t.srcSpace t.srcHandle 1 t.rowBytes t.srcRow) stBadParam 8,
     tag (t.srcSpace == 1 || t.srcHandle == 0) stBadParam 24, tag (t.dstSpace == 1 || t.dstHandle == 0) stBadParam 32,
     tag (t.rowBytes != 0) stBadParam 40, tag (decide (field b 48 4 < 2 ^ 22)) stBadParam 48,
     tag (field b 52 4 == 0) stBadParam 52, tag (if multi then place list (4 * max 1 count) 4 else list == 0) stBadParam 64,
     tag (t.record == 0 || place t.record 32 32) stBadParam 72, tag ((slice b 88 40).all (· == 0)) stBadParam 88]
  match (first.filterMap id).map (·.2) with
  | o :: rest => some (stBadParam, rest.foldl min o)
  | [] =>
    if t.targets.any (fun m => m == s.peal.coordinate || !(inShape s.peal.sizes m)) ||
        t.targets.any (fun m => (t.targets.filter (· == m)).length != 1) then some (stBadParam, if multi then 64 else 2)
    else if t.dst % 128 ≠ 0 then some (stNarrowWrite, 16)
    else if t.rowBytes % 128 ≠ 0 then some (stNarrowWrite, 40)
    else if t.tile then
      if t.src % 4096 ≠ 0 ∨ sideCoherent t.srcSpace 1 t.srcRow ∨ sideTier2 t.srcSpace 1 t.srcRow then some (stBadParam, 8)
      else if t.dst % 4096 ≠ 0 then some (stBadParam, 16)
      else if t.rowBytes % 4096 ≠ 0 then some (stBadParam, 40)
      else none
    else none

/-! ### Sending (16 R384) -/

/-- Bytes of a message's payload. -/
def messageBytes : Nat := 65536

/-- A message of a transfer as its source reads it: the units that are not sent (08 R210 (c)), payload and tags. -/
structure RingPiece where
  missing : List Nat
  payload : List Byte
  tags : List Byte

/-- What reading comes to: the state, the first error, the message. -/
structure ReadPiece where
  s : State
  error : Nat
  piece : RingPiece

/-- One unit of a transfer read at its source: 128 bytes, or a tile with its tag. -/
def State.readUnit (t : Transfer) (r : ReadPiece) (unit : Nat) (a : Nat) : ReadPiece :=
  let keep (st : Nat) : Nat := if r.error = stOk then st else r.error
  let n := r.piece.payload.length
  if t.tile then
    let g := r.s.tileGet t.srcSpace t.srcHandle a
    if g.status ≠ stOk then
      ⟨g.s, keep g.status, ⟨r.piece.missing ++ [n / unit], r.piece.payload ++ zeros 4096, r.piece.tags ++ zeros 16⟩⟩
    else ⟨g.s, r.error, ⟨r.piece.missing, r.piece.payload ++ g.payload, r.piece.tags ++ g.tag.bytes⟩⟩
  else
    let g := r.s.unitRead t.srcSpace t.srcHandle a 128
    if g.status ≠ stOk then ⟨g.s, keep g.status, ⟨r.piece.missing ++ [n / unit], r.piece.payload ++ zeros 128, []⟩⟩
    else ⟨g.s, r.error, ⟨r.piece.missing, r.piece.payload ++ g.bytes, []⟩⟩

/-- Message `i` of a transfer. -/
def State.readPiece (s : State) (t : Transfer) (i : Nat) : ReadPiece :=
  let n := min messageBytes (t.rowBytes - i * messageBytes)
  if t.handoff.isSome then ⟨s, stOk, ⟨[], slice t.payload (i * messageBytes) n, []⟩⟩
  else
    let unit := if t.tile then 4096 else 128
    (List.range (n / unit)).foldl (fun r j => State.readUnit t r unit (t.src + i * messageBytes + j * unit)) ⟨s, stOk, ⟨[], [], []⟩⟩

/-- Number of messages of a transfer. -/
def Transfer.messages (t : Transfer) : Nat := ceilDiv t.rowBytes messageBytes

/-- OPEN to a target. -/
def State.sendOpen (s : State) (t : Transfer) (target : Nat) : State :=
  let chime := match t.dstChime with
    | some (c, v) => [1, c, v.toNat]
    | none => [0, 0, 0]
  s.toMember target 0 .ringOpen
    ([t.id, t.partition, b2n t.tile, t.dstSpace, t.dst, t.dstHandle, t.rowBytes] ++ chime ++ [(t.handoff.map (· + 1)).getD 0]) []

/-- One message to every one of some targets. -/
def State.sendPiece (t : Transfer) (targets : List Nat) (x : State × Nat) (i : Nat) : State × Nat :=
  let r := x.1.readPiece t i
  let last := b2n (decide (i + 1 = t.messages))
  (targets.foldl (fun s m =>
    s.toMember m i .ringData ([t.id, i, last] ++ r.piece.missing) (r.piece.payload ++ r.piece.tags)) r.s,
   if x.2 = stOk then r.error else x.2)

/-- A transfer is sent to some of its targets: OPEN, then its messages (16 R384 (a), (b)). -/
def State.sendRing (s : State) (id : Nat) (targets : List Nat) : State :=
  match s.transfer id with
  | none => s
  | some t =>
    let s1 := targets.foldl (fun s m => s.sendOpen t m) s
    let r := (List.range t.messages).foldl (State.sendPiece t targets) (s1, stOk)
    r.1.modTransfer id fun t =>
      { t with error := if t.error = 0 then r.2 else t.error, attempts := t.attempts + 1,
               nacked := t.nacked.filter fun m => !(targets.contains m) }

/-- A ring transfer starts. -/
def State.beginRing (s : State) (t : Transfer) : State :=
  let id := s.nextId
  let reach := t.targets.filter fun m => (s.route m).isSome
  (s.beginTransfer t).sendRing id reach

/-- The status with which a transfer to its targets cannot start: a target that no path reaches (16 R372 (c), R333 (b)). -/
def State.ringBlocked (s : State) (t : Transfer) : Option Nat :=
  if t.targets.any fun m => (s.route m).isSome then none else some (if t.multi then stPartial else stUnreachable)

/-! ### Commands -/

/-- RING_SEND starts, its descriptor checked (16 R383, R390). -/
def Call.startRing (c : Call) (s : State) : Verdict :=
  let b := s.sysRead (c.arg 0) 128
  match s.ringCheck c.physical c.partition b with
  | some (st, off) => if st = stBadParam then badBlock off else .refuse st 0xFF off
  | none =>
    let t := s.ringTransfer b
    if sideCoherent t.srcSpace 1 t.srcRow && s.cijan.mode != .up then plain stCoherentDown else
    match (if t.srcSpace = 1 then s.objectOf t.srcHandle else none) with
    | some (_, o) =>
      if s.lostContext o.context then plain stContextLost
      else if o.mode = .retiring then s.conflict 3 o.mode.code
      else if s.beat.lock = .free then plain stUnlocked
      else match s.ringBlocked t with
        | some st => .fail s st 0 0
        | none => .defer (s.beginRing { t with command := some c.cmd.id, context := c.context, partition := c.partition,
                                               function := c.function }) (.transfer s.nextId) 0
    | none =>
      if s.beat.lock = .free then plain stUnlocked
      else match s.ringBlocked t with
        | some st => .fail s st 0 0
        | none => .defer (s.beginRing { t with command := some c.cmd.id, context := c.context, partition := c.partition,
                                               function := c.function }) (.transfer s.nextId) 0

/-- RING_SEND (16 Table 16-6); read in GUARD, it starts at the next downbeat (02 R32). -/
def ringSendEffect (c : Call) (s : State) : Verdict :=
  guards [(c.blockBad s 0 128 128, c.bad 0), (c.domainDown s 0, plain stCoherentDown)]
    (if s.beat.phase = .guard then .defer s (.startTransfer true (c.arg 0)) 0 else c.startRing s)

/-! ### The end of a ring transfer (16 R384 (e), R386; 14 R333 (b)) -/

/-- Bits of the targets in a list, by their place in the target list. -/
def Transfer.targetMask (t : Transfer) (l : List Nat) : Nat :=
  maskOf ((List.range t.targets.length).filter fun i => match t.targets[i]? with
    | some m => l.contains m
    | none => false)

/-- The completion record (14 Table 14-6). -/
def State.ringRecord (s : State) (t : Transfer) (status : Nat) : List Byte :=
  leBytes 8 (t.targetMask t.targets) ++ leBytes 8 (t.targetMask t.delivered) ++ leBytes 2 status ++ leBytes 2 t.attempts ++
    leBytes 4 (s.now - t.startedAt) ++ leBytes 8 s.beat.number

/-- A ring transfer ends with a status. -/
def State.finishRing (s : State) (t : Transfer) (status : Nat) : State :=
  let s1 := if t.record = 0 then s else s.sysWrite t.record (s.ringRecord t status)
  s1.endTransfer t status

/-- It ends when every target has answered for good. -/
def State.settleRing (s : State) (id : Nat) : State :=
  match s.transfer id with
  | none => s
  | some t =>
    if t.ring && t.targets.all fun m => t.delivered.contains m || t.failedTargets.contains m then s.finishRing t t.error else s

/-- DONE: a target reports that every write has been performed (16 R384 (e)), or the status of tiles that it did not publish
(06 R156). -/
def State.ringDone (s : State) (target id status : Nat) : State :=
  (s.modTransfer id fun t =>
    if !t.ring ∨ !(t.targets.contains target) then t
    else { t with delivered := addOnce t.delivered target, error := if t.error = 0 then status else t.error }).settleRing id

/-- NACK: a target cannot take the transfer now (status 0), or not at all (16 R385). -/
def State.ringNack (s : State) (target id reason : Nat) : State :=
  (s.modTransfer id fun t =>
    if !t.ring ∨ !(t.targets.contains target) ∨ t.delivered.contains target then t
    else if reason = 0 then { t with nacked := addOnce t.nacked target }
    else { t with failedTargets := addOnce t.failedTargets target, error := if t.error = 0 then reason else t.error }).settleRing id

/-- OPEN_RETRY: 2 µs later the laggards are sent the transfer again (16 R385, R386). -/
def State.openRetry (s : State) (id : Nat) : State :=
  match s.transfer id with
  | some t => if t.ring && !t.nacked.isEmpty then s.sendRing id t.nacked else s
  | none => s

/-- CARILLON_TIMEOUT: a MULTI transfer reaches its TIMEOUT (14 R333 (b), 16 R386). -/
def State.carillonTimeout (s : State) (id : Nat) : State :=
  match s.transfer id with
  | some t =>
    if t.ring && t.multi then
      (s.clockTo (t.startedAt + 100 * t.timeout)).finishRing t (if t.error = 0 then stPartial else t.error)
    else s
  | none => s

/-- Targets that no path reaches any more: a transfer to one member ends with ST_PEAL_UNREACHABLE, a MULTI transfer when all its
remaining laggards are out (16 R372 (c), R389, R390). -/
def State.endUnreachable (s : State) : State :=
  (s.mem.transfers.filter (·.ring)).foldl (fun s t =>
    let left := t.targets.filter fun m => !(t.delivered.contains m) && !(t.failedTargets.contains m)
    if left.isEmpty || left.any (fun m => (s.route m).isSome) then s
    else s.finishRing t (if t.error ≠ 0 then t.error else if t.multi then stPartial else stUnreachable)) s

end Sys2Proof.Machine
end

