-- ==== Sys2Proof/Machine/Costs.lean ====
section
/-!
DEFINITION. Costs and commitments: the terms of 03 Table 3-6, hop and ring latencies (14 Table 14-3, 16 Table 16-4), the energy
terms of 18 Table 18-1, and the admission margin (03 R80).
-/
namespace Sys2Proof.Machine
open Sys2Proof

/-! ### Exact non-negative fractions -/

/-- A non-negative fraction; the denominator is not 0. -/
structure Frac where
  num : Nat
  den : Nat
deriving DecidableEq, Repr

/-- A fraction in lowest terms. -/
def Frac.mk' (n d : Nat) : Frac := let g := Nat.gcd n d; if g = 0 then ⟨0, 1⟩ else ⟨n / g, d / g⟩
def Frac.zero : Frac := ⟨0, 1⟩
def Frac.ofNat (n : Nat) : Frac := ⟨n, 1⟩
def Frac.add (a b : Frac) : Frac := Frac.mk' (a.num * b.den + b.num * a.den) (a.den * b.den)
def Frac.mul (a b : Frac) : Frac := Frac.mk' (a.num * b.num) (a.den * b.den)
def Frac.le (a b : Frac) : Bool := a.num * b.den ≤ b.num * a.den
def Frac.max (a b : Frac) : Frac := if a.le b then b else a
def Frac.sum (l : List Frac) : Frac := l.foldl Frac.add Frac.zero
/-- Whole part, and rounded up. -/
def Frac.floor (a : Frac) : Nat := a.num / a.den
def Frac.ceil (a : Frac) : Nat := ceilDiv a.num a.den

/-! ### Geometry (01 R9) and latencies -/

/-- Hops between two stations. -/
def hops (a b : Nat) : Nat := (max (a % 6) (b % 6) - min (a % 6) (b % 6)) + (max (a / 6) (b / 6) - min (a / 6) (b / 6))

/-- Numbers from `a` to `b`, up or down, `a` excluded. -/
def walk (a b : Nat) : List Nat :=
  if a ≤ b then (List.range (b - a)).map (a + 1 + ·) else (List.range (a - b)).map (a - 1 - ·)

/-- XY routing (14 R322): the stations after `a` on the path to `b`. -/
def xyPath (a b : Nat) : List Nat :=
  (walk (a % 6) (b % 6)).map (a / 6 * 6 + ·) ++ (walk (a / 6) (b / 6)).map (· * 6 + b % 6)

/-- Entry of the fabric window of the direction from a station to its neighbour (21 R488). -/
def linkEntry (a b : Nat) : Nat :=
  5 * a + (if b + 6 = a then 0 else if b = a + 1 then 1 else if b = a + 6 then 2 else 3)

/-- A link direction carries nothing (14 Table 14-2). -/
def State.linkOut (s : State) (x : Nat) : Bool :=
  match tget s.fabric.links x with
  | some l => l.mode == .off || l.mode == .failed
  | none => false

/-- A station's base die is out (19 R442). -/
def State.baseOut (s : State) (station : Nat) : Bool := ((tget s.fail.bases station).map (·.out)).getD false

/-- A path passes no station or link that is out (14 R323). -/
def State.pathUp (s : State) : Nat → List Nat → Bool
  | a, [] => !(s.baseOut a)
  | a, b :: r => !(s.baseOut a) && !(s.linkOut (linkEntry a b)) && s.pathUp b r

/-- Hops of the path from one station to another, straight or by the best intermediate station (14 R323); none where the
destination is unreachable. -/
def State.pathHops (s : State) (a b : Nat) : Option Nat :=
  if s.pathUp a (xyPath a b) then some (hops a b)
  else
    (List.range 54).foldl (fun (best : Option Nat) m =>
      if s.pathUp a (xyPath a m) && s.pathUp m (xyPath m b) then
        let n := hops a m + hops m b
        match best with
        | some k => if n < k then some n else some k
        | none => some n
      else best) none

/-- Mesh hop latency in ns at a percentile code (14 Table 14-3). -/
def hopLatency (p : Nat) : Nat := if p = 0 then 36 else if p = 1 then 60 else 96
/-- T0 and F of 16 Table 16-4. -/
def ringFirst (p : Nat) : Nat := if p = 0 then 1320 else if p = 1 then 1740 else 2360
def ringFurther (p : Nat) : Nat := if p = 0 then 150 else if p = 1 then 170 else 180

/-- The largest byte count that 16 R384 (b) places on one of `n` lanes. -/
def laneBytes (n length : Nat) : Nat :=
  let m := ceilDiv length 65536
  let size (i : Nat) : Nat := min 65536 (length - i * 65536)
  ((List.range n).map fun j => ((List.range m).map fun i => if i % n = j then size i else 0).sum).foldl max 0

/-- Torus transfer budget in ns over a number of hops and lanes (16 R387), with fibres of at most 10 m. -/
def torusBudget (p : Nat) (reach : Nat × Nat) (bytes : Nat) : Frac :=
  (Frac.ofNat (ringFirst p + (reach.1 - 1) * ringFurther p)).add (Frac.mk' (laneBytes (max 1 reach.2) bytes) 200)

/-- Mesh transfer budget in ns (14 R329). -/
def meshBudget (p hops bytes : Nat) : Frac := (Frac.ofNat (hops * hopLatency p)).add (Frac.mk' bytes 4000)

/-- MACs per core per cycle of a format code (01 Table 1-8). -/
def macsPerCycle (format : Nat) : Nat :=
  match codeElement format with
  | 1 => 16 | 2 => 2048 | 3 => 2048 | 7 => 8192 | 12 => 8192 | _ => 4096

/-- Energy of a MAC in units of 0.01 pJ by its B element (18 Table 18-1). -/
def macEnergy (format : Nat) : Nat :=
  match elementWidth (codeElement format) with
  | 4 => 16 | 6 => 30 | 8 => 30 | _ => 60

/-! ### The beat -/

/-- BUILD_LEN and GUARD_LEN (02 R29). -/
def buildLen (period share : Nat) : Nat := period * share / 1000
def guardLen (period share : Nat) : Nat := period * share / 1000

/-- GUARD_LEN and BUILD_LEN of the running beat. -/
def State.guardLen (s : State) : Nat := Machine.guardLen s.beat.period s.beat.guardShare
def State.buildLen (s : State) : Nat := Machine.buildLen s.beat.period s.beat.buildShare

/-- Admission margin (03 R80). -/
def margin (period guardLen share : Nat) : Nat := max 200 ((period - guardLen - 100) * share / 1000)

/-- BEAT_LIMIT: P − GUARD_LEN. -/
def State.beatLimit (s : State) : Nat := s.beat.period - s.guardLen

/-- A list of critical path `path` launched at offset `t` fits (02 R35). -/
def fits (period guardLen margin t path : Nat) : Bool := t + 100 + path + margin ≤ period - guardLen

/-! ### Units of Kits -/

/-- A core can take work: its die is in service, and it has not failed or been retired. -/
def State.coreUsable (s : State) (c : Nat) : Bool :=
  (tget s.fail.dies (c / 32)).any (fun d => d.mode == .inService) && !(s.core c).retired

/-- Direct cores of a Kit; those of the device Kit for a peal Kit (03 R60, R69). -/
def State.directCores (s : State) (k : Kit) : List Nat :=
  let k' := if isPealKit k.id then (s.kit 0).getD k else k
  k'.units.filterMap fun u => match u with | .core c => if s.coreUsable c then some c else none | _ => none

/-- LEVEL of a Kit: the number of Kits above it (03 R61), with fuel. -/
def State.kitLevel (s : State) (k : Nat) : Nat → Nat
  | 0 => 0
  | fuel + 1 =>
    if k = 0 then
      if s.peal.members.length ≤ 1 then 0
      else if s.kits.any (fun x => isPealKit x.1 && x.1 != 2 ^ 27) then 2 else 1
    else if k = 2 ^ 27 then 0
    else match s.kit k with
      | some x => s.kitLevel x.parent fuel + 1
      | none => 0

/-- LEVEL of a Kit. -/
def State.level (s : State) (k : Nat) : Nat := s.kitLevel k 16

/-- Hops that stand for a path between stations that cannot reach each other: none that a list fits with. -/
def noPath : Nat := 1000000

/-- The longest mesh path between the stations of a Kit's cores (14 R323). -/
def State.longestPath (s : State) (cores : List Nat) : Nat :=
  let st := (cores.map (· / 32)).foldl addOnce []
  st.foldl (fun m a => st.foldl (fun m b => max m ((s.pathHops a b).getD noPath)) m) 0

/-! ### Power (18 R411 to R416) -/

/-- The effective cap (18 R412). -/
def State.effectiveCap (s : State) : Nat :=
  let a := min s.power.rampedCap s.power.thermalCap
  if s.power.lapsed then min a s.power.fallback else a

/-- The module commitment (18, Commitments). -/
def State.commitment (s : State) : Nat :=
  1100000 + s.power.departing + (s.kits.map fun k => match k.2.placement with
    | some p => if k.2.mode = .placing ∨ k.2.mode = .admitted ∨ k.2.mode = .unloading then p.power else 0
    | none => 0).sum

end Sys2Proof.Machine
end

