-- ==== Sys2Proof/Machine/Placement.lean ====
section
/-!
DEFINITION. The placement engine and admission: task records and their checks (13 R303, R304, R307, R316), tiers, pool, critical
paths, resources and the report (03 R73 to R83, 10 R243, R245, 18 R415, R416).
-/
namespace Sys2Proof.Machine
open Sys2Proof

/-! ### Task records (13 Table 13-1) -/

/-- A task record from its 64 bytes. -/
def TaskRecord.ofBytes (b : List Byte) : TaskRecord :=
  let counts := field b 16 4
  { unitKind := field b 0 4 / 2 ^ 28, unit := field b 0 4 % 2 ^ 28, groups := field b 4 1, priority := field b 5 1 % 8,
    afterAll := bit (field b 6 1) 0, preemptible := bit (field b 6 1) 1, reportValid := bit (field b 6 1) 2,
    entry := field b 8 4 % 2 ^ 27 * 128, descTable := field b 12 4 % 2 ^ 28 * 64, descCount := counts % 2 ^ 17,
    switchBound := bits counts 26 17, saveArea := field b 20 4 % 2 ^ 22 * 4096, report := field b 24 4 % 2 ^ 27 * 128,
    deps := [field b 28 2, field b 30 2].filter (· != 0xFFFF),
    args := (List.range 8).map fun i => BitVec.ofNat 32 (field b (32 + 4 * i) 4) }

/-- SAVE_SIZE (13 R304). -/
def saveSize (groups : Nat) : Nat := 2490368 + 32768 * groups

/-- The records of a list as they stand in tier 1. -/
def State.listRecords (s : State) (address count : Nat) : List (List Byte) :=
  (List.range count).map fun i => s.sysRead (address + 64 * i) 64

/-- A record's reserved fields are zero and its fields in range. -/
def recordShape (b : List Byte) : Bool :=
  let kind := field b 0 4 / 2 ^ 28
  let counts := field b 16 4
  decide (kind < 3) && (kind != 0 || field b 0 4 == 0) && decide (1 ≤ field b 4 1) && decide (field b 4 1 ≤ 16) &&
    decide (field b 5 1 < 8) && decide (field b 6 1 < 8) && field b 7 1 == 0 && decide (field b 8 4 < 2 ^ 27) &&
    decide (field b 12 4 < 2 ^ 28) && decide (counts < 2 ^ 27) && decide (counts % 2 ^ 17 ≤ 65536) &&
    decide (bits counts 26 17 ≤ 728) && decide (field b 20 4 < 2 ^ 22) && decide (field b 24 4 < 2 ^ 27) &&
    (bit (field b 6 1) 1 || field b 20 4 == 0) && (bit (field b 6 1) 2 || field b 24 4 == 0)

/-- Save areas of PREEMPTIBLE tasks: address and size. -/
def saveAreas (l : List TaskRecord) : List (Nat × Nat) :=
  l.filterMap fun t => if t.preemptible then some (t.saveArea, saveSize t.groups) else none

/-- No two ranges of a list overlap. -/
def disjointRanges : List (Nat × Nat) → Bool
  | [] => true
  | a :: r => r.all (fun b => !(overlap a.1 a.2 b.1 b.2)) && disjointRanges r

/-- Record `i` of a list passes 13 R304 for a Kit. -/
def State.recordGood (s : State) (k : Kit) (cores : List Nat) (i : Nat) (b : List Byte) : Bool :=
  let t := TaskRecord.ofBytes b
  let p := k.partition
  recordShape b && t.deps.all (fun d => decide (d < i)) &&
    s.inScratch p t.entry 128 && (t.descCount == 0 || s.inScratch p t.descTable (32 * t.descCount)) &&
    (!t.preemptible || (s.inScratch p t.saveArea (saveSize t.groups) &&
      decide (t.saveArea + saveSize t.groups ≤ k.scratchBase + k.scratchSize))) &&
    (!t.reportValid || (s.inScratch p t.report 128 && decide (t.report + 128 ≤ k.scratchBase + k.scratchSize))) &&
    (match t.unitKind with
     | 0 => !cores.isEmpty
     | 1 => k.units.contains (.core t.unit)
     | _ => k.units.contains (.kit t.unit))

/-- A list passes 13 R304 for a Kit, its save areas against those of `others`. -/
def State.listGood (s : State) (k : Kit) (address count : Nat) (others : List (Nat × Nat)) : Bool :=
  let bs := s.listRecords address count
  let cores := s.directCores k
  decide (1 ≤ count) && s.inScratch k.partition address (64 * count) &&
    ((List.range count).zip bs).all (fun e => s.recordGood k cores e.1 e.2) &&
    disjointRanges (saveAreas (bs.map TaskRecord.ofBytes) ++ others)

/-- Depth of each task of a list in dependencies, in order (13 R307). -/
def depths : List TaskRecord → List Nat → List Nat
  | [], d => d
  | t :: r, d =>
    let own := (t.deps.map fun i => d.getD i 0 + 1).foldl max 0
    let all := if t.afterAll then (d.map (· + 1)).foldl max own else own
    depths r (d ++ [all])

/-- Dependency levels along the longest chain of a list (13 R307). -/
def dependencyLevels (l : List TaskRecord) : Nat := (depths l []).foldl max 0

/-! ### A load and the share of it that is placed (03 R85) -/

/-- The layers of a load that the module places: first, count, and the layers of the whole load. -/
structure Share where
  first : Nat
  count : Nat
  total : Nat
deriving DecidableEq, Repr

/-- Layers that a load describes. -/
def Load.layers (l : Load) : Nat :=
  ((l.records.filter fun r => r.kind = 1 ∨ r.kind = 2).map fun r => r.layer + 1).foldl max 0

/-- The whole of a load. -/
def Load.whole (l : Load) : Share := ⟨0, l.layers, l.layers⟩

/-- A layer lies in the share. -/
def Share.has (h : Share) (layer : Nat) : Bool := decide (h.first ≤ layer) && decide (layer < h.first + h.count)

/-- Records of a kind with their indexes. -/
def Load.ofKind (l : Load) (kind : Nat) : List (Nat × DescRecord) :=
  ((List.range l.records.length).zip l.records).filter fun r => r.2.kind == kind

/-- TENSOR records of a share. -/
def Load.tensors (l : Load) (h : Share) : List (Nat × DescRecord) := (l.ofKind 1).filter fun r => h.has r.2.layer
/-- STAGE records of a share. -/
def Load.stages (l : Load) (h : Share) : List DescRecord := ((l.ofKind 2).map (·.2)).filter fun r => h.has r.layer
/-- The KV, HANDOFF and BATCH record of a load, if it has one. -/
def Load.kv (l : Load) : Option DescRecord := ((l.ofKind 3).head?).map (·.2)
def Load.handoff (l : Load) : Nat := (((l.ofKind 4).head?).map (·.2.bytes)).getD 0
def Load.batch (l : Load) : Option (Nat × Nat) := ((l.ofKind 5).head?).map fun r => (r.2.arg0 % 65536, r.2.arg1)
/-- LIST records. -/
def Load.listRecords (l : Load) : List DescRecord := (l.ofKind 6).map (·.2)

/-- KV bytes per token of a share: in proportion to its layers. -/
def Load.kvBytes (l : Load) (h : Share) : Nat :=
  match l.kv with
  | some r => if h.total = h.count then r.bytes else r.bytes * h.count / h.total
  | none => 0

/-! ### Tiers (03 R74, R75) -/

/-- Tiles of a tensor. -/
def DescRecord.tiles (r : DescRecord) : Nat := ceilDiv r.bytes 4096

/-- Tiles of a tensor in each slice of S, by the home of each line (07 R170). -/
def tileShares (stations : List Nat) (object tiles : Nat) : List (Nat × Nat) :=
  let n := stations.length
  if n = 0 then [] else
    ((List.range n).zip stations).map fun e =>
      (e.2, tiles / n + b2n (decide ((e.1 + n - object % n) % n < tiles % n)))

/-- Largest second entry. -/
def largest (l : List (Nat × Nat)) : Nat := (l.map (·.2)).foldl max 0

/-- Time saved per beat for each byte by holding a tensor in tier 1, times the steps of a beat, as a fraction (03 R74,
saving divided by bytes). -/
def State.savingRate (s : State) (stations : List Nat) (r : DescRecord) : Frac :=
  let pairs := match s.objectOf r.source with | some (_, o) => max 1 o.pairs.length | none => 1
  let t2 := Frac.mk' r.bytes (3200 * pairs)
  let t1 := Frac.mk' (ceilDiv r.tiles (max 1 stations.length) * 4096) 3072
  if t2.le t1 then Frac.zero else Frac.mk' (r.arg0 * (t2.num * t1.den - t1.num * t2.den)) (t2.den * t1.den * max 1 r.bytes)

/-- A record put in the order of choose_tiers: saving rate descending, then index. -/
def insertTensor (x : Frac × Nat × DescRecord) : List (Frac × Nat × DescRecord) → List (Frac × Nat × DescRecord)
  | [] => [x]
  | y :: r => if x.1.le y.1 then y :: insertTensor x r else x :: y :: r

/-- What choose_tiers has decided so far: tensor places, planned pins by station, first pin resource that failed, and the pins by
station with the tensor that failed it. -/
structure Tiers where
  places : List TensorPlace
  pins : List (Nat × Nat)
  failed : Nat
  wanted : List (Nat × Nat)

/-- Lines of an object that are pinned already in each slice are not counted again (07 R178). -/
def State.pinnedOf (s : State) (object tiles station : Nat) : Nat :=
  (s.mem.lines.filter fun l =>
    l.2.pin && l.2.object == object && decide (l.2.line < tiles) && slotStation l.1 == station).length

/-- pin_room of 03 R74: 0 when the shares fit, else the failing resource. -/
def State.pinRoom (s : State) (p : Nat) (pins shares : List (Nat × Nat)) : Nat :=
  let bad (limit : Nat → Nat) : Bool := shares.any fun e => limit e.1 < tgetD pins e.1 0 + e.2
  if bad fun st => 61440 - s.pinnedIn st none then 2
  else if bad fun st => (s.cacheGranules p st).length * 2048 - 2048 - s.pinnedIn st (some p) then 1
  else 0

/-- One tensor of choose_tiers. -/
def State.placeTensor (s : State) (p : Nat) (stations : List Nat) (t : Tiers) (e : Nat × DescRecord) : Tiers :=
  let r := e.2
  let (i, handle) := match s.objectOf r.source with | some (i, _) => (i, r.source) | none => (0, 0)
  let shares := tileShares stations i r.tiles
  let new := shares.map fun x => (x.1, x.2 - s.pinnedOf i r.tiles x.1)
  let tier2 : TensorPlace := { record := e.1, handle, pinned := false, tiles := [], replica := 0 }
  if bit r.flags 1 then { t with places := t.places ++ [tier2] }
  else
    let room := if stations.isEmpty then 1 else s.pinRoom p t.pins new
    let pins := new.foldl (fun m x => tupd m x.1 0 (· + x.2)) t.pins
    let first := bit r.flags 0 && t.failed == 0
    if room = 0 then
      { t with
        places := t.places ++ [{ record := e.1, handle, pinned := true, tiles := shares, replica := 0 }]
        pins }
    else
      { t with
        places := t.places ++ [tier2]
        failed := if first then room else t.failed
        wanted := if first then pins else t.wanted }

/-- choose_tiers (03 R74); a tensor with PIN_ALWAYS that cannot be pinned is noted and the others go on. -/
def State.chooseTiers (s : State) (p : Nat) (tensors : List (Nat × DescRecord)) : Tiers :=
  let st := s.cacheStations p
  let order := (tensors.map fun e => (s.savingRate st e.2, e.1, e.2)).foldl (fun l x => insertTensor x l) []
  (order.map (·.2)).foldl (fun t e => s.placeTensor p st t e) ⟨[], [], 0, []⟩

/-! ### Critical paths (03 Table 3-6) -/

/-- Steps of a list for its cost: rows of decode and of chunks, attended tokens that the decode steps read, what each chunk
reads, its rows times that, tokens handed on. -/
structure Work where
  rows : Nat
  reads : Nat
  attended : Nat
  tokens : Nat
deriving DecidableEq, Repr

/-- The distinct (layer, stage) pairs of a share, ascending. -/
def Load.stageKeys (l : Load) (h : Share) : List (Nat × Nat) :=
  (((l.tensors h).map fun e => (e.2.layer, e.2.stage)) ++ (l.stages h).map fun r => (r.layer, r.stage)).foldl
    (fun (a : List (Nat × Nat)) x => if a.contains x then a else insertRange x a) []

/-- What a stage costs: MACs, its format, bytes of the fullest slice and of all slices in tier 1, tier-2 parts by pairs that
hold them, bytes over the mesh. -/
structure StageCost where
  macs : Nat
  format : Nat
  slice : Nat
  tier1 : Nat
  tier2 : List (Nat × Nat)
  mesh : List Nat

/-- The cost of a stage of a placement. -/
def State.stageCost (s : State) (l : Load) (h : Share) (places : List TensorPlace) (poolPairs : Nat) (w : Work)
    (key : Nat × Nat) : StageCost :=
  let ts := (l.tensors h).filter fun e => (e.2.layer, e.2.stage) == key
  let st := (l.stages h).filter fun r => (r.layer, r.stage) == key
  let place (i : Nat) : Option TensorPlace := places.find? (·.record == i)
  let isPinned (i : Nat) : Bool := (place i).any (·.pinned)
  let slices := (ts.filter fun e => isPinned e.1).foldl (fun m e =>
    ((place e.1).map (·.tiles) |>.getD []).foldl (fun m x => tupd m x.1 0 (· + x.2 * 4096 * e.2.arg0)) m) []
  let pairsOf (e : Nat × DescRecord) : Nat := match s.objectOf e.2.source with
    | some (_, o) => max 1 o.pairs.length
    | none => 1
  { macs := (st.map fun r => r.work * if r.arg0 = 0 then w.rows else w.attended).sum
    format := match ts.head? with
      | some e => e.2.format
      | none => match l.kv with | some r => r.format | none => 1
    slice := largest slices
    tier1 := (slices.map (·.2)).sum
    tier2 := (ts.filter fun e => !(isPinned e.1)).map (fun e => (e.2.bytes * e.2.arg0, pairsOf e)) ++
      (st.filter fun r => r.arg0 != 0).map (fun r => (r.arg0 * w.reads, max 1 poolPairs))
    mesh := (st.filter fun r => r.arg1 != 0).map fun r => r.arg1 * w.rows }

/-- Time of a stage in ns, its mesh budgets included. -/
def StageCost.time (c : StageCost) (cores percentile far : Nat) : Frac :=
  let arith := Frac.mk' (c.macs * 10) (max 1 cores * macsPerCycle c.format * 6)
  let tier := (Frac.mk' c.slice 3072).add (Frac.sum (c.tier2.map fun x => Frac.mk' x.1 (3200 * x.2)))
  (arith.max tier).add (Frac.sum (c.mesh.map fun b => meshBudget percentile far b))

/-- Critical path of a step-builder list, in ns (03 Table 3-6). -/
def State.stepPath (s : State) (l : Load) (h : Share) (places : List TensorPlace) (poolPairs : Nat) (cores : List Nat)
    (percentile : Nat) (reach : Nat × Nat) (w : Work) : Frac :=
  let far := s.longestPath cores
  let stages := Frac.sum ((l.stageKeys h).map fun key =>
    (s.stageCost l h places poolPairs w key).time cores.length percentile far)
  if l.handoff = 0 then stages else stages.add (torusBudget percentile reach (l.handoff * w.tokens))

/-- In units of 10 ns, truncated (03 R79). -/
def Frac.units (f : Frac) : Nat := f.floor / 10

/-- Critical path of a LIST record in units of 10 ns. -/
def listPath (r : DescRecord) (percentile far : Nat) : Nat :=
  let mesh := r.arg1 % 2 ^ 32
  let torus := r.arg1 / 2 ^ 32
  let a := Frac.ofNat (r.work * 10)
  let b := if mesh = 0 then a else a.add (meshBudget percentile far mesh)
  (if torus = 0 then b else b.add (torusBudget percentile (1, 4) torus)).units

/-! ### Contention (13 R316) -/

/-- A list of a Kit for contention: critical path, priority, every task PREEMPTIBLE, cores needed, and the largest
outgoing, fresh and restored switch terms in ns. -/
structure Contender where
  path : Nat
  priority : Nat
  preemptible : Bool
  cores : Nat
  bound : Nat
  groups : Nat
deriving DecidableEq, Repr

/-- Units of 10 ns, rounded up, of a switch: 2 µs, bytes at 128 GB/s and 0.25 µs for each group (13 R312). -/
def switchUnits (bytes groups : Nat) : Nat := 200 + ceilDiv bytes 1280 + 25 * groups

/-- Extra time of list `l` beside the others (13 R316). -/
def contention (cores : Nat) (l : Contender) (others : List Contender) : Nat :=
  (others.map fun h =>
    if l.cores + h.cores ≤ cores then 0
    else if l.priority < h.priority then
      h.path + switchUnits (l.bound * 4096) (l.groups + h.groups) + switchUnits (l.bound * 4096) l.groups
    else if h.priority < l.priority ∧ h.preemptible then switchUnits (h.bound * 4096) (h.groups + l.groups)
    else h.path).sum

/-- The contender that an explicit list is. -/
def State.contender (s : State) (r : DescRecord) (percentile far : Nat) : Contender :=
  let ts := (s.listRecords r.arg0 (r.bytes / 64)).map TaskRecord.ofBytes
  { path := listPath r percentile far, priority := (ts.map (·.priority)).foldl max 0,
    preemptible := ts.all (·.preemptible), cores := ts.length, bound := (ts.map (·.switchBound)).foldl max 0,
    groups := (ts.map (·.groups)).foldl max 0 }

/-! ### The KV pool (10 R243) -/

/-- Free pair granules of a partition in a pair: no part of any memory object in them. -/
def State.freePairGranules (s : State) (p pair : Nat) : List Nat :=
  (List.range 102).map (· + pair * 102) |>.filter fun g =>
    (s.granule2 g).partition == p && (s.objectsInGranule g).isEmpty

/-- share_granules of 10 R243: granules per pair for a count, by position in `free`; none when they cannot be given. -/
def shareGranules (free : List Nat) : Nat → List Nat → Nat → Option (List Nat)
  | 0, _, _ => none
  | fuel + 1, take, left =>
    if left = 0 then some take
    else
      let room := (List.range free.length).filter fun p => take.getD p 0 < free.getD p 0
      if room.isEmpty then none
      else
        let each := left / room.length
        let extra := left % room.length
        let got (p : Nat) : Nat := match room.findIdx? (· == p) with
          | some i => min (each + b2n (decide (i < extra))) (free.getD p 0 - take.getD p 0)
          | none => 0
        let next := (List.range free.length).map fun p => take.getD p 0 + got p
        shareGranules free fuel next (left - ((List.range free.length).map got).sum)

/-- Page slices that a share of granules gives. -/
def poolSlots (pageBytes : Nat) (take : List Nat) : Nat := (take.map fun n => n * 2 ^ 30 / pageBytes).sum

/-- The least count of granules whose share gives the slots needed, from `g` on. -/
def leastShare (free : List Nat) (pageBytes need : Nat) : Nat → Nat → Option (List Nat)
  | 0, _ => none
  | fuel + 1, g =>
    match shareGranules free 12 (free.map fun _ => 0) g with
    | none => none
    | some take => if need ≤ poolSlots pageBytes take then some take else leastShare free pageBytes need fuel (g + 1)

/-- AREA_SIZE of a Kit's sequence area (10 R245). -/
def areaSize (stepSlots seqCount slots : Nat) : Nat :=
  ceilDiv (4096 + 512 * stepSlots + 524288 + seqCount * 4096 + (seqCount + ceilDiv slots 256) * 1024) 65536 * 65536

/-- STEP_SLOTS (10 R245). -/
def stepSlots (decodeSteps : Nat) : Nat := ceilDiv (decodeSteps + 64) 8 * 8

/-- Lowest base of a free range of `n` entries of the sequence table (10 R238). -/
def State.seqRange (s : State) (except n : Nat) : Option Nat :=
  let taken := s.kits.filterMap fun k =>
    if k.1 = except then none else k.2.placement.bind fun p =>
      if p.seqCount = 0 then none else some (p.seqBase, p.seqCount)
  let ends := 0 :: taken.map fun r => r.1 + r.2
  (ends.filter fun b => decide (b + n ≤ 131072) && taken.all fun r => !(overlap b n r.1 r.2)).foldl
    (fun (m : Option Nat) b => match m with | none => some b | some x => some (min x b)) none

/-! ### Admission (03 R81, R82) -/

/-- What admission finds: the placement it would make, and the resources. -/
structure Finding where
  placement : Placement
  uses : List ResourceUse
  pins : List (Nat × Nat)

/-- A resource as demand and capacity without a place. -/
def ResourceUse.simple (code demand capacity : Nat) : ResourceUse :=
  { code, demand, capacity, layer := 0xFFFF, station := 0xFF, pair := 0xFF }

/-- The resource fails. -/
def ResourceUse.fails (u : ResourceUse) : Bool := u.capacity < u.demand

/-- The slice that fails, else the fullest: demand and capacity with its station. -/
def fullest (code : Nat) (l : List (Nat × Nat × Nat)) : ResourceUse :=
  let bad := l.find? fun e => e.2.2 < e.2.1
  match bad with
  | some e => { ResourceUse.simple code e.2.1 e.2.2 with station := e.1 }
  | none =>
    let m := (l.map fun e => e.2.1).foldl max 0
    match l.find? fun e => e.2.1 == m with
    | some e => ResourceUse.simple code e.2.1 e.2.2
    | none => ResourceUse.simple code 0 0

/-- Decode steps and attended tokens as the work of the full decode list. -/
def batchWork (b : Nat × Nat) : Work := { rows := b.1, reads := b.2, attended := b.2, tokens := b.1 }

/-- Energy of the decode list in units of 0.01 pJ: its cores hold tasks from its launch, 1 µs before its critical path begins, to the end
of that path (18 Table 18-1). -/
def State.stepEnergy (s : State) (l : Load) (h : Share) (places : List TensorPlace) (poolPairs cores path : Nat)
    (w : Work) : Nat :=
  let stages := (l.stageKeys h).map fun key => s.stageCost l h places poolPairs w key
  cores * 40000 * ((path + 100) * 10) + (stages.map fun c =>
    c.macs * macEnergy c.format + c.tier1 * 150 + (c.tier2.map (·.1)).sum * 800).sum + l.handoff * w.tokens * 1200

def listEnergy (r : DescRecord) (cores : Nat) : Nat :=
  cores * 107000 * (r.work * 10) + r.arg1 % 2 ^ 32 * 150 + r.arg1 / 2 ^ 32 * 1200

/-- Stations where a partition holds any granule. -/
def State.heldStations (s : State) (p : Nat) : List Nat :=
  (((List.range 2048).filter fun g => (s.granule g).partition == p).map fun g => (granulePlace g).1).foldl
    (fun a x => if a.contains x then a else x :: a) [] |>.foldl (fun l x => (insertRange (x, 0) (l.map (·, 0))).map (·.1)) []

/-- Admission of a load's share for a Kit under a percentile and a margin share (03 R79 to R83); `keep` is the placement that a
re-placement starts from. -/
def State.placeKit (s : State) (k : Kit) (l : Load) (h : Share) (percentile marginShare : Nat) (keep : Option Placement) :
    Finding :=
  let p := k.partition
  let cores := s.directCores k
  let far := s.longestPath cores
  let tensors := l.tensors h
  let tiers := s.chooseTiers p tensors
  let kvBytes := l.kvBytes h
  let pageBytes := 64 * kvBytes
  let need := match l.kv with | some r => r.arg0 / 64 | none => 0
  let seqs := match l.kv with | some r => r.arg1 | none => 0
  let pairs := s.pairsOf p
  let free := pairs.map fun q => (s.freePairGranules p q).length
  let start := if pageBytes = 0 then 0 else max 1 (ceilDiv (need * pageBytes) (2 ^ 30))
  let share := leastShare free pageBytes need (need + 2) start
  let ideal := (leastShare (pairs.map fun _ => 2 ^ 40) pageBytes need (need + 2) start).getD [start]
  let pool : List PoolPair := match keep with
    | some x => x.pool
    | none =>
      if l.kv.isNone then [] else
      (pairs.zip (share.getD [])).filterMap fun e =>
        if e.2 = 0 then none else
          some { pair := e.1, granules := (s.freePairGranules p e.1).take e.2, handle := 0,
                 slots := e.2 * 2 ^ 30 / pageBytes, summaryHandle := 0 }
  let slots := (pool.map (·.slots)).sum
  let poolPairs := pool.length
  let m := margin s.beat.period s.guardLen marginShare
  let decode := match l.batch with
    | some b => (s.stepPath l h tiers.places poolPairs cores percentile (s.handoffReach k) (batchWork b)).units
    | none => 0
  let explicit := l.listRecords
  let contenders := explicit.map fun r => s.contender r percentile far
  let stepper : List Contender := match l.batch with
    | some _ => [{ path := decode, priority := 7, preemptible := false, cores := cores.length, bound := 0, groups := 16 }]
    | none => []
  let all := stepper ++ contenders
  let charged := ((List.range all.length).zip all).map fun e =>
    e.2.path + contention cores.length e.2 (all.eraseIdx e.1)
  let levels := (explicit.map fun r =>
    dependencyLevels ((s.listRecords r.arg0 (r.bytes / 64)).map TaskRecord.ofBytes)).foldl max 0
  let longest := charged.foldl max 0
  let worst := if all.isEmpty then 0 else 100 + longest + m
  let beatDemand := if m < levels * 4 then max worst (s.beatLimit + 1) else worst
  let prefill := if l.batch.isNone then 0 else s.beatLimit - 100 - m - decode
  let energy := (match l.batch with
      | some b =>
        let e := s.stepEnergy l h tiers.places poolPairs cores.length decode (batchWork b)
        if decode = 0 then e else e * (decode + prefill) / decode
      | none => 0) + (explicit.map fun r => listEnergy r cores.length).sum
  let power := ceilDiv energy (s.beat.period * 10 * 100)
  let area := if l.kv.isSome then areaSize (stepSlots ((l.batch.map (·.1)).getD 0)) seqs slots else 0
  let ownPower := match k.placement with | some x => x.power | none => 0
  let held := s.heldStations p
  let floorUse := fullest 1 (held.map fun st =>
    (st, 2 ^ 23 + (s.pinnedIn st (some p) + tgetD (if tiers.failed = 1 then tiers.wanted else tiers.pins) st 0) * 4096, (s.cacheGranules p st).length * 2 ^ 23))
  let floorUse := if tiers.failed = 1 ∧ !floorUse.fails then { floorUse with demand := floorUse.capacity + 4096 }
    else if k.scratchSize < area ∧ !floorUse.fails then ResourceUse.simple 1 area k.scratchSize else floorUse
  let pinUse := fullest 2 ((s.cacheStations p).map fun st =>
    (st, (s.pinnedIn st none + tgetD (if tiers.failed = 2 then tiers.wanted else tiers.pins) st 0) * 4096, 61440 * 4096))
  let pinUse := if tiers.failed = 2 ∧ !pinUse.fails then { pinUse with demand := pinUse.capacity + 4096 } else pinUse
  let tensorBytes := (tensors.map fun e => e.2.bytes).sum
  let capacity2 := ((List.range 1024).filter fun g => (s.granule2 g).partition == p).map (fun g =>
    ((granule2Parts g).map fun x => (x.2.2 - x.2.1) * 512).sum) |>.sum
  let poolFails := keep.isNone && l.kv.isSome && share.isNone
  let poolUse := (if l.kv.isNone then 0 else if poolFails then ideal.sum else (pool.map (·.granules.length)).sum) * 2 ^ 30
  let use3 := ResourceUse.simple 3 (poolUse + tensorBytes) (if poolFails then min capacity2 (poolUse + tensorBytes - 1)
    else max capacity2 (poolUse + tensorBytes))
  let seqBase := match keep with
    | some x => some x.seqBase
    | none => if seqs = 0 then some 0 else s.seqRange k.id seqs
  let needReplica := k.load.any (fun x => x.replica == 1) && tensors.any (fun e => bit e.2.flags 2)
  let replicaBytes := (tensors.filter fun e => bit e.2.flags 2).map (fun e => e.2.bytes) |>.sum
  let torus := l.handoff * ((l.batch.map (·.1)).getD 0) + (explicit.map fun r => r.arg1 / 2 ^ 32).sum
  let powerRoom := s.effectiveCap - (s.commitment - ownPower)
  let uses :=
    [floorUse, pinUse, use3, ResourceUse.simple 4 beatDemand s.beatLimit,
     ResourceUse.simple 5 (if l.batch.isSome then 1 else 0) cores.length,
     ResourceUse.simple 6 seqs k.chimeCount,
     ResourceUse.simple 7 seqs (if seqBase.isSome then max seqs 1 else 0),
     ResourceUse.simple 8 torus (800 * s.beat.period * 10), ResourceUse.simple 9 0 (200 * (s.cijan.engines.filter (·.up)).length * s.beat.period * 10),
     ResourceUse.simple 10 power (if keep.isSome ∧ power ≤ ownPower then max power powerRoom
       else if s.effectiveCap < s.commitment then 0 else powerRoom),
     ResourceUse.simple 11 (s.level k.id) 14,
     ResourceUse.simple 12 (if needReplica then replicaBytes else 0)
       (if s.peal.members.length ≤ 1 then 0 else capacity2)]
  let lists : List AdmittedList := explicit.map fun r =>
    { address := r.arg0, bytes := r.bytes, critical := listPath r percentile far }
  { placement :=
      { percentile, margin := m, cores := cores.length, tensors := tiers.places, pool, lists, batch := l.batch,
        decodeCritical := decode, critical := longest, prefillBudget := prefill, seqBase := seqBase.getD 0,
        seqCount := seqs, kvBytes, power, firstLayer := h.first, layerCount := h.count, uses, tilesInPlace := false }
    uses, pins := tiers.pins }

/-- Failing resources of a finding. -/
def Finding.failing (f : Finding) : List ResourceUse := f.uses.filter (·.fails)

/-- The report of 03 Table 3-7. -/
def State.reportBytes (s : State) (kit : Nat) (module_ : Nat) (binding : Option ResourceUse) (p : Placement)
    (uses : List ResourceUse) : List Byte :=
  let u := binding.getD (ResourceUse.simple 0 0 0)
  let failing := (uses.filter (·.fails)).map (·.code)
  leBytes 1 u.code ++ zeros 1 ++ leBytes 2 u.layer ++ leBytes 4 (if binding.isSome then maskOf failing else 0) ++
    leBytes 4 kit ++ leBytes 1 u.station ++ leBytes 1 u.pair ++ zeros 2 ++ leBytes 4 module_ ++ leBytes 1 p.percentile ++
    zeros 3 ++ leBytes 8 u.demand ++ leBytes 8 u.capacity ++ leBytes 8 p.critical ++ leBytes 4 p.margin ++
    leBytes 4 s.beatLimit ++ leBytes 8 (if binding.isSome then 0 else p.prefillBudget) ++ zeros 64

/-- A report's head enters the placement history of module flash (20 Table 20-7). -/
def State.noteAdmission (s : State) (report : List Byte) : State :=
  { s with boot := { s.boot with history := lastN 256 (s.boot.history ++ [report.take 64]) } }

end Sys2Proof.Machine
end

