-- ==== Sys2Proof/Machine/KitCommands.lean ====
section
/-!
DEFINITION. The commands of Kits and of loading (03 R59 to R72, R76, R82, R84, R88) and the outcome of a run of admission.
-/
namespace Sys2Proof.Machine
open Sys2Proof

/-! ### Naming a Kit -/

/-- A KIT_ID is well formed (03 R59). -/
def kitIdGood (k : Nat) : Bool :=
  decide (k < 2 ^ 28) && bits k 26 16 == 0 && (!isPealKit k || decide (k % 65536 < 4096))

/-- State code of a Kit, 0 for a free one. -/
def State.kitCode (s : State) (k : Nat) : Nat := match s.kit k with | some x => x.mode.code | none => 0

/-- The peal leader's coordinate when this module is not the leader (03 R84). -/
def State.notLeader (s : State) : Option Nat :=
  match s.peal.leader with
  | some l => if l = s.peal.coordinate then none else some l
  | none => if s.peal.members.length ≤ 1 then none else some 0xFFF

/-- The refusals of a command for the Kit in parameter 0: malformed, out of the function's partitions, not the leader's to
take, of a lost Context (03 R59, R68, R84, 11 R270). -/
def Call.kitNamed (c : Call) (s : State) (leaderOnly : Bool) : List (Bool × Verdict) :=
  let k := c.arg 0
  [(!c.physical && (s.kit k).any (fun x => !(s.usable c.function x.partition)), plain stNotPermitted),
   (!(kitIdGood k), c.bad 0),
   (!c.physical && (s.kit k).any (fun x => x.partition != c.partition), c.bad 0)] ++
  (if leaderOnly && isPealKit k && s.notLeader.isSome then [(true, s.roleConflict (s.notLeader.getD 0))] else [])

/-- The Kit's Context is lost. -/
def Call.kitLost (c : Call) (s : State) : List (Bool × Verdict) :=
  [((s.kit (c.arg 0)).any fun k => k.mode == .lost || s.lostContext k.context, plain stContextLost)]

/-- The Kit is in none of the states that accept the command. -/
def Call.kitMode (c : Call) (s : State) (ok : KitMode → Bool) : List (Bool × Verdict) :=
  [(!((s.kit (c.arg 0)).any fun k => ok k.mode), s.conflict 5 (s.kitCode (c.arg 0)))]

/-- The command arrived in a queue other than the Kit's own, or queue 0 for a child of the device Kit (03 R66). -/
def Call.wrongQueue (c : Call) (s : State) : List (Bool × Verdict) :=
  [((s.kit (c.arg 0)).any fun k =>
      c.arg 0 != 0 && !(k.queue == c.cmd.queue || (k.parent == 0 && c.cmd.queue == 0)), c.bad 0)]

/-- A run of admission for the Kit is outstanding. -/
def State.admitting (s : State) (k : Nat) : Bool :=
  s.commands.any fun c => match c.wait with
    | .commit x _ => x == k
    | .replace x _ _ _ => x == k
    | _ => false

/-! ### KIT_CREATE (03 R61 to R67) -/

/-- A unit entry (03 R67). -/
def unitOf (w : Nat) : Option KitUnit :=
  let v := w % 2 ^ 28
  match w / 2 ^ 28 with
  | 0 => some (.kit v)
  | 1 => some (.core v)
  | 4 => some (.module v)
  | _ => none

/-- The sequence policy of a Kit that has no load (10 R254). -/
def SeqPolicy.initial (contextTokens : Nat) : SeqPolicy :=
  { denseLimit := contextTokens / 64 * 64, sinkPages := 0, recentPages := 0, topPages := 0, heads := 0, dims := 0,
    chunkMax := 256, slipLimit := 0 }

/-- A Kit from its parameter block. -/
def Kit.ofBlock (id : Nat) (b : List Byte) (units : List KitUnit) : Kit :=
  { id, parent := field b 0 4, context := field b 8 2, partition := field b 10 1, percentile := field b 11 1 % 4,
    policy := field b 11 1 / 4 % 4, overrunLimit := field b 12 1, marginShare := field b 13 1,
    unitListAddress := field b 48 8, queue := field b 16 4, chimeBase := field b 20 4, chimeCount := field b 24 4,
    scratchBase := field b 32 8, scratchSize := field b 40 8, units, mode := .created, degraded := false, lostCores := 0,
    load := none, placement := none, next := none, stagedPolicy := none, consecutive := 0, heldFrom := none,
    hardBeats := [], overrunSoft := 0, overrunHard := 0, buildShort := 0, almanacLate := 0, almanacSkipped := 0,
    transferOverrun := 0, scoreLate := 0, summaryFail := 0, seqPolicy := SeqPolicy.initial 0, composed := none,
    queued := [], results := [], batches := [], pealSlots := 0, forward := [], noResults := 0, report := 0 }

/-- The device Kit (03 R60). -/
def Kit.device (units : List KitUnit) : Kit :=
  let b := leBytes 4 0 ++ leBytes 4 0 ++ leBytes 2 65535 ++ leBytes 1 0 ++ leBytes 1 1 ++ leBytes 1 4 ++ leBytes 1 50 ++
    leBytes 2 0 ++ leBytes 4 0 ++ leBytes 4 0 ++ leBytes 4 4194304 ++ zeros 4 ++ leBytes 8 0 ++
    leBytes 8 (2048 * 2 ^ 23) ++ zeros 16
  Kit.ofBlock 0 b units

/-- A unit is held by an accepted KIT_CREATE (03 R62). -/
def State.heldUnit (s : State) (u : KitUnit) : Bool := s.creations.any fun x => x.kit.units.contains u

/-- A Kit is held as the parent of an accepted KIT_CREATE. -/
def State.heldParent (s : State) (k : Nat) : Bool := s.creations.any fun x => x.kit.parent == k

/-- The first refused unit of a list, by its index: not a unit entry, named twice, not a direct unit of the parent. -/
def badUnit (peal : Bool) (parent : Kit) : List Nat → List KitUnit → Nat → Option Nat
  | [], _, _ => none
  | w :: r, seen, i =>
    match unitOf w with
    | none => some i
    | some u =>
      let isModule := match u with | .module _ => true | _ => false
      if isModule != peal || seen.contains u || !(parent.units.contains u) then some i
      else badUnit peal parent r (seen ++ [u]) (i + 1)

/-- The checks of a Kit parameter block that give ST_BAD_PARAM, in order of their offsets (03 R59 to R67, 11 R271). -/
def State.kitBlockGuards (s : State) (b : List Byte) (units : List Nat) : List (Bool × Verdict) :=
  let parent := field b 0 4
  let id := field b 4 4
  let ctx := field b 8 2
  let p := field b 10 1
  let q := field b 16 4
  let (cb, cc) := (field b 20 4, field b 24 4)
  let (sb, sz) := (field b 32 8, field b 40 8)
  let par := s.kit parent
  let peal := isPealKit parent
  let dev := parent == 0 || parent == 2 ^ 27
  let k := s.context ctx
  let top := (par.map fun x => (x.scratchBase, x.scratchSize)).getD (0, 0)
  let ns := (par.map fun x => (x.chimeBase, x.chimeCount)).getD (0, 0)
  let window := decide (top.1 ≤ sb) && decide (sb + sz ≤ top.1 + top.2) && s.inScratch p sb sz
  let bu := par.bind fun x => badUnit peal x units [] 0
  [(par.isNone || decide (14 ≤ s.level parent) || (peal && parent != 2 ^ 27), badBlock 0),
   (id != 0xFFFFFFFF && (!(kitIdGood id) || isPealKit id != peal), badBlock 4),
   (ctx == 65535, badBlock 8),
   (decide (63 < p) || (!dev && par.any fun x => x.partition != p) || (k.mode != .free && k.partition != p), badBlock 10),
   (decide (15 < field b 11 1) || field b 11 1 % 4 == 3 || field b 11 1 / 4 == 3, badBlock 11),
   (field b 12 1 == 0, badBlock 12), (decide (250 < field b 13 1), badBlock 13),
   (field b 14 2 == 0 || decide (4096 < field b 14 2), badBlock 14),
   (decide (2 ^ 20 ≤ q) || (s.queue q).mode == .free || (s.queue q).context != ctx || (s.queue q).bound, badBlock 16),
   (decide (2 ^ 22 ≤ cb) || decide (cb < ns.1), badBlock 20),
   (cc == 0 || decide (ns.1 + ns.2 < cb + cc) || !(s.chimesInside p cb cc), badBlock 24),
   (field b 28 4 != 0, badBlock 28), (sb % 65536 != 0 || (sz != 0 && !window), badBlock 32),
   (sz % 65536 != 0, badBlock 40), (field b 56 8 != 0, badBlock 56),
   (bu.isSome, badBlock (64 + 4 * bu.getD 0))]

/-- The 64 bytes of the parameter block of a KIT_CREATE, and its unit list (03 R61, R67). -/
def Call.kitBlock (c : Call) (s : State) : List Byte := s.sysRead (c.arg 0) 64
def Call.kitUnits (c : Call) (s : State) : List Nat :=
  let b := c.kitBlock s
  (List.range (min (field b 14 2) 4096)).map fun i => field (s.sysRead (field b 48 8 + 4 * i) 4) 0 4

/-- The KIT_ID is taken: by a Kit, or by a KIT_CREATE already accepted. -/
def State.kitIdTaken (s : State) (id : Nat) : Bool := (s.kit id).isSome || s.creations.any fun x => x.kit.id == id

/-- The KIT_ID of a KIT_CREATE: the one it names, or the lowest that is free (03 R59). -/
def Call.newKitId (c : Call) (s : State) : Option Nat :=
  let b := c.kitBlock s
  let base := if isPealKit (field b 0 4) then 2 ^ 27 else 0
  if field b 4 4 != 0xFFFFFFFF then some (field b 4 4)
  else (firstFrom (fun i => !(s.kitIdTaken (base + i))) 0 (if isPealKit (field b 0 4) then 4096 else 65536)).map (· + base)

/-- The Kit that a KIT_CREATE makes. -/
def Call.newKit (c : Call) (s : State) : Kit :=
  let id := (c.newKitId s).getD 0
  { Kit.ofBlock id (c.kitBlock s) ((c.kitUnits s).filterMap unitOf) with id }

/-- The refusals of KIT_CREATE (03 R59 to R67). -/
def kitCreateRefusals (c : Call) (s : State) : List (Bool × Verdict) :=
  let b := c.kitBlock s
  let parent := field b 0 4
  let id := field b 4 4
  let ctx := field b 8 2
  let n := min (field b 14 2) 4096
  let list := field b 48 8
  let listBad := list % 4 != 0 || !(s.inScratch c.partition list (4 * max n 1))
  let units := c.kitUnits s
  let parentMode := (s.kit parent).map (·.mode)
  let busy := parentMode.any fun m => m == .loading || m == .placing || m == .admitted || m == .unloading || m == .retiring
  [(!c.physical && (s.queue (field b 16 4)).mode != .free && !(s.inRange c.function (field b 16 4)), plain stNotPermitted),
    (c.blockBad s 0 64 64, c.bad 0), (!c.physical && field b 10 1 != c.partition, badBlock 10)] ++
   s.kitBlockGuards b (if listBad then [] else units) ++
   [(listBad, badBlock 48),
    (s.lostContext ctx || (s.kit parent).any (fun x => s.lostContext x.context), plain stContextLost),
    ((s.context ctx).mode != .active, s.conflict 2 (s.context ctx).mode.code)] ++
   (if isPealKit parent && s.notLeader.isSome then [(true, s.roleConflict (s.notLeader.getD 0))] else []) ++
   [(busy, s.conflict 5 (s.kitCode parent)),
    ((units.filterMap unitOf).any s.heldUnit, s.conflict 5 (s.kitCode parent)),
    (id != 0xFFFFFFFF && s.kitIdTaken id, s.conflict 5 (s.kitCode id)),
    (c.domainDown s 0, plain stCoherentDown), ((c.newKitId s).isNone, plain stNoSpace)]

/-- An accepted KIT_CREATE waits for the downbeat at which the units move (03 R62). -/
def Call.awaitUnits (c : Call) (s : State) : State :=
  { s with creations := s.creations ++ [{ kit := c.newKit s, command := c.cmd.id }] }

/-- The leader asks the other members of a peal Kit that is to be created (03 R84). -/
def Call.askMembers (c : Call) (s : State) : State :=
  let k := c.newKit s
  let members := k.units.filterMap fun u => match u with | .module m => some m | _ => none
  let others := members.filter (· != s.peal.coordinate)
  let round : Round :=
    { kit := k.id, creation := true, command := c.cmd.id, members,
      answers := if members.contains s.peal.coordinate then [(s.peal.coordinate, stOk)] else []
      slots := [], reports := [], report := 0, since := s.now, sinceBeat := s.beat.number }
  let s1 := { s with peal := { s.peal with rounds := s.peal.rounds ++ if others.isEmpty then [] else [round] } }
  let block := c.kitBlock s ++ (c.kitUnits s).flatMap fun u => leBytes 4 u
  others.foldl (fun t m => t.send ⟨.ringCtrl, m, [1, k.id], block⟩) s1

/-- KIT_CREATE: accepted, it completes at the downbeat at which the units move (03 R62). -/
def kitCreateEffect (c : Call) (s : State) : Verdict :=
  guards (kitCreateRefusals c s)
    (.defer (c.awaitUnits (if isPealKit (field (c.kitBlock s) 0 4) then c.askMembers s else s)) (.kitCreate (c.newKit s).id)
      (c.newKit s).id)

/-! ### Bindings of memory objects (12 R295, Table 12-5) -/

/-- Handles of TENSOR records of a load. -/
def Load.sources (l : Load) : List Nat := ((l.ofKind 1).map (·.2.source)).foldl addOnce []

/-- Handles of pool and summary objects of a Kit. -/
def Kit.poolHandles (k : Kit) : List Nat :=
  match k.placement with
  | some p => p.pool.flatMap fun x => [x.handle, x.summaryHandle].filter (· != 0)
  | none => []

/-- BINDINGS of a handle: loads that name it, and the load that owns it as a pool or summary object. -/
def State.bindingsOf (s : State) (h : Nat) : Nat :=
  (s.kits.filter fun k => (k.2.load.any fun l => l.sources.contains h)).length +
    (s.kits.filter fun k => k.2.poolHandles.contains h).length

/-- BINDINGS of every object brought up to date, with the states that follow from them. -/
def State.rebind (s : State) : State :=
  { s with objects := s.objects.map fun e =>
      let o := e.2
      let n := s.bindingsOf (o.handle e.1)
      let m : ObjectMode := match o.mode with
        | .live => if 0 < n then .bound else .live
        | .bound => if n = 0 then (if o.marked then .retiring else .live) else .bound
        | x => x
      (e.1, if o.mode = .free then o else { o with bindings := n, mode := m }) }

/-! ### Freeing what a placement holds -/

/-- The pinned lines of a placement are unpinned, unless another placement pins them too. -/
def State.unpinPlacement (s : State) (kit : Nat) (p : Placement) (keep : List TensorPlace) : State :=
  p.tensors.foldl (fun s t =>
    let other := keep.any (fun x => x.handle == t.handle && x.pinned) || s.kits.any fun k =>
      k.1 != kit && k.2.placement.any fun q => q.tensors.any fun x => x.handle == t.handle && x.pinned
    if !t.pinned || other then s else
      match s.objectOf t.handle with
      | none => s
      | some (i, _) => (s.objectSlots i).foldl (fun s x => s.unpinLine x) s) s

/-- Pool and summary objects of a placement are released (12 R296). -/
def State.releasePool (s : State) (p : Placement) : State :=
  (p.pool.flatMap fun x => [x.handle, x.summaryHandle]).foldl (fun s h =>
    match s.objectOf h with
    | some (i, _) => s.releaseObject i
    | none => s) s

/-- A Kit's load and placement end: tiles, pins and KV pool are released (03 Table 3-2). -/
def State.endPlacement (s : State) (k : Nat) : State :=
  match s.kit k with
  | none => s
  | some x =>
    let s1 := match x.placement with
      | some p => (s.unpinPlacement k p []).releasePool p
      | none => s
    let leaving := match x.placement with
      | some p => if x.mode = .unloading then p.power else 0
      | none => 0
    let s2 : State := { s1 with power := { s1.power with departing := s1.power.departing + leaving } }
    (s2.modKit k fun x =>
      { x with load := none, placement := none, next := none, composed := none, queued := [], results := [],
               batches := [], forward := [], degraded := false, lostCores := 0 }).rebind

/-! ### KIT_DESTROY and KIT_QUERY -/

/-- A Kit leaves the table: its queue is unbound, its units return at the next downbeat (03 R62, 11 R271), its counters' last
contents stay readable (21 R485). -/
def State.removeKit (s : State) (k : Nat) : State :=
  match s.kit k with
  | none => s
  | some x =>
    let s1 := s.endPlacement k
    let s2 := s1.modQueue x.queue fun q =>
      { q with kit := 0xFFFFFFFF, chimeBase := q.ownChimeBase, chimeCount := q.ownChimeCount }
    { s2 with
      kits := terase s2.kits k
      sequences := s2.sequences.filter fun e => !(e.2.kit == k)
      unitReturns := s2.unitReturns ++ [{ kit := k, parent := x.parent, units := x.units }] }

/-- Other outstanding commands that name a Kit. -/
def State.kitNamers (s : State) (k except : Nat) : List Command :=
  s.commands.filter fun c => c.id != except && (s.named c.op (s.queue c.queue) c.packet).contains (5, k)

/-- A Kit has a child Kit. -/
def State.hasChild (s : State) (k : Nat) : Bool := s.kits.any fun x => x.1 != k && x.2.parent == k && x.1 != 0

/-- Work of a Kit that has not finished. -/
def State.kitBusy (s : State) (k : Nat) : Bool := s.lists.any fun l => l.kit == k && !l.finished && !l.cancelled

/-- KIT_DESTROY (03 Table 3-2). -/
def kitDestroyEffect (c : Call) (s : State) : Verdict :=
  let k := c.arg 0
  let lost := (s.kit k).any fun x => x.mode == .lost
  guards (c.kitNamed s true ++
    [(k == 0 || k == 2 ^ 27, s.conflict 5 (s.kitCode k)),
     (!((s.kit k).any fun x => x.mode == .created || x.mode == .lost), s.conflict 5 (s.kitCode k)),
     (s.hasChild k || s.heldParent k || s.heldUnit (.kit k), s.conflict 5 (s.kitCode k))])
    (if lost then .defer s (.kitDestroy k) 0
     else if (s.kitNamers k c.cmd.id).isEmpty then .done (s.removeKit k) 0
     else .defer (s.modKit k fun x => { x with mode := .retiring }) (.kitDestroy k) 0)

/-- The 64 bytes of a Kit's parameters as they now stand (03 Table 3-1, R71). -/
def Kit.block (k : Kit) : List Byte :=
  leBytes 4 k.parent ++ leBytes 4 k.id ++ leBytes 2 k.context ++ leBytes 1 k.partition ++
    leBytes 1 (k.percentile + 4 * k.policy) ++ leBytes 1 k.overrunLimit ++ leBytes 1 k.marginShare ++
    leBytes 2 k.units.length ++ leBytes 4 k.queue ++ leBytes 4 k.chimeBase ++ leBytes 4 k.chimeCount ++ zeros 4 ++
    leBytes 8 k.scratchBase ++ leBytes 8 k.scratchSize ++ leBytes 8 k.unitListAddress ++ zeros 8

/-- A Kit with the parent that it has now: the device Kit of a member is a unit of a peal Kit (03 R60, R61). The PARENT that
KIT_QUERY shows for a Kit without one is stated nowhere: a free value. The device Kit's settings are shown at fixed values. -/
def State.withParent (s : State) (k : Kit) : Kit :=
  if k.id = 2 ^ 27 then { k with parent := (Config.topParent k.id).toNat }
  else if k.id ≠ 0 then k
  else
    let k := { k with percentile := 1, policy := 0, overrunLimit := 4, marginShare := 50, unitListAddress := 0 }
    match s.kits.find? fun e => isPealKit e.1 && e.2.units.contains (.module s.peal.coordinate) with
    | some e => { k with parent := e.1 }
    | none => { k with parent := (Config.topParent k.id).toNat }

/-- KIT_QUERY (03 Table 3-3): parameters, then state, LEVEL and DEGRADED. -/
def kitQueryEffect (c : Call) (s : State) : Verdict :=
  let k := c.arg 0
  guards (c.kitNamed s false ++ [(c.blockBad s 1 128 128, c.bad 1)] ++ c.kitLost s ++ c.kitMode s (fun _ => true) ++
      [(c.domainDown s 1, plain stCoherentDown)])
    (match s.kit k with
     | none => s.conflict 5 0
     | some x =>
       c.result s 1 ((s.withParent x).block ++ leBytes 1 x.mode.code ++ leBytes 1 (s.level k) ++ leBytes 1 (b2n x.degraded)))

/-- KIT_LAUNCH (03 Table 3-3, 02 R30 (b)): it launches at a downbeat and completes when its list has retired. -/
def kitLaunchEffect (c : Call) (s : State) : Verdict :=
  let (k, a, n) := (c.arg 0, c.arg 1, c.arg 2)
  let adm := (s.kit k).bind fun x => if x.mode = .admitted then x.placement else none
  let known := adm.any fun p => p.lists.any fun l => l.address == a && l.bytes == 64 * n
  let good := (s.kit k).any fun x => s.listGood x a n []
  guards (c.kitNamed s false ++ c.wrongQueue s ++
      [(adm.isSome && !known, c.bad 1), (adm.isSome && !good, c.bad 1)] ++ c.kitLost s ++
      [(k == 0, s.conflict 5 (s.kitCode 0))] ++ c.kitMode s (· == .admitted))
    (.defer s (.kitLaunch k a n) 0)

/-! ### Loading (03 Table 3-3) -/

/-- MODEL_BEGIN. -/
def modelBeginEffect (c : Call) (s : State) : Verdict :=
  let k := c.arg 0
  guards (c.kitNamed s true ++ c.wrongQueue s ++ [(decide (2 < c.arg 1), c.bad 1)] ++ c.kitLost s ++
      [(k == 0 || k == 2 ^ 27, s.conflict 5 (s.kitCode k))] ++ c.kitMode s (· == .created))
    (.done (s.modKit k fun x => { x with mode := .loading, load := some { replica := c.arg 1, records := [] } }) 0)

/-- A description record from its 64 bytes. -/
def DescRecord.ofBytes (b : List Byte) : DescRecord :=
  { kind := field b 0 1, format := field b 1 1, layer := field b 2 2, stage := field b 4 2, flags := field b 6 2,
    bytes := field b 8 8, work := field b 16 8, source := field b 24 8, arg0 := field b 32 8, arg1 := field b 40 8 }

/-- The 64 bytes of a description record. -/
def DescRecord.toBytes (r : DescRecord) : List Byte :=
  leBytes 1 r.kind ++ leBytes 1 r.format ++ leBytes 2 r.layer ++ leBytes 2 r.stage ++ leBytes 2 r.flags ++ leBytes 8 r.bytes ++
    leBytes 8 r.work ++ leBytes 8 r.source ++ leBytes 8 r.arg0 ++ leBytes 8 r.arg1 ++ zeros 16

/-- Offset of the first refused field of a description record (03 R72, 12 Table 12-5). -/
def State.recordBad (s : State) (partition : Nat) (b : List Byte) : Option Nat :=
  let r := DescRecord.ofBytes b
  let layered := r.kind = 1 ∨ r.kind = 2
  let formatted := r.kind = 1 ∨ r.kind = 3
  let bytesBad := match r.kind with
    | 2 => r.bytes != 0 | 5 => r.bytes != 0
    | 3 => r.bytes == 0
    | 6 => r.bytes == 0 || r.bytes % 64 != 0
    | _ => false
  let workBad := r.work != 0 && !(r.kind == 2 || r.kind == 6)
  let object := s.objectOf r.source
  let sourceBad := if r.kind = 1 then
      !(object.any fun o => o.2.partition == partition && o.2.mode != .retiring && decide (r.tiles ≤ o.2.lines))
    else r.source != 0
  let arg0Bad := match r.kind with
    | 3 => r.arg0 == 0 || r.arg0 % 64 != 0
    | 4 => r.arg0 != 0
    | 5 => decide (65536 ≤ r.arg0)
    | _ => false
  let arg1Bad := match r.kind with
    | 1 => r.arg1 != 0
    | 3 => r.arg1 == 0 || decide (131072 < r.arg1)
    | 4 => r.arg1 != 0
    | _ => false
  let checks : List (Bool × Nat) :=
    [(r.kind == 0 || decide (6 < r.kind), 0), (if formatted then !(codeValid r.format) else r.format != 0, 1),
     (if layered then r.layer == 0xFFFF else r.layer != 0xFFFF, 2), (decide (255 < r.stage), 4), (decide (7 < r.flags), 6),
     (bytesBad, 8), (workBad, 16), (sourceBad, 24), (arg0Bad, 32), (arg1Bad, 40), (field b 48 8 != 0 || field b 56 8 != 0, 48)]
  (checks.find? (·.1)).map (·.2)

/-- MODEL_DESCRIBE: it appends its records, all or none. -/
def modelDescribeEffect (c : Call) (s : State) : Verdict :=
  let (k, n) := (c.arg 0, c.arg 1)
  let m := min n 1024
  let bs := (List.range m).map fun i => s.sysRead (c.arg 2 + 64 * i) 64
  let part := ((s.kit k).map (·.partition)).getD c.partition
  let bad := (List.range m).findSome? fun i => (s.recordBad part (bs.getD i [])).map (· + 64 * i)
  let have_ := (((s.kit k).bind (·.load)).map (·.records.length)).getD 0
  guards (c.kitNamed s true ++ c.wrongQueue s ++
      [(n == 0 || decide (1024 < n) || decide (65536 < have_ + n), c.bad 1), (c.blockBad s 2 (64 * m) 64, c.bad 2),
       (bad.isSome, badBlock (bad.getD 0))] ++ c.kitLost s ++ c.kitMode s (· == .loading) ++
      [(s.admitting k, s.conflict 5 (s.kitCode k)), (c.domainDown s 2, plain stCoherentDown)])
    (.done ((s.modKit k fun x => { x with load := x.load.map fun l =>
      { l with records := l.records ++ bs.map DescRecord.ofBytes } }).rebind) 0)

/-- MODEL_ABORT. -/
def modelAbortEffect (c : Call) (s : State) : Verdict :=
  guards (c.kitNamed s true ++ c.wrongQueue s ++ c.kitLost s ++ c.kitMode s (· == .loading) ++
      [(s.admitting (c.arg 0), s.conflict 5 (s.kitCode (c.arg 0)))])
    (.done ((s.modKit (c.arg 0) fun x => { x with mode := .created, load := none }).rebind) 0)

/-- The refusals of REPORT, 128 bytes, named by parameter `k`: it lies where 11 R261 (b) says that report addresses lie, though
Table 3-3 names tier 1 alone. -/
def Call.reportGuards (c : Call) (s : State) (k : Nat) : List (Bool × Verdict) := c.resultGuards s k 128

/-- Save areas of the explicit lists of a load. -/
def State.loadAreas (s : State) (l : Load) : List (Nat × Nat) :=
  l.listRecords.flatMap fun r => saveAreas ((s.listRecords r.arg0 (r.bytes / 64)).map TaskRecord.ofBytes)

/-- Every explicit list of a load passes 13 R304 and no two save areas overlap. -/
def State.loadListsGood (s : State) (k : Kit) (l : Load) : Bool :=
  (l.listRecords.all fun r => s.listGood k r.arg0 (r.bytes / 64) []) && disjointRanges (s.loadAreas l)

/-- A PREPARE reservation of this member stands before a local admission (03 R87). -/
def State.reserved (s : State) (k : Nat) : Bool := !(isPealKit k) && !s.peal.reservations.isEmpty

/-- MODEL_COMMIT: it runs admission (03 R73). -/
def modelCommitEffect (c : Call) (s : State) : Verdict :=
  let k := c.arg 0
  let kit := s.kit k
  let load := kit.bind (·.load)
  let loading := kit.any fun x => x.mode == .loading
  let lists := match kit, load with
    | some x, some l => s.loadListsGood x l
    | _, _ => true
  let drop := kit.any (fun x => x.policy == 2) && load.any fun l => l.batch.isSome
  guards (c.kitNamed s true ++ c.wrongQueue s ++
      c.reportGuards s 1 ++ [(loading && !lists, badBlock 0)] ++ c.kitLost s ++ c.kitMode s (· == .loading) ++
      [(s.admitting k || drop, s.conflict 5 (s.kitCode k)), (s.reserved k, .refuse stPreempted 2 0)])
    (.defer (s.modKit k fun x => { x with report := c.arg 1 }) (.commit k (c.arg 1)) 0)

/-- The open Sequences of a Kit that is to be unloaded close, and their Chimes take ST_SEQ_CLOSED (10 R240). -/
def State.closeSequences (s : State) (k : Nat) : State :=
  let base := ((s.kit k).map (·.chimeBase)).getD 0
  let isOpen (q : Sequence) : Bool := q.mode == .waiting || q.mode == .prefill || q.mode == .decode || q.mode == .paused
  (s.sequences.filter fun e => e.2.kit == k && isOpen e.2).foldl (fun s e =>
    (s.modSeq e.1 fun q => { q with mode := .closing, endReason := 6 }).setError (base + e.2.chime) stSeqClosed) s

/-- MODEL_UNLOAD: no new lists; it completes when the last list has retired (03 Table 3-2). Open Sequences close (10 Table
10-2). -/
def modelUnloadEffect (c : Call) (s : State) : Verdict :=
  let k := c.arg 0
  guards (c.kitNamed s true ++ c.wrongQueue s ++ c.kitLost s ++ c.kitMode s (· == .admitted))
    (.defer ((s.closeSequences k).modKit k fun x => { x with mode := .unloading, composed := none, queued := [], next := none })
      (.unload k) 0)

/-- PLACE_QUERY: the summary, then one utilisation record per resource code (03 R82). -/
def placeQueryEffect (c : Call) (s : State) : Verdict :=
  let k := c.arg 0
  guards (c.kitNamed s true ++ [(c.blockBad s 1 384 128, c.bad 1)] ++ c.kitLost s ++
      [(!((s.kit k).any fun x => x.placement.isSome), s.conflict 5 (s.kitCode k)),
       (c.domainDown s 1, plain stCoherentDown)])
    (match (s.kit k).bind (·.placement) with
     | none => s.conflict 5 (s.kitCode k)
     | some p =>
       c.result s 1 (s.reportBytes k 0xFFFFFFFF none p p.uses ++
         (p.uses.flatMap fun u => leBytes 16 (Config.utilisation u.code u.demand u.capacity).toNat)))

/-- PLACE_REPLACE: it runs admission again under new values (03 R88). -/
def placeReplaceEffect (c : Call) (s : State) : Verdict :=
  let k := c.arg 0
  guards (c.kitNamed s true ++
      [(decide (2 < c.arg 1), c.bad 1), (decide (250 < c.arg 2), c.bad 2)] ++ c.reportGuards s 3 ++ c.kitLost s ++
      c.kitMode s (· == .admitted) ++
      [(s.admitting k || (s.kit k).any (fun x => x.next.isSome), s.conflict 5 (s.kitCode k)),
       (s.reserved k, .refuse stPreempted 2 0)])
    (.defer (s.modKit k fun x => { x with report := c.arg 3 }) (.replace k (c.arg 3) (c.arg 1) (c.arg 2)) 0)

/-! ### The outcome of a run of admission (03 R73, R81, R88) -/

/-- The pinned tiles of a placement are brought into tier 1 and pinned (03 R74, 07 R177). -/
def State.placeTiles (s : State) (p : Placement) : State :=
  p.tensors.foldl (fun s t =>
    if !t.pinned then s else
      match s.objectOf t.handle with
      | none => s
      | some (i, o) =>
        (List.range ((t.tiles.map (·.2)).sum)).foldl (fun s l =>
          let x := s.touchLine i o l false
          if x.status = stOk then x.s.pinLine x.slot else x.s) s) s

/-- A pool object of whole granules of a pair (10 R243); the device Context owns it (12 R293). -/
def State.makePool (s : State) (p : Nat) (x : PoolPair) : State × PoolPair :=
  let i := s.freeObject
  let o : Object :=
    { generation := nextGeneration (s.lastGeneration i), footprint := x.granules.length * 2 ^ 30, tiles := 0, mode := .bound,
      tiled := false, pool := true, summary := false, unreadable := false, context := 65535, partition := p,
      firstPair := ((s.pairsOf p).findIdx? (· == x.pair)).getD 0, pairs := [x.pair], bindings := 1, marked := false,
      units := [], granules := x.granules }
  ({ s with objects := tset s.objects i o }, { x with handle := o.handle i })

/-- The header of a Kit's sequence area (10 Table 10-5). -/
def areaHeader (kvBytes seqBase seqCount slots : Nat) (pool : List PoolPair) : List Byte :=
  leBytes 8 (64 * kvBytes) ++ leBytes 4 seqBase ++ leBytes 4 seqCount ++ leBytes 2 slots ++ leBytes 1 pool.length ++
    zeros 13 ++ pool.flatMap fun x =>
      leBytes 8 x.handle ++ leBytes 8 x.summaryHandle ++ leBytes 4 x.slots ++ leBytes 1 x.pair ++ zeros 11

/-- Base of a Kit's sequence area (10 R245). -/
def Kit.areaBase (k : Kit) (p : Placement) : Nat :=
  k.scratchBase + k.scratchSize -
    areaSize (stepSlots ((p.batch.map (·.1)).getD 0)) p.seqCount ((p.pool.map (·.slots)).sum)

/-- STEP_SLOTS of a placement. -/
def Placement.stepSlots (p : Placement) : Nat := Machine.stepSlots ((p.batch.map (·.1)).getD 0)

/-- The header of the Kit's sequence area is written. -/
def State.writeArea (s : State) (k : Kit) (p : Placement) : State :=
  if p.seqCount = 0 then s
  else s.writeT1 (k.areaBase p) (padTo 4096 (areaHeader p.kvBytes p.seqBase p.seqCount p.stepSlots p.pool))

/-- Everything that a finding reserves (03 R81): pool objects, pins, the sequence range, the area header. -/
def State.reserve (s : State) (kit : Nat) (f : Finding) : State :=
  match s.kit kit with
  | none => s
  | some k =>
    let (s1, pool) := f.placement.pool.foldl (fun (a : State × List PoolPair) x =>
      if x.handle != 0 then (a.1, a.2 ++ [x])
      else let r := a.1.makePool k.partition x; (r.1, a.2 ++ [r.2])) (s, [])
    let p := { f.placement with pool, tilesInPlace := true }
    let tokens := (p.batch.map (·.2)).getD 0
    let s2 := (s1.placeTiles p).modKit kit fun x =>
      { x with mode := .placing, placement := some p, seqPolicy := SeqPolicy.initial tokens }
    (s2.writeArea k p).rebind

/-- The whole or the share of a load that the Kit places here. -/
def Kit.share (k : Kit) (l : Load) : Share :=
  match k.placement with
  | some p => { first := p.firstLayer, count := p.layerCount, total := max l.layers (p.firstLayer + p.layerCount) }
  | none => l.whole

/-- The oldest command that waits for a run of admission (03 R73). -/
def State.nextAdmission (s : State) : Option Command :=
  s.commands.find? fun c => match c.wait with
    | .commit _ _ => true
    | .replace _ _ _ _ => true
    | _ => false

/-- A MODEL_COMMIT whose load does not fit (03 Table 3-2): report, ST_NO_FIT, the records discarded. -/
def State.refuseCommit (s : State) (kit : Nat) (c : Command) (report : Nat) (f : Finding) : State :=
  let u := f.failing.head?
  let bytes := s.reportBytes kit 0xFFFFFFFF u f.placement f.uses
  let s1 := (s.writeResult report bytes).noteAdmission bytes
  let s2 := (s1.modKit kit fun x => { x with mode := .created, load := none }).rebind
  s2.complete c stNoFit ((u.map (·.code)).getD 0) 0

/-- ADMISSION_COMPLETE: the run of admission whose turn it is ends. A MODEL_COMMIT that fits reserves and goes to PLACING; a
PLACE_REPLACE that fits waits for its downbeat (03 R68, R73, R88). Either is refused where its tiles or its pool would take a
granule that changes hands (12 R285). -/
def State.admissionComplete (s : State) (kit : Nat) : State :=
  match s.nextAdmission, s.kit kit with
  | some c, some k =>
    match c.wait, k.load with
    | .commit x report, some l =>
      if x ≠ kit ∨ k.mode ≠ .loading ∨ isPealKit kit then s else
        let f := s.placeKit k l l.whole k.percentile k.marginShare none
        if f.failing.isEmpty then
          let s1 := s.noteAdmission (s.reportBytes kit 0xFFFFFFFF none f.placement f.uses)
          let s2 := (s1.reserve kit f).setWait c.id (.list 0)
          match s.crossing s2 with
          | some v => s.conclude c v
          | none => s2
        else s.refuseCommit kit c report f
    | .replace x report pct share, some l =>
      if x ≠ kit ∨ k.mode ≠ .admitted then s else
        let f := s.placeKit k l (k.share l) pct share k.placement
        if f.failing.isEmpty then
          let s1 := (s.placeTiles f.placement).modKit kit fun x =>
            { x with next := some { f.placement with tilesInPlace := true }, percentile := pct, marginShare := share }
          match s.crossing s1 with
          | some v => s.conclude c v
          | none => s1.setWait c.id (.list 0)
        else
          let u := f.failing.head?
          (s.writeResult report (s.reportBytes kit 0xFFFFFFFF u f.placement f.uses)).complete c stNoFit
            ((u.map (·.code)).getD 0) 0
    | _, _ => s
  | _, _ => s

end Sys2Proof.Machine
end

