-- ==== Sys2Proof/Machine/Telemetry.lean ====
section
/-!
DEFINITION. Clocks of cores (01 R21, 18 R419, R422) and the telemetry record (18 R424, Table 18-3).
-/
namespace Sys2Proof.Machine
open Sys2Proof

/-! ### Clocks -/

/-- Calibrated maximum clock of a core in MHz (01 R21, 19 R445). -/
def State.maxClock (s : State) (core : Nat) : Nat :=
  (tget s.fail.clocks core).getD (600 + 4 * (Config.factoryClock core).val)

/-- A core holds a task (18 R419). -/
def Core.holdsTask (c : Core) : Bool := c.block.isSome

/-- Clock of a core that holds a task (18 R419, R422); 0 for one whose clock is gated. -/
def State.coreClock (s : State) (core : Nat) : Nat :=
  if (s.core core).holdsTask then
    let f := min s.power.clock (s.maxClock core)
    if s.power.droops.any (·.1 == core / 32) then min f 600 else f
  else 0

/-- Cores that hold a task, ascending. -/
def State.busyCores (s : State) : List Nat := (s.cores.filter (·.2.holdsTask)).map (·.1)

/-- MEAN_CLOCK (18 Table 18-3). -/
def State.meanClock (s : State) : Nat :=
  let b := s.busyCores
  if b.isEmpty then 0 else (b.map s.coreClock).sum / b.length

/-! ### The telemetry record -/

/-- The hottest of the units that `f` takes, with its number; the lowest number among equals. -/
def State.hottest (s : State) (f : Nat → Bool) : Option (Nat × Int) :=
  (s.power.temps.filter fun t => f t.1).foldl (fun best t =>
    match best with
    | none => some t
    | some b => if b.2 < t.2 then some t else best) none

/-- HOTTEST_UNIT of a sensor's unit: base dies go by their station (18 Table 18-3). -/
def hottestUnit (u : Nat) : Nat := if 128 ≤ u then u - 128 else u

/-- Overrun and Almanac counters of a record: soft, hard, BUILD_SHORT, ALMANAC_SKIPPED, of a Kit or of the device. -/
def State.beatCounters (s : State) (kit : Option Nat) : List Nat :=
  match kit.bind s.kit with
  | some k => [k.overrunSoft, k.overrunHard, k.buildShort, k.almanacSkipped]
  | none => [s.beat.overrunSoft, s.beat.overrunHard, s.beat.buildShort, s.beat.almanacSkipped]

/-- The 128 bytes of a telemetry record: the sets of the mask, the counters of a Kit or of the device, SAMPLE_INDEX
(18 Table 18-3). -/
def State.telemetryBytes (s : State) (sets : Nat) (kit : Option Nat) (index : Nat) : List Byte :=
  let p := s.power
  let on (b : Nat) (l : List Byte) : List Byte := if bit sets b then l else zeros l.length
  let hot := s.hottest fun _ => true
  let stack := s.hottest fun u => 64 ≤ u && u < 128
  let k := s.beatCounters kit
  leBytes 8 s.beat.number ++ leBytes 4 s.offset ++ leBytes 1 sets ++
    on 0 (leBytes 1 (b2n p.below) ++ leBytes 2 (p.input.voltage) ++ leBytes 8 (p.energy / 1000000) ++ leBytes 4 p.meanMs ++
      leBytes 4 s.effectiveCap ++ leBytes 4 p.rackCap ++ leBytes 4 s.commitment) ++
    on 1 (leBytes 4 (if p.thermalCap < 4000000 then p.thermalCap else 0xFFFFFFFF) ++ leBytes 2 (ofSigned 2 p.inlet) ++
      leBytes 2 (ofSigned 2 p.outlet) ++ leBytes 2 (ofSigned 2 ((hot.map (·.2)).getD 0)) ++
      leBytes 1 (hottestUnit ((hot.map (·.1)).getD 0)) ++ leBytes 1 (ofSigned 1 ((stack.map (·.2)).getD 0 / 10))) ++
    on 2 (leBytes 2 p.clock ++ leBytes 2 s.meanClock ++ leBytes 1 p.duty ++ zeros 3 ++ leBytes 4 p.droopEvents) ++
    on 3 (leBytes 8 (k.getD 0 0) ++ leBytes 8 (k.getD 1 0) ++ leBytes 8 (k.getD 2 0) ++ leBytes 8 (k.getD 3 0)) ++
    on 3 (leBytes 8 p.throttleUs) ++ leBytes 8 index ++ zeros 16

end Sys2Proof.Machine
end

