-- ==== Sys2Proof/Machine/Almanac.lean ====
section
/-!
DEFINITION. The Almanac and the commands of the beat and of time (02 R26 to R29, R34, R35, R43 to R52, R56 to R58): effects,
and the actions that need no list and no ring transfer.
-/
namespace Sys2Proof.Machine
open Sys2Proof

/-! ### Entries (02 Table 2-3) -/

/-- An entry of zeros. -/
def AlmanacEntry.zero : AlmanacEntry :=
  { cycleBeat := 0, action := 0, valid := false, oneShot := false, offset := 0, targetKind := 0, target := 0,
    stride := 0, span := 0, arg0 := 0, context := 0, partition := 0, arg1 := 0 }

/-- An entry from its 32 bytes. -/
def AlmanacEntry.ofBytes (b : List Byte) : AlmanacEntry :=
  { cycleBeat := field b 0 2, action := field b 2 1, valid := bit (field b 3 1) 0, oneShot := bit (field b 3 1) 1,
    offset := field b 4 3, targetKind := field b 8 4 / 2 ^ 28, target := field b 8 4 % 2 ^ 28, stride := field b 12 2,
    span := field b 14 1, arg0 := field b 16 8, context := field b 24 2, partition := field b 26 1,
    arg1 := field b 28 4 }

/-- The 32 bytes of an entry. -/
def AlmanacEntry.bytes (e : AlmanacEntry) : List Byte :=
  leBytes 2 e.cycleBeat ++ leBytes 1 e.action ++ leBytes 1 (b2n e.valid + 2 * b2n e.oneShot) ++ leBytes 4 e.offset ++
    leBytes 4 (e.target + e.targetKind * 2 ^ 28) ++ leBytes 2 e.stride ++ leBytes 1 e.span ++ [0] ++ leBytes 8 e.arg0 ++
    leBytes 2 e.context ++ leBytes 1 e.partition ++ [0] ++ leBytes 4 e.arg1

/-- Reserved bits of an entry's bytes are zero (00 R5). -/
def entryReserved (b : List Byte) : Bool :=
  decide (field b 3 1 < 4) && field b 7 1 == 0 && field b 15 1 == 0 && field b 27 1 == 0

/-- An entry that fires. -/
def AlmanacEntry.live (e : AlmanacEntry) : Bool := e.valid && e.action != 0

/-- is_due of 02 R47. -/
def AlmanacEntry.isDue (e : AlmanacEntry) (p : Nat) : Bool :=
  if e.stride = 0 then p == e.cycleBeat else decide (e.cycleBeat ≤ p) && (p - e.cycleBeat) % e.stride == 0

/-- Entry `i` of the table. -/
def AlmanacState.entry (a : AlmanacState) (i : Nat) : AlmanacEntry := tgetD a.entries i AlmanacEntry.zero

/-- A table of entries with one put; an entry of zeros is not listed. -/
def putEntry (t : List (Nat × AlmanacEntry)) (i : Nat) (e : AlmanacEntry) : List (Nat × AlmanacEntry) :=
  if e = AlmanacEntry.zero then terase t i else tset t i e

/-- The table as it will stand once every accepted write has been applied. -/
def AlmanacState.view (a : AlmanacState) : List (Nat × AlmanacEntry) :=
  a.staged.foldl (fun t w => putEntry t w.1 w.2) a.entries

/-- The partition that owns entry `i` (02 R49). -/
def State.entryOwner (s : State) (i : Nat) : Nat :=
  ((s.partitions.find? fun p => p.1 != 0 && decide (p.2.almanacFirst ≤ i) &&
    decide (i < p.2.almanacFirst + p.2.almanacCount)).map (·.1)).getD 0

/-- Entry `i` leaves its partition by a pending PARTITION_SET (12 R285). -/
def State.entryMoves (s : State) (i : Nat) : Bool :=
  s.partitionChanges.any fun x =>
    let inside := decide (x.almanacFirst ≤ i) && decide (i < x.almanacFirst + x.almanacCount)
    (s.entryOwner i == x.partition) != inside

/-- The Kit that a Core target belongs to as a direct unit, or the target Kit. -/
def State.targetKit (s : State) (e : AlmanacEntry) : Option Kit :=
  if e.targetKind = 0 then s.kit e.target
  else if e.targetKind = 1 then (s.kits.find? fun k => k.2.units.contains (.core e.target)).map (·.2)
  else none

/-- The admitted list that an entry names (02 R45). -/
def State.namedList (s : State) (e : AlmanacEntry) : Option AdmittedList :=
  ((s.targetKit e).bind (·.placement)).bind fun p =>
    p.lists.find? fun l => l.address == e.arg0 && l.bytes == 64 * (e.arg1 % 65536)

/-! ### Checks -/

/-- A descriptor of an action lies where 11 R283 wants it; one among coherent windows is tested while the domain is up. -/
def State.descriptorPlace (s : State) (partition a n align : Nat) : Bool :=
  a % align == 0 && (if isCoherent a && s.cijan.mode != .up then true else s.nameable false partition a n)

/-- The fields of an entry obey 02 Tables 2-3 and 2-4 for a write from partition `p` (02 R45, R49). -/
def State.entryGood (s : State) (p : Nat) (b : List Byte) : Bool :=
  let e := AlmanacEntry.ofBytes b
  let kitGood := e.targetKind == 0 && (s.kit e.target).any fun k => k.partition == p
  let range := s.chimeRange p
  let chimeGood (c : Nat) : Bool := decide (range.1 ≤ c) && decide (c < range.1 + range.2)
  let context := s.context e.context
  entryReserved b && e.partition == p &&
    (match e.action with
     | 0 => true
     | 1 =>
       e.span == 0 && e.arg1 < 65536 && decide (e.targetKind < 2) && (s.targetKit e).any (fun k => k.partition == p) &&
         (!e.valid || (s.namedList e).isSome)
     | 2 => decide (e.span < 16) && kitGood && decide (e.arg1 < 2 ^ 22) && chimeGood e.arg1 && e.arg0 % 64 == 0
     | 3 => decide (e.span < 16) && kitGood && decide (e.arg1 < 2 ^ 22) && chimeGood e.arg1 && e.arg0 % 128 == 0
     | 4 => e.span == 0 && e.targetKind == 2 && chimeGood e.target && decide (e.arg1 < 2)
     | 5 =>
       let n := e.arg1 / 65536
       e.span == 0 && ((e.targetKind == 3 && e.target == 0) || kitGood) && bits e.arg1 15 4 == 0 && n != 0 &&
         e.arg0 % 128 == 0 && s.inScratch p e.arg0 (128 * n)
     | _ => false) &&
    (!e.live || (context.mode != .free && (e.context == 65535 || context.partition == p)))

/-- The offset of an entry is within its limit in a beat of period `period` with its GUARD (02 Table 2-4). -/
def AlmanacEntry.offsetGood (e : AlmanacEntry) (period guardLen : Nat) : Bool :=
  decide (e.offset < period) && (!(e.action == 2 || e.action == 3) || decide (e.offset < period - guardLen))

/-- A launch entry fits at its offset (02 R35). -/
def State.entryFits (s : State) (e : AlmanacEntry) (period guardLen : Nat) : Bool :=
  e.action != 1 ||
    match s.targetKit e, s.namedList e with
    | some k, some l => fits period guardLen (margin period guardLen k.marginShare) e.offset l.critical
    | _, _ => false

/-- Live entries of a table in firing order: by offset, then by index. -/
def firingOrder (t : List (Nat × AlmanacEntry)) : List (Nat × AlmanacEntry) :=
  sortBy (fun a b => decide (a.2.offset < b.2.offset) || (a.2.offset == b.2.offset && decide (a.1 ≤ b.1)))
    (t.filter (·.2.live))

/-- Slots of the due entries of a beat, in order (almanac_beat of 02 R47). -/
def slots : Nat → List (Nat × AlmanacEntry) → List AlmanacIssue
  | _, [] => []
  | k, (i, e) :: r => let t := max k e.offset; { index := i, slot := t } :: slots (t + 1) r

/-- The first action at a cycle position that would take its slot more than 150 ns after its offset (02 R47). -/
def lateAt (order : List (Nat × AlmanacEntry)) (p : Nat) : Option Nat :=
  let due := order.filter fun e => e.2.isDue p
  ((slots 0 due).find? fun x => decide ((tgetD due x.index AlmanacEntry.zero).offset + 15 < x.slot)).map (·.index)

/-- The first crowded action over all cycle positions. -/
def crowded (t : List (Nat × AlmanacEntry)) (cycle : Nat) : Option Nat :=
  let order := firingOrder t
  if order.length ≤ 16 then none else (List.range cycle).findSome? (lateAt order)

/-- The first live entry of a table that `bad` names. -/
def firstEntry (t : List (Nat × AlmanacEntry)) (bad : AlmanacEntry → Bool) : Option Nat :=
  (t.find? fun e => e.2.live && bad e.2).map (·.1)

/-- Period, BUILD_SHARE and GUARD_SHARE of the beats to come: the running one's, and those of an accepted change. -/
def State.periods (s : State) : List (Nat × Nat) :=
  (s.beat.period, s.guardLen) :: match s.beat.change with
    | some c => [(c.period, Machine.guardLen c.period c.guardShare)]
    | none => []

/-- A live entry breaks CYCLE_LENGTH or its offset limit. -/
def State.entryMisplaced (s : State) (cycle : Nat) (e : AlmanacEntry) : Bool :=
  decide (cycle ≤ e.cycleBeat) || s.periods.any fun p => !(e.offsetGood p.1 p.2)

/-- ST_BAD_PARAM of a table, naming the entry (11 Table 11-4). -/
def badEntry (i : Nat) : Verdict := .refuse stBadParam 0xFF i

/-- The checks of crowding and fit of a table (02 R35, R47). -/
def State.tableGuards (s : State) (t : List (Nat × AlmanacEntry)) (cycle : Nat) : List (Bool × Verdict) :=
  let late := crowded t cycle
  let misfit := firstEntry t fun e => s.periods.any fun p => !(s.entryFits e p.1 p.2)
  [(late.isSome, .refuse stAlmanacCrowded 0 (late.getD 0)), (misfit.isSome, .refuse stNoFit 4 (misfit.getD 0))]

/-! ### Commands -/

/-- The Almanac is armed or arming. -/
def State.almanacOn (s : State) : Bool := s.almanac.mode != .disarmed

/-- Entry `i` of an ALMANAC_WRITE as its array holds it. -/
def Call.entryBytes (c : Call) (s : State) (i : Nat) : List Byte := s.sysRead (c.arg 2 + 32 * i) 32

/-- The entries that an ALMANAC_WRITE writes, with their indices. -/
def Call.newEntries (c : Call) (s : State) : List (Nat × AlmanacEntry) :=
  (List.range (min (c.arg 1) 4096)).map fun i => (c.arg 0 + i, AlmanacEntry.ofBytes (c.entryBytes s i))

/-- The refusals of ALMANAC_WRITE (02 R45, R48, R49, Table 2-5). -/
def almanacWriteRefusals (c : Call) (s : State) : List (Bool × Verdict) :=
  let first := c.arg 0
  let n := c.arg 1
  let m := min n 4096
  let bs := (List.range m).map (c.entryBytes s)
  let new := c.newEntries s
  let p := c.partition
  let bad := (List.range m).find? fun i => !(s.entryGood p (bs.getD i []))
  let misplaced := if s.almanacOn then firstEntry new (s.entryMisplaced s.almanac.cycleLength) else none
  let lost := firstEntry new fun e => s.lostContext e.context
  let view := new.foldl (fun t w => putEntry t w.1 w.2) s.almanac.view
  let moving := (new.find? fun e => e.2.valid && s.entryMoves e.1).map (·.1)
  [(decide (65536 ≤ first) || s.entryOwner first != p, c.bad 0),
      (n == 0 || decide (4096 < n) || decide (65536 < first + n) ||
        (List.range m).any (fun i => s.entryOwner (first + i) != p), c.bad 1),
      (c.blockBad s 2 (32 * m) 64, c.bad 2), (bad.isSome, badEntry (first + bad.getD 0)),
      (misplaced.isSome, badEntry (misplaced.getD 0)), (lost.isSome, .refuse stContextLost 0 (lost.getD 0)),
      (moving.isSome, .refuse stStateConflict (s.almanac.mode.code + 7 * 2 ^ 16 + 0xFFF * 2 ^ 20) (moving.getD 0)),
      (c.domainDown s 2, plain stCoherentDown)] ++
     if s.almanacOn then s.tableGuards view s.almanac.cycleLength else []

/-- ALMANAC_WRITE (02 R45, R48, R49, Table 2-5). -/
def almanacWriteEffect (c : Call) (s : State) : Verdict :=
  guards (almanacWriteRefusals c s)
    (.done { s with almanac := { s.almanac with staged := s.almanac.staged ++ c.newEntries s } } 0)

/-- ALMANAC_READ: entries as the last accepted writes leave them (11 R278 (c)). -/
def almanacReadEffect (c : Call) (s : State) : Verdict :=
  let first := c.arg 0
  let n := c.arg 1
  let m := min n 65536
  let view := s.almanac.view
  let denied (i : Nat) : Bool := !c.physical && s.entryOwner (first + i) != c.partition
  guards
    ([(decide (65536 ≤ first) || denied 0, c.bad 0),
      (n == 0 || decide (65536 < first + n) || (List.range m).any denied, c.bad 1)] ++ c.resultGuards s 2 (32 * m))
    (c.result s 2 ((List.range m).flatMap fun i => (tgetD view (first + i) AlmanacEntry.zero).bytes))

/-- The refusals of ALMANAC_ARM (02 R43, R50). -/
def almanacArmRefusals (c : Call) (s : State) : List (Bool × Verdict) :=
  let cycle := c.arg 0
  let view := s.almanac.view
  let misplaced := firstEntry view (s.entryMisplaced cycle)
  [(cycle == 0 || decide (65536 < cycle), c.bad 0), (s.almanacOn, s.conflict 7 s.almanac.mode.code),
      (misplaced.isSome, badEntry (misplaced.getD 0)), (decide (c.arg 1 < s.beat.number + 2), s.conflict 7 0)] ++
     s.tableGuards view cycle

/-- ALMANAC_ARM (02 R43, R50). -/
def almanacArmEffect (c : Call) (s : State) : Verdict :=
  guards (almanacArmRefusals c s)
    (.done { s with almanac :=
      { s.almanac with mode := .arming, cycleLength := c.arg 0, origin := c.arg 1, samples := [] } } 0)

/-- ALMANAC_DISARM (02 Table 2-5): effective at the next downbeat. -/
def almanacDisarmEffect (_ : Call) (s : State) : Verdict :=
  guards [(!s.almanacOn, s.conflict 7 0)]
    (.done { s with almanac := { s.almanac with disarmAtDownbeat := true } } 0)

/-- The first condition of 02 R26 and R29 that a period with its shares breaks: the parameter that names it. -/
def periodFault (period build guard_ : Nat) : Option Nat :=
  let b := buildLen period build
  let g := guardLen period guard_
  if period < 2000 ∨ 10000000 < period then some 0
  else if build < 20 ∨ 500 < build then some 1
  else if guard_ < 10 ∨ 250 < guard_ then some 2
  else if b < 200 then some 1
  else if g < 100 then some 2
  else if period < g + 100 + 1000 then some 0
  else none

/-- Every admitted list still fits under a period (02 R35). -/
def State.listsFit (s : State) (period guardLen : Nat) : Bool :=
  s.kits.all fun k =>
    let ok (p : Placement) : Bool :=
      (p.batch.isNone && p.lists.isEmpty) || fits period guardLen (margin period guardLen k.2.marginShare) 0 p.critical
    k.2.placement.all ok && k.2.next.all ok

/-- Members of the peal, this module included; 1 alone. -/
def State.pealSize (s : State) : Nat := max 1 s.peal.members.length

/-- A change of period goes to every member over the ring (02 R52, 16 R379). -/
def State.propagate (s : State) (ch : PeriodChange) : State :=
  (s.peal.members.filter (· != s.peal.coordinate)).foldl (fun s m =>
    s.send ⟨.ringCtrl, m, [2, ch.period, ch.buildShare, ch.guardShare, ch.effective], []⟩) s

/-- The change that a BEAT_SET_PERIOD asks for. -/
def Call.periodChange (c : Call) : PeriodChange :=
  { period := c.arg 0, buildShare := c.arg 1, guardShare := c.arg 2, effective := c.arg 3 }

/-- The refusals of BEAT_SET_PERIOD (02 R26, R29, R35, R51, R52). -/
def beatSetPeriodRefusals (c : Call) (s : State) : List (Bool × Verdict) :=
  let (p, b, g, e) := (c.arg 0, c.arg 1, c.arg 2, c.arg 3)
  let fault := periodFault p b g
  let gl := Machine.guardLen p g
  let ahead := if s.pealSize = 1 then 2 else 64
  let breaks := s.almanacOn &&
    (firstEntry s.almanac.view fun x => !(x.offsetGood p gl) || (x.action == 1 && (s.namedList x).isSome &&
      !(s.entryFits x p gl))).isSome
  [(fault.isSome, c.bad (fault.getD 0))] ++
     (match s.notLeader with | some l => [(true, s.roleConflict l)] | none => []) ++
     [(decide (e < s.beat.number + ahead) || s.beat.change.isSome, s.conflict 0 0),
      (breaks, s.conflict 7 s.almanac.mode.code), (!(s.listsFit p gl), .refuse stNoFit 4 0)]

/-- BEAT_SET_PERIOD (02 R26, R29, R51, R52). -/
def beatSetPeriodEffect (c : Call) (s : State) : Verdict :=
  guards (beatSetPeriodRefusals c s)
    (.done ({ s with beat := { s.beat with change := some c.periodChange } }.propagate c.periodChange) 0)

/-- TIME_SET_SOURCE (02 R51, R56): only on the peal leader. -/
def timeSetSourceEffect (c : Call) (s : State) : Verdict :=
  let source := c.arg 0
  let domain := c.arg 1
  let on := c.arg 2
  guards
    ([(decide (1 < source), c.bad 0), (decide (127 < domain), c.bad 1), (decide (1 < on), c.bad 2)] ++
     (match s.notLeader with | some l => [(true, s.roleConflict l)] | none => []))
    (let same := s.beat.ptp.source == source && s.beat.ptp.domain == domain && s.beat.ptp.enabled == (on == 1)
     let fresh : PtpState := { PtpState.reset with source, domain, enabled := on == 1 }
     .done { s with beat := { s.beat with ptp := if same then s.beat.ptp else fresh } } 0)

/-- TAI time in ns of the downbeat of the running beat (02 R58); 0 until PTP has locked. -/
def State.downbeatTai (s : State) : Nat :=
  if s.beat.pairTai = 0 then 0
  else (s.beat.pairTai + ((s.beat.number - s.beat.pairBeat) * s.beat.period * 10 : Nat)).toNat

/-- TIME_STATE (21 Table 21-6): SOURCE and TIME_FAR (02 R57). -/
def State.timeState (s : State) : Nat :=
  s.beat.ptp.source + (if 1000000 < s.beat.ptp.offset.natAbs then 4 else 0)

/-- Code of a lock state (20, status register; 02 Table 2-7). -/
def Lock.code : Lock → Nat
  | .locked => 0 | .holdover => 1 | .free => 2

/-- The result of TIME_QUERY (02 Table 2-6; no layout is given). -/
def State.timeBytes (s : State) : List Byte :=
  leBytes 8 s.beat.number ++ leBytes 8 s.downbeatTai ++ leBytes 1 s.beat.lock.code ++ leBytes 1 s.timeState ++ zeros 6 ++
    leBytes 8 (ofSigned 8 s.beat.ptp.offset)

/-- TIME_QUERY (02 Table 2-6). -/
def timeQueryEffect (c : Call) (s : State) : Verdict := guards (c.resultGuards s 0 32) (c.result s 0 s.timeBytes)

/-- OVERRUN_SET_POLICY (02 R39, R40, R51): at the next downbeat. -/
def overrunSetPolicyEffect (c : Call) (s : State) : Verdict :=
  let k := c.arg 0
  let kit := s.kit k
  let lists := kit.any fun x => x.placement.any (·.batch.isSome) || x.next.any (·.batch.isSome)
  guards (c.kitNamed s false ++ [(decide (2 < c.arg 1), c.bad 1), (c.arg 2 == 0, c.bad 2)] ++ c.kitLost s ++
      [(kit.isNone || (c.arg 1 == 2 && lists), s.conflict 5 (s.kitCode k))])
    (.done (s.modKit k fun x => { x with stagedPolicy := some (c.arg 1, c.arg 2) }) 0)

/-! ### Firing (02 R46, R47, R54) -/

/-- almanac_beat of 02 R47, at the downbeat of beat `b`: the actions of the beat with their slots; ONE_SHOT entries lose
VALID. -/
def State.almanacBeat (s : State) (b : Nat) : State :=
  let a := s.almanac
  if a.mode ≠ .armed ∨ b < a.origin then { s with almanac := { a with due := [] } }
  else
    let p := (b - a.origin) % a.cycleLength
    let due := (firingOrder a.entries).filter fun e => e.2.isDue p
    let spent := (due.filter (·.2.oneShot)).map (·.1)
    { s with almanac := { a with
        due := slots 0 due
        entries := a.entries.map fun e => if spent.contains e.1 then (e.1, { e.2 with valid := false }) else e } }

/-- Staged writes, DISARM and ARMING take effect at the downbeat of beat `b` (02 R46, R48, Table 2-5). -/
def State.almanacDownbeat (s : State) (b : Nat) : State :=
  let a := s.almanac
  let entries := a.staged.foldl (fun t w => putEntry t w.1 w.2) a.entries
  let samples := a.samples.filter fun x => !(a.staged.any (·.1 == x.1))
  let mode := if a.disarmAtDownbeat then .disarmed
    else if a.mode = .arming ∧ b = a.origin then .armed else a.mode
  ({ s with almanac := { a with entries, samples, staged := [], mode, disarmAtDownbeat := false } }).almanacBeat b

/-- An action that has its turn: its entry, and whether its time has passed (02 R54), the state with the clock at its slot. -/
structure Turn where
  s : State
  entry : AlmanacEntry
  late : Bool

/-- The next due action, if its index is `i` (02 R47). -/
def State.turn (s : State) (i : Nat) : Option Turn :=
  match s.almanac.due with
  | [] => none
  | x :: rest =>
    if x.index ≠ i then none
    else
      let at_ := s.beat.start + x.slot
      some { s := { s.clockTo at_ with almanac := { s.almanac with due := rest } }, entry := s.almanac.entry i,
             late := decide (at_ + 25 < s.now) }

/-- ALMANAC_SKIPPED, for the device and the target Kit. -/
def State.countSkipped (s : State) (e : AlmanacEntry) : State :=
  let s1 := { s with beat := { s.beat with almanacSkipped := s.beat.almanacSkipped + 1 } }
  match s.targetKit e with
  | some k => s1.modKit k.id fun k => { k with almanacSkipped := k.almanacSkipped + 1 }
  | none => s1

/-- ALMANAC_LATE, for the device and the target Kit. -/
def State.countLate (s : State) (e : AlmanacEntry) : State :=
  let s1 := { s with beat := { s.beat with almanacLate := s.beat.almanacLate + 1 } }
  match s.targetKit e with
  | some k => s1.modKit k.id fun k => { k with almanacLate := k.almanacLate + 1 }
  | none => s1

/-- A function that is frozen, or FREEZING with BUILD of its freeze beat begun, at a beat (17 R401). -/
def VFunction.halted (f : VFunction) (beat : Nat) (building : Bool) : Bool :=
  f.mode == .frozen || f.mode == .saving || f.mode == .saved || f.mode == .restoring ||
    (f.mode == .freezing && (decide (f.freezeBeat ≤ beat) || (building && f.freezeBeat == beat + 1)))

/-- A partition whose function is frozen or being frozen (17 R401 (c)). -/
def State.frozenPartition (s : State) (p : Nat) : Bool :=
  s.functions.any fun f => f.2.partitions.contains p && f.2.halted s.beat.number s.beat.building

/-- The action issues nothing: a frozen partition, or a retired Core target (17 R401 (c), 19 R440). -/
def State.actionOff (s : State) (e : AlmanacEntry) : Bool :=
  s.frozenPartition e.partition || (e.targetKind == 1 && (s.core e.target).retired)

/-- The actions that a late turn in GUARD does not issue (02 R54 (c)). -/
def Turn.missed (t : Turn) : Bool := t.late && t.s.beat.phase == .guard

/-- A due action is issued by `act`, skipped, or left (02 R47, R54): `launches` for the actions of R54 (b). -/
def State.issue (s : State) (i action : Nat) (launches : Bool) (skip act : State → AlmanacEntry → State) : State :=
  match s.turn i with
  | none => s
  | some t =>
    if t.entry.action ≠ action then s
    else if t.s.actionOff t.entry then t.s.countSkipped t.entry
    else if launches && t.missed then (skip t.s t.entry).countSkipped t.entry
    else act (if t.late then t.s.countLate t.entry else t.s) t.entry

/-- SIGNAL_CHIME (02 Table 2-4): the signal is on its way to its Chime. -/
def State.signalAction (s : State) (i : Nat) : State :=
  s.issue i 4 false (fun s _ => s) fun s e =>
    s.issueSignal e.target (BitVec.ofNat 64 (e.arg0 + if bit e.arg1 0 then s.beat.number else 0)) 0

/-- SAMPLE_TELEMETRY (02 R46, 18 Table 18-3). -/
def State.sampleAction (s : State) (i : Nat) : State :=
  s.issue i 5 false (fun s _ => s) fun s e =>
    let n := tgetD s.almanac.samples i 0
    let kit := if e.targetKind = 0 then some e.target else none
    let bytes := s.telemetryBytes (e.arg1 % 16) kit n
    let s1 := s.sysWrite (e.arg0 + 128 * (n % (e.arg1 / 65536))) bytes
    { s1 with almanac := { s1.almanac with samples := tset s1.almanac.samples i (n + 1) } }

/-- START_DMA (02 Table 2-4, R42, 11 R283): a descriptor that fails gives its status to the Chime. -/
def State.dmaAction (s : State) (i : Nat) : State :=
  s.issue i 2 true (fun s e => s.setError e.arg1 stOverrun) fun s e =>
    let f := (s.context e.context).function
    let whole := f == 0
    let b := s.sysRead e.arg0 64
    if !(s.descriptorPlace e.partition e.arg0 64 64) then s.setError e.arg1 stBadParam
    else if isCoherent e.arg0 && s.cijan.mode != .up then s.setError e.arg1 stCoherentDown
    else
      match s.dmaCheck whole e.partition b with
      | some (st, _) => s.setError e.arg1 st
      | none =>
        let t := descriptor b
        let owners := [t.srcHandle, t.dstHandle].filterMap fun h => s.objectOf h
        if s.dmaDomainDown b then s.setError e.arg1 stCoherentDown
        else if owners.any (fun o => s.lostContext o.2.context) then s.setError e.arg1 stContextLost
        else if owners.any (fun o => o.2.mode == .retiring) then s.setError e.arg1 stBadParam
        else
          let v := field b 56 8 + if bit (field b 0 1) 1 then s.beat.number else 0
          let t1 := { t with almanac := some i, context := e.context, partition := e.partition, function := f }
          s.beginTransfer { t1 with kit := some e.target, chime := some (e.arg1, BitVec.ofNat 64 v), span := e.span }

end Sys2Proof.Machine
end

