-- ==== Sys2Proof/Machine/Work.lean ====
section
/-!
DEFINITION. Work lists and tasks: launch, dispatch, task start, switches, save and restore, cancellation (03 R69, 04 R91, R93,
R112, 13 R303 to R318, 09 R237).
-/
namespace Sys2Proof.Machine
open Sys2Proof

/-! ### Launch -/

/-- A task of a list that has just been launched. -/
def Task.ofRecord (r : TaskRecord) : Task :=
  { record := r, mode := .waiting, switches := 0, deferred := false, waits := [] }

/-- A list is launched (02 R30): its records as they stand. -/
def State.launch (s : State) (kit ctx address : Nat) (records : List TaskRecord) (launcher : Launcher)
    (steps : List StepDesc) (table : Nat) (commands : List ForwardedCommand) : State :=
  let l : WorkList :=
    { id := s.nextId, kit, context := ctx, address, tasks := records.map Task.ofRecord, launcher,
      beat := s.beat.number, launchedAt := s.now, steps, table, commands, finishedAtGuard := false, finished := false,
      cancelled := false, repeat_ := false, attempts := 0 }
  { s with nextId := s.nextId + 1, lists := s.lists ++ [l] }

/-- A list is running: launched, not finished, not cancelled. -/
def WorkList.open_ (l : WorkList) : Bool := !l.finished && !l.cancelled

/-- Every task of a list has retired. -/
def WorkList.allRetired (l : WorkList) : Bool := l.tasks.all fun t => t.mode == .retired

/-- The state with a task of a list changed. -/
def State.modTask (s : State) (list task : Nat) (f : Task → Task) : State :=
  s.modList list fun l => { l with tasks := lmod l.tasks task f }

/-- A task of a list. -/
def State.task (s : State) (list task : Nat) : Option Task := (s.list list).bind fun l => l.tasks[task]?

/-! ### Dispatch (03 R69, 13 R305) -/

/-- A task that waits for a core: its list and index, the Kit whose dispatch serves it, the core it names. -/
structure ReadyTask where
  list : Nat
  task : Nat
  kit : Nat
  core : Option Nat
  priority : Nat
  launchedAt : Nat
deriving DecidableEq, Repr

/-- Every task that task `i` depends on has retired. -/
def WorkList.isReady (l : WorkList) (i : Nat) (t : Task) : Bool :=
  let done (j : Nat) : Bool := (l.tasks[j]?).any fun x => x.mode == .retired
  (t.mode == .waiting || t.mode == .saved) && t.record.deps.all done &&
    (!t.record.afterAll || (List.range i).all done)

/-- Ready tasks of a list. A saved task of UNIT Core resumes as a task of UNIT ANY when its core has left (13 R309 (b)). -/
def State.readyOf (s : State) (l : WorkList) : List ReadyTask :=
  if !l.open_ then [] else
    ((List.range l.tasks.length).zip l.tasks).filterMap fun e =>
      let t := e.2
      if !(l.isReady e.1 t) then none
      else
        let r := t.record
        let here := (s.kit l.kit).any fun k => k.units.contains (.core r.unit)
        let core := if r.unitKind = 1 ∧ (here ∨ t.mode = .waiting) then some r.unit else none
        some { list := l.id, task := e.1, kit := if r.unitKind = 2 then r.unit else l.kit, core, priority := r.priority,
               launchedAt := l.launchedAt }

/-- The order of 13 R305; lists launched at one instant go in the order of their launch. -/
def ReadyTask.before (a b : ReadyTask) : Bool :=
  if a.priority ≠ b.priority then decide (b.priority < a.priority)
  else if a.launchedAt ≠ b.launchedAt then decide (a.launchedAt < b.launchedAt)
  else if a.list ≠ b.list then decide (a.list < b.list) else decide (a.task ≤ b.task)

/-- A Kit's function is frozen from this beat on at the latest, so its lists do not launch and its tasks do not start (17 R401). -/
def State.frozenKit (s : State) (kit : Nat) : Bool :=
  (s.kit kit).any fun k => (s.function (s.context k.context).function).halted s.beat.number false

/-- A Kit whose list for beat `n` is not composed (17 R401 (a)). -/
def State.frozenFor (s : State) (kit n : Nat) : Bool :=
  (s.kit kit).any fun k => (s.function (s.context k.context).function).halted n false

/-- All ready tasks in order. -/
def State.readyTasks (s : State) : List ReadyTask :=
  sortBy ReadyTask.before ((s.lists.filter fun l => !(s.frozenKit l.kit)).flatMap s.readyOf)

/-- A core is free (03 R69 (a)). -/
def State.coreFree (s : State) (c : Nat) : Bool :=
  let k := s.core c
  s.coreUsable c && k.phase == .idle && k.block.isNone

/-- Free direct cores of a Kit, the one free longest first, then by core ID. -/
def State.freeCores (s : State) (kit : Nat) : List Nat :=
  match s.kit kit with
  | none => []
  | some k =>
    sortBy (fun a b => decide ((s.core a).freeSince < (s.core b).freeSince) ||
      ((s.core a).freeSince == (s.core b).freeSince && decide (a ≤ b))) ((s.directCores k).filter s.coreFree)

/-- The cores that ready tasks take, each task in its turn (03 R69, 13 R305). -/
def State.assign (s : State) : List ReadyTask → List Nat → List (ReadyTask × Nat)
  | [], _ => []
  | r :: rest, used =>
    let free := match r.core with
      | some c => if s.coreFree c then [c] else []
      | none => s.freeCores r.kit
    match free.find? fun c => !(used.contains c) with
    | some c => (r, c) :: s.assign rest (c :: used)
    | none => s.assign rest used

/-- The assignments of the present instant. -/
def State.assignments (s : State) : List (ReadyTask × Nat) := s.assign s.readyTasks []

/-! ### Task start (04 R91, R93, R96, R112, 07 R187, 13 R306) -/

/-- A group at task start. -/
def Group.initial (entry : Nat) : Group :=
  { pc := entry, active := BitVec.allOnes 64, fpStatus := 0, preds := List.replicate 7 0, regs := [], written := [],
    stack := [], wait := .none, finished := false, regCache := [], readySince := 0, fences := 0 }

/-- An accumulator at task start. -/
def Accumulator.initial : Accumulator := { base := 0, count := 0, levels := [], afmt := 0, bfmt := 0 }

/-- The block of a task at its start. -/
def Block.ofTask (list task kit partition now : Nat) (r : TaskRecord) : Block :=
  { list, task, kit, partition, descTable := r.descTable, descCount := r.descCount, args := r.args,
    groups := List.replicate r.groups { Group.initial r.entry with readySince := now },
    acc := [Accumulator.initial, Accumulator.initial], cstore := [], cvalid := [], barriers := [], startedAt := now }

/-- The window at the start or resumption of a block (04 R96). -/
def firstWindow (groups : Nat) : List (Option Nat) := (List.range 4).map fun i => if i < groups then some i else none

/-- The three read-only caches emptied (07 R187). -/
def Core.dropCaches (c : Core) : Core := { c with constCache := [], descCache := [], instrCache := [] }

/-- A core turns to a list of a Context: its read-only caches are invalidated under 07 R187 (b) and (d). -/
def Core.turnTo (c : Core) (list ctx : Nat) : Core :=
  let c1 := if c.lastList ≠ list ∨ c.lastContext ≠ ctx then c.dropCaches else c
  { c1 with lastList := list, lastContext := ctx }

/-- A block begins to run on a core. -/
def State.runBlock (s : State) (core ctx : Nat) (b : Block) : State :=
  s.modCore core fun c => { c.turnTo b.list ctx with
    phase := .running, block := some b, window := firstWindow b.groups.length, lastSlot := 3 }

/-- A task that has never run starts on a core. -/
def State.startFresh (s : State) (list task core : Nat) : State :=
  match s.list list with
  | none => s
  | some l =>
    match l.tasks[task]? with
    | none => s
    | some t =>
      let p := ((s.kit l.kit).map (·.partition)).getD 0
      (s.modTask list task fun t => { t with mode := .running core }).runBlock core l.context
        (Block.ofTask list task l.kit p s.now t.record)

/-- A task takes a core: it starts, or its restore begins (13 R306, R315). -/
def State.takeCore (s : State) (list task core : Nat) : State :=
  match s.task list task with
  | none => s
  | some t =>
    if t.mode = .saved then
      (s.modTask list task fun t => { t with mode := .running core }).modCore core fun c =>
        { c with phase := .restoring list task }
    else s.startFresh list task core

/-- TASK_START: a ready task takes the core that dispatch gives it. -/
def State.taskStart (s : State) (list task core : Nat) : State :=
  if s.assignments.any fun a => a.1.list == list && a.1.task == task && a.2 == core then
    (s.modCore core fun c => { c with switchAt := c.freeSince }).takeCore list task core
  else s

/-! ### Live bytes (13 R313) and the save area (13 R314) -/

/-- Live bytes of a block. -/
def Block.liveBytes (b : Block) : Nat :=
  256 * (b.groups.map (·.written.length)).sum + 16384 * (b.acc.map (·.levels.length)).sum + 128 * b.cvalid.length

/-- Kind code of a stack entry (13 Table 13-3). -/
def EntryKind.code : EntryKind → Nat
  | .join => 0 | .path => 1 | .ret => 2

/-- A stack entry's kind from its code. -/
def entryKind (n : Nat) : EntryKind := if n = 0 then .join else if n = 1 then .path else .ret

/-- A bit map of `n` bytes with the listed bits set. -/
def bitsOf (n : Nat) (l : List Nat) : List Byte :=
  (List.range n).map fun i => BitVec.ofNat 8 (((List.range 8).filter fun j => l.contains (8 * i + j)).map (2 ^ ·)).sum

/-- The bits set in a bit map. -/
def setBits (bytes : List Byte) : List Nat :=
  (List.range (8 * bytes.length)).filter fun i => (bytes.getD (i / 8) 0).getLsbD (i % 8)

/-- The 1,024 bytes of a group's state (13 Table 13-3); the stack's outermost entry is entry 0. -/
def Group.stateBytes (g : Group) : List Byte :=
  let wait := match g.wait with
    | .bar n _ => (1 + 8 * n, (0, 0))
    | .chime n t _ _ => (2, (n, t.toNat))
    | _ => (0, (0, 0))
  let preds := (List.range 64).flatMap fun t =>
    leBytes 1 (((List.range 7).filter fun p => (g.preds.getD p 0).getLsbD t).map (2 ^ ·)).sum
  let stack := g.stack.reverse.flatMap fun e => leBytes 8 (e.pc + e.kind.code) ++ leBytes 8 e.mask.toNat
  leBytes 8 g.pc ++ leBytes 8 g.active.toNat ++ leBytes 4 g.fpStatus.toNat ++ leBytes 1 g.stack.length ++
    leBytes 1 (wait.1 + 4 * b2n g.finished) ++ zeros 2 ++ leBytes 4 wait.2.1 ++ zeros 4 ++ leBytes 8 wait.2.2 ++
    bitsOf 16 g.written ++ zeros 8 ++ preds ++ padTo 512 stack ++ zeros 384

/-- The first 128 bytes of a save area (13 Table 13-2). -/
def saveHeader (task kit address switches beat offset : Nat) (b : Block) : List Byte :=
  let a := b.acc.getD 0 Accumulator.initial
  let a1 := b.acc.getD 1 Accumulator.initial
  let arrived := (List.range 16).flatMap fun i => leBytes 1 (tgetD b.barriers i []).length
  leBytes 4 task ++ leBytes 4 kit ++ leBytes 8 address ++ leBytes 1 b.groups.length ++ leBytes 1 1 ++
    leBytes 2 switches ++ leBytes 4 b.liveBytes ++ leBytes 4 a.base ++ leBytes 2 a.count ++ leBytes 2 a1.count ++
    leBytes 4 a1.base ++ arrived ++ leBytes 8 beat ++ leBytes 4 offset ++ zeros 64

/-- The parts of a save area that are live: offset and bytes (13 R314). -/
def Block.saveParts (b : Block) (header : List Byte) : List (Nat × List Byte) :=
  let groups := (List.range b.groups.length).zip b.groups
  let accs := (List.range b.acc.length).zip b.acc
  let words (l : List Word) : List Byte := l.flatMap fun w => leBytes 4 w.toNat
  [(0, header), (128, bitsOf 2048 b.cvalid)] ++
    (groups.map fun g => (4096 + 1024 * g.1, g.2.stateBytes)) ++
    (accs.flatMap fun a => a.2.levels.map fun l => (32768 + 16384 * (11 * a.1 + l.1), words l.2)) ++
    (groups.flatMap fun g => g.2.written.map fun r => (393216 + 32768 * g.1 + 256 * r, words (g.2.reg r))) ++
    b.cvalid.map fun u => (393216 + 32768 * b.groups.length + 128 * u, memRead zeroByte b.cstore (128 * u) 128)

/-- A block is written to its save area. -/
def State.writeSave (s : State) (area : Nat) (parts : List (Nat × List Byte)) : State :=
  parts.foldl (fun s p => s.writeT1 (area + p.1) p.2) s

/-- Words of bytes. -/
def wordsOf : Nat → List Byte → List Word
  | 0, _ => []
  | n + 1, b => BitVec.ofNat 32 (field b 0 4) :: wordsOf n (b.drop 4)

/-- A group rebuilt from its state bytes and its saved registers; a wait that is marked is the one it had (13 R315). -/
def Group.restore (b : List Byte) (regs : List (Nat × List Word)) (wait : GroupWait) (now : Nat) : Group :=
  let depth := field b 20 1
  let entry (i : Nat) : StackEntry :=
    let p := field b (128 + 16 * i) 8
    { kind := entryKind (p % 4), pc := p / 4 * 4, mask := BitVec.ofNat 64 (field b (136 + 16 * i) 8) }
  let w := field b 21 1
  { pc := field b 0 8, active := BitVec.ofNat 64 (field b 8 8), fpStatus := BitVec.ofNat 32 (field b 16 4),
    preds := (List.range 7).map fun p => BitVec.ofNat 64 (maskOf ((List.range 64).filter fun t => bit (field b (64 + t) 1) p)),
    regs := regs.filter fun r => !(r.2.all (· == 0)), written := setBits (slice b 40 16),
    stack := ((List.range depth).map entry).reverse, wait := if w % 4 = 0 then .none else wait, finished := bit w 2,
    regCache := [], readySince := now, fences := 0 }

/-- The block that a save area holds; it holds no format codes of the accumulators, which are open (13 Table 13-2). -/
def State.readSave (s : State) (area list task kit partition : Nat) (t : Task) : Block :=
  let h := s.readT1 area 128
  let n := field h 16 1
  let group (g : Nat) : Group :=
    let b := s.readT1 (area + 4096 + 1024 * g) 1024
    let regs := (setBits (slice b 40 16)).map fun r =>
      (r, wordsOf 64 (s.readT1 (area + 393216 + 32768 * g + 256 * r) 256))
    Group.restore b regs (t.waits.getD g .none) s.now
  let acc (a base count : Nat) : Accumulator :=
    { base, count, afmt := s.free.toNat / 2 ^ (10 * a) % 32, bfmt := s.free.toNat / 2 ^ (10 * a + 5) % 32,
      levels := ((List.range 11).filter (bit count)).map fun l =>
        (l, wordsOf 4096 (s.readT1 (area + 32768 + 16384 * (11 * a + l)) 16384)) }
  let valid := setBits (s.readT1 (area + 128) 2048)
  let groups : List Group := (List.range n).map group
  let arrived (b : Nat) : List Nat := (List.range n).filter fun g => match (groups[g]?).map Group.wait with
    | some (.bar x _) => x == b
    | _ => false
  { list, task, kit, partition, descTable := t.record.descTable, descCount := t.record.descCount, args := t.record.args,
    groups, acc := [acc 0 (field h 24 4) (field h 28 2), acc 1 (field h 32 4) (field h 30 2)],
    cstore := valid.foldl (fun m u =>
      memWrite zeroByte m (128 * u) (s.readT1 (area + 393216 + 32768 * n + 128 * u) 128)) [],
    cvalid := valid,
    barriers := ((List.range 16).filter fun b => !(arrived b).isEmpty).map fun b => (b, arrived b), startedAt := s.now }

/-! ### Switches (13 R309 to R318) -/

/-- The running task of a core as a victim sees it: its record, its list's launch, its block. -/
structure Runner where
  core : Nat
  task : Task
  launchedAt : Nat
  list : Nat
  block : Block

/-- The task that runs on a core, in phase running. -/
def State.runner (s : State) (core : Nat) : Option Runner :=
  let c := s.core core
  match c.phase, c.block with
  | .running, some b =>
    (s.list b.list).bind fun l => (l.tasks[b.task]?).map fun t =>
      { core, task := t, launchedAt := l.launchedAt, list := b.list, block := b }
  | _, _ => none

/-- A runner may be a victim of a requester but for condition (d) of 13 R310. -/
def Runner.eligible (v : Runner) (r : ReadyTask) : Bool :=
  decide (v.task.record.priority < r.priority) && v.task.record.preemptible

/-- Condition (d) of 13 R310. -/
def Runner.within (v : Runner) : Bool := decide (v.block.liveBytes ≤ v.task.record.switchBound * 4096)

/-- The choice among victims: `a` before `b` (13 R310). -/
def Runner.better (a b : Runner) : Bool :=
  let (p, q) := (a.task.record.priority, b.task.record.priority)
  if p ≠ q then decide (p < q)
  else if a.launchedAt ≠ b.launchedAt then decide (b.launchedAt < a.launchedAt)
  else if a.list ≠ b.list then decide (b.list < a.list)
  else if a.block.startedAt ≠ b.block.startedAt then decide (b.block.startedAt < a.block.startedAt)
  else decide (b.core ≤ a.core)

/-- Runners that a requester may use, best first, those of `used` cores left out. -/
def State.victims (s : State) (r : ReadyTask) (used : List Nat) : List Runner :=
  let cores := match r.core with
    | some c => [c]
    | none => match s.kit r.kit with
      | some k => s.directCores k
      | none => []
  sortBy Runner.better ((cores.filter fun c => !(used.contains c)).filterMap s.runner |>.filter (·.eligible r))

/-- A requester has a switch in progress for it. -/
def State.requested (s : State) (r : ReadyTask) : Bool :=
  s.cores.any fun c => match c.2.phase with
    | .draining l t => l == r.list && t == r.task
    | .saving l t => l == r.list && t == r.task
    | _ => false

/-- The requests of the present instant in order: requester, victim core if it has one, core passed over under (d). -/
structure Request13 where
  ready : ReadyTask
  victim : Option Nat
  passed : Option Nat

/-- Each requester takes one victim (13 R310). -/
def State.requestsOf (s : State) : List ReadyTask → List Nat → List Request13
  | [], _ => []
  | r :: rest, used =>
    let vs := s.victims r used
    let v := (vs.find? (·.within)).map (·.core)
    let passed := match vs with
      | x :: _ => if x.within then none else some x.core
      | [] => none
    { ready := r, victim := v, passed } :: s.requestsOf rest (used ++ v.toList)

/-- Requests of the ready tasks that find no free core. -/
def State.switchRequests (s : State) : List Request13 :=
  let placed := s.assignments.map (·.1)
  s.requestsOf (s.readyTasks.filter fun r => !(placed.contains r) && !(s.requested r)) []

/-- A switch counter of a Kit and of the device: switches, deferred, longest (13 R318). -/
def State.countSwitch (s : State) (kit switches deferred longest : Nat) : State :=
  let o := tgetD s.win.kitSwitches kit (0, 0, 0)
  { s with win := { s.win with
      switches := s.win.switches + switches
      switchDeferred := s.win.switchDeferred + deferred
      switchLongest := max s.win.switchLongest longest
      kitSwitches := tset s.win.kitSwitches kit (o.1 + switches, o.2.1 + deferred, max o.2.2 longest) } }

/-- SWITCH_REQUEST: the requester takes its victim, whose core stops issuing and drains; a task passed over under (d) is
counted once (13 R310, R311). -/
def State.switchRequest (s : State) (list task core : Nat) : State :=
  match s.switchRequests.find? fun r => r.ready.list == list && r.ready.task == task with
  | none => s
  | some r =>
    let count := r.passed.isSome && !((s.task list task).any (·.deferred))
    let s1 := if count then (s.modTask list task fun t => { t with deferred := true }).countSwitch r.ready.kit 0 1 0 else s
    if r.victim = some core then
      s1.modCore core fun c => { c with phase := .draining list task, switchAt := s.now }
    else if r.victim.isNone ∧ r.passed = some core then s1
    else s

/-- No load, atomic, store or tile instruction of a core is outstanding (13 R311). -/
def State.drained (s : State) (core : Nat) : Bool := !(s.mem.requests.any (·.core == core))

/-- DRAIN_COMPLETE: the save begins, the register caches written back (13 R311). -/
def State.drainComplete (s : State) (core : Nat) : State :=
  match (s.core core).phase with
  | .draining l t =>
    if s.drained core then
      (s.modCore core fun c => { c with phase := .saving l t }).modBlock core fun b =>
        { b with groups := b.groups.map fun g => { g with regCache := [] } }
    else s
  | _ => s

/-- A core holds no task from now on. -/
def State.freeCore (s : State) (core : Nat) : State :=
  s.modCore core fun c =>
    { c with phase := .idle, block := none, window := [none, none, none, none], freeSince := s.now }

/-- Requests and waits of a core are dropped (09 R237: what is unpublished is discarded). -/
def State.dropRequests (s : State) (core : Nat) : State :=
  let ofCore (w : ChimeWaiter) : Bool := match w.waiter with
    | .group c _ => c == core
    | _ => false
  { s with
    mem := { s.mem with requests := s.mem.requests.filter fun r => r.core != core }
    waiters := s.waiters.filter fun w => !ofCore w }

/-- SAVE_COMPLETE: every write of the save is performed; the incoming task takes the core (13 R312, R314). -/
def State.saveComplete (s : State) (core : Nat) : State :=
  let c := s.core core
  match c.phase, c.block with
  | .saving l t, some b =>
    match s.task b.list b.task, s.list b.list with
    | some out, some ol =>
      let n := min (out.switches + 1) 0xFFFF
      let header := saveHeader b.task b.kit ol.address n s.beat.number s.offset b
      let s1 := s.writeSave out.record.saveArea (b.saveParts header)
      let s2 := s1.modTask b.list b.task fun x =>
        { x with mode := .saved, switches := n, waits := b.groups.map (·.wait) }
      let s3 := (s2.dropRequests core).freeCore core
      let incoming := s3.readyTasks.any fun r => r.list == l && r.task == t
      if incoming then
        let s4 := (s3.takeCore l t core).countSwitch b.kit 1 0 0
        if (s.task l t).any (·.mode == .waiting) then s4.countSwitch b.kit 0 0 (s.now - c.switchAt)
        else s4
      else s3
    | _, _ => s
  | _, _ => s

/-- A group that resumes in its wait at a Chime waits on, or is released (13 R315). -/
def State.resumeWaits (s : State) (core base : Nat) (groups : List Group) : State :=
  ((List.range groups.length).zip groups).foldl (fun s g =>
    match g.2.wait with
    | .chime n t _ _ =>
      let w : ChimeWaiter := { chime := base + n, target := t, waiter := .group core g.1 }
      if s.chimeReady (base + n) t then s.releaseWaiter (s.chime (base + n)).error w
      else { s with waiters := s.waiters ++ [w] }
    | _ => s) s

/-- The save area of a task meets poisoned data where it is live. -/
def State.saveBad (s : State) (t : Task) : Bool :=
  let a := t.record.saveArea
  s.poisonedAt a 32768 || (setBits (s.readT1 (a + 128) 2048)).any (fun u =>
    s.poisonedAt (a + 393216 + 32768 * t.record.groups + 128 * u) 128) ||
    (List.range t.record.groups).any (fun g => (setBits (s.readT1 (a + 4096 + 1024 * g + 40) 16)).any fun r =>
      s.poisonedAt (a + 393216 + 32768 * g + 256 * r) 256) ||
    (List.range 22).any fun l => bit (field (s.readT1 (a + 28) 4) (if l < 11 then 0 else 2) 2) (l % 11) &&
      s.poisonedAt (a + 32768 + 16384 * l) 16384

/-! ### Cancellation (09 R237, 13 R320) -/

/-- A task of a cancelled list leaves its core; a switch for it goes on without it. -/
def State.quitCores (s : State) (list : Nat) : State :=
  let held := (s.cores.filter fun c =>
    c.2.block.any (·.list == list) || (match c.2.phase with | .restoring l _ => l == list | _ => false)).map (·.1)
  let s1 := held.foldl (fun s c => (s.dropRequests c).freeCore c) s
  { s1 with cores := s1.cores.map fun c => match c.2.phase with
      | .draining l _ => if l = list then (c.1, { c.2 with phase := .draining 0 0 }) else c
      | .saving l _ => if l = list then (c.1, { c.2 with phase := .saving 0 0 }) else c
      | _ => c }

/-- The work of a list is cancelled (09 R237). -/
def State.cancelList (s : State) (list : Nat) : State :=
  (s.quitCores list).modList list fun l =>
    { l with cancelled := true, tasks := l.tasks.map fun t => if t.mode = .retired then t else { t with mode := .cancelled } }

end Sys2Proof.Machine
end

