-- ==== Sys2Proof/Machine/Loss.lean ====
section
/-!
DEFINITION. The loss of a Context (12 R289 to R291) and the fault of a task (13 R319).
-/
namespace Sys2Proof.Machine
open Sys2Proof

/-! ### Work of a list that ends early -/

/-- Chime of a Sequence as a device Chime (10 Table 10-1). -/
def State.seqChime (s : State) (q : Sequence) : Nat := ((s.kit q.kit).map (·.chimeBase)).getD 0 + q.chime

/-- The Chimes that the work of a list would have signalled receive an error status: that of its KIT_LAUNCH, which completes
with it, and those of the Sequences of its steps (09 R237). -/
def State.failChimes (s : State) (l : WorkList) (status : Nat) : State :=
  let s1 := match l.launcher with
    | .command id => s.completeId id status 0 0
    | _ => s
  l.steps.foldl (fun s q => match s.seq q.seq with
    | some x => s.setError (s.seqChime x) status
    | none => s) s1

/-- The open lists of a Kit. -/
def State.openLists (s : State) (kit : Nat) : List WorkList := s.lists.filter fun l => l.kit == kit && l.open_

/-- Every open list of a Kit is cancelled and its Chimes receive an error status. -/
def State.failKit (s : State) (kit status : Nat) : State :=
  (s.openLists kit).foldl (fun s l => (s.cancelList l.id).failChimes l status) s

/-! ### Loss (12 R290) -/

/-- A command that waits so has not taken effect; loss completes it (12 R290 (c)). -/
def Wait.undone : Wait → Bool
  | .barrier | .held | .release | .chime _ _ | .kitLaunch _ _ _ | .list _ | .commit _ _ | .replace _ _ _ _ | .unload _
  | .append _ | .memFree _ | .startTransfer _ _ | .pin _ | .region _ | .downbeat | .partitionSet _ | .roInvalidate _
  | .coreRetire _ => true
  | _ => false

/-- The commands that 11 R270 lets go on under their own tables. -/
def lossExemptOp : Op → Bool
  | .contextDestroy | .contextQuery | .queueDestroy | .kitDestroy | .seqClose => true
  | _ => false

/-- A command waits for a Kit or a Sequence of a list. -/
def Wait.names (w : Wait) (kits seqs : List Nat) : Bool :=
  match w with
  | .kitLaunch k _ _ | .commit k _ | .replace k _ _ _ | .unload k => kits.contains k
  | .append q => seqs.contains q
  | _ => false

/-- What an undone command had set aside is given back. -/
def State.dropPending (s : State) (c : Command) : State :=
  match c.wait with
  | .region id =>
    match s.mem.regions.find? (·.id == id) with
    | none => s
    | some r =>
      let back := granuleRun r.first r.count
      let s1 := back.foldl (fun s g => s.modGranule g fun k => if k.mode = .flushing then { k with mode := .cache } else k) s
      { s1 with mem := { s1.mem with regions := s1.mem.regions.filter (·.id != id) } }
  | .partitionSet p => { s with partitionChanges := s.partitionChanges.filter (·.partition != p) }
  | .pin id => { s with mem := { s.mem with pinnings := s.mem.pinnings.filter (·.id != id) } }
  | .coreRetire c => s.modCore c fun k => { k with retiring := false }
  | .chime _ _ =>
    { s with waiters := s.waiters.filter fun w => match w.waiter with | .command id => id != c.id | _ => true }
  | _ => s

/-- A command completes early with an error status, which its Chime receives now (12 R290 (c), (e)). -/
def State.failCommand (s : State) (c : Command) (status : Nat) : State :=
  let chime := (s.queue c.queue).deviceChime c.packet.chime.toNat
  let s1 := (s.dropPending c).complete c status 0 0
  if c.packet.signal then s1.setError chime status else s1

/-- VALID is cleared in every Almanac entry of a Context; none of them fires any more (02 R48). -/
def State.clearEntries (s : State) (ctx : Nat) : State :=
  let off (e : AlmanacEntry) : AlmanacEntry := if e.context = ctx then { e with valid := false } else e
  let a := s.almanac
  { s with almanac := { a with
      due := a.due.filter fun d => (a.entry d.index).context != ctx
      entries := a.entries.map fun e => (e.1, off e.2)
      staged := a.staged.map fun e => (e.1, off e.2) } }

/-- Chimes of the transfers of a Context that have not been signalled. -/
def State.transferChimes (s : State) (ctx : Nat) : List Nat :=
  (s.mem.transfers.filter (·.context == ctx)).flatMap fun t =>
    (match t.chime with | some (c, _) => [c] | none => []) ++
    match t.command.bind s.command with
    | some c => if c.packet.signal then [(s.queue c.queue).deviceChime c.packet.chime.toNat] else []
    | none => []

/-- A Kit of a lost Context (03 Table 3-2). -/
def Kit.lose (k : Kit) : Kit :=
  { k with mode := .lost, composed := none, queued := [], heldFrom := none, next := none, results := [], batches := [],
           forward := [] }

/-- A Context is lost with a status; a Context that is not ACTIVE, and the device Context, are left (12 R289 to R291). -/
def State.loseContext (s : State) (ctx status : Nat) : State :=
  if ctx = 65535 ∨ (s.context ctx).mode ≠ .active then s
  else
    let kits := s.kitsOf ctx
    let seqs := s.seqsOf ctx
    let s1 := s.modContext ctx fun c =>
      { c with mode := .lost, lossStatus := status, lossBeat := s.beat.number, lossOffset := s.offset }
    let s2 := kits.foldl (fun s k => s.failKit k stContextLost) s1
    let s3 := kits.foldl (fun s k => s.modKit k Kit.lose) s2
    let s4 := seqs.foldl (fun s q => s.modSeq q fun x => { x with mode := .lost, inFlight := 0 }) s3
    let gone := s4.commands.filter fun c =>
      c.wait.undone && !(lossExemptOp c.op) && (c.context == ctx || c.wait.names kits seqs)
    let s5 := (gone.foldl (fun s c => s.failCommand c stContextLost) s4).clearEntries ctx
    let chimes := s5.chimesOf ctx ++ s5.transferChimes ctx ++ seqs.filterMap fun q => (s5.seq q).map s5.seqChime
    let s6 := chimes.foldl (fun s c => s.setError c stContextLost) s5
    s6.notice (.context ctx) 0x000E status ctx 0 0 0

/-! ### Faults of tasks (13 R319) -/

/-- The fault record (13 Table 13-4). -/
def faultBytes (status group thread core pc active beat offset task list kit address : Nat) : List Byte :=
  leBytes 2 status ++ leBytes 1 group ++ leBytes 1 thread ++ leBytes 4 core ++ leBytes 8 pc ++ leBytes 8 active ++
    leBytes 8 beat ++ leBytes 4 offset ++ leBytes 4 task ++ leBytes 8 list ++ leBytes 4 kit ++ zeros 4 ++
    leBytes 8 address ++ zeros 64

/-- A task faults (13 R319), at an instruction and with an active mask: the record, then the loss of its Context; the block is
discarded and the core is free. THREAD is FFh for a fault of the group as a whole. -/
def State.taskFault (s : State) (core group : Nat) (thread : Option Nat) (status address pc : Nat) (active : U64) :
    State :=
  match (s.core core).block with
  | none => s
  | some b =>
    let list : Option WorkList := s.list b.list
    let at_ := (list.map WorkList.address).getD 0
    let bytes := faultBytes status group (thread.getD 0xFF) core pc active.toNat s.beat.number s.offset b.task at_ b.kit
      address
    let s1 := match s.task b.list b.task with
      | some t => if t.record.reportValid then s.writeResult t.record.report bytes else s
      | none => s
    let s2 := s1.loseContext ((list.map WorkList.context).getD 65535) status
    if (s2.core core).block.any fun x => x.list == b.list then (s2.dropRequests core).freeCore core else s2

/-- A group faults at the instruction that it has reached. -/
def State.groupFault (s : State) (core group : Nat) (thread : Option Nat) (status address : Nat) : State :=
  match s.group core group with
  | none => s
  | some g => s.taskFault core group thread status address g.pc g.active

end Sys2Proof.Machine
end

