-- ==== Sys2Proof/Machine/Sequences.lean ====
section
/-!
DEFINITION. Sequences and their KV pages, and the commands of group 3h (10 R238 to R246, R254).
-/
namespace Sys2Proof.Machine
open Sys2Proof

/-! ### Pipeline order and heads (03 R85, 10 R241 (b)) -/

/-- The head of a peal Kit. -/
def State.headOf (s : State) (k : Kit) : Nat := (s.pipeline k).headD 0

/-- This module serves the Kit's commands: a local Kit, or a peal Kit whose head it is. -/
def State.isHead (s : State) (k : Kit) : Bool := !(isPealKit k.id) || s.headOf k == s.peal.coordinate

/-! ### Pages (10 R243 to R246, 03 R77) -/

/-- Sequences of a Kit that are not FREE, ascending. -/
def State.kitSeqs (s : State) (kit : Nat) : List (Nat × Sequence) := s.sequences.filter fun e => e.2.kit == kit

/-- PAGE_SLICEs in use by a Kit's Sequences. -/
def State.usedSlices (s : State) (kit : Nat) : List Nat := (s.kitSeqs kit).flatMap fun e => e.2.pages.map (·.2)

/-- Lowest free slot of a pair of a pool. -/
def freeSlot (used : List Nat) (x : PoolPair) : Option Nat :=
  (firstFrom (fun k => !(used.contains (x.pair * 2 ^ 28 + k))) 0 x.slots).map fun k => x.pair * 2 ^ 28 + k

/-- The slice of page `j` of Sequence `q`: from the pair of 03 R77, or the next one in cyclic order that has a free slot. -/
def pageSlice (pool : List PoolPair) (used : List Nat) (q j : Nat) : Option Nat :=
  let n := pool.length
  (List.range n).findSome? fun i => (pool[(q + j + i) % n]?).bind (freeSlot used)

/-- Slices for a list of pages in order, or none if the pool cannot give them all. -/
def takePages (pool : List PoolPair) (q : Nat) : List Nat → List Nat → Option (List (Nat × Nat))
  | [], _ => some []
  | j :: r, used =>
    match pageSlice pool used q j with
    | none => none
    | some p => (takePages pool q r (p :: used)).map ((j, p) :: ·)

/-- Slots that a peal's head counts with: the smallest total of any member (10 R252 (d)). -/
def Kit.slotLimit (k : Kit) (p : Placement) : Nat :=
  let own := (p.pool.map (·.slots)).sum
  if isPealKit k.id ∧ k.pealSlots ≠ 0 then min own k.pealSlots else own

/-- Base of the slot of a Sequence in its Kit's sequence area (10 Table 10-4). -/
def Kit.seqSlot (k : Kit) (p : Placement) (q : Nat) : Nat :=
  k.areaBase p + 4096 + 512 * p.stepSlots + 524288 + (q - p.seqBase) * 4096

/-- Address of map block `b` of a Kit. -/
def Kit.mapBlock (k : Kit) (p : Placement) (b : Nat) : Nat :=
  k.areaBase p + 4096 + 512 * p.stepSlots + 524288 + p.seqCount * 4096 + b * 1024

/-- Groups of 256 pages that a list of pages touches, ascending. -/
def pageGroups (pages : List (Nat × Nat)) : List Nat := (List.range 64).filter fun g => pages.any fun x => x.1 / 256 == g

/-- The map blocks of a Sequence follow its pages: one for each group it holds a page of, the lowest free ones (10 R245). -/
def State.fitBlocks (s : State) (q : Nat) : State :=
  match s.seq q with
  | none => s
  | some x =>
    let others := (s.kitSeqs x.kit).flatMap fun e => if e.1 = q then [] else e.2.mapBlocks.map (·.2)
    let groups := pageGroups x.pages
    let kept := x.mapBlocks.filter fun b => groups.contains b.1
    let blocks := groups.foldl (fun (m : List (Nat × Nat)) g =>
      if m.any (·.1 == g) then m
      else
        let used := others ++ m.map (·.2)
        m ++ [(g, (firstFrom (fun b => !(used.contains b)) 0 (used.length + 1)).getD 0)]) kept
    s.modSeq q fun x => { x with mapBlocks := blocks }

/-- The map directory and the map blocks of a Sequence are written, in whole units (10 R245). -/
def State.writeMap (s : State) (q : Nat) : State :=
  match s.seq q with
  | none => s
  | some x =>
    match s.kit x.kit with
    | none => s
    | some k =>
      match k.placement with
      | none => s
      | some p =>
        let entry (l : List (Nat × Nat)) (i : Nat) : List Byte := leBytes 4 ((tget l i).getD 0xFFFFFFFF)
        let dir := (List.range 64).flatMap (entry x.mapBlocks)
        let s1 := s.writeT1 (k.seqSlot p q) dir
        x.mapBlocks.foldl (fun s b =>
          s.writeT1 (k.mapBlock p b.2) ((List.range 256).flatMap fun i => entry x.pages (256 * b.1 + i))) s1

/-- The pages of a Sequence change (10 R244, R245). -/
def State.setPages (s : State) (q : Nat) (pages : List (Nat × Nat)) : State :=
  ((s.modSeq q fun x => { x with pages }).fitBlocks q).writeMap q

/-- The pages that positions `first` to `first + n - 1` need and a Sequence does not hold. -/
def Sequence.missing (x : Sequence) (first n : Nat) : List Nat :=
  ((List.range ((first + n - 1) / 64 + 1 - first / 64)).map (· + first / 64)).filter fun j => !(x.pages.any (·.1 == j))

/-- pages_ready of 10 R247: the pages of a step are allocated whole, or KV_WAIT is set (10 R244 (a), R246): the state and the
pages, `none` where there is no room. -/
def State.pagesReady (s : State) (k : Kit) (q first n : Nat) : State × Option (List (Nat × Nat)) :=
  match s.seq q, k.placement with
  | some x, some p =>
    let need := x.missing first n
    let used := s.usedSlices k.id
    let room := decide (used.length + need.length ≤ k.slotLimit p)
    match (if room || need.isEmpty then takePages p.pool q need used else none) with
    | some new =>
      let s1 := if new.isEmpty then s
        else s.setPages q (new.foldl (fun m e => tset m e.1 e.2) x.pages)
      (s1.modSeq q fun x => { x with kvWait := false }, some new)
    | none =>
      let others := (s.kitSeqs k.id).any fun e => e.2.kvWait
      let s1 := s.modSeq q fun x => { x with kvWait := true }
      (if others then s1 else s1.notice (.context k.context) 0x0004 stOk k.context 0 0 k.id, none)
  | _, _ => (s, none)

/-- Every page of a Sequence from page `j` on is freed (10 R244 (d) to (f)). -/
def State.freePages (s : State) (q j : Nat) : State :=
  match s.seq q with
  | none => s
  | some x => if x.pages.any (fun e => decide (j ≤ e.1)) then s.setPages q (x.pages.filter fun e => decide (e.1 < j)) else s

/-! ### Sequence entries (10 Table 10-1) -/

/-- STATE codes of Table 10-1. -/
def SeqMode.code : SeqMode → Nat
  | .free => 0 | .waiting => 1 | .prefill => 2 | .decode => 3 | .paused => 4 | .closing => 5 | .lost => 6

/-- FLAGS of Table 10-1. -/
def Sequence.flags (x : Sequence) : Nat := b2n x.autoDecode + 2 * b2n (x.inFlight != 0) + 4 * b2n x.kvWait

/-- The 512 bytes of an entry. -/
def Sequence.bytes (x : Sequence) : List Byte :=
  let queue := (x.appends.take 4).flatMap fun a => leBytes 8 a.address ++ leBytes 4 a.count ++ leBytes 4 a.done
  leBytes 1 x.mode.code ++ leBytes 1 x.flags ++ leBytes 1 x.priority ++ leBytes 1 x.endReason ++ leBytes 4 x.kit ++
    leBytes 2 x.context ++ leBytes 1 x.partition ++ leBytes 1 x.appends.length ++ leBytes 4 x.position ++
    leBytes 4 x.pending ++ leBytes 4 x.generated ++ leBytes 4 x.genLimit ++ leBytes 2 x.stepInterval ++ zeros 2 ++
    leBytes 8 x.nextDue ++ leBytes 8 x.outCount ++ leBytes 4 x.chime ++ leBytes 4 x.slipped ++ leBytes 8 x.output ++
    leBytes 4 x.outputLen ++ leBytes 4 x.pages.length ++ leBytes 8 x.seed ++
    leBytes 8 ((x.appends.head?.map (·.beat)).getD (Config.noAppendBeat x.position).toNat) ++ zeros 40 ++ padTo 64 queue ++ zeros 64 ++
    padTo 128 x.lastResult ++ zeros 128

/-- A Sequence is open (10 Table 10-2). -/
def Sequence.isOpen (x : Sequence) : Bool :=
  x.mode == .waiting || x.mode == .prefill || x.mode == .decode || x.mode == .paused

/-- A composed or held step of a Sequence that has not launched. -/
def State.composedStep (s : State) (x : Sequence) (q : Nat) : Bool :=
  (s.kit x.kit).any fun k =>
    k.composed.any (fun c => c.steps.any (·.seq == q)) || k.queued.any (fun c => c.steps.any (·.seq == q))

/-- Work of a Sequence is in flight, or composed for the coming launch (10 R240, R241 (a)). -/
def State.seqBusy (s : State) (q : Nat) : Bool :=
  (s.seq q).any fun x => x.inFlight != 0 || s.composedStep x q

/-- A Sequence becomes FREE: its pages and map blocks are freed; appends that no chunk has finished complete with
ST_SEQ_CLOSED, a SEQ_CLOSE that waits with ST_OK (10 Table 10-2, Table 10-3). -/
def State.freeSeq (s : State) (q : Nat) : State :=
  match s.seq q with
  | none => s
  | some x =>
    let s1 := (s.freePages q 0)
    let s2 := { s1 with
      sequences := terase s1.sequences q
      kits := tmod s1.kits x.kit fun k => { k with results := k.results.filter (·.step.seq != q) } }
    let s3 := x.appends.foldl (fun s a => s.completeId a.command stSeqClosed 0 0) s2
    s3.completeWhere fun c => c.wait == .seqClose q

/-! ### Naming (10 R241) -/

/-- The queue reaches Sequences of a partition: its own, or every one from the device's partition 0. -/
def Call.reaches (c : Call) (p : Nat) : Bool := c.partition == p || (c.physical && c.partition == 0)

/-- The Kit whose range holds entry `q` (10 R238). -/
def State.rangeKit (s : State) (q : Nat) : Option Kit :=
  (s.kits.find? fun k => k.2.placement.any fun p => decide (p.seqBase ≤ q) && decide (q < p.seqBase + p.seqCount)).map (·.2)

/-- The refusals of the Sequence in parameter 0 (10 R241 (b), (c)). -/
def Call.seqNamed (c : Call) (s : State) : List (Bool × Verdict) :=
  let k := s.rangeKit (c.arg 0)
  [(!(k.any fun k => c.reaches k.partition), c.bad 0)]

/-- The refusals of a peal Kit's Sequence away from the head, and of a lost Context. -/
def Call.seqHeld (c : Call) (s : State) (lostOk : Bool) : List (Bool × Verdict) :=
  let k := s.rangeKit (c.arg 0)
  [(!lostOk && (s.seq (c.arg 0)).any (fun x => x.mode == .lost || s.lostContext x.context), plain stContextLost),
   (k.any (fun k => !(s.isHead k)), s.roleConflict ((k.map s.headOf).getD 0))]

/-- ST_STATE_CONFLICT with STATE and FLAGS of a Sequence (11 Table 11-4). -/
def State.seqConflict (s : State) (q : Nat) : Verdict :=
  match s.seq q with
  | some x => s.conflict 6 (x.mode.code + x.flags * 256)
  | none => s.conflict 6 0

/-- The Sequence is in no state that accepts the command. -/
def Call.seqMode (c : Call) (s : State) (ok : Sequence → Bool) : List (Bool × Verdict) :=
  [(!((s.seq (c.arg 0)).any ok), s.seqConflict (c.arg 0))]

/-- An accepted command for a Sequence of a peal Kit goes into the next batch (10 R241 (b)). -/
def State.forwarded (s : State) (kit : Nat) (c : Call) : State :=
  if isPealKit kit then
    s.modKit kit fun k => { k with forward := k.forward ++ [{ opcode := opcodeOf c.cmd.op, params := c.cmd.packet.params }] }
  else s

/-- The same for the Kit of the Sequence in parameter 0. -/
def State.forwardedSeq (s : State) (c : Call) : State :=
  match s.seq (c.arg 0) with
  | some x => s.forwarded x.kit c
  | none => s

/-! ### Commands (10 Tables 10-2, 10-3) -/

/-- Length limit of a Kit's Sequences (10 R242). -/
def SeqPolicy.limit (p : SeqPolicy) : Nat := if p.topPages = 0 then p.denseLimit else 1048576

/-- The lowest FREE Sequence in the range of the Kit that a SEQ_OPEN names (10 R240). -/
def Call.freeSequence (c : Call) (s : State) : Option Nat :=
  ((s.kit (c.arg 0)).bind (·.placement)).bind fun pl => firstFrom (fun i => (s.seq i).isNone) pl.seqBase pl.seqCount

/-- The Sequence that a SEQ_OPEN makes. -/
def Call.newSequence (c : Call) (s : State) : Sequence :=
  let k := s.kit (c.arg 0)
  { mode := .waiting, autoDecode := c.arg 4 == 1, inFlight := 0, kvWait := false, priority := c.arg 1, endReason := 0
    kit := c.arg 0, context := (k.map (·.context)).getD 65535, partition := (k.map (·.partition)).getD c.partition
    position := 0, pending := 0, generated := 0, genLimit := c.arg 3, stepInterval := c.arg 2, nextDue := 0, outCount := 0
    chime := c.arg 5, slipped := 0, output := c.arg 6, outputLen := c.arg 7, seed := c.arg 8, appends := []
    lastResult := zeros 128, pages := [], mapBlocks := [], epoch := 0 }

/-- The refusals of SEQ_OPEN (10 Table 10-2). -/
def seqOpenRefusals (c : Call) (s : State) : List (Bool × Verdict) :=
  let kit := c.arg 0
  let (prio, interval, auto) := (c.arg 1, c.arg 2, c.arg 4)
  let (chime, out, len) := (c.arg 5, c.arg 6, c.arg 7)
  let k := s.kit kit
  let p := (k.map (·.partition)).getD c.partition
  let lenGood := decide (1 ≤ len) && decide (len ≤ 65536)
  let stepping := k.any fun x => x.mode == .admitted && x.placement.any (·.batch.isSome)
  [(!(kitIdGood kit) || k.any (fun x => !(c.reaches x.partition)), c.bad 0), (decide (7 < prio), c.bad 1),
    (interval == 0, c.bad 2), (decide (1 < auto), c.bad 4),
    (decide (2 ^ 22 ≤ chime) || k.any (fun x => decide (x.chimeCount ≤ chime)), c.bad 5),
    (out % 128 != 0 || !(s.inScratch p out (if lenGood then 128 * len else 128)), c.bad 6), (!lenGood, c.bad 7)] ++
   c.kitLost s ++
   [(k.any (fun x => !(s.isHead x)), s.roleConflict ((k.map s.headOf).getD 0)),
    (!stepping, s.conflict 5 (s.kitCode kit)), ((c.freeSequence s).isNone, plain stSeqFull)]

/-- SEQ_OPEN. -/
def seqOpenEffect (c : Call) (s : State) : Verdict :=
  let q := (c.freeSequence s).getD 0
  guards (seqOpenRefusals c s)
    (.done ((({ s with sequences := tset s.sequences q (c.newSequence s) }).writeMap q).forwarded (c.arg 0) c) q)

/-- An append is queued (10 Table 10-2). -/
def Sequence.addAppend (x : Sequence) (address count beat command : Nat) : Sequence :=
  { x with
    appends := x.appends ++ [{ address, count, done := 0, beat, command }]
    pending := x.pending + count
    generated := 0
    epoch := x.epoch + 1
    endReason := if x.mode = .decode then 4 else x.endReason
    mode := .prefill }

/-- SEQ_APPEND: it completes when the last chunk of the array has retired. -/
def seqAppendEffect (c : Call) (s : State) : Verdict :=
  let (q, a, n) := (c.arg 0, c.arg 1, c.arg 2)
  let k := s.rangeKit q
  let p := (k.map (·.partition)).getD c.partition
  let nGood := decide (1 ≤ n) && decide (n ≤ 1048576)
  let limit := (k.map (·.seqPolicy.limit)).getD 0
  let tooLong := (s.seq q).any fun x => decide (limit < x.position + x.pending + n)
  guards
    (c.seqNamed s ++ [(a % 4 != 0 || !(s.inScratch p a (if nGood then 4 * n else 4)), c.bad 1), (!nGood, c.bad 2)] ++
     c.seqHeld s false ++
     c.seqMode s (fun x => (x.mode == .waiting || x.mode == .prefill || x.mode == .decode) &&
       (decide (x.appends.length < 4) || tooLong)) ++
     [(tooLong, plain stSeqLimit)])
    (.defer ((s.modSeq q fun x => x.addAppend a n s.beat.number c.cmd.id).forwardedSeq c) (.append q) 0)

/-- SEQ_SET. -/
def seqSetEffect (c : Call) (s : State) : Verdict :=
  guards
    (c.seqNamed s ++ [(decide (7 < c.arg 1), c.bad 1), (c.arg 2 == 0, c.bad 2), (decide (1 < c.arg 4), c.bad 4)] ++
     c.seqHeld s false ++ c.seqMode s Sequence.isOpen)
    (.done ((s.modSeq (c.arg 0) fun x =>
      { x with priority := c.arg 1, stepInterval := c.arg 2, genLimit := c.arg 3, autoDecode := c.arg 4 == 1 }).forwardedSeq c) 0)

/-- SEQ_PAUSE. -/
def seqPauseEffect (c : Call) (s : State) : Verdict :=
  guards (c.seqNamed s ++ c.seqHeld s false ++
      c.seqMode s fun x => x.mode == .waiting || x.mode == .prefill || x.mode == .decode)
    (.done ((s.modSeq (c.arg 0) fun x => { x with mode := .paused }).forwardedSeq c) 0)

/-- SEQ_RESUME. -/
def seqResumeEffect (c : Call) (s : State) : Verdict :=
  let next (x : Sequence) : SeqMode :=
    if 0 < x.pending then .prefill else if x.autoDecode ∧ x.endReason = 0 then .decode else .waiting
  guards (c.seqNamed s ++ c.seqHeld s false ++ c.seqMode s fun x => x.mode == .paused)
    (.done ((s.modSeq (c.arg 0) fun x => { x with mode := next x }).forwardedSeq c) 0)

/-- SEQ_TRUNCATE (10 R244 (d)). -/
def seqTruncateEffect (c : Call) (s : State) : Verdict :=
  let (q, t) := (c.arg 0, c.arg 1)
  guards
    (c.seqNamed s ++ [((s.seq q).any (fun x => decide (x.position ≤ t)), c.bad 1)] ++ c.seqHeld s false ++
     c.seqMode s fun x => (x.mode == .waiting || x.mode == .paused) && !(s.seqBusy q) && x.pending == 0)
    (.done (((s.freePages q (ceilDiv t 64)).modSeq q fun x =>
      { x with position := t }).forwardedSeq c) 0)

/-- SEQ_CLOSE: at once, or when the last work in flight has retired. -/
def seqCloseEffect (c : Call) (s : State) : Verdict :=
  let q := c.arg 0
  guards (c.seqNamed s ++ c.seqHeld s true ++ c.seqMode s fun x => x.isOpen || x.mode == .lost)
    (let s1 := s.forwardedSeq c
     if (s.seq q).any (·.mode == .lost) || !(s.seqBusy q) then .done (s1.freeSeq q) 0
     else .defer (s1.modSeq q fun x => { x with mode := .closing }) (.seqClose q) 0)

/-- SEQ_QUERY: the 512-byte entry, zeros for a FREE one. -/
def seqQueryEffect (c : Call) (s : State) : Verdict :=
  guards (c.seqNamed s ++ [(c.blockBad s 1 512 128, c.bad 1)] ++ c.seqHeld s false ++
      [(c.domainDown s 1, plain stCoherentDown)])
    (c.result s 1 (match s.seq (c.arg 0) with | some x => x.bytes | none => zeros 512))

/-- Free tier-2 units by pair that summary objects of a Kit would take: whole free granules of each pair of its pool
(10 R255). -/
def summaryGranules (slots : Nat) : Nat := ceilDiv (tiledFootprint slots) (2 ^ 30)

/-- The granules for the summary objects of a Kit's pool, or none if a pair lacks them (10 R254 (d), R255). -/
def State.summaryRoom (s : State) (p : Nat) : List PoolPair → Option (List (List Nat))
  | [] => some []
  | x :: r =>
    let free := s.freePairGranules p x.pair
    let n := summaryGranules x.slots
    if free.length < n then none else (s.summaryRoom p r).map ((free.take n) :: ·)

/-- The summary object of a pair is made: one tile for each slot, confined to the pair (10 R255, R243). -/
def State.makeSummary (s : State) (k : Kit) (x : PoolPair) (granules : List Nat) : State × PoolPair :=
  let i := s.freeObject
  let starts := granules.map fun g => g % 102 * 2 ^ 30
  let units := (List.range (ceilDiv x.slots 32)).map fun u =>
    let perGranule := 2 ^ 30 / unitBytes
    ({ pair := x.pair, base := starts.getD (u / perGranule) 0 + u % perGranule * unitBytes } : Extent)
  let o : Object :=
    { generation := nextGeneration (s.lastGeneration i), footprint := tiledFootprint x.slots, tiles := x.slots,
      mode := .bound, tiled := true, pool := false, summary := true, unreadable := false, context := 65535,
      partition := k.partition, firstPair := ((s.pairsOf k.partition).findIdx? (· == x.pair)).getD 0, pairs := [x.pair],
      bindings := 1, marked := false, units, granules }
  ({ (s.zeroUnits units) with objects := tset s.objects i o }, { x with summaryHandle := o.handle i })

/-- The summary objects of a Kit's pool are released. -/
def State.dropSummaries (s : State) (kit : Nat) : State :=
  match (s.kit kit).bind (·.placement) with
  | none => s
  | some p =>
    let s1 := p.pool.foldl (fun s x => match s.objectOf x.summaryHandle with
      | some (i, _) => s.releaseObject i
      | none => s) s
    s1.modKit kit fun k =>
      { k with placement := k.placement.map fun p => { p with pool := p.pool.map fun x => { x with summaryHandle := 0 } } }

/-- The summary objects of a Kit's pool are made, if it has none. -/
def State.raiseSummaries (s : State) (kit : Nat) : State :=
  match s.kit kit with
  | none => s
  | some k =>
    match k.placement with
    | none => s
    | some p =>
      if p.pool.any (·.summaryHandle != 0) then s
      else
        let rooms := (s.summaryRoom k.partition p.pool).getD []
        let r := (p.pool.zip rooms).foldl (fun (a : State × List PoolPair) x =>
          let m := a.1.makeSummary k x.1 x.2
          (m.1, a.2 ++ [m.2])) (s, [])
        r.1.modKit kit fun k => { k with placement := k.placement.map fun p => { p with pool := r.2 } }

/-- The header of a Kit's sequence area is written as its placement stands. -/
def State.rewriteArea (s : State) (kit : Nat) : State :=
  match s.kit kit with
  | none => s
  | some k => match k.placement with
    | some p => s.writeArea k p
    | none => s

/-- The policy that a SEQ_POLICY sets (10 R254). -/
def Call.seqPolicy (c : Call) : SeqPolicy :=
  { denseLimit := c.arg 1, sinkPages := c.arg 2, recentPages := c.arg 3, topPages := c.arg 4, heads := c.arg 5, dims := c.arg 6,
    chunkMax := c.arg 7, slipLimit := c.arg 8 }

/-- The refusals of SEQ_POLICY (10 R254). -/
def seqPolicyRefusals (c : Call) (s : State) : List (Bool × Verdict) :=
  let kit := c.arg 0
  let k := s.kit kit
  let p := k.bind (·.placement)
  let tokens := ((p.bind (·.batch)).map (·.2)).getD (2 ^ 32)
  let (dense, sink, recent, top) := (c.arg 1, c.arg 2, c.arg 3, c.arg 4)
  let (heads, dims, chunk) := (c.arg 5, c.arg 6, c.arg 7)
  let total := sink + recent + top
  let sparse := top != 0
  let openSeqs := (s.kitSeqs kit).any fun e => e.2.isOpen
  let critical := (p.map (·.decodeCritical)).getD 0
  let m := (p.map (·.margin)).getD 0
  let hasSummaries := p.any fun p => p.pool.any (·.summaryHandle != 0)
  let room := hasSummaries || (match k, p with
    | some x, some p => (s.summaryRoom x.partition p.pool).isSome
    | _, _ => true)
  [(!(kitIdGood kit) || k.any (fun x => !(c.reaches x.partition)), c.bad 0),
    (dense % 64 != 0 || decide (tokens < dense) || (sparse && decide (dense < 64 * total)), c.bad 1),
    (sparse && decide (511 < total), c.bad 2), (sparse && recent == 0, c.bad 3),
    (sparse && decide (1024 < heads * dims), c.bad 5),
    (chunk == 0 || decide (4096 < chunk) || (sparse && decide (64 * recent < chunk)), c.bad 7)] ++ c.kitLost s ++
   [(k.any (fun x => !(s.isHead x)), s.roleConflict ((k.map s.headOf).getD 0)),
    (!(k.any fun x => x.mode == .admitted) || openSeqs, s.conflict 5 (s.kitCode kit)),
    (sparse && decide (s.beat.period < 100 + critical + m + s.buildLen), .refuse stNoFit 4 0),
    (sparse && !room, .refuse stNoFit 3 0)]

/-- SEQ_POLICY (10 R254). -/
def seqPolicyEffect (c : Call) (s : State) : Verdict :=
  let kit := c.arg 0
  guards (seqPolicyRefusals c s)
    (let s1 := s.modKit kit fun x => { x with seqPolicy := c.seqPolicy }
     let s2 := if c.arg 4 ≠ 0 then s1.raiseSummaries kit else s1.dropSummaries kit
     .done ((s2.rewriteArea kit).forwarded kit c) 0)

end Sys2Proof.Machine
end

