-- ==== Sys2Proof/Machine/StepBuilder.lean ====
section
/-!
DEFINITION. The step builder: results, the walk, block-sparse selections, step tables, and what a retired list of steps leaves
(10 R240, R247 to R258).
-/
namespace Sys2Proof.Machine
open Sys2Proof

/-! ### Scores and selections (10 R255, R256, R258) -/

/-- A bfloat16 element at byte `at_` of a tile or hint. -/
def bf16At (b : List Byte) (at_ : Nat) : Elem := decodeElem 3 (field b at_ 2)

/-- The product of a hint element and a key element. -/
def scoreProduct (a b : Elem) : Product := { a, b, sa := some 0, sb := some 0 }

/-- The greater of two products; a product that is no number prevails (10 R256). -/
def Product.greater (p q : Product) : Product :=
  if p.isNaN then p else if q.isNaN then q
  else match p.infSign, q.infSign with
    | some false, _ => p
    | _, some false => q
    | some true, _ => q
    | _, some true => p
    | none, none => if p.units < q.units then q else p

/-- score of 10 R256, as binary32 bits. -/
def score (hint summary : List Byte) (heads dims : Nat) : Nat :=
  chunkValue ((List.range (heads * dims)).map fun i =>
    (scoreProduct (bf16At hint (2 * i)) (bf16At summary (2 * i))).greater
      (scoreProduct (bf16At hint (2 * i)) (bf16At summary (2048 + 2 * i))))

/-- Rank of a page in a selection: a failed summary above every score, a NaN below. -/
inductive PageRank where
  | failed | value (bits : Nat) | nan
deriving DecidableEq, Repr

/-- The rank of a binary32 score. -/
def pageRank (bits : Nat) : PageRank :=
  match binary32.decode bits with
  | .nan _ => .nan
  | _ => .value bits

/-- Rank `a` comes strictly before rank `b`. -/
def PageRank.above : PageRank → PageRank → Bool
  | .failed, .failed => false
  | .failed, _ => true
  | _, .failed => false
  | .nan, _ => false
  | .value _, .nan => true
  | .value x, .value y => fpLess binary32 false y x

/-- The summary of a page slice as a score unit reads it: status, payload (10 R253). -/
def State.summaryRead (s : State) (pool : List PoolPair) (slice_ : Nat) : Nat × List Byte :=
  match pool.find? (·.pair == slice_ / 2 ^ 28) with
  | none => (stTileUntagged, zeros 4096)
  | some x =>
    match s.objectOf x.summaryHandle with
    | none => (stTileUntagged, zeros 4096)
    | some (i, o) =>
      let k := slice_ % 2 ^ 28
      let payload := s.objRead2 o (tileOffset k) 4096
      let tag := s.objTag2 o k
      let w := o.locate (tagOffset o.tiles k)
      let bad := (o.codeWords (tileOffset k) 4096).any (fun c => s.poisoned2 c.1 c.2) || s.poisoned2 w.1 w.2
      (tileOutcome bad (s.tilePending i k) 3 payload tag, payload)

/-- A failed summary is counted and logged with its status (10 R256 (d)). -/
def State.summaryFailed (s : State) (kit slice_ status : Nat) : State :=
  let s1 := (s.logEvent 0x02 0 0xFF (slice_ / 2 ^ 28) status slice_ 0xFF 0xFF).modKit kit fun k =>
    { k with summaryFail := k.summaryFail + 1 }
  { s1 with win := { s1.win with summaryFail := s1.win.summaryFail + 1 } }

/-- The selection of a sparse step (10 R256): pages ascending, and the state with failed summaries counted. -/
def State.select (s : State) (k : Kit) (p : Placement) (q : Nat) (x : Sequence) (last : Nat) : State × List Nat :=
  let pol := k.seqPolicy
  let top := last / 64
  let sinks := List.range (min pol.sinkPages (top + 1))
  let recent := (List.range (top + 1)).filter fun j => decide (top < j + pol.recentPages)
  let others := (x.pages.map (·.1)).filter fun j => decide (j ≤ top) && !(sinks.contains j) && !(recent.contains j)
  let hint := s.readT1 (k.seqSlot p q + 2048) 2048
  let ranked := others.map fun j =>
    let r := s.summaryRead p.pool ((tget x.pages j).getD 0)
    (j, if r.1 = stOk then pageRank (score hint r.2 pol.heads pol.dims) else PageRank.failed, r.1)
  let order := sortBy (fun a b => !(b.2.1.above a.2.1)) ranked
  let best := (order.take pol.topPages).map (·.1)
  let s1 := (ranked.filter fun r => r.2.2 != stOk).foldl (fun s r =>
    s.summaryFailed k.id ((tget x.pages r.1).getD 0) r.2.2) s
  (s1, (List.range (top + 1)).filter fun j => sinks.contains j || recent.contains j || best.contains j)

/-- Payload of a selection tile (10 R258). -/
def selectionBytes (pages : List (Nat × Nat)) (sel : List Nat) (positions : Nat) : List Byte :=
  let full := (sel.map fun j => min 64 (positions - 64 * j)).sum
  padTo 4096 (leBytes 4 sel.length ++ leBytes 4 full ++
    sel.flatMap fun j => leBytes 4 j ++ leBytes 4 ((tget pages j).getD 0xFFFFFFFF))

/-- Address of selection tile `t` of a Kit (10 Table 10-4). -/
def Kit.selectionTile (k : Kit) (p : Placement) (t : Nat) : Nat := k.areaBase p + 4096 + 512 * p.stepSlots + t * 4096

/-- The selection tile of a step is published in tier 1 by the score unit of the pool's lowest pair (10 R257, R258). -/
def State.publishSelection (s : State) (k : Kit) (p : Placement) (st : StepDesc) : State :=
  match s.seq st.seq with
  | none => s
  | some x =>
    let payload := selectionBytes x.pages st.selection (st.position + st.tokens)
    let unit := ((p.pool.map (·.pair)).foldl min 15)
    let t : Tag := { crc := 0, version := 0, format := 3, flags := 1, producer := BitVec.ofNat 32 (5 * 2 ^ 28 + unit) }
    let t1 := { t with crc := tileCrcOf payload t }
    let a := s.spreadMap (k.selectionTile p st.select)
    { s with mem := s.mem.publish (a / 4096) payload t1 }

/-! ### Step tables (10 R250) -/

/-- The 128 bytes of a step descriptor (10 Table 10-6). -/
def StepDesc.bytes (d : StepDesc) : List Byte :=
  leBytes 4 d.seq ++ leBytes 1 d.kind ++ leBytes 1 (b2n d.produces + 2 * b2n d.sparse) ++ leBytes 2 d.tokens ++
    leBytes 4 d.position ++ leBytes 4 d.attend ++ leBytes 8 d.input ++ leBytes 4 d.summaryFirst ++
    leBytes 2 d.summaryCount ++ leBytes 2 d.select ++ leBytes 8 d.seed ++ leBytes 4 d.slot ++ zeros 84

/-- Address of slot `i` of a step table. -/
def Kit.stepSlot (k : Kit) (p : Placement) (table i : Nat) : Nat :=
  k.areaBase p + 4096 + (table * p.stepSlots + i) * 256

/-- The step table of a list is written: descriptors in list order, their result records zero. -/
def State.writeSteps (s : State) (k : Kit) (p : Placement) (table : Nat) (steps : List StepDesc) : State :=
  ((List.range steps.length).zip steps).foldl (fun s e => s.writeT1 (k.stepSlot p table e.1) (e.2.bytes ++ zeros 128)) s

/-! ### The walk (10 R247 to R249) -/

/-- attended of 10 R247. -/
def attended (pol : SeqPolicy) (position t : Nat) : Nat × Bool :=
  if 0 < pol.topPages ∧ pol.denseLimit < position + t then
    (64 * (pol.sinkPages + pol.recentPages + pol.topPages), true)
  else (position + t, false)

/-- The work of a list's steps for its critical path (03 Table 3-6, 10 R249). -/
def stepWork (steps : List StepDesc) : Work :=
  let base (d : StepDesc) : Nat := if d.kind = 1 ∨ d.sparse then d.attend else d.position
  { rows := (steps.map (·.tokens)).sum, reads := (steps.map base).sum,
    attended := (steps.map fun d => d.tokens * base d).sum, tokens := (steps.map (·.tokens)).sum }

/-- Critical path of a list of steps in units of 10 ns. -/
def State.listTime (s : State) (k : Kit) (p : Placement) (steps : List StepDesc) : Nat :=
  match k.load with
  | none => 0
  | some l => (s.stepPath l (k.share l) p.tensors p.pool.length (s.directCores k) p.percentile (s.handoffReach k) (stepWork steps)).units

/-- The bound of 10 R249 on a list with chunks, by the next beat's period and GUARD. -/
def State.chunkBound (s : State) (k : Kit) (p : Placement) : Nat :=
  let b := p.decodeCritical + p.prefillBudget
  if 0 < k.seqPolicy.topPages then min b (s.beat.period - s.buildLen - 100 - p.margin) else b

/-- The first page whose summary a step publishes, and how many (10 R255). -/
def summariesOf (pol : SeqPolicy) (position tokens : Nat) : Nat × Nat :=
  let n := (position + tokens) / 64 - position / 64
  if pol.topPages = 0 ∨ n = 0 then (0xFFFFFFFF, 0) else (position / 64, n)

/-- A step as the walk composes it, without pages or selection. -/
def stepOf (k : Kit) (p : Placement) (q : Nat) (x : Sequence) (kind t : Nat) : StepDesc :=
  let a := attended k.seqPolicy x.position t
  let sums := summariesOf k.seqPolicy x.position t
  let ap := x.appends.find? fun a => decide (a.done < a.count)
  let chunk := kind == 2
  { seq := q, kind, produces := !chunk || ap.any (fun a => a.done + t == a.count), sparse := a.2, tokens := t,
    position := x.position, attend := a.1,
    input := if chunk then (ap.map fun a => a.address + 4 * a.done).getD 0 else field x.lastResult 0 4,
    summaryFirst := sums.1, summaryCount := sums.2, select := 0xFFFF, seed := x.seed, slot := q - p.seqBase, pages := [],
    selected := !a.2, selection := [], lastOfAppend := chunk && ap.any (fun a => a.done + t == a.count),
    append := if chunk then (ap.map (·.command)).getD 0 else 0, epoch := x.epoch, launched := none }

/-- A list as the walk has it: the state, its steps, attended tokens of its decode steps, sparse steps so far. -/
structure Walk where
  s : State
  steps : List StepDesc
  attended : Nat
  stop : Bool

/-- Sparse steps of a list. -/
def Walk.sparse (w : Walk) : Nat := (w.steps.filter (·.sparse)).length

/-- add_step of 10 R247: POSITION, PENDING and the append advance; a sparse step forms its selection. -/
def Walk.add (w : Walk) (k : Kit) (p : Placement) (n : Nat) (d : StepDesc) (pages : List (Nat × Nat)) : Walk :=
  let s1 := w.s.modSeq d.seq fun x =>
    { x with
      position := d.position + d.tokens
      pending := if d.kind = 2 then x.pending - d.tokens else x.pending
      appends := if d.kind = 2 then x.appends.map fun a =>
        if a.command = d.append then { a with done := a.done + d.tokens } else a else x.appends }
  let d1 := { d with pages }
  if d.sparse then
    match s1.seq d.seq with
    | some x =>
      let r := s1.select k p d.seq x (d.position + d.tokens - 1)
      { w with s := r.1, steps := w.steps ++ [{ d1 with select := 64 * (n % 2) + w.sparse, selection := r.2 }] }
    | none => w
  else { w with s := s1, steps := w.steps ++ [d1] }

/-- Room in the step table, and for a sparse step in the selection tiles (10 R245, R258). -/
def Walk.room (w : Walk) (p : Placement) (sparse : Bool) : Bool :=
  decide (w.steps.length < p.stepSlots) && (!sparse || decide (w.sparse < 64))

/-- A decode candidate is tried (10 R247). -/
def Walk.tryDecode (w : Walk) (k : Kit) (p : Placement) (n limit tokens : Nat) (q : Nat) : Walk :=
  if limit ≤ w.steps.length then w
  else match w.s.seq q with
    | none => w
    | some x =>
      let d := stepOf k p q x 1 1
      if tokens < w.attended + d.attend ∨ !(w.room p d.sparse) then w
      else
        let r := w.s.pagesReady k q x.position 1
        match r.2 with
        | none => { w with s := r.1 }
        | some pages => { ({ w with s := r.1 }).add k p n d pages with attended := w.attended + d.attend }

/-- chunk_size of 10 R249; 0 where nothing fits. -/
def Walk.chunkSize (w : Walk) (k : Kit) (p : Placement) (q : Nat) (x : Sequence) : Nat :=
  let left := (x.appends.find? fun a => decide (a.done < a.count)).map fun a => a.count - a.done
  let r := min (left.getD 0) k.seqPolicy.chunkMax
  let sizes := r :: ((List.range ((r + 15) / 16)).reverse.map (· * 16)).filter fun c => decide (0 < c) && decide (c < r)
  let fits (c : Nat) : Bool :=
    let steps := w.steps ++ [stepOf k p q x 2 c]
    let wk := stepWork steps
    decide (w.s.listTime k p steps ≤ w.s.chunkBound k p) &&
      (!(isPealKit k.id) || decide ((w.s.pipeline k).length ≤ 1) ||
        Config.membersFit k.id wk.rows wk.reads wk.attended)
  ((sizes.filter fun c => decide (0 < c)).find? fits).getD 0

/-- A prefill candidate is tried (10 R247, R249). -/
def Walk.tryChunk (w : Walk) (k : Kit) (p : Placement) (n q : Nat) : Walk :=
  if w.stop then w
  else match w.s.seq q with
    | none => w
    | some x =>
      let c := w.chunkSize k p q x
      if c = 0 then { w with stop := true }
      else
        let d := stepOf k p q x 2 c
        if !(w.room p d.sparse) then w
        else
          let r := w.s.pagesReady k q x.position c
          match r.2 with
          | none => { w with s := r.1 }
          | some pages => ({ w with s := r.1 }).add k p n d pages

/-- Decode candidates in beat `n`, in order (10 R248). -/
def State.decodeCandidates (s : State) (k : Kit) (n : Nat) : List Nat :=
  let c := (s.kitSeqs k.id).filter fun e =>
    e.2.mode == .decode && e.2.inFlight == 0 && decide (e.2.nextDue ≤ n) && !(s.composedStep e.2 e.1)
  let before (a b : Nat × Sequence) : Bool :=
    if a.2.nextDue ≠ b.2.nextDue then decide (a.2.nextDue < b.2.nextDue)
    else if a.2.priority ≠ b.2.priority then decide (b.2.priority < a.2.priority) else decide (a.1 ≤ b.1)
  (sortBy before c).map (·.1)

/-- Beat of the oldest append with tokens left. -/
def Sequence.appendBeat (x : Sequence) : Nat := ((x.appends.find? fun a => decide (a.done < a.count)).map (·.beat)).getD 0

/-- Prefill candidates, in order (10 R249). -/
def State.prefillCandidates (s : State) (k : Kit) : List Nat :=
  let c := (s.kitSeqs k.id).filter fun e => e.2.mode == .prefill && decide (0 < e.2.pending)
  let before (a b : Nat × Sequence) : Bool :=
    if a.2.priority ≠ b.2.priority then decide (b.2.priority < a.2.priority)
    else if a.2.appendBeat ≠ b.2.appendBeat then decide (a.2.appendBeat < b.2.appendBeat) else decide (a.1 ≤ b.1)
  (sortBy before c).map (·.1)

/-! ### Results (10 R251) -/

/-- Why decoding stops after a result: END_REASON, 0 to go on (10 Table 10-2). -/
def Sequence.verdict (x : Sequence) (limit : Nat) (record : List Byte) : Nat :=
  let flags := field record 4 1
  if !(bit flags 0) then 5 else if bit flags 1 then 1
  else if x.genLimit ≠ 0 ∧ x.genLimit ≤ x.generated then 2
  else if limit ≤ x.position then 3 else 0

/-- A Sequence after a result that decoding goes by: `last` for the result of the last chunk of its last append. -/
def Sequence.applied (x : Sequence) (limit n launched : Nat) (last : Bool) (record : List Byte) : Sequence :=
  let x1 := { x with lastResult := record, generated := x.generated + 1 }
  if last && !x.autoDecode then
    { x1 with mode := if x.mode = .paused then .paused else .waiting }
  else
    let reason := x1.verdict limit record
    let due := if reason = 0 then max (launched + x.stepInterval) n else x.nextDue
    let x2 := { x1 with nextDue := due, endReason := reason }
    if x.mode = .paused ∨ x.mode = .waiting then x2
    else { x2 with mode := if reason = 0 then .decode else .waiting }

/-- A result is applied at the walk for beat `n` (10 R251, Table 10-2): not to a CLOSING or LOST Sequence, nor a decode step's
after a later append; the result of a chunk that is not the last of the last append changes no state. -/
def State.applyResult (s : State) (limit n : Nat) (r : PendingResult) : State :=
  match s.seq r.step.seq with
  | none => s
  | some x =>
    if x.mode = .closing ∨ x.mode = .lost then s
    else
      let launched := r.step.launched.getD n
      let chunk := r.step.kind == 2
      if !chunk && r.step.epoch != x.epoch then s
      else
        let noResult := !(bit (field r.bytes 4 1) 0)
        let last := chunk && x.appends.isEmpty && x.pending == 0
        if chunk && !last then
          s.modSeq r.step.seq fun x => { x with lastResult := r.bytes, generated := x.generated + 1 }
        else
          let s1 := s.modSeq r.step.seq fun x => x.applied limit n launched last r.bytes
          if noResult && !(last && !x.autoDecode) then
            let s2 := s1.modKit x.kit fun k => { k with noResults := k.noResults + 1 }
            { s2 with win := { s2.win with noResultCount := s2.win.noResultCount + 1 } }
          else s1

/-- apply_results of a Kit, in arrival order. -/
def State.applyResults (s : State) (kit n : Nat) : State :=
  match s.kit kit with
  | none => s
  | some k =>
    let s1 := s.modKit kit fun k => { k with results := [] }
    k.results.foldl (fun s r => s.applyResult k.seqPolicy.limit n r) s1

/-! ### Composition and its undoing (02 R33, 10 R252, R257) -/

/-- A composed list is finished: its step table is written. -/
def State.finalise (s : State) (kit : Nat) : State :=
  match s.kit kit with
  | none => s
  | some k =>
    match k.composed, k.placement with
    | some c, some p =>
      if c.late ∨ !(c.steps.all (·.selected)) then s
      else (s.writeSteps k p c.table c.steps).modKit kit fun k => { k with composed := some { c with complete := true } }
    | _, _ => s

/-- A step is returned as if it had never been composed. -/
def State.undoStep (s : State) (d : StepDesc) : State :=
  match s.seq d.seq with
  | none => s
  | some x =>
    let s1 := if d.pages.isEmpty then s
      else s.setPages d.seq (x.pages.filter fun e => !(d.pages.any (·.1 == e.1)))
    s1.modSeq d.seq fun x =>
      { x with
        position := d.position
        pending := if d.kind = 2 then x.pending + d.tokens else x.pending
        appends := if d.kind = 2 then x.appends.map fun a =>
          if a.command = d.append then { a with done := a.done - d.tokens } else a else x.appends }

/-- The Context of a step's Sequence is told that it is late (11 Table 11-7). -/
def State.lateStep (s : State) (ctx cause handle tile station pair : Nat) : State :=
  s.notice (.context ctx) 0x0001 stOk ctx (cause + station * 2 ^ 8 + pair * 2 ^ 16) handle tile

/-- Each Context of a list's steps is told once that it is late. -/
def State.lateSteps (s : State) (steps : List StepDesc) (cause : Nat) : State :=
  let ctxs := (steps.filterMap fun d => (s.seq d.seq).map (·.context)).foldl addOnce []
  ctxs.foldl (fun s c => s.lateStep c cause 0 0 0xFF 0xFF) s

/-- A list that is not complete at its downbeat: its steps are undone, BUILD_SHORT counts it; a downstream member's batch
waits for the next BUILD (02 R33, 10 R252). -/
def State.buildShort (s : State) (kit : Nat) (c : Composed) : State :=
  let s1 := (s.lateSteps c.steps 1).modKit kit fun k => { k with composed := none, buildShort := k.buildShort + 1 }
  let s2 := { s1 with beat := { s1.beat with buildShort := s1.beat.buildShort + 1 } }
  let s3 := c.steps.reverse.foldl (fun s d => s.undoStep d) s2
  if (s.kit kit).any s.isHead then s3.modKit kit fun k => { k with forward := c.commands ++ k.forward }
  else s3.modKit kit fun k => { k with batches := { beat := c.beat, steps := c.steps, commands := [] } :: k.batches }

/-- A sequence command of a batch takes effect at a downstream member, which checks nothing (10 R241 (b)). -/
def State.applyForwarded (s : State) (kit : Nat) (f : ForwardedCommand) : State :=
  match s.kit kit with
  | none => s
  | some k =>
    let pk : Packet := { flags := 0, reserved := 0, chime := 0, chimeValue := 0, params := f.params }
    let a (op : Op) (i : Nat) : Nat := param op pk i
    match f.opcode with
    | 0x3000 =>
      match k.placement.bind fun pl => firstFrom (fun i => (s.seq i).isNone) pl.seqBase pl.seqCount with
      | none => s
      | some q =>
        let x : Sequence :=
          { mode := .waiting, autoDecode := a .seqOpen 4 == 1, inFlight := 0, kvWait := false, priority := a .seqOpen 1,
            endReason := 0, kit, context := k.context, partition := k.partition, position := 0, pending := 0,
            generated := 0, genLimit := a .seqOpen 3, stepInterval := a .seqOpen 2, nextDue := 0, outCount := 0,
            chime := a .seqOpen 5, slipped := 0, output := a .seqOpen 6, outputLen := a .seqOpen 7,
            seed := a .seqOpen 8, appends := [], lastResult := zeros 128, pages := [], mapBlocks := [], epoch := 0 }
        ({ s with sequences := tset s.sequences q x }).writeMap q
    | 0x3002 => s.modSeq (a .seqSet 0) fun x =>
        { x with priority := a .seqSet 1, stepInterval := a .seqSet 2, genLimit := a .seqSet 3,
                 autoDecode := a .seqSet 4 == 1 }
    | 0x3005 => (s.freePages (a .seqTruncate 0) (ceilDiv (a .seqTruncate 1) 64)).modSeq (a .seqTruncate 0) fun x =>
        { x with position := a .seqTruncate 1 }
    | 0x3006 => s.freeSeq (a .seqClose 0)
    | 0x3010 =>
      let pol : SeqPolicy :=
        { denseLimit := a .seqPolicy 1, sinkPages := a .seqPolicy 2, recentPages := a .seqPolicy 3,
          topPages := a .seqPolicy 4, heads := a .seqPolicy 5, dims := a .seqPolicy 6, chunkMax := a .seqPolicy 7,
          slipLimit := a .seqPolicy 8 }
      let s1 := s.modKit kit fun k => { k with seqPolicy := pol }
      (if pol.topPages = 0 then s1.dropSummaries kit else s1.raiseSummaries kit).rewriteArea kit
    | _ => s

/-- A downstream member composes its list from its oldest batch (10 R252 (b), (c)). -/
def State.composeBatch (s : State) (kit n : Nat) : State :=
  match s.kit kit with
  | none => s
  | some k =>
    match k.batches, k.placement with
    | b :: rest, some p =>
      let s1 := s.modKit kit fun k => { k with batches := rest }
      let s2 := b.commands.foldl (fun s f => s.applyForwarded kit f) s1
      let w := b.steps.foldl (fun (w : Walk) d =>
        match w.s.seq d.seq with
        | none => w
        | some x =>
          let r := w.s.pagesReady k d.seq d.position d.tokens
          let sums := summariesOf k.seqPolicy d.position d.tokens
          let d1 := { d with input := 0, summaryFirst := sums.1, summaryCount := sums.2, selected := !d.sparse,
                             slot := d.seq - p.seqBase, epoch := x.epoch, launched := none, append := 0 }
          ({ w with s := r.1 }).add k p n { d1 with kind := d.kind } (r.2.getD [])) { s := s2, steps := [], attended := 0, stop := false }
      let c : Composed := { beat := b.beat, table := n % 2, steps := w.steps, complete := false, late := false,
                            commands := b.commands }
      w.s.modKit kit fun k => { k with composed := some c }
    | _, _ => s

/-- walk of 10 R247 for one Kit, for beat `n`; a list whose walk does not end in time stays incomplete. -/
def State.walkKit (s : State) (n : Nat) (late : Bool) (kit : Nat) : State :=
  match s.kit kit with
  | none => s
  | some k =>
    match k.placement with
    | none => s
    | some p =>
      match p.batch with
      | none => s
      | some (decode, tokens) =>
        if k.mode ≠ .admitted then s
        else if s.frozenFor kit n then (if s.isHead k then s.applyResults kit n else s)
        else if !(s.isHead k) then
          let s1 := s.composeBatch kit n
          (s1.modKit kit fun k => { k with composed := k.composed.map fun c => { c with late } }).finalise kit
        else
          let s1 := s.applyResults kit n
          if k.heldFrom.isSome ∨ !k.queued.isEmpty then s1
          else
            let w0 : Walk := { s := s1, steps := [], attended := 0, stop := false }
            let w1 := (s1.decodeCandidates k n).foldl (fun w q => w.tryDecode k p n decode tokens q) w0
            let w2 := (w1.s.prefillCandidates k).foldl (fun w q => w.tryChunk k p n q) w1
            if w2.steps.isEmpty ∧ k.forward.isEmpty then w2.s
            else
              let c : Composed := { beat := n, table := n % 2, steps := w2.steps, complete := false, late,
                                    commands := k.forward }
              (w2.s.modKit kit fun k => { k with composed := some c, forward := [] }).finalise kit

/-! ### BUILD (02 R29, 10 R247, R257) -/

/-- BUILD_LEN of the next beat (02 R29). -/
def State.nextBuildLen (s : State) : Nat :=
  match s.beat.change with
  | some c => if c.effective = s.beat.number + 1 then Machine.buildLen c.period c.buildShare else s.buildLen
  | none => s.buildLen

/-- The instant of the next downbeat. -/
def State.nextDownbeat (s : State) : Nat := s.beat.start + s.beat.period

/-- BUILD of the next beat begins: a KIT_LAUNCH that was read by now is read before it. -/
def State.beginBuild (s : State) : State :=
  { s with
    beat := { s.beat with building := true }
    commands := s.commands.map fun (c : Command) => match c.wait with
      | .kitLaunch _ _ _ => { c with beforeBuild := true }
      | _ => c }

/-- STEP_BUILDER_WALK: BUILD of the next beat begins, and every Kit's list is composed (10 R247); the Kits of `late` are not
complete in time. -/
def State.stepBuilderWalk (s : State) (late : List Nat) : State :=
  if !s.beat.running || s.beat.building then s
  else
    let s2 := (s.clockTo (max s.beat.start (s.nextDownbeat - s.nextBuildLen))).beginBuild
    let n := s.beat.number + 1
    (s2.kits.map (·.1)).foldl (fun s k => s.walkKit n (late.contains k) k) s2

/-- SELECTION_PUBLISHED: the selection tile of a step is published (10 R257). -/
def State.selectionPublished (s : State) (kit q : Nat) : State :=
  match s.kit kit with
  | none => s
  | some k =>
    match k.composed, k.placement with
    | some c, some p =>
      match c.steps.find? fun d => d.seq == q && d.sparse && !d.selected with
      | none => s
      | some d =>
        let c1 := { c with steps := c.steps.map fun x => if x.seq = q then { x with selected := true } else x }
        ((s.publishSelection k p d).modKit kit fun k => { k with composed := some c1 }).finalise kit
    | _, _ => s

/-- At D(n) − 1 µs, steps whose selection is not published are removed, with every later step of their Sequence; at a
downstream member the list stays incomplete (10 R257). -/
def State.dropUnselected (s : State) (kit : Nat) : State :=
  match s.kit kit with
  | none => s
  | some k =>
    match k.composed with
    | none => s
    | some c =>
      if c.complete ∨ c.late ∨ !(s.isHead k) then s
      else
        let bad := (c.steps.filter fun d => !d.selected).map (·.seq)
        let gone := c.steps.filter fun d => bad.contains d.seq
        let n := (gone.filter fun d => !d.selected).length
        let s1 := (gone.filter fun d => !d.selected).foldl (fun s d => match s.seq d.seq with
          | some x => s.lateStep x.context 1 0 0 0xFF 0xFF
          | none => s) s
        let s2 := gone.reverse.foldl (fun s d => s.undoStep d) s1
        let s3 := { s2 with win := { s2.win with scoreLate := s2.win.scoreLate + n } }
        (s3.modKit kit fun k =>
          { k with scoreLate := k.scoreLate + n
                   composed := some { c with steps := c.steps.filter fun d => !(bad.contains d.seq) } }).finalise kit

/-- SELECTION_DEADLINE. -/
def State.selectionDeadline (s : State) : State :=
  if !s.beat.building then s
  else
    let s1 := s.clockTo (s.nextDownbeat - 100)
    (s1.kits.map (·.1)).foldl (fun s k => s.dropUnselected k) s1

/-! ### A list of steps has retired (10 R240, R251, R252) -/

/-- The result of a producing step on the member that holds the last layer (10 R251). -/
def State.stepResult (s : State) (k : Kit) (p : Placement) (table i : Nat) (d : StepDesc) : State :=
  match s.seq d.seq with
  | none => s
  | some x =>
    let a := k.stepSlot p table i + 128
    let r := s.readT1 a 128
    let rec1 := r.take 8 ++ leBytes 4 (d.position + d.tokens) ++ leBytes 4 d.seq ++ r.drop 16
    let s1 := (s.writeT1 a rec1).writeT1 (x.output + 128 * (x.outCount % x.outputLen)) rec1
    let s2 := s1.modSeq d.seq fun x => { x with outCount := x.outCount + 1 }
    let s3 := s2.issueSignal (k.chimeBase + x.chime) (BitVec.ofNat 64 (x.outCount + 1)) 0
    if s.isHead k then s3.modKit k.id fun k => { k with results := k.results ++ [{ step := d, bytes := rec1 }] } else s3

/-- A step of a Sequence is no longer in flight; a CLOSING Sequence without work in flight is freed (10 Table 10-2). -/
def State.stepDone (s : State) (q : Nat) : State :=
  let s1 := s.modSeq q fun x => { x with inFlight := x.inFlight - 1 }
  if (s1.seq q).any (fun x => x.mode == .closing && !(s1.seqBusy q)) then s1.freeSeq q else s1

/-- An append whose last chunk has retired leaves the queue; its command completes (10 Table 10-3). -/
def State.appendDone (s : State) (d : StepDesc) : State :=
  if d.lastOfAppend && d.append != 0 then
    (s.modSeq d.seq fun x => { x with appends := x.appends.filter (·.command != d.append) }).completeId d.append stOk 0 0
  else s

/-- This module holds the last layer of a Kit. -/
def State.isLast (s : State) (k : Kit) : Bool :=
  !(isPealKit k.id) || (s.pipeline k).getLast? == some s.peal.coordinate

/-- The steps of a retired list: appends end at the head, results are written on the last member, work leaves flight where the
head is the last member too (10 R240, R251). -/
def State.retireSteps (s : State) (l : WorkList) : State :=
  match s.kit l.kit with
  | none => s
  | some k =>
    match k.placement with
    | none => s
    | some p =>
      let steps := (List.range l.steps.length).zip l.steps
      let live := steps.filter fun e => (s.seq e.2.seq).any fun x => x.mode != .lost
      let s1 := if s.isLast k then
          (live.filter fun e => e.2.produces).foldl (fun s e => s.stepResult k p l.table e.1 e.2) s
        else s
      let s2 := if s.isHead k then live.foldl (fun s e => s.appendDone e.2) s1 else s1
      if s.isLast k || !(s.isHead k) then live.foldl (fun s e => s.stepDone e.2.seq) s2 else s2

end Sys2Proof.Machine
end

