-- ==== Sys2Proof/Machine/Beat.lean ====
section
/-!
DEFINITION. What a beat does: lists retire, GUARD, the settlement of overruns, the launches of a downbeat, units of Kits, and the
lock of the beat with external time (02 R30 to R41, R53 to R58, 03 R62, R88, 10 R248, R252, 13 R308, R315).
-/
namespace Sys2Proof.Machine
open Sys2Proof

/-! ### A list has retired (02 R31, 10 R251, R252) -/

/-- A ring transfer of the peal itself leaves for a member (10 R252): kind 0 a HANDOFF with its batch, kind 1 STEP_DONE. -/
def State.sendPeal (s : State) (k : Kit) (dest kind : Nat) (bytes : List Byte) : State :=
  let t := Machine.descriptor []
  (s.beginRing { t with
    ring := true, kit := some k.id, context := k.context, partition := k.partition, rows := 1, rowBytes := bytes.length
    targets := [dest], handoff := some (k.id * 2 + kind), payload := bytes }).endUnreachable

/-- Bytes of a batch (no encoding is given): beat, counts, descriptors, commands. -/
def batchBytes (beat : Nat) (steps : List StepDesc) (commands : List ForwardedCommand) : List Byte :=
  leBytes 8 beat ++ leBytes 4 steps.length ++ leBytes 4 commands.length ++ steps.flatMap StepDesc.bytes ++
    commands.flatMap fun c => leBytes 2 c.opcode ++ zeros 14 ++ padTo 48 c.params

/-- What a peal Kit's retired list sends: a HANDOFF with the batch to the next member, or from the last member the result
records to the head (10 R252 (a), (e)). -/
def State.passOn (s : State) (l : WorkList) : State :=
  match s.kit l.kit with
  | none => s
  | some k =>
    if !(isPealKit k.id) || s.headOf k == s.peal.coordinate && s.isLast k then s
    else match s.nextMember k with
      | some m => s.sendPeal k m 0 (batchBytes l.beat l.steps l.commands)
      | none =>
        let table := (k.placement.map fun p => (List.range l.steps.length).flatMap fun i =>
          s.readT1 (k.stepSlot p l.table i + 128) 128).getD []
        s.sendPeal k (s.headOf k) 1 table

/-- A list whose every task has retired is finished: its KIT_LAUNCH completes, or its steps retire. -/
def State.finishList (s : State) (id : Nat) : State :=
  match s.list id with
  | none => s
  | some l =>
    if !l.open_ || !l.allRetired then s
    else
      let s1 := s.modList id fun l => { l with finished := true }
      match l.launcher with
      | .command c => s1.completeId c stOk 0 0
      | .builder => (s1.retireSteps l).passOn l
      | .almanac _ => s1

/-- TASK_RETIRE: every group has ended and the last acknowledgement has arrived (13 R308). -/
def State.taskRetire (s : State) (core : Nat) : State :=
  let c := s.core core
  let runs := match c.phase with
    | .running => true
    | .draining _ _ => true
    | _ => false
  match c.block with
  | none => s
  | some b =>
    if !runs || !(b.groups.all (·.finished)) || !(s.drained core) then s
    else ((s.modTask b.list b.task fun t => { t with mode := .retired }).freeCore core).finishList b.list

/-- RESTORE_COMPLETE: the save area has been read (13 R315); a poisoned area faults the task. -/
def State.restoreComplete (s : State) (core : Nat) : State :=
  match (s.core core).phase with
  | .restoring l t =>
    match s.list l, s.task l t with
    | some list, some task =>
      let area := task.record.saveArea
      let p := ((s.kit list.kit).map (·.partition)).getD 0
      let b := s.readSave area l t list.kit p task
      let s1 := s.useFree.runBlock core list.context b
      let g := b.groups.headD (Group.initial task.record.entry)
      if s.saveBad task then s1.taskFault core 0 none stMemoryError area g.pc g.active
      else
        let h := s1.readT1 area 128
        let base := ((s.kit list.kit).map (·.chimeBase)).getD 0
        ((s1.writeT1 area (h.take 17 ++ [0] ++ h.drop 18)).resumeWaits core base b.groups).countSwitch list.kit 0 0
          (s.now - (s.core core).switchAt)
    | _, _ => s
  | _ => s

/-! ### GUARD and overruns (02 R31 to R41) -/

/-- GUARD_START: what has finished by now has finished in time. -/
def State.guardStart (s : State) : State :=
  if !s.beat.running || s.beat.phase != .work then s
  else
    let s1 := s.clockTo (s.beat.start + s.beat.period - s.guardLen)
    { s1 with
      beat := { s1.beat with phase := .guard }
      lists := s1.lists.map fun l => if l.finished then { l with finishedAtGuard := true } else l }

/-- Work of a Kit launched in beat `n`. -/
def State.workOf (s : State) (kit n : Nat) : List WorkList :=
  s.lists.filter fun l => l.kit == kit && l.beat == n && !l.cancelled

/-- A cancelled list launches again, whole (02 Table 2-2, 19 R435). -/
def State.relaunch (s : State) (id : Nat) : State :=
  s.modList id fun l =>
    { l with tasks := l.tasks.map fun t => Task.ofRecord t.record, cancelled := false, finished := false,
             finishedAtGuard := false, repeat_ := true, beat := s.beat.number, launchedAt := s.now }

/-- A hard overrun is counted for the Kit and the device (02 R38, R40). -/
def State.countHard (s : State) (kit : Nat) : State :=
  let s1 := s.modKit kit fun k =>
    { k with overrunHard := k.overrunHard + 1, consecutive := k.consecutive + 1,
             hardBeats := (k.hardBeats.filter fun b => decide (s.beat.number < b + 65536)) ++ [s.beat.number] }
  { s1 with beat := { s1.beat with overrunHard := s1.beat.overrunHard + 1 } }

/-- Binding resource of a finding, 0 if it fits. -/
def Finding.binding (f : Finding) : Nat := ((f.failing.head?).map (·.code)).getD 0

/-- OVERRUN_RATE (02 R41): eight hard overruns within 65,536 beats; the Kit is tested at the next percentile and re-placed if it
fits. -/
def State.overrunRate (s : State) (kit : Nat) : State :=
  match s.kit kit with
  | none => s
  | some k =>
    if k.hardBeats.length < 8 then s
    else
      let s1 := s.modKit kit fun k => { k with hardBeats := [] }
      match k.load, k.placement with
      | some l, some p =>
        if 2 ≤ k.percentile then
          s1.useFree.notice (.context k.context) 0x0002 stOk k.context (s.free.toNat % 256) 0 kit
        else
          let f := s1.placeKit k l (k.share l) (k.percentile + 1) k.marginShare (some p)
          let s2 := s1.notice (.context k.context) 0x0002 stOk k.context f.binding 0 kit
          if f.failing.isEmpty then
            (s2.placeTiles f.placement).modKit kit fun k =>
              { k with next := some { f.placement with tilesInPlace := true }, percentile := k.percentile + 1 }
          else s2
      | _, _ => s1

/-- The policy of a Kit applied to the unfinished work of beat `n` (02 Table 2-2). -/
def State.overrunPolicy (s : State) (kit n : Nat) (late : List WorkList) : State :=
  match s.kit kit with
  | none => s
  | some k =>
    if k.overrunLimit ≤ k.consecutive then
      let s1 := late.foldl (fun s l => (s.cancelList l.id).failChimes l stOverrun) s
      (s1.modKit kit fun k => { k with heldFrom := none }).loseContext k.context stOverrun
    else if k.policy = 0 then s.modKit kit fun k => { k with heldFrom := some n }
    else if k.policy = 1 then late.foldl (fun s l => (s.cancelList l.id).relaunch l.id) s
    else late.foldl (fun s l => (s.cancelList l.id).failChimes l stOverrun) s

/-- settle_overrun of 02 for one Kit, at the downbeat after beat `m`. -/
def State.settleKit (s : State) (m kit : Nat) : State :=
  match s.kit kit with
  | none => s
  | some k =>
    if k.mode = .lost then s
    else
      let n := k.heldFrom.getD m
      let work := s.workOf kit n
      if k.heldFrom.isNone && work.all (·.finishedAtGuard) then s.modKit kit fun k => { k with consecutive := 0 }
      else if work.all (·.finished) then
        if k.heldFrom.isSome then s.modKit kit fun k => { k with heldFrom := none }
        else
          let s1 := s.modKit kit fun k => { k with overrunSoft := k.overrunSoft + 1, consecutive := 0 }
          { s1 with beat := { s1.beat with overrunSoft := s1.beat.overrunSoft + 1 } }
      else
        let late := work.filter fun l => !l.finished
        let ctx (d : StepDesc) : List Nat := ((s.seq d.seq).map (·.context)).toList
        if s.frozenKit kit then
          (s.countHard kit).modKit kit fun x => { x with consecutive := k.consecutive, heldFrom := some n }
        else
        let s1 := s.countHard kit
        let s2 := if k.heldFrom.isSome ∨ k.overrunLimit ≤ k.consecutive + 1 then s1
          else (late.flatMap fun l => l.steps.flatMap ctx).foldl (fun s c => s.lateStep c 2 0 0 0xFF 0xFF) s1
        (s2.overrunPolicy kit n late).overrunRate kit

/-- Every Kit is settled, in ascending order; finished and cancelled lists are then forgotten, but for those that a failure
will repeat. -/
def State.settleOverruns (s : State) (m : Nat) : State :=
  let s1 := (s.kits.map (·.1)).foldl (fun s k => s.settleKit m k) s
  { s1 with lists := s1.lists.filter fun l => l.open_ || (l.repeat_ && l.cancelled) }

/-! ### Launches of a downbeat (02 R30, 10 R248) -/

/-- A Kit launches a list at this downbeat again: its other lists slip (02 Table 2-2, 19 R435). -/
def State.repeating (s : State) (kit : Nat) : Bool :=
  s.lists.any fun l => l.kit == kit && l.repeat_ && (l.cancelled || l.beat == s.beat.number && !l.finished)

/-- A Kit takes launches now. -/
def State.launchable (s : State) (kit : Nat) : Bool :=
  (s.kit kit).any fun k =>
    k.mode == .admitted && k.heldFrom.isNone && !(s.repeating kit) && !(s.frozenKit kit)

/-- A task record that the placement engine writes for a step-builder list (13 R304); what the spec leaves to it is free. -/
def State.builderTask (s : State) (k : Kit) (core table count : Nat) : State × TaskRecord :=
  let v := s.free.toNat
  let w := s.useFree.free.toNat
  (s.useFree.useFree,
   { unitKind := 1, unit := core, groups := 1 + v % 16, priority := 7, afterAll := false, preemptible := false,
     reportValid := false, entry := k.scratchBase + v / 16 % 2 ^ 20 * 128, descTable := k.scratchBase + w % 2 ^ 20 * 64,
     descCount := w / 2 ^ 20 % 65537, switchBound := 0, saveArea := 0, report := 0, deps := [],
     args := (List.range 8).map fun i =>
       if i = 6 then BitVec.ofNat 32 table else if i = 7 then BitVec.ofNat 32 count
       else BitVec.ofNat 32 (v / 2 ^ (4 * i)) })

/-- The records of a step-builder list: one task for each direct core of the Kit. -/
def State.builderTasks (s : State) (k : Kit) (table count : Nat) : State × List TaskRecord :=
  (s.directCores k).foldl (fun (x : State × List TaskRecord) c =>
    let r := x.1.builderTask k c table count
    (r.1, x.2 ++ [r.2])) (s, [])

/-- A step launches in beat `n` (10 R248): it is in flight; a decode step's slip counts at its first launch. -/
def State.launchStep (s : State) (n limit : Nat) (d : StepDesc) : State :=
  match s.seq d.seq with
  | none => s
  | some x =>
    let slip := n - x.nextDue
    let counts := d.kind == 1 && d.launched.isNone
    let s1 := s.modSeq d.seq fun x =>
      { x with inFlight := x.inFlight + 1, slipped := if counts then min (x.slipped + slip) 0xFFFFFFFF else x.slipped }
    if counts ∧ limit ≠ 0 ∧ limit < slip then
      s1.notice (.context x.context) 0x0005 stOk x.context 0 slip d.seq
    else s1

/-- The held list of a Kit takes the step table and the selection tiles of the beat in which it launches (10 R247, R258). -/
def State.rehome (s : State) (k : Kit) (p : Placement) (n : Nat) (c : Composed) : State × List StepDesc :=
  if c.table = n % 2 then (s, c.steps)
  else
    let steps := c.steps.map fun d => if d.sparse then { d with select := d.select % 64 + 64 * (n % 2) } else d
    let s1 := (steps.filter (·.sparse)).foldl (fun s d => s.publishSelection k p d) s
    (s1.writeSteps k p (n % 2) steps, steps)

/-- The oldest waiting step-builder list of a Kit launches (02 R30 (a)). -/
def State.launchBuilder (s : State) (kit : Nat) : State :=
  match s.kit kit with
  | none => s
  | some k =>
    match k.queued, k.placement with
    | c :: rest, some p =>
      if !(s.launchable kit) then s
      else
        let n := s.beat.number
        let (s1, steps) := s.rehome k p n c
        let s2 := steps.foldl (fun s d => s.launchStep n k.seqPolicy.slipLimit d) s1
        let mine := steps.map fun d => { d with launched := some (d.launched.getD n) }
        let (s3, tasks) := if steps.isEmpty then (s2, []) else s2.builderTasks k (n % 2) steps.length
        let batch : Batch := { beat := n, steps := mine, commands := c.commands }
        let s4 := s3.modKit kit fun k =>
          { k with queued := rest
                   batches := if isPealKit kit ∧ s.isHead k then k.batches ++ [batch] else k.batches }
        (s4.launch kit k.context 0 tasks .builder mine (n % 2) c.commands).finishList s4.nextId
    | _, _ => s

/-- A list composed for this downbeat waits its turn, or is undone if it is not complete (02 R33). -/
def State.enqueueList (s : State) (kit : Nat) : State :=
  match s.kit kit with
  | none => s
  | some k =>
    match k.composed with
    | none => s
    | some c =>
      if c.complete then s.modKit kit fun k => { k with composed := none, queued := k.queued ++ [c] }
      else s.buildShort kit c

/-- A queued KIT_LAUNCH launches, waits, or meets a Kit that takes no lists any more (02 R30 (b), 03 Table 3-2). -/
def State.launchCommand (s : State) (c : Command) : State :=
  match c.wait with
  | .kitLaunch k a n =>
    if !c.beforeBuild then s
    else match s.kit k with
      | none => s.complete c stStateConflict (5 * 2 ^ 16 + 0xFFF * 2 ^ 20) s.beat.number
      | some x =>
        if x.mode ≠ .admitted then
          s.complete c stStateConflict (x.mode.code + 5 * 2 ^ 16 + 0xFFF * 2 ^ 20) s.beat.number
        else if !(s.launchable k) then s
        else
          let records := (s.listRecords a n).map TaskRecord.ofBytes
          (s.launch k x.context a records (.command c.id) [] 0 []).setWait c.id (.list s.nextId)
  | _ => s

/-- The launches of a downbeat (02 R30 (a), (b)). -/
def State.launchAll (s : State) : State :=
  let kits := s.kits.map (·.1)
  let s1 := kits.foldl (fun s k => s.enqueueList k) s
  let s2 := kits.foldl (fun s k => s.launchBuilder k) s1
  s2.commands.foldl (fun s c => s.launchCommand c) s2

/-- LAUNCH_WORK_LIST (02 Table 2-4, R45): its records are checked again (13 R304). -/
def State.launchAction (s : State) (i : Nat) : State :=
  s.issue i 1 true (fun s _ => s) fun s e =>
    match s.targetKit e with
    | none => s.countSkipped e
    | some k =>
      let n := e.arg1 % 65536
      let atRepeat := s.repeating k.id && s.now == s.beat.start
      let failing := s.lists.any fun l => l.kit == k.id && l.repeat_ && l.cancelled
      if k.mode ≠ .admitted ∨ k.heldFrom.isSome ∨ failing ∨ (atRepeat ∧ k.policy ≠ 1) ∨ s.frozenKit k.id then s.countSkipped e
      else if !(s.listGood k e.arg0 n []) then s
      else s.launch k.id k.context e.arg0 ((s.listRecords e.arg0 n).map TaskRecord.ofBytes) (.almanac i) [] 0 []

/-! ### Kits at a downbeat (03 R62, R68, R88, 02 R51, 13 R309) -/

/-- Cores named by units. -/
def unitCores (l : List KitUnit) : List Nat := l.filterMap fun u => match u with | .core c => some c | _ => none

/-- A task that is not PREEMPTIBLE runs on a core. -/
def State.stuckCore (s : State) (c : Nat) : Bool :=
  match (s.core c).block with
  | some b => (s.task b.list b.task).any fun t => !t.record.preemptible
  | none => false

/-- A core leaves its Kit: a task on it is switched out (13 R309 (b)). -/
def State.clearCore (s : State) (c : Nat) : State :=
  if (s.core c).phase = .running then s.modCore c fun k => { k with phase := .draining 0 0, switchAt := s.now } else s

/-- A KIT_CREATE at its downbeat: lost, waiting for a core, or created (03 R62). -/
def State.createKit (s : State) (x : KitCreation) : State :=
  let k := x.kit
  let asking := s.peal.rounds.any fun r => r.creation && r.kit == k.id
  let cores := unitCores k.units
  let lost := s.lostContext k.context || (s.kit k.parent).any (fun p => s.lostContext p.context) ||
    (s.command x.command).any (fun c => s.lostContext c.context)
  let s0 := { s with creations := s.creations.filter fun y => y.kit.id != k.id }
  if asking then s
  else if lost then s0.completeId x.command stContextLost 0 0
  else if cores.any s.stuckCore then s
  else
    let s1 := cores.foldl (fun s c => s.clearCore c) s0
    let s2 := s1.modKit k.parent fun p =>
      { p with units := (p.units.filter fun u => !(k.units.contains u)) ++ [.kit k.id] }
    let s3 := { s2 with kits := tset s2.kits k.id { k with mode := .created } }
    let s4 := s3.modQueue k.queue fun q => { q with kit := k.id, chimeBase := k.chimeBase, chimeCount := k.chimeCount }
    s4.completeId x.command stOk 0 k.id

/-- Units of destroyed Kits return to their parents (03 R62); those of a parent that is destroyed too go on with it. -/
def returnUnits : List UnitReturn → List (Nat × Kit) → List (Nat × Kit)
  | [], kits => kits
  | r :: rest, kits =>
    let back (l : List KitUnit) : List KitUnit := (l.filter (· != .kit r.kit)) ++ r.units
    match tget kits r.parent with
    | some _ => returnUnits rest (tmod kits r.parent fun p => { p with units := back p.units })
    | none => returnUnits rest kits

/-- The units of a destroyed parent take in those of its children that were destroyed before it. -/
def foldReturns : List UnitReturn → List UnitReturn
  | [] => []
  | r :: rest =>
    r :: (foldReturns rest).map fun x =>
      if x.kit = r.parent then { x with units := (x.units.filter (· != .kit r.kit)) ++ r.units } else x

/-- Units return, units move. -/
def State.moveUnits (s : State) : State :=
  let s1 := { s with kits := returnUnits (foldReturns s.unitReturns) s.kits, unitReturns := [] }
  s1.creations.foldl (fun s x => s.createKit x) s1

/-- A Kit whose tiles are in place is ADMITTED; its MODEL_COMMIT completes (03 Table 3-2). -/
def State.admitKit (s : State) (kit : Nat) : State :=
  match s.kit kit with
  | none => s
  | some k =>
    if k.mode ≠ .placing ∨ !(k.placement.any (·.tilesInPlace)) ∨ isPealKit kit then s
    else (s.modKit kit fun k => { k with mode := .admitted }).completeWhere fun c =>
      c.op == .modelCommit && c.wait == .list 0 && param c.op c.packet 0 == kit

/-- The switch of a re-placement, at a downbeat at which the Kit has no unfinished list (03 R88). -/
def State.switchKit (s : State) (kit : Nat) : State :=
  match s.kit kit with
  | none => s
  | some k =>
    match k.next, k.placement with
    | some n, some p =>
      if !n.tilesInPlace ∨ isPealKit kit ∨ !(s.openLists kit).isEmpty then s
      else
        let s1 := s.modKit kit fun k => { k with placement := some { n with pool := p.pool }, next := none }
        let s2 := s1.unpinPlacement kit p n.tensors
        s2.completeWhere fun c => c.op == .placeReplace && c.wait == .list 0 && param c.op c.packet 0 == kit
    | _, _ => s

/-- An accepted OVERRUN_SET_POLICY applies. -/
def State.applyPolicies (s : State) : State :=
  { s with kits := s.kits.map fun e => (e.1, match e.2.stagedPolicy with
      | some (p, l) => { e.2 with policy := p, overrunLimit := l, stagedPolicy := none }
      | none => e.2) }

/-- A placement under a new period: its margin and prefill budget (03 R80, R83). -/
def State.refit (s : State) (k : Kit) (p : Placement) : Placement :=
  let m := Machine.margin s.beat.period s.guardLen k.marginShare
  { p with margin := m, prefillBudget := if p.batch.isNone then 0 else s.beatLimit - 100 - m - p.decodeCritical }

/-- A period change takes effect at the downbeat of its EFFECTIVE_BEAT (02 R29, R58). -/
def State.applyPeriod (s : State) : State :=
  match s.beat.change with
  | none => s
  | some c =>
    if c.effective ≠ s.beat.number then s
    else
      let tai := s.downbeatTai
      let s1 := { s with beat := { s.beat with
        period := c.period, buildShare := c.buildShare, guardShare := c.guardShare, change := none,
        pairBeat := s.beat.number, pairTai := tai } }
      let s2 : State := { s1 with kits := s1.kits.map fun (e : Nat × Kit) =>
        (e.1, { e.2 with placement := e.2.placement.map (s1.refit e.2), next := e.2.next.map (s1.refit e.2) }) }
      s2.completeWhere fun x => x.wait == .beatChange

/-! ### Lock and external time (02 R55 to R58, 16 R381) -/

/-- A correction of at most 10 ns. -/
def clamp10 (x : Int) : Int := max (-10) (min 10 x)

/-- The state LOCKED is reached again once the offset is within 8 ns (02 Table 2-7). -/
def State.relock (s : State) : State :=
  if s.beat.lock ≠ .locked ∧ !s.beat.timingInputs.isEmpty ∧ s.beat.offset.natAbs ≤ 8 then
    { s with beat := { s.beat with lock := .locked } }
  else s

/-- TIMING_INPUT_LOST: the last input gone, a member of a larger peal goes to HOLDOVER. -/
def State.timingLost (s : State) (direction : Nat) : State :=
  if !(s.beat.timingInputs.contains direction) then s
  else
    let left := s.beat.timingInputs.filter (· != direction)
    let hold := left.isEmpty && s.beat.lock == .locked && decide (1 < s.pealSize)
    { s with beat := { s.beat with
        timingInputs := left
        lock := if hold then .holdover else s.beat.lock
        holdoverSince := if hold then s.now else s.beat.holdoverSince } }

/-- TIMING_INPUT_RESTORED. -/
def State.timingRestored (s : State) (direction : Nat) : State :=
  ({ s with beat := { s.beat with timingInputs := addOnce s.beat.timingInputs direction } }).relock

/-- HOLDOVER_TIMEOUT: 1 s in HOLDOVER leads to FREE, and the companion is told. -/
def State.holdoverTimeout (s : State) : State :=
  if s.beat.lock ≠ .holdover then s
  else
    let s1 := s.clockTo (s.beat.holdoverSince + 100000000)
    ({ s1 with beat := { s1.beat with lock := .free } }).notice .companion 0x000C stOk 65535 0 0 0

/-- The module steers by its own PTP input: it leads its peal or is alone (02 R57). -/
def State.steers (s : State) : Bool := s.notLeader.isNone

/-- The offset measured from a Sync and the mean path (02 R56): it is kept, and steers where this module leads. -/
def State.measured (s : State) (offset received : Int) : State :=
  let tai := received - offset - 10 * ((s.now : Int) - s.beat.start)
  let p := s.beat.ptp
  { s with beat := { s.beat with
      ptp := { p with offset, remaining := if s.steers then offset else 0, port := .slave }
      pairBeat := s.beat.number, pairTai := tai } }

/-- A PTP message at the primary's management port (02 R56): Sync 0h, Follow_Up 8h, Delay_Resp 9h of the chosen domain; every
other kind is for a role that Sirmo does not take. -/
def State.ptpMessage (s : State) (m : PtpMessage) : State :=
  let p := s.beat.ptp
  if !p.enabled ∨ p.source ≠ 1 ∨ m.domain ≠ p.domain then s
  else
    let synced (s : State) (diff : Int) (rx : Int) : State :=
      let q := s.beat.ptp
      let s1 := { s with beat := { s.beat with ptp := { q with
        masterToSlave := diff, awaitFollowUp := false, delayReqTx := rx, delayReqSeq := q.delayReqSeq + 1,
        port := if q.port = PtpPort.listening then .uncalibrated else q.port } } }
      let s2 := s1.send ⟨.ptpDelayReq, s.fail.primary, [q.domain, q.delayReqSeq + 1], []⟩
      if q.port = .slave then s2.measured (diff - q.meanPath) rx else s2
    if m.kind = 0 then
      let s1 := { s with beat := { s.beat with ptp := { p with
        syncSeq := m.sequence, syncRx := m.received, awaitFollowUp := m.twoStep,
        port := if p.port = PtpPort.listening then .uncalibrated else p.port } } }
      if m.twoStep then s1 else synced s1 (m.received - m.origin - m.correction) m.received
    else if m.kind = 8 then
      if p.awaitFollowUp ∧ m.sequence = p.syncSeq then synced s (p.syncRx - m.origin - m.correction) p.syncRx else s
    else if m.kind = 9 then
      if p.port = .listening ∨ m.sequence ≠ p.delayReqSeq then s
      else
        let back := m.origin - p.delayReqTx - m.correction
        let path := (p.masterToSlave + back) / 2
        ({ s with beat := { s.beat with ptp := { p with meanPath := path } } }).measured (p.masterToSlave - path) p.syncRx
    else s

/-- The correction of the coming beat: what is left of the PTP offset at the leader, of the offset from its neighbours at
another member that is FREE with an input (02 R57, Table 2-7). -/
def State.slewNext (s : State) : State :=
  let b := s.beat
  if s.steers then
    let c := clamp10 b.ptp.remaining
    let p := { b.ptp with remaining := b.ptp.remaining - c, offset := b.ptp.offset - c }
    { s with beat := { b with slew := c, ptp := p } }
  else if !b.timingInputs.isEmpty then
    let c := clamp10 b.offset
    ({ s with beat := { b with slew := c, offset := b.offset - c } }).relock
  else { s with beat := { b with slew := 0 } }

/-- The instant at which the running beat ends, its correction counted in whole units of 10 ns (02 R57). -/
def State.beatEnd (s : State) : Nat := ((s.beat.start + s.beat.period : Nat) + s.beat.slew / 10 : Int).toNat

end Sys2Proof.Machine
end

