-- ==== Sys2Proof/Machine/Pipeline.lean ====
section
/-!
DEFINITION. How a group issues an instruction (04 R95 to R104, R122), and the divergence stack (04 R108, R109).
-/
namespace Sys2Proof.Machine
open Sys2Proof

/-! ### Divergence and reconvergence (04 R108, R109) -/

/-- Program counter of the innermost JOIN entry. -/
def joinPc (stack : List StackEntry) : Option Nat := (stack.find? (·.kind == .join)).map (·.pc)

/-- reconverge of 04 R108, until the program counter is at no join point of the innermost JOIN entry. -/
def Group.reconvergeFrom : Nat → Group → Group
  | 0, g => g
  | fuel + 1, g =>
    match g.stack with
    | [] => g
    | e :: rest =>
      if joinPc g.stack = some g.pc then
        Group.reconvergeFrom fuel { g with active := e.mask, pc := e.pc, stack := rest }
      else g

/-- The group as it is before it fetches. -/
def Group.reconverge (g : Group) : Group := Group.reconvergeFrom g.stack.length g

/-- Entries are popped until one has threads left (04 R109). -/
def Group.popEmpty : List StackEntry → Group → Group
  | [], g => { g with stack := [] }
  | e :: rest, g =>
    if e.mask = 0 then Group.popEmpty rest g else { g with active := e.mask, pc := e.pc, stack := rest }

/-- END (04 R109): the active threads leave every mask; an empty group has finished. -/
def Group.endActive (g : Group) : Group :=
  let stack := g.stack.map fun e => { e with mask := e.mask &&& ~~~g.active }
  let g1 := Group.popEmpty stack { g with active := 0 }
  if g1.active = 0 then { g1 with finished := true } else g1

/-! ### Issue -/

/-- What an instruction comes to: it is not ready, it faults (status, thread, address), or it has its effect on the machine
and on its own group. -/
inductive Issued where
  | stall
  | fault (status : Nat) (thread : Option Nat) (address : Nat)
  | done (s : State) (g : Group)

/-- A fault of the group as a whole. -/
def illegal : Issued := .fault stIllegal none 0

/-- Registers that a request in flight writes when it returns. -/
def Request.writes (r : Request) : List Nat :=
  match r.kind with
  | .load => (List.range (r.width / 4)).map (· + r.dst)
  | .atomic _ true => (List.range (r.width / 4)).map (· + r.dst)
  | .tileLoad _ _ _ => [r.dst, r.dst + 1]
  | _ => []

/-- A register of a group awaits a result (04 R95 (a)). -/
def State.awaits (s : State) (core group : Nat) (regs : List Nat) : Bool :=
  s.mem.requests.any fun r => r.core == core && r.group == group && r.writes.any regs.contains

/-! ### Read-only caches (07 Table 7-5, R186) -/

/-- The copy that a read-only cache holds. -/
def roFind (c : List RoLine) (set key : Nat) : Option (List Byte) :=
  (c.find? fun l => l.set == set && l.key == key).map (·.bytes)

/-- A copy is used or taken: it becomes the most recently used of its set, whose least recently used copy leaves when all its
ways are taken. -/
def roUse (c : List RoLine) (ways set key : Nat) (bytes : List Byte) : List RoLine :=
  let rest := c.filter fun l => !(l.set == set && l.key == key)
  let mine := rest.filter (·.set == set)
  let kept := if mine.length < ways then rest else
    match mine.head? with
    | some old => rest.filter fun l => !(l.set == set && l.key == old.key)
    | none => rest
  kept ++ [({ set := set, key := key, bytes := bytes } : RoLine)]

/-- A fetch (04, Instruction encoding; 07 R167, R186): the line of the instruction cache that holds the program counter is taken
from its SCRATCH granule unless the cache has it. The state, and a fault's status. -/
def State.fetch (s : State) (core partition pc : Nat) : State × Option Nat :=
  let line := pc / 128
  match roFind (s.core core).instrCache (line % 128) line with
  | some b => (s.modCore core fun c => { c with instrCache := roUse c.instrCache 4 (line % 128) line b }, none)
  | none =>
    if !(s.inScratch partition (line * 128) 128) then (s, some stWindowRange)
    else
      let g := s.unitRead 0 0 (line * 128) 128
      if g.status ≠ stOk then (g.s, some g.status)
      else (g.s.modCore core fun c => { c with instrCache := roUse c.instrCache 4 (line % 128) line g.bytes }, none)

/-- A group issues an instruction by `f`: it must be in a window slot of a running core, waiting for nothing, with no result
outstanding in the registers that the instruction names (04 R95). -/
def State.issueIns (s : State) (i : Ins) (sources dests : List Nat) (f : State → Block → Group → Issued) : State :=
  let c := s.core i.core
  match c.block, c.window.findIdx? (· == some i.group) with
  | some b, some slot =>
    match b.groups[i.group]? with
    | none => s
    | some g0 =>
      if c.phase ≠ .running ∨ g0.finished ∨ g0.wait ≠ .none ∨ s.awaits i.core i.group (sources ++ dests) then s
      else
        let g := g0.reconverge
        let fetched := s.fetch i.core b.partition g.pc
        match fetched.2 with
        | some status => fetched.1.taskFault i.core i.group none status g.pc g.pc g.active
        | none =>
          match f fetched.1 b g with
          | .stall => s
          | .fault status thread address => fetched.1.taskFault i.core i.group thread status address g.pc g.active
          | .done s1 g1 =>
            (s1.modGroup i.core i.group fun _ => g1.touch sources dests).modCore i.core fun c => { c with lastSlot := slot }
  | _, _ => s

/-- A group goes on with the next instruction. -/
def Group.step (g : Group) : Group := { g with pc := (g.pc + 8) % 2 ^ 64 }

/-- A group of a core issues an instruction, if the module has them; the queue of the commands that wait to be given to the block stays
as it was, since no command acts on it. -/
def pipeline (i : Ins) (s : State) (sources dests : List Nat) (f : State → Block → Group → Issued) :
    Host.Outcome State Fault Refusal :=
  if 1728 ≤ i.core ∨ 16 ≤ i.group then .fault .noSuchUnit
  else .next { s.issueIns i sources dests f with pending := s.pending }

/-! ### Operands (04 Tables 4-3, 4-5) -/

/-- Numbers of the register fields. -/
def Ins.d (i : Ins) : Nat := i.dst.toNat
def Ins.a (i : Ins) : Nat := i.src0.toNat
def Ins.b (i : Ins) : Nat := i.src1.toNat
def Ins.c (i : Ins) : Nat := i.src2.toNat

/-- IMMSRC: bits [18:0], sign-extended, replace SRC1. -/
def Ins.immSrc (i : Ins) : Bool := i.imm.getLsbD 19

/-- The immediate of INT and MOVE. -/
def Ins.imm19 (i : Ins) : Word := (i.imm.extractLsb' 0 19).signExtend 32

/-- SRC1 of thread `t`, or the immediate. -/
def Ins.src1Value (i : Ins) (g : Group) (t : Nat) : Word := if i.immSrc then i.imm19 else g.read i.b t

/-- Register sources with SRC1 unless the immediate replaces it. -/
def Ins.withSrc1 (i : Ins) (l r : List Nat) : List Nat := if i.immSrc then l ++ r else l ++ [i.b] ++ r

/-- The predicate that a compare or PSET writes (04 R104 (c)); none for a reserved name. -/
def Ins.predDst (i : Ins) : Option Nat :=
  if 8 ≤ i.d ∨ i.d = 7 then none else some i.d

/-- A register pair's number is even (04 R98). -/
def evenReg (r : Nat) : Bool := r % 2 == 0

/-- Registers of a pair. -/
def pairRegs (r : Nat) : List Nat := [r, r + 1]

/-- A branch target from a signed offset in instructions. -/
def Ins.target (i : Ins) (pc : Nat) : Nat := (((pc : Int) + 8 * i.imm.toInt) % 2 ^ 64).toNat

/-- Bits of FP_STATUS set. -/
def Group.raise (g : Group) (flags : Nat) : Group := { g with fpStatus := g.fpStatus ||| BitVec.ofNat 32 flags }

/-- A result and flags in each executing thread of DST: registers written, flags gathered (04 R107). -/
def Group.compute (g : Group) (i : Ins) (f : Nat → Word × Nat) : Group :=
  let m := g.exec i
  let flags := (threadsOf m).foldl (fun a t => a ||| (f t).2) 0
  ((g.write i.d m fun t => (f t).1).raise flags).step

end Sys2Proof.Machine
end

