-- ==== Sys2Proof/Machine/Arithmetic.lean ====
section
/-!
DEFINITION. The classes INT, FP, SFU and MOVE (04 R103 to R107, Table 4-10, R143 for CVT).
-/
namespace Sys2Proof.Machine
open Sys2Proof

/-! ### INT -/

/-- An INT instruction over SRC0 and SRC1. -/
def intTwo (i : Ins) (s : State) (f : Word → Word → Word) : Host.Outcome State Fault Refusal :=
  pipeline i s (i.withSrc1 [i.a] []) [i.d] fun s _ g =>
    .done s (g.compute i fun t => (f (g.read i.a t) (i.src1Value g t), 0))

/-- An INT instruction over SRC0, SRC1 and SRC2. -/
def intThree (i : Ins) (s : State) (f : Word → Word → Word → Word) : Host.Outcome State Fault Refusal :=
  pipeline i s (i.withSrc1 [i.a] [i.c]) [i.d] fun s _ g =>
    .done s (g.compute i fun t => (f (g.read i.a t) (i.src1Value g t) (g.read i.c t), 0))

/-- An INT instruction over SRC0. -/
def intOne (i : Ins) (s : State) (f : Word → Word) : Host.Outcome State Fault Refusal :=
  pipeline i s [i.a] [i.d] fun s _ g => .done s (g.compute i fun t => (f (g.read i.a t), 0))

/-- Number of set bits. -/
def popCount (x : Word) : Nat := ((List.range 32).filter fun k => x.getLsbD k).length

/-- Leading zero bits. -/
def leadingZeros (x : Word) : Nat := ((List.range 32).find? fun k => x.getLsbD (31 - k)).getD 32

/-- IADD (04 R104): Adds two registers modulo 2^32. -/
def execIadd (i : Ins) (s : State) : Host.Outcome State Fault Refusal := intTwo i s fun a b => a + b
/-- ISUB (04 R104): Subtracts two registers modulo 2^32. -/
def execIsub (i : Ins) (s : State) : Host.Outcome State Fault Refusal := intTwo i s fun a b => a - b
/-- IMUL (04 R104): Writes the low 32 bits of a product. -/
def execImul (i : Ins) (s : State) : Host.Outcome State Fault Refusal := intTwo i s fun a b => a * b
/-- IMULHS (04 R104): Writes the high 32 bits of a signed product. -/
def execImulhs (i : Ins) (s : State) : Host.Outcome State Fault Refusal :=
  intTwo i s fun a b => BitVec.ofInt 32 (a.toInt * b.toInt / 2 ^ 32)
/-- IMULHU (04 R104): Writes the high 32 bits of an unsigned product. -/
def execImulhu (i : Ins) (s : State) : Host.Outcome State Fault Refusal :=
  intTwo i s fun a b => BitVec.ofNat 32 (a.toNat * b.toNat / 2 ^ 32)
/-- IMAC (04 R104): Writes the low 32 bits of a product plus a third register. -/
def execImac (i : Ins) (s : State) : Host.Outcome State Fault Refusal := intThree i s fun a b c => a * b + c
/-- SHL (04 R104): Shifts left. -/
def execShl (i : Ins) (s : State) : Host.Outcome State Fault Refusal := intTwo i s fun a b => a <<< (b.toNat % 32)
/-- SHR (04 R104): Shifts right logically. -/
def execShr (i : Ins) (s : State) : Host.Outcome State Fault Refusal := intTwo i s fun a b => a >>> (b.toNat % 32)
/-- SAR (04 R104): Shifts right arithmetically. -/
def execSar (i : Ins) (s : State) : Host.Outcome State Fault Refusal := intTwo i s fun a b => a.sshiftRight (b.toNat % 32)
/-- AND (04 R104): Forms a bitwise AND. -/
def execAndBits (i : Ins) (s : State) : Host.Outcome State Fault Refusal := intTwo i s fun a b => a &&& b
/-- OR (04 R104): Forms a bitwise OR. -/
def execOrBits (i : Ins) (s : State) : Host.Outcome State Fault Refusal := intTwo i s fun a b => a ||| b
/-- XOR (04 R104): Forms a bitwise exclusive OR. -/
def execXorBits (i : Ins) (s : State) : Host.Outcome State Fault Refusal := intTwo i s fun a b => a ^^^ b
/-- NOT (04 R104): Forms a bitwise complement. -/
def execNotBits (i : Ins) (s : State) : Host.Outcome State Fault Refusal := intOne i s fun a => ~~~a
/-- POPC (04 R104): Counts set bits. -/
def execPopc (i : Ins) (s : State) : Host.Outcome State Fault Refusal := intOne i s fun a => BitVec.ofNat 32 (popCount a)
/-- CLZ (04 R104): Counts leading zero bits. -/
def execClz (i : Ins) (s : State) : Host.Outcome State Fault Refusal :=
  intOne i s fun a => BitVec.ofNat 32 (leadingZeros a)
/-- SEL (04 R104): Selects one of two registers by a third. -/
def execSel (i : Ins) (s : State) : Host.Outcome State Fault Refusal :=
  intThree i s fun a b c => if c = 0 then b else a

/-- ICMP's relation by its code less 10h (04 Table 4-10); none for a code that is not defined. -/
def intRelation : Nat → Option (Word → Word → Bool)
  | 0 => some fun a b => a == b
  | 1 => some fun a b => a != b
  | 2 => some fun a b => a.slt b
  | 3 => some fun a b => a.sle b
  | 4 => some fun a b => b.slt a
  | 5 => some fun a b => b.sle a
  | 6 => some fun a b => a.ult b
  | 7 => some fun a b => a.ule b
  | 8 => some fun a b => b.ult a
  | 9 => some fun a b => b.ule a
  | _ => none

/-- A predicate takes `f t` in each executing thread. -/
def Group.setPred (g : Group) (i : Ins) (p : Nat) (f : Nat → Bool) : Group := (g.writePred p (g.exec i) f).step

/-- ICMP (04 R104): Compares integers into a predicate. -/
def execIcmp (rel : Nat) (i : Ins) (s : State) : Host.Outcome State Fault Refusal :=
  pipeline i s (i.withSrc1 [i.a] []) [] fun s _ g =>
    match intRelation rel, i.predDst with
    | some r, some p => .done s (g.setPred i p fun t => r (g.read i.a t) (i.src1Value g t))
    | _, _ => illegal

/-! ### FP -/

/-- Format and rounding of an FP instruction (04 Table 4-5); none for a reserved format or an unused bit set. -/
def Ins.fp (i : Ins) : Option (FpFormat × Rm) :=
  let n := i.imm.toNat
  if 16 ≤ n then none
  else
    let rm : Rm := match n % 4 with | 0 => .nearestEven | 1 => .towardZero | 2 => .up | _ => .down
    match n / 4 with
    | 0 => some (binary32, rm)
    | 1 => some (binary16, rm)
    | 2 => some (bfloat16, rm)
    | _ => none

/-- The value of a format in a register: the upper bits of a 16-bit one are ignored (04 R104 (a)). -/
def FpFormat.of (f : FpFormat) (w : Word) : Nat := w.toNat % 2 ^ f.width

/-- An FP instruction over SRC0 and SRC1. -/
def fpTwo (i : Ins) (s : State) (op : FpFormat → Rm → Nat → Nat → Nat × FpFlags) : Host.Outcome State Fault Refusal :=
  pipeline i s [i.a, i.b] [i.d] fun s _ g =>
    match i.fp with
    | none => illegal
    | some (f, rm) =>
      .done s (g.compute i fun t =>
        let r := op f rm (f.of (g.read i.a t)) (f.of (g.read i.b t))
        (BitVec.ofNat 32 r.1, r.2.bits))

/-- FADD (04 R105): Adds floating-point values with one rounding. -/
def execFadd (i : Ins) (s : State) : Host.Outcome State Fault Refusal := fpTwo i s fpAdd
/-- FSUB (04 R105): Subtracts floating-point values. -/
def execFsub (i : Ins) (s : State) : Host.Outcome State Fault Refusal := fpTwo i s fpSub
/-- FMUL (04 R105): Multiplies floating-point values. -/
def execFmul (i : Ins) (s : State) : Host.Outcome State Fault Refusal := fpTwo i s fpMul
/-- FMIN (04 R105): Forms the IEEE minimum. -/
def execFmin (i : Ins) (s : State) : Host.Outcome State Fault Refusal := fpTwo i s fun f _ a b => fpMinMax f false a b
/-- FMAX (04 R105): Forms the IEEE maximum. -/
def execFmax (i : Ins) (s : State) : Host.Outcome State Fault Refusal := fpTwo i s fun f _ a b => fpMinMax f true a b
/-- FMINNUM (04 R105): Forms the IEEE minimumNumber. -/
def execFminnum (i : Ins) (s : State) : Host.Outcome State Fault Refusal :=
  fpTwo i s fun f _ a b => fpMinMaxNum f false a b
/-- FMAXNUM (04 R105): Forms the IEEE maximumNumber. -/
def execFmaxnum (i : Ins) (s : State) : Host.Outcome State Fault Refusal :=
  fpTwo i s fun f _ a b => fpMinMaxNum f true a b

/-- FMAC (04 R105): Performs a fused multiply-add with one rounding. -/
def execFmac (i : Ins) (s : State) : Host.Outcome State Fault Refusal :=
  pipeline i s [i.a, i.b, i.c] [i.d] fun s _ g =>
    match i.fp with
    | none => illegal
    | some (f, rm) =>
      .done s (g.compute i fun t =>
        let r := fpMac f rm (f.of (g.read i.a t)) (f.of (g.read i.b t)) (f.of (g.read i.c t))
        (BitVec.ofNat 32 r.1, r.2.bits))

/-- FCMP's relation by its code less 10h. -/
def fpRelation : Nat → Option FpRel
  | 0 => some .eq | 1 => some .ne | 2 => some .lt | 3 => some .le | 4 => some .gt | 5 => some .ge | 6 => some .un
  | 7 => some .ord | _ => none

/-- FCMP (04 R104): Compares floating-point values into a predicate. -/
def execFcmp (rel : Nat) (i : Ins) (s : State) : Host.Outcome State Fault Refusal :=
  pipeline i s [i.a, i.b] [] fun s _ g =>
    match fpRelation rel, i.predDst, i.fp with
    | some r, some p, some (f, _) =>
      let cmp (t : Nat) : Bool × FpFlags := fpCompare f r (f.of (g.read i.a t)) (f.of (g.read i.b t))
      let flags := (threadsOf (g.exec i)).foldl (fun a t => a ||| (cmp t).2.bits) 0
      .done s ((g.raise flags).setPred i p fun t => (cmp t).1)
    | _, _, _ => illegal

/-! ### SFU (04 R106) -/

/-- An SFU instruction over SRC0. -/
def sfu (i : Ins) (s : State) (f : Nat → Nat × FpFlags) : Host.Outcome State Fault Refusal :=
  pipeline i s [i.a] [i.d] fun s _ g =>
    if i.b ≠ 0 ∨ i.c ≠ 0 ∨ i.imm ≠ 0 then illegal
    else .done s (g.compute i fun t => let r := f (g.read i.a t).toNat; (BitVec.ofNat 32 r.1, r.2.bits))

/-- RCP (04 R106): Computes a correctly rounded reciprocal. -/
def execRcp (i : Ins) (s : State) : Host.Outcome State Fault Refusal := sfu i s sfuRcp
/-- SQRT (04 R106): Computes a correctly rounded square root. -/
def execSqrt (i : Ins) (s : State) : Host.Outcome State Fault Refusal := sfu i s sfuSqrt
/-- RSQRT (04 R106): Computes a correctly rounded reciprocal square root. -/
def execRsqrt (i : Ins) (s : State) : Host.Outcome State Fault Refusal := sfu i s sfuRsqrt
/-- EXP2 (04 R106): Computes a correctly rounded 2^x. -/
def execExp2 (i : Ins) (s : State) : Host.Outcome State Fault Refusal := sfu i s sfuExp2
/-- LOG2 (04 R106): Computes a correctly rounded log2. -/
def execLog2 (i : Ins) (s : State) : Host.Outcome State Fault Refusal := sfu i s sfuLog2
/-- SINPI (04 R106): Computes a correctly rounded sin(pi x). -/
def execSinpi (i : Ins) (s : State) : Host.Outcome State Fault Refusal := sfu i s sfuSinpi
/-- COSPI (04 R106): Computes a correctly rounded cos(pi x). -/
def execCospi (i : Ins) (s : State) : Host.Outcome State Fault Refusal := sfu i s sfuCospi
/-- TANH (04 R106): Computes a correctly rounded tanh. -/
def execTanh (i : Ins) (s : State) : Host.Outcome State Fault Refusal := sfu i s sfuTanh

/-! ### MOVE -/

/-- SRC2, which no MOVE instruction uses, is zero. -/
def Ins.moveGood (i : Ins) : Bool := i.c == 0

/-- MOV (04 R104): Copies a register or immediate. -/
def execMov (i : Ins) (s : State) : Host.Outcome State Fault Refusal :=
  pipeline i s (i.withSrc1 [] []) [i.d] fun s _ g =>
    if !i.moveGood then illegal else .done s (g.compute i fun t => (i.src1Value g t, 0))

/-- Special registers (04 Table 4-1); none for a reserved number. -/
def specialRegister (b : Block) (group : Nat) (g : Group) (n t : Nat) : Option Word :=
  if n = 0 then some (BitVec.ofNat 32 t)
  else if n = 1 then some (BitVec.ofNat 32 group)
  else if n = 2 then some (BitVec.ofNat 32 b.groups.length)
  else if n = 3 then some (g.active.extractLsb' 0 32)
  else if n = 4 then some (g.active.extractLsb' 32 32)
  else if n = 5 then some g.fpStatus
  else if 16 ≤ n ∧ n < 24 then some (b.args.getD (n - 16) 0)
  else none

/-- MOVS (04 R94): Reads a special register. -/
def execMovs (i : Ins) (s : State) : Host.Outcome State Fault Refusal :=
  pipeline i s [] [i.d] fun s b g =>
    let n := i.imm.toNat % 256
    if !i.moveGood || (specialRegister b i.group g n 0).isNone then illegal
    else .done s (g.compute i fun t => ((specialRegister b i.group g n t).getD 0, 0))

/-- LXCH reads SRC0 of the named thread whether or not it is active (04, Divergence). -/
def execLxch (i : Ins) (s : State) : Host.Outcome State Fault Refusal :=
  pipeline i s (i.withSrc1 [i.a] []) [i.d] fun s _ g =>
    if !i.moveGood then illegal
    else .done s (g.compute i fun t => (g.read i.a ((i.src1Value g t).toNat % 64), 0))

/-- An ELEMENT that CVT accepts on either side (05 R143): every one that is defined. -/
def cvtPair (src dst : Nat) : Bool := decide (1 ≤ src) && decide (src ≤ 7) && decide (1 ≤ dst) && decide (dst ≤ 7)

/-- CVT (05 R143): Converts between number formats. -/
def execCvt (i : Ins) (s : State) : Host.Outcome State Fault Refusal :=
  pipeline i s [i.a] [i.d] fun s _ g =>
    let src := i.imm.toNat % 16
    let dst := i.imm.toNat / 16 % 16
    if !i.moveGood || !(cvtPair src dst) then illegal
    else .done s (g.compute i fun t => let r := convert src dst (g.read i.a t).toNat; (BitVec.ofNat 32 r.1, r.2.bits))

/-- PSET (04 R104): Sets a predicate from a value. -/
def execPset (i : Ins) (s : State) : Host.Outcome State Fault Refusal :=
  pipeline i s (i.withSrc1 [] []) [] fun s _ g =>
    match i.predDst with
    | some p => if !i.moveGood then illegal else .done s (g.setPred i p fun t => i.src1Value g t != 0)
    | none => illegal

/-- PGET (04 R104): Copies the predicates into a register. -/
def execPget (i : Ins) (s : State) : Host.Outcome State Fault Refusal :=
  pipeline i s [] [i.d] fun s _ g =>
    if !i.moveGood then illegal
    else .done s (g.compute i fun t =>
      (BitVec.ofNat 32 (((List.range 8).filter fun p => (g.predMask p).getLsbD t).map (2 ^ ·)).sum, 0))

end Sys2Proof.Machine
end

