-- ==== Sys2Proof/Machine/Control.lean ====
section
/-!
DEFINITION. The classes BRANCH, CSTORE and SYNC (04 R108 to R113, R119 to R121; 09 R221 to R224), window swaps (04 R96) and the
arrival of Chime signals (12 R298).
-/
namespace Sys2Proof.Machine
open Sys2Proof

/-! ### Branches (04 R108 to R110) -/

/-- Depth of a divergence stack. -/
def stackDepth : Nat := 32

/-- JOIN of a BRC: bits [33:20] of the word. -/
def Ins.join (i : Ins) : Nat := i.b * 128 + i.c

/-- The instruction after this one. -/
def Group.next (g : Group) : Nat := (g.pc + 8) % 2 ^ 64

/-- A group with entries pushed, the innermost first; none when the stack is full (04 R108). -/
def Group.push (g : Group) (l : List StackEntry) : Option Group :=
  if stackDepth < g.stack.length + l.length then none else some { g with stack := l ++ g.stack }

/-- routine brc of 04 R108. -/
def Group.brc (g : Group) (cond : U64) (target join : Nat) : Option Group :=
  let taken := g.active &&& cond
  let fall := g.active &&& ~~~cond
  if fall = 0 then some { g with pc := target }
  else if taken = 0 then some { g with pc := g.next }
  else
    let j : StackEntry := { kind := .join, pc := join, mask := g.active }
    if (lowestThread taken).getD 64 < (lowestThread fall).getD 64 then
      (g.push [{ kind := .path, pc := g.next, mask := fall }, j]).map fun g => { g with active := taken, pc := target }
    else
      (g.push [{ kind := .path, pc := target, mask := taken }, j]).map fun g => { g with active := fall, pc := g.next }

/-- The stack without its innermost RETURN entry, and that entry. -/
def popReturn : List StackEntry → Option (StackEntry × List StackEntry)
  | [] => none
  | e :: r => if e.kind = .ret then some (e, r) else (popReturn r).map fun x => (x.1, e :: x.2)

/-- BRA: every active thread goes to the target. -/
def execBra (i : Ins) (s : State) : Host.Outcome State Fault Refusal :=
  pipeline i s [] [] fun s _ g =>
    if i.d ≠ 0 ∨ i.a ≠ 0 ∨ i.b ≠ 0 ∨ i.c ≠ 0 then illegal else .done s { g with pc := i.target g.pc }

/-- BRC (04 R108, R110): PRED and PNEG are the condition of each thread. -/
def execBrc (i : Ins) (s : State) : Host.Outcome State Fault Refusal :=
  pipeline i s [] [] fun s _ g =>
    if i.d ≠ 0 ∨ i.a ≠ 0 ∨ i.join = 0 then illegal
    else
      let p := g.predMask i.pred.toNat
      match g.brc (if i.pneg then ~~~p else p) (i.target g.pc) ((g.pc + 8 * i.join) % 2 ^ 64) with
      | some g => .done s g
      | none => .fault stDivergence none 0

/-- CALL pushes a RETURN entry with the next instruction and the active mask (04 R108). -/
def execCall (i : Ins) (s : State) : Host.Outcome State Fault Refusal :=
  pipeline i s [] [] fun s _ g =>
    if i.d ≠ 0 ∨ i.a ≠ 0 ∨ i.b ≠ 0 ∨ i.c ≠ 0 then illegal
    else
      match g.push [{ kind := .ret, pc := g.next, mask := g.active }] with
      | some g1 => .done s { g1 with pc := i.target g.pc }
      | none => .fault stDivergence none 0

/-- RET pops a RETURN entry and goes on at its program counter (04 R108). Where the innermost entry is not a RETURN entry the
spec states no result: the innermost RETURN entry is taken, and with none in the stack the program counter is a free value. -/
def execRet (i : Ins) (s : State) : Host.Outcome State Fault Refusal :=
  pipeline i s [] [] fun s _ g =>
    if i.d ≠ 0 ∨ i.a ≠ 0 ∨ i.b ≠ 0 ∨ i.c ≠ 0 ∨ i.imm ≠ 0 then illegal
    else
      match popReturn g.stack with
      | some (e, r) => .done s { g with pc := e.pc, stack := r }
      | none => .done s.useFree { g with pc := s.free.toNat / 8 * 8 }

/-! ### Barriers (04 R121) -/

/-- The block with a group put in its place. -/
def Block.putGroup (b : Block) (n : Nat) (g : Group) : Block := { b with groups := lmod b.groups n fun _ => g }

/-- Group `n` has what it waits for at barrier `k`. -/
def Block.passes (b : Block) (k n : Nat) : Bool :=
  match (b.groups[n]?).map Group.wait with
  | some (.bar k2 count) =>
    let arrived := (tgetD b.barriers k []).length + (b.groups.filter (·.finished)).length
    k2 == k && decide ((if count = 0 then b.groups.length else count) ≤ arrived)
  | _ => false

/-- The groups at a barrier whose counts are reached go on. -/
def Block.releaseBarrier (b : Block) (now k : Nat) : Block :=
  let here := tgetD b.barriers k []
  let out := here.filter fun n => b.passes k n
  let rest := here.filter fun n => !(out.contains n)
  let groups := out.foldl (fun l n => lmod l n fun g => { g with wait := .none, pc := g.next, readySince := now }) b.groups
  { b with groups, barriers := if rest.isEmpty then terase b.barriers k else tset b.barriers k rest }

/-- Every barrier is looked at: a group that has finished counts at each (04 R121). -/
def Block.releaseBarriers (b : Block) (now : Nat) : Block :=
  (List.range 16).foldl (fun b k => b.releaseBarrier now k) b

/-- END (04 R109): the active threads end; barriers that wait for a finished group may open. -/
def execEndThreads (i : Ins) (s : State) : Host.Outcome State Fault Refusal :=
  pipeline i s [] [] fun s b g =>
    if i.d ≠ 0 ∨ i.a ≠ 0 ∨ i.b ≠ 0 ∨ i.c ≠ 0 ∨ i.imm ≠ 0 then illegal
    else
      let g1 := g.endActive
      if g1.finished then
        let b1 := (b.putGroup i.group g1).releaseBarriers s.now
        .done (s.modBlock i.core fun _ => b1) g1
      else .done s g1

/-! ### Requests of a group -/

/-- A request returns a value to registers. -/
def Request.returns (r : Request) : Bool :=
  match r.kind with
  | .load => true
  | .atomic _ ret => ret
  | .tileLoad _ _ _ => true
  | _ => false

/-- A request writes memory. -/
def Request.stores (r : Request) : Bool :=
  match r.kind with
  | .store => true
  | .atomic _ _ => true
  | .tileStore _ _ _ => true
  | _ => false

/-- The group has a request outstanding that `f` names. -/
def State.inFlight (s : State) (core group : Nat) (f : Request → Bool) : Bool :=
  s.mem.requests.any fun r => r.core == core && r.group == group && f r

/-! ### Fences (04 R119, R120, Table 4-8; 09 R221) -/

/-- SCOPE and KIND of a FENCE. -/
def Ins.scope (i : Ins) : Nat := i.imm.toNat % 4
def Ins.kind (i : Ins) : Nat := i.imm.toNat / 4 % 4

/-- The last part of a fence: an acquire at device or system scope discards the core's read-only caches. -/
def State.fenceDone (s : State) (core scope kind : Nat) : State :=
  if kind % 2 = 1 ∧ 2 ≤ scope then s.modCore core Core.dropCaches else s

/-- FENCE: an acquire waits for earlier values, a release at device or system scope for earlier acknowledgements. -/
def execFence (i : Ins) (s : State) : Host.Outcome State Fault Refusal :=
  pipeline i s [] [] fun s _ g =>
    if i.c ≠ 0 ∨ 16 ≤ i.imm.toNat ∨ i.kind = 0 then illegal
    else if g.exec i = 0 then .done s g.step
    else if i.kind % 2 = 1 ∧ 1 ≤ i.scope ∧ s.inFlight i.core i.group Request.returns then .stall
    else if 2 ≤ i.kind ∧ 2 ≤ i.scope then
      let g1 := { g with fences := g.fences + 1 }
      if s.inFlight i.core i.group Request.stores then .done s { g1 with wait := .fence i.scope i.kind }
      else .done (s.fenceDone i.core i.scope i.kind) g1.step
    else .done (s.fenceDone i.core i.scope i.kind) g.step

/-- A group whose earlier writes are all acknowledged leaves its fence (09 R217). -/
def State.endFence (s : State) (core group : Nat) : State :=
  match (s.group core group).map Group.wait with
  | some (.fence scope kind) =>
    if s.inFlight core group Request.stores then s
    else (s.fenceDone core scope kind).modGroup core group fun g =>
      { g with wait := .none, pc := g.next, readySince := s.now }
  | _ => s

/-- BAR (04 R121, 09 R223): the group arrives, with a block-scope fence. -/
def execBar (i : Ins) (s : State) : Host.Outcome State Fault Refusal :=
  pipeline i s [] [] fun s b g =>
    let n := i.imm.toNat
    if i.c ≠ 0 ∨ 512 ≤ n then illegal
    else if g.exec i = 0 then .done s g.step
    else if s.inFlight i.core i.group Request.returns then .stall
    else
      let k := n / 32
      let b1 := b.putGroup i.group { g with wait := .bar k (n % 32) }
      let b2 := { b1 with barriers := tset b1.barriers k (tgetD b1.barriers k [] ++ [i.group]) }
      let b3 := b2.releaseBarrier s.now k
      .done (s.modBlock i.core fun _ => b3) (b3.groups.getD i.group g)

/-! ### Chimes (04 R121, 09 R224, 12 R300, R301) -/

/-- Base and count of the Chime namespace of a Kit (03 R65). -/
def State.kitChimes (s : State) (kit : Nat) : Nat × Nat :=
  match s.kit kit with
  | some k => (k.chimeBase, k.chimeCount)
  | none => (0, 0)

/-- CHWAIT: number and target are those of the lowest thread in which it executes. -/
def execChwait (i : Ins) (s : State) : Host.Outcome State Fault Refusal :=
  pipeline i s ([i.a] ++ pairRegs i.b) [i.d] fun s b g =>
    if i.c ≠ 0 ∨ i.imm ≠ 0 ∨ !(evenReg i.b) then illegal
    else
      let m := g.exec i
      match lowestThread m with
      | none => .done s g.step
      | some t =>
        let ns := s.kitChimes b.kit
        let n := (g.read i.a t).toNat
        if ns.2 ≤ n then .fault stWindowRange (some t) n
        else
          let target := BitVec.ofNat 64 (g.readPair i.b t)
          if s.chimeReady (ns.1 + n) target then
            .done s (g.write i.d m fun _ => BitVec.ofNat 32 (s.chime (ns.1 + n)).error).step
          else
            .done { s with waiters := s.waiters ++ [{ chime := ns.1 + n, target, waiter := .group i.core i.group }] }
              { g with wait := .chime n target i.d m }

/-- CHSET: the signal is on its way to the Chime. -/
def execChset (i : Ins) (s : State) : Host.Outcome State Fault Refusal :=
  pipeline i s ([i.a] ++ pairRegs i.b) [] fun s b g =>
    if i.c ≠ 0 ∨ i.imm ≠ 0 ∨ !(evenReg i.b) then illegal
    else
      match lowestThread (g.exec i) with
      | none => .done s g.step
      | some t =>
        let ns := s.kitChimes b.kit
        let n := (g.read i.a t).toNat
        if ns.2 ≤ n then .fault stWindowRange (some t) n
        else .done (s.issueSignal (ns.1 + n) (BitVec.ofNat 64 (g.readPair i.b t)) (16 * i.core + i.group + 1)) g.step

/-- NOP has no effect (04 Table 4-10). -/
def execNop (i : Ins) (s : State) : Host.Outcome State Fault Refusal :=
  pipeline i s [] [] fun s _ g => if i.c ≠ 0 ∨ i.imm ≠ 0 then illegal else .done s g.step

/-- The signal at a position of those on their way is applied, unless an earlier one of the same group to the same Chime is
still on its way (09 R224, 12 R298, R300). -/
def State.signalArrives (s : State) (position : Nat) : State :=
  match s.signals[position]? with
  | none => s
  | some g =>
    if g.source ≠ 0 ∧ (s.signals.take position).any fun h => h.source == g.source && h.chime == g.chime then s
    else ({ s with signals := s.signals.eraseIdx position }).applySignal g

/-! ### The core store (04 R111 to R113) -/

/-- Bytes of the core store. -/
def coreStoreSize : Nat := 2 ^ 21

/-- Bytes that WIDTH selects; none for 11b (04 Table 4-5). -/
def Ins.width (i : Ins) : Option Nat :=
  match i.imm.toNat / 2 ^ 18 with
  | 0 => some 4
  | 1 => some 8
  | 2 => some 16
  | _ => none

/-- OFFSET in bytes. -/
def Ins.offset (i : Ins) (width : Nat) : Int := (i.imm.extractLsb' 0 12).toInt * width

/-- Registers of a group of WIDTH bytes (04 R104 (b)). -/
def widthRegs (r width : Nat) : List Nat := (List.range (width / 4)).map (r + ·)

/-- A register group starts at a multiple of its length (04 R104 (b)). -/
def groupAligned (r width : Nat) : Bool := decide (r % (width / 4) = 0)

/-- Address of a CSTORE access of thread `t`. -/
def Ins.storeAddress (i : Ins) (g : Group) (width t : Nat) : Nat :=
  (((g.read i.a t).toNat + i.offset width) % 2 ^ 32).toNat

/-- Faults met by threads: status, thread, address. -/
abbrev Faults := List (Nat × (Nat × Nat))

/-- The fault that is recorded: the status that stands highest, of the lowest thread that met it (04 R122). -/
def worstFault (l : Faults) : Option Issued :=
  match topFault (l.map (·.1)) with
  | none => none
  | some st => (l.find? (·.1 == st)).map fun f => .fault st (some f.2.1) f.2.2

/-- Faults of CSTORE accesses (04 R111 (a), (b)). -/
def storeFaults (l : List (Nat × Nat)) (width : Nat) : Faults :=
  l.flatMap fun e =>
    (if e.2 % width ≠ 0 then [(stMisaligned, e.1, e.2)] else []) ++
      if coreStoreSize ≤ e.2 then [(stCoreStoreRange, e.1, e.2)] else []

/-- Range of the core store that a tile instruction in flight uses (06 R159). -/
def Request.storeRange (r : Request) : Option Nat :=
  match r.kind with
  | .tileLoad c _ _ => some c
  | .tileStore c _ _ => some c
  | _ => none

/-- `n` bytes from `a` of a core store overlap the range of an unfinished tile instruction (06 R159). -/
def State.storeHeld (s : State) (core a n : Nat) : Bool :=
  s.mem.requests.any fun r => r.core == core && match r.storeRange with
    | some c => decide (a < c + 4096) && decide (c < a + n)
    | none => false

/-- Bytes of the core store. -/
def Block.storeRead (b : Block) (a n : Nat) : List Byte := memRead zeroByte b.cstore a n

/-- Bytes written in the core store; the valid bits of their units are set (04 R112). -/
def Block.storeWrite (b : Block) (a : Nat) (bytes : List Byte) : Block :=
  let units := (List.range (ceilDiv (a % 128 + bytes.length) 128)).map (a / 128 + ·)
  { b with
    cstore := memWrite zeroByte b.cstore a bytes
    cvalid := if bytes.isEmpty then b.cvalid else units.foldl addOnce b.cvalid }

/-- CLD. -/
def execCld (i : Ins) (s : State) : Host.Outcome State Fault Refusal :=
  pipeline i s [i.a] (widthRegs i.d (i.width.getD 4)) fun s b g =>
    match i.width with
    | none => illegal
    | some w =>
      if i.b ≠ 0 ∨ i.imm.toNat / 4096 % 64 ≠ 0 ∨ !(groupAligned i.d w) then illegal
      else
        let m := g.exec i
        let l := (threadsOf m).map fun t => (t, i.storeAddress g w t)
        match worstFault (storeFaults l w) with
        | some f => f
        | none =>
          if l.any fun e => s.storeHeld i.core e.2 w then .stall
          else .done s (g.writeMany i.d (w / 4) m fun t => wordsOf (w / 4) (b.storeRead (i.storeAddress g w t) w)).step

/-- Bytes of consecutive registers of a thread. -/
def Group.bytes (g : Group) (r width t : Nat) : List Byte :=
  (List.range (width / 4)).flatMap fun k => leBytes 4 (g.read (r + k) t).toNat

/-- CST: where threads write the same bytes the higher thread index lands (04 R113). -/
def execCst (i : Ins) (s : State) : Host.Outcome State Fault Refusal :=
  pipeline i s (i.a :: widthRegs i.c (i.width.getD 4)) [] fun s b g =>
    match i.width with
    | none => illegal
    | some w =>
      if i.b ≠ 0 ∨ i.imm.toNat / 4096 % 64 ≠ 0 ∨ !(groupAligned i.c w) then illegal
      else
        let l := (threadsOf (g.exec i)).map fun t => (t, i.storeAddress g w t)
        match worstFault (storeFaults l w) with
        | some f => f
        | none =>
          if l.any fun e => s.storeHeld i.core e.2 w then .stall
          else
            let b1 := l.foldl (fun b e => b.storeWrite e.2 (g.bytes i.c w e.1)) b
            .done (s.modBlock i.core fun _ => b1) g.step

/-! ### The window (04 R96) -/

/-- A group outside the window is ready as far as waits and returning values go. -/
def State.enters (s : State) (core group : Nat) (g : Group) : Bool :=
  !g.finished && g.wait == .none && !(s.inFlight core group Request.returns)

/-- A group in the window that waits, or has finished, leaves it. -/
def State.givesWay (s : State) (core n : Nat) (g : Group) : Bool := g.finished || g.wait != .none || s.inFlight core n Request.returns

/-- The groups outside the window of a core that could enter it, with the order in which they became ready. -/
def State.readyOutside (s : State) (core : Nat) (b : Block) : List (Nat × Nat) :=
  (List.range b.groups.length).filterMap fun k =>
    if (s.core core).window.contains (some k) then none
    else match b.groups[k]? with
      | some g => if s.enters core k g then some (g.readySince, k) else none
      | none => none

/-- Of two groups that became ready, the first, and of two that became ready together the one that stands first. -/
def earlier : Option (Nat × Nat) → Nat × Nat → Option (Nat × Nat)
  | none, e => some e
  | some x, e => if e.1 < x.1 then some e else some x

/-- The first of them. -/
def firstReady (l : List (Nat × Nat)) : Option Nat := (l.foldl earlier none).map (·.2)

/-- WINDOW_SWAP: a group that waits leaves its slot for the group that became ready first. -/
def State.windowSwap (s : State) (core slot : Nat) : State :=
  let c := s.core core
  match c.block, c.window[slot]? with
  | some b, some (some n) =>
    match (b.groups[n]?).any (s.givesWay core n) && c.phase == .running, firstReady (s.readyOutside core b) with
    | true, some k =>
      let s1 := (s.modGroup core n fun g => { g with regCache := [] }).modGroup core k fun g => { g with regCache := [] }
      s1.modCore core fun c => { c with window := lmod c.window slot fun _ => some k }
    | _, _ => s
  | _, _ => s

end Sys2Proof.Machine
end

