-- ==== Sys2Proof/Machine/Cijan.lean ====
section
/-!
DEFINITION. Atomic updates (04 R117, R118), the transactions of the Cijan coherence arbiter and the coherent domain (15 R342 to R355,
R361 to R364), and the test of a Kit after its resources have changed (03 R89).
-/
namespace Sys2Proof.Machine
open Sys2Proof

/-! ### Atomics (04 R117, R118) -/

/-- The smaller or larger of two values, signed or unsigned. -/
def pickMin (signed : Bool) (n a b : Nat) : Nat :=
  let key (x : Nat) : Int := if signed && decide (2 ^ (n - 1) ≤ x) then (x : Int) - 2 ^ n else x
  if key a ≤ key b then a else b

/-- apply of 04 R118 for every operation but AFADD: operand and compare value of `n` bits. -/
def applyAtomic (op : AtomicOp) (n v operand compare : Nat) : Nat :=
  match op with
  | .add => (v + operand) % 2 ^ n
  | .fadd => v
  | .min => pickMin true n v operand
  | .max => if pickMin true n v operand = v then operand else v
  | .umin => pickMin false n v operand
  | .umax => if pickMin false n v operand = v then operand else v
  | .and => v &&& operand
  | .or => v ||| operand
  | .xor => v ^^^ operand
  | .xchg => operand
  | .cas => if v = compare then operand else v

/-- The value that words hold. -/
def wordsNat (l : List Word) : Nat := l.foldr (fun w a => w.toNat + a * 2 ^ 32) 0

/-- A value as words of 4 bytes. -/
def natWords (width v : Nat) : List Word := (List.range (width / 4)).map fun k => BitVec.ofNat 32 (v / 2 ^ (32 * k))

/-- One addition of AFADD, rounded to nearest-even. -/
def addF32 (a b : Nat) : Nat := (fpAdd binary32 .nearestEven a b).1

/-- same_address of 04 R118 over the lanes of one address, ascending by thread: final value and the value of each thread. For AFADD
the sum of the operands below a thread is formed first, then added to the old value. -/
def sameAddress (op : AtomicOp) (width old : Nat) (lanes : List Lane) : Nat × List (Nat × List Word) :=
  match op with
  | .fadd =>
    let r := lanes.foldl (fun (x : Option Nat × List (Nat × List Word)) l =>
      let here := match x.1 with
        | none => old
        | some s => addF32 old s
      let sum := match x.1 with
        | none => wordsNat l.data
        | some s => addF32 s (wordsNat l.data)
      (some sum, x.2 ++ [(l.thread, natWords width here)])) (none, [])
    (match r.1 with
      | none => old
      | some s => addF32 old s, r.2)
  | _ =>
    lanes.foldl (fun (x : Nat × List (Nat × List Word)) l =>
      (applyAtomic op (8 * width) x.1 (wordsNat l.data) (wordsNat l.compare), x.2 ++ [(l.thread, natWords width x.1)]))
      (old, [])

/-- Every update of an instruction in one code word, whose bytes begin at offset 0 of `at_`: new bytes and returned values. -/
def atomicUnit (op : AtomicOp) (width : Nat) (at_ : Lane → Nat) (lanes : List Lane) (bytes : List Byte) :
    List Byte × List (Nat × List Word) :=
  let places := (lanes.map at_).foldl addOnce []
  places.foldl (fun (x : List Byte × List (Nat × List Word)) a =>
    let r := sameAddress op width (field x.1 a width) (lanes.filter fun l => at_ l == a)
    (x.1.take a ++ leBytes width r.1 ++ x.1.drop (a + width), x.2 ++ r.2)) (bytes, [])

/-! ### Requests -/

/-- The request with an identifier. -/
def State.request (s : State) (id : Nat) : Option Request := s.mem.requests.find? (·.id == id)

/-- The state with a request changed. -/
def State.modRequest (s : State) (id : Nat) (f : Request → Request) : State :=
  { s with mem := { s.mem with requests := s.mem.requests.map fun r => if r.id = id then f r else r } }

/-- Device address of a lane in a coherent window. -/
def Lane.coherent (l : Lane) : Option Nat :=
  match l.place with
  | .coherent a => some a
  | _ => none

/-- The lane lies in a coherent granule. -/
def Lane.inGranule (l : Lane) (g : Nat) : Bool := l.coherent.any fun a => a / 128 * 128 == g

/-- Context of the block of a core. -/
def State.coreContext (s : State) (core : Nat) : Nat :=
  (((s.core core).block.bind fun b => s.list b.list).map (·.context)).getD 65535

/-! ### The test of a Kit whose resources have changed (03 R89) -/

/-- An ADMITTED Kit is tested again: it is DEGRADED when it does not fit, with a notice, and no more when it fits. -/
def State.retestKit (s : State) (kit : Nat) : State :=
  match s.kit kit with
  | none => s
  | some k =>
    match k.load, k.placement with
    | some l, some p =>
      if k.mode ≠ .admitted then s else
        let f := s.placeKit k l (k.share l) k.percentile k.marginShare (some p)
        if f.failing.isEmpty then s.modKit kit fun x => { x with degraded := false }
        else
          let u := f.failing.head?
          let s1 := s.modKit kit fun x => { x with degraded := true }
          let s2 := if k.report = 0 then s1 else s1.writeResult k.report (s.reportBytes kit 0xFFFFFFFF u f.placement f.uses)
          s2.notice (.context k.context) 0x0003 stOk k.context (min k.lostCores 0xFFFF) k.report kit
    | _, _ => s

/-- Every Kit with a placement is tested again, in ascending KIT_ID. -/
def State.retestAll (s : State) : State := s.kits.foldl (fun s k => s.retestKit k.1) s

/-! ### The arbiter (15 R344, R346, R351) -/

/-- The engines that are up, ascending. -/
def CijanState.ups (c : CijanState) : List Nat :=
  (List.range 4).filter fun e => (c.engines[e]?).any (·.up)

/-- The engine for an address (15 R344). -/
def CijanState.engineFor (c : CijanState) (a : Nat) : Option Nat :=
  let l := c.ups
  l[a / 4096 % l.length]?

/-- Operation code of a CREQ (15 Table 15-1). -/
def TxnKind.code : TxnKind → Nat
  | .read => 1 | .readExcl => 2 | .write => 3 | .writeUnlock => 4

/-- A CREQ that carries a data unit. -/
def TxnKind.carries : TxnKind → Bool
  | .write | .writeUnlock => true
  | _ => false

/-- The state with the transaction of a tag changed. -/
def State.modTxn (s : State) (tag : Nat) (f : Txn → Txn) : State :=
  { s with cijan := { s.cijan with txns := s.cijan.txns.map fun t => if t.tag = tag then f t else t } }

/-- The transaction of a tag. -/
def State.txn (s : State) (tag : Nat) : Option Txn := s.cijan.txns.find? (·.tag == tag)

/-- The header and data of a CREQ (15 Table 15-2): OP, FLAGS, TAG, HINT_TARGET, EPOCH, LENGTH, ADDRESS. -/
def State.creq (s : State) (t : Txn) (engine : Nat) : Msg :=
  let w := s.anyWindow t.granule
  let hint := if t.kind.carries then ((w.map (·.hint)).getD 0) * 2 else 0
  let target := (w.map (·.hintTarget)).getD 0
  ⟨.creq, engine, [16 + t.kind.code, b2n t.retry + hint, t.tag, target, s.cijan.epoch % 256, b2n t.kind.carries,
    (w.map fun w => w.host t.granule).getD 0], if t.kind.carries then t.data else []⟩

/-- A transaction may be sent: it is the first on its granule, waits for no backoff, and its engine has credit. -/
def State.sendable (s : State) (t : Txn) (engine : Nat) : Bool :=
  let first := (s.cijan.txns.find? (·.granule == t.granule)).any (·.tag == t.tag)
  match s.cijan.engines[engine]? with
  | some e => !t.sent && !t.backoff && first && decide (0 < e.headerCredits) && (!t.kind.carries || decide (0 < e.dataCredits))
  | none => false

/-- A transaction is sent if it may be. -/
def State.trySend (s : State) (tag : Nat) : State :=
  match s.txn tag with
  | none => s
  | some t =>
    match s.cijan.engineFor t.granule with
    | none => s
    | some e =>
      if !(s.sendable t e) then s else
        let s1 := s.send (s.creq t e)
        let engines := lmod s1.cijan.engines e fun x =>
          { x with headerCredits := x.headerCredits - 1, dataCredits := x.dataCredits - b2n t.kind.carries }
        let s2 := { s1 with cijan := { s1.cijan with engines } }
        s2.modTxn tag fun t =>
          { t with sent := true, engine := e, lastSend := s.now, firstSend := if t.retry then t.firstSend else s.now }

/-- Every transaction that may start does, in order of arrival. -/
def State.pump (s : State) : State := (s.cijan.txns.map (·.tag)).foldl State.trySend s

/-- The lowest free tag. -/
def CijanState.freeTag (c : CijanState) : Option Nat :=
  (List.range (c.txns.length + 1)).find? fun t => t < 65536 && !(c.txns.any (·.tag == t))

/-- A new transaction arrives at the arbiter. -/
def State.addTxn (s : State) (kind : TxnKind) (granule request context : Nat) (data : List Byte) : State :=
  match s.cijan.freeTag with
  | none => s
  | some tag =>
    let t : Txn := { tag, kind, granule, engine := 0, sent := false, backoff := false, retry := false, resendAt := 0,
                     nacks := 0, firstSend := s.now, lastSend := 0, data, request, context }
    { s with cijan := { s.cijan with txns := s.cijan.txns ++ [t] } }

/-- A transaction is finished; the next on its granule starts (15 R352). -/
def State.finishTxn (s : State) (tag : Nat) : State :=
  let s1 : State := { s with cijan := { s.cijan with txns := s.cijan.txns.filter fun t => t.tag != tag } }
  s1.pump

/-! ### Responses (15 R345, R352, R353) -/

/-- A CRSP of another epoch is discarded and counted. -/
def State.stale (s : State) (epoch : Nat) : Bool := s.cijan.mode != .up || s.cijan.epoch % 256 != epoch % 256

/-- CIJAN_STALE counts. -/
def State.countStale (s : State) : State := { s with cijan := { s.cijan with stale := s.cijan.stale + 1 } }

/-- C_DATA (15 R352 to R354): a load takes its bytes; an atomic applies its updates and sends C_WRITE_UNLOCK. -/
def State.cData (s : State) (tag epoch : Nat) (payload : List Byte) : State :=
  if s.stale epoch then s.countStale else
  match s.txn tag with
  | none => s
  | some t =>
    if !t.sent ∨ t.kind.carries then s else
      let bytes := padTo 128 payload
      let s0 := s.companionWrite t.granule bytes
      match s0.request t.request with
      | none => s0.finishTxn tag
      | some r =>
        let mine := r.lanes.filter fun l => l.inGranule t.granule
        let at_ (l : Lane) : Nat := (l.coherent.getD 0) % 128
        match t.kind, r.kind with
        | .readExcl, .atomic op _ =>
          let x := atomicUnit op r.width at_ mine bytes
          let s1 := s0.modRequest r.id fun r => { r with returned := r.returned ++ x.2 }
          (s1.modTxn tag fun t => { t with kind := .writeUnlock, data := x.1, sent := false, retry := false, nacks := 0 }).pump
        | _, _ =>
          let got := mine.map fun l => (l.thread, wordsOf (r.width / 4) (slice bytes (at_ l) r.width))
          (s0.modRequest r.id fun r =>
            { r with returned := r.returned ++ got, lanes := r.lanes.filter fun l => !(l.inGranule t.granule) }).finishTxn tag

/-- C_ACK: the write has been performed at the companion (15 R354). -/
def State.cAck (s : State) (tag epoch : Nat) : State :=
  if s.stale epoch then s.countStale else
  match s.txn tag with
  | none => s
  | some t =>
    if !t.sent ∨ !t.kind.carries then s else
      ((s.companionWrite t.granule t.data).modRequest t.request fun r =>
        { r with lanes := r.lanes.filter fun l => !(l.inGranule t.granule) }).finishTxn tag

/-! ### Loss of the domain (15 R362, R363) -/

/-- A transfer has a side in a coherent window. -/
def Transfer.coherent (t : Transfer) : Bool :=
  sideCoherent t.srcSpace t.rows t.srcRow || sideCoherent t.dstSpace t.rows t.dstRow

/-- The Contexts that use the domain (15 R363 (b)). -/
def State.domainUsers (s : State) : List Nat :=
  let accesses := (s.mem.requests.filter fun r => r.lanes.any fun l => l.coherent.isSome).map fun r => s.coreContext r.core
  let moves := (s.mem.transfers.filter Transfer.coherent).map (·.context)
  ((accesses ++ moves).foldl addOnce []).filter (· != 65535)

/-- The domain is declared down with a cause, at an engine or none (15 R362, R363). -/
def State.declareDown (s : State) (cause engine : Nat) : State :=
  if s.cijan.mode ≠ .up then s else
    let users := s.domainUsers.filter fun c => (s.context c).mode == .active
    let s1 : State := { s with cijan := { s.cijan with
      mode := .failing, txns := [], cause, downAt := s.now, losses := s.cijan.losses + 1 } }
    let s2 := users.foldl (fun s c => s.loseContext c stCoherentDown) s1
    let s3 := (s2.mem.transfers.filter fun t => t.context == 65535 && t.coherent).foldl
      (fun s t => s.endTransfer t stCoherentDown) s2
    let s4 := s3.notice .companion 0x0010 stOk 65535 (cause + engine * 256) (s.cijan.epoch + users.length * 2 ^ 32) 0
    let s5 := s4.attend 11
    s.cijan.ups.foldl (fun s _ => s.interrupt 0 s.cijan.domainVector) s5

/-- C_ERR (15 R352, R362 (a)); while the link block is read it ends the attempt (15 Table 15-3). -/
def State.linkReject (s : State) (reason : Nat) : State :=
  let s1 : State := { s with cijan := { s.cijan with mode := .down, pendingEpoch := 0, linkBlock := 0 } }
  s.cijan.ups.foldl (fun s e => s.send ⟨.linkHelloDone, e, [3, reason], []⟩) s1

/-- C_ERR: an error of a coherent agent. The REASON of the LINK_REJECT that follows it in ESTABLISHING is not stated: a free value. -/
def State.cErr (s : State) (tag epoch reason : Nat) : State :=
  if s.cijan.mode = .establishing ∧ s.cijan.pendingEpoch % 256 = epoch % 256 then s.useFree.linkReject (s.free.toNat % 8)
  else if s.stale epoch then s.countStale
  else
    match s.txn tag with
    | none => s
    | some t =>
      if t.sent then (s.logEvent Config.agentErrorKind.toNat 0 0xFF 0xFF 0 0 0xFF reason).declareDown 1 t.engine else s

/-- C_NACK: the request is sent again after its backoff, up to the limit (15 R352). -/
def State.cNack (s : State) (tag epoch : Nat) : State :=
  if s.stale epoch then s.countStale else
  match s.txn tag with
  | none => s
  | some t =>
    if !t.sent then s else
      let n := t.nacks + 1
      let s1 : State := { s with cijan := { s.cijan with nackTotal := s.cijan.nackTotal + 1 } }
      if 256 < n ∨ 100000 < s.now - t.firstSend then s1.declareDown 2 t.engine
      else
        s1.modTxn tag fun t =>
          { t with nacks := n, sent := false, backoff := true, retry := true,
                   resendAt := s.now + ceilDiv (64 * 2 ^ min (n - 1) 6) 10 }

/-- CREQ_RESEND: the backoff has passed. -/
def State.creqResend (s : State) (tag : Nat) : State :=
  match s.txn tag with
  | none => s
  | some t =>
    if !t.backoff then s
    else ((s.clockTo t.resendAt).modTxn tag fun t => { t with backoff := false }).pump

/-- TRANSACTION_TIMEOUT: no response within 1 ms of the last send. -/
def State.transactionTimeout (s : State) (tag : Nat) : State :=
  match s.txn tag with
  | none => s
  | some t => if t.sent then (s.clockTo (t.lastSend + 100000)).declareDown 3 t.engine else s

/-! ### The states of the domain (15 Table 15-3) -/

/-- A LINK_HELLO is taken in DOWN. -/
def State.takeHello (s : State) (epoch linkBlock : Nat) : State :=
  if epoch = s.cijan.epoch ∧ epoch ≠ 0 then s.linkReject 3
  else { s with cijan := { s.cijan with mode := .establishing, pendingEpoch := epoch, linkBlock } }

/-- LINK_HELLO (15 Table 15-3, R362 (f), Table 15-7). -/
def State.linkHello (s : State) (epoch linkBlock : Nat) : State :=
  match s.cijan.mode with
  | .down => if s.cijan.ups.isEmpty then s else s.takeHello epoch linkBlock
  | .establishing => s
  | .up =>
    let s1 := s.declareDown 6 0xF
    { s1 with cijan := { s1.cijan with heldHello := some (epoch, linkBlock) } }
  | .failing => { s with cijan := { s.cijan with heldHello := some (epoch, linkBlock) } }

/-- DOMAIN_DOWN_COMPLETE: FAILING ends, and a LINK_HELLO held is taken. -/
def State.domainDownComplete (s : State) : State :=
  if s.cijan.mode ≠ .failing then s else
    let s1 : State := { s with cijan := { s.cijan with mode := .down, windows := [], heldHello := none } }
    match s.cijan.heldHello with
    | some (e, b) => s1.takeHello e b
    | none => s1

/-- LINK_RESET from the companion (15 R362 (f)). -/
def State.linkReset (s : State) : State := s.declareDown 6 0xF

/-- LINK_RESET_TIMER: in DOWN, LINK_RESET goes out on every engine that is up. -/
def State.linkResetTimer (s : State) : State :=
  if s.cijan.mode ≠ .down then s else s.cijan.ups.foldl (fun s e => s.send ⟨.linkReset, e, [], []⟩) s

/-- A window of the window table. -/
def Window.ofBytes (b : List Byte) : Window :=
  { deviceBase := field b 0 8, size := field b 8 8, hostBase := field b 16 8, partitions := field b 24 8,
    read := bit (field b 32 1) 0, write := bit (field b 32 1) 1, hint := bits (field b 32 1) 3 2,
    hintTarget := field b 34 2 }

/-- A window's shape: alignments, reserved fields, reserved HINT (15 Table 15-5). -/
def windowShape (b : List Byte) : Bool :=
  let m := 2 * 2 ^ 20
  decide (field b 0 8 % m = 0) && decide (field b 8 8 % m = 0) && decide (m ≤ field b 8 8) && decide (field b 16 8 % m = 0) &&
    decide (field b 32 1 < 16) && decide (bits (field b 32 1) 3 2 ≠ 3) && (slice b 33 1).all (· == 0) &&
    (slice b 36 28).all (· == 0)

/-- The REASON for which a link block and its windows are refused, the first that holds (15 R349). -/
def helloReason (lastEpoch linkBlock : Nat) (block : List Byte) (entries : List (List Byte)) : Option Nat :=
  let windows := entries.map Window.ofBytes
  let count := field block 2 2
  let shape := decide (field block 0 2 = 1) && decide (count ≤ 256) && decide (field block 8 8 % 2 ^ 47 = 0) &&
    decide (field block 16 8 % 128 = 0) && decide (linkBlock % 128 = 0) && decide (1024 ≤ field block 26 2) &&
    (slice block 44 84).all (· == 0) && entries.all windowShape
  let ranges := windows.all fun w => decide (0x800000000000 ≤ w.deviceBase) && decide (w.deviceBase + w.size ≤ 2 ^ 48)
  let lat := [field block 28 4, field block 32 4, field block 36 4]
  let epoch := field block 4 4
  if !shape then some 1
  else if !ranges ∨ !(disjointRanges (windows.map fun w => (w.deviceBase, w.size))) then some 2
  else if epoch = 0 ∨ epoch = lastEpoch ∨ lat.contains 0 ∨ lat.getD 1 0 < lat.getD 0 0 ∨ lat.getD 2 0 < lat.getD 1 0 then
    some 3
  else none

/-- LINK_BLOCK_CHECKED: the link block and the window table, as the companion's memory gave them, are accepted or rejected (15 R349);
a latency above the one before puts every Kit to the test again (15 R354). -/
def State.linkBlockChecked (s : State) (block table : List Byte) : State :=
  if s.cijan.mode ≠ .establishing then s else
    let b := padTo 128 block
    let entries := (List.range (min (field b 2 2) 256)).map fun i => slice table (64 * i) 64
    match helloReason s.cijan.epoch s.cijan.linkBlock b entries with
    | some r => s.linkReject r
    | none =>
      let lat := [field b 28 4, field b 32 4, field b 36 4]
      let credits := field b 26 2
      let engines := s.cijan.engines.map fun e => { e with headerCredits := credits, dataCredits := 1024 }
      let raised := !s.cijan.latencies.isEmpty && (List.range 3).any fun i =>
        decide (s.cijan.latencies.getD i 0 < lat.getD i 0)
      let s1 : State := { s with cijan := { s.cijan with
        mode := .up, epoch := field b 4 4, pendingEpoch := 0, aperture := field b 8 8,
        windows := entries.map Window.ofBytes, domainVector := field b 24 2, creqCredits := credits, latencies := lat,
        companionId := field b 40 4, engines } }
      let s2 := s.cijan.ups.foldl (fun s e => s.send ⟨.linkHelloDone, e, [2, 0], []⟩) s1
      if raised then s2.retestAll else s2

/-! ### Engines (15 R346, R361) -/

/-- LINK_CREDIT from the companion. -/
def State.linkCredit (s : State) (engine headers units : Nat) : State :=
  let s1 : State := { s with cijan := { s.cijan with engines := lmod s.cijan.engines engine fun e =>
    { e with headerCredits := e.headerCredits + headers, dataCredits := e.dataCredits + units } } }
  s1.pump

/-- CIJAN_ENGINE_LOSS (15 R361, R362 (e)): the CREQs that the engine carried without a response go out again with RETRY. -/
def State.cijanEngineLoss (s : State) (engine : Nat) : State :=
  match s.cijan.engines[engine]? with
  | none => s
  | some e =>
    if !e.up then s else
      let s1 : State := { s with cijan := { s.cijan with
        engines := lmod s.cijan.engines engine fun e =>
          { e with up := false, headerCredits := 0, dataCredits := 0 } } }
      let s2 := s1.logFailure 0x17 0xFF (32 + engine)
      let s3 := s1.cijan.ups.foldl (fun s x => s.send ⟨.engineState, x, [engine, 0], []⟩) s2
      if s1.cijan.ups.isEmpty then
        (if s3.cijan.mode = .establishing then { s3 with cijan := { s3.cijan with mode := .down } } else s3).declareDown 5 engine
          |>.retestAll
      else
        let again : State := { s3 with cijan := { s3.cijan with
          txns := s3.cijan.txns.map fun t => if t.sent ∧ t.engine = engine then { t with sent := false, retry := true } else t } }
        again.pump.retestAll

/-- ENGINE_STATE: an engine comes up with its credits, or the companion reports that one is down (15 R361). -/
def State.engineState (s : State) (engine : Nat) (up : Bool) : State :=
  match s.cijan.engines[engine]? with
  | none => s
  | some e =>
    if !up then s.cijanEngineLoss engine
    else if e.up then s
    else
      let s1 : State := { s with cijan := { s.cijan with
        engines := lmod s.cijan.engines engine fun e =>
          { e with up := true, headerCredits := s.cijan.creqCredits, dataCredits := if s.cijan.mode = .up then 1024 else 0 } } }
      (s1.cijan.ups.foldl (fun s x => s.send ⟨.engineState, x, [engine, 1], []⟩) s1).pump.retestAll

end Sys2Proof.Machine
end

