-- ==== Sys2Proof/Machine/Weights.lean ====
section
/-!
DEFINITION. The cancellation of a Kit's work for repetition (19 R434, R437) and the recovery of a shared weight (08 R213).
-/
namespace Sys2Proof.Machine
open Sys2Proof

/-- Contexts that a repetition of a list concerns: the owner of its Kit, and of the Sequences that have a step in it (19 R437). -/
def State.repetitionContexts (s : State) (l : WorkList) : List Nat :=
  let kit := ((s.kit l.kit).map (·.context)).toList
  (kit ++ l.steps.filterMap fun q => (s.seq q.seq).map (·.context)).foldl addOnce []

/-- Every unfinished list of a Kit is cancelled, to be launched again whole; each Context concerned receives one LATE_STEP with cause
FAILURE (19 R434, R435, R437). No Chime receives error status. -/
def State.cancelForRepeat (s : State) (kit handle tile station pair : Nat) : State :=
  let open_ := s.openLists kit
  let ctxs := (open_.flatMap s.repetitionContexts).foldl addOnce []
  let s1 := open_.foldl (fun s l => (s.cancelList l.id).modList l.id fun l =>
    { l with repeat_ := true, attempts := l.attempts + 1 }) s
  ctxs.foldl (fun s c => s.lateStep c 3 handle tile station pair) s1

/-- The Kit's admitted load names the object in a TENSOR record with SHARED set (03 R76). -/
def Kit.sharesWeight (k : Kit) (handle : Nat) : Bool :=
  k.placement.isSome && k.load.any fun l => l.records.any fun r => r.kind == 1 && bit r.flags 2 && r.source == handle

/-- A Kit's admitted load names the object in a TENSOR record. -/
def Kit.mapsObject (k : Kit) (handle : Nat) : Bool :=
  k.placement.isSome && k.load.any fun l => l.records.any fun r => r.kind == 1 && r.source == handle

/-- A tile's payload and tag. -/
structure TileCopy where
  payload : List Byte
  tag : Tag

/-- The good copy of a tile in the other tier: of the resident CLEAN line that is bad, the tier-2 tile of the same VERSION
(08 R213, own_clean_copy). -/
def State.ownCopy (s : State) (index : Nat) (o : Object) (tile : Nat) : Option TileCopy :=
  match s.findLine index tile with
  | some (slot, l) =>
    let f := s.fillData index o tile
    if l.mode = .clean ∧ s.poisoned1 (slot * 4096) 4096 then
      if f.status = stOk ∧ f.bad.isEmpty ∧ f.tag.version = (s.tag slot).version then some ⟨f.bytes, f.tag⟩ else none
    else if l.mode = .clean then some ⟨s.lineData slot, s.tag slot⟩
    else none
  | none => none

/-- The replica of a tile (03 R76): held by another module or by the companion. -/
def Kit.replicaCopy (k : Kit) (handle tile : Nat) : Option TileCopy :=
  if (k.load.map (·.replica)).getD 0 = 0 then none
  else
    let bytes (a n : Nat) : List Byte := (List.range n).map fun i => Config.replicaByte handle tile (a + i)
    some ⟨bytes 0 4096, Tag.ofBytes (bytes 4096 16)⟩

/-- A tile is rewritten whole from a copy, in both tiers (08 R213, rewrite_whole). -/
def State.rewriteTile (s : State) (index : Nat) (o : Object) (tile : Nat) (c : TileCopy) : State :=
  let s1 := (s.objWrite2 o (o.lineOffset tile) c.payload)
  let s2 := if o.tiled then s1.setObjTag2 o tile c.tag else s1
  match s2.findLine index tile with
  | some (slot, _) =>
    let m := { s2.mem with
      t1 := memWrite zeroByte s2.mem.t1 (slot * 4096) c.payload
      poison1 := s2.mem.poison1.filter fun w => w / 32 != slot }
    { s2 with mem := m.setTag slot c.tag }
  | none => s2

/-- routine shared_weight_error of 08 R213. -/
def State.sharedWeightError (s : State) (kit index tile : Nat) : State :=
  match s.kit kit, tget s.objects index with
  | some k, some o =>
    let handle := o.handle index
    let pair := (o.locate (o.lineOffset tile)).1
    let s1 := s.cancelForRepeat kit handle tile 0xFF pair
    let own := s1.ownCopy index o tile
    let src := own.orElse fun _ => k.replicaCopy handle tile
    let good := match src with
      | some c => tileOutcome false false c.tag.format c.payload c.tag == stOk || !o.tiled
      | none => false
    match src, good with
    | some c, true =>
      let s2 := s1.rewriteTile index o tile c
      if own.isSome then s2.logEvent 0x0A 0 0xFF pair 0 (o.locate (o.lineOffset tile)).2 o.partition 0xFF else s2
    | _, _ =>
      let owners := (o.context :: (s1.kits.filter fun x => x.2.mapsObject handle).map (·.2.context)).foldl addOnce []
      let s2 := owners.foldl (fun s c => s.loseContext c stMemoryError) s1
      s2.notice (.partition o.partition) 0x0008 stMemoryError 65535 (pair * 256) handle tile
  | _, _ => s

/-- A status met by an access of a group ends it: a memory error in a shared weight is recovered, anything else faults the task
(08 R210 (a), R213; 04 R122). -/
def State.accessFault (s : State) (core group : Nat) (thread : Option Nat) (status address pc : Nat) (active : U64)
    (line : Option (Nat × Nat)) : State :=
  let kit := ((s.core core).block.map (·.kit)).getD 0
  match line with
  | some (i, l) =>
    let shared := status == stMemoryError && match s.kit kit, tget s.objects i with
      | some k, some o => k.sharesWeight (o.handle i)
      | _, _ => false
    if shared then s.sharedWeightError kit i l else s.taskFault core group thread status address pc active
  | none => s.taskFault core group thread status address pc active

end Sys2Proof.Machine
end

