-- ==== Sys2Proof/Machine/MemoryPipe.lean ====
section
/-!
DEFINITION. The classes MEMORY and ATOMIC (04 R114 to R118), descriptors (07 R188, R189), the read-only caches (07 R186), and what
happens to a request at its point of coherence and on its return (07 R171 to R175, R183, R184; 09 R217 to R221; 08 R209, R210).
-/
namespace Sys2Proof.Machine
open Sys2Proof

/-! ### Segments (04 R114, 07 R188, R189, 15 R350) -/

/-- What the mapping of an access comes to. -/
inductive Mapped where
  | at_ (place : Place)
  | fault (status : Nat)
  /-- A coherent access while the domain is not UP (15 R363 (c)). -/
  | down

/-- Bytes of descriptor `x` of a block, through the descriptor cache: state, status, bytes. -/
def State.descriptor (s : State) (core : Nat) (b : Block) (x : Nat) : Got :=
  let key := b.descTable * 2 ^ 16 + x
  match roFind (s.core core).descCache (x % 64) key with
  | some d => ⟨s.modCore core fun c => { c with descCache := roUse c.descCache 8 (x % 64) key d }, stOk, d⟩
  | none =>
    if !(s.inScratch b.partition (b.descTable + 32 * x) 32) then ⟨s, stWindowRange, []⟩
    else
      let g := s.unitRead 0 0 (b.descTable + 32 * x) 32
      if g.status ≠ stOk then g
      else ⟨g.s.modCore core fun c => { c with descCache := roUse c.descCache 8 (x % 64) key g.bytes }, stOk, g.bytes⟩

/-- Segment address to object offset through a descriptor (07 R189). -/
def State.throughDescriptor (s : State) (partition : Nat) (d : List Byte) (a width : Nat) (write : Bool) : Mapped :=
  let base := field d 8 8
  let flags := field d 24 1
  match s.objectOf (field d 0 8) with
  | none => .fault stWindowRange
  | some (i, o) =>
    let e := base + a
    let tiled := bit flags 2
    let off := if tiled then tileOffset (e / 4096) + e % 4096 else e
    let room := if tiled then o.tiles * 4096 else o.footprint
    let room := if tiled && !o.tiled then o.footprint / unitBytes * 131072 + min (o.footprint % unitBytes) 131072 else room
    if !(bit flags 0) ∨ field d 16 8 < a + width ∨ (write ∧ !(bit flags 1)) ∨ o.partition ≠ partition ∨ 8 ≤ flags ∨
        (slice d 25 7).any (· != 0) ∨ base % 4096 ≠ 0 ∨ room < e + width then .fault stWindowRange
    else .at_ (.object i off)

/-- A place for an access of a block (04 Table 4-5): segment, descriptor index, address, width, kind of access. -/
def State.mapAccess (s : State) (core : Nat) (b : Block) (seg x a width : Nat) (read write : Bool) : State × Mapped :=
  if seg = 0 then
    match s.kit b.kit with
    | none => (s, .fault stWindowRange)
    | some k =>
      if k.scratchSize < a + width ∨ !(s.inScratch b.partition (k.scratchBase + a) width) then (s, .fault stWindowRange)
      else (s, .at_ (.tier1 (s.spreadMap (k.scratchBase + a))))
  else if seg = 1 then
    if b.descCount ≤ x then (s, .fault stWindowRange)
    else
      let g := s.descriptor core b x
      if g.status ≠ stOk then (g.s, .fault g.status)
      else (g.s, g.s.throughDescriptor b.partition g.bytes a width write)
  else if !(isCoherent a) then (s, .fault stWindowRange)
  else if s.cijan.mode ≠ .up then (s, .down)
  else
    match s.window b.partition a width with
    | some w => (s, if (read && !w.read) || (write && !w.write) then .fault stWindowRange else .at_ (.coherent a))
    | none => (s, .fault stWindowRange)

/-- SEG, VOL of an instruction. -/
def Ins.seg (i : Ins) : Nat := i.imm.toNat / 2 ^ 16 % 4
def Ins.vol (i : Ins) : Bool := i.imm.getLsbD 15

/-- Address of thread `t`: the register pair SRC0 plus OFFSET (04, Memory access from the pipeline). -/
def Ins.address (i : Ins) (g : Group) (width t : Nat) : Nat :=
  (((g.readPair i.a t : Nat) + i.offset width) % 2 ^ 64).toNat

/-- The places of an access by thread: state, places, faults, and whether the domain is down. -/
structure Places where
  s : State
  places : List (Nat × Place)
  faults : Faults
  down : Bool

/-- Every executing thread's access is mapped. -/
def State.mapThreads (s : State) (i : Ins) (b : Block) (g : Group) (width : Nat) (read write : Bool) : Places :=
  (threadsOf (g.exec i)).foldl (fun (p : Places) t =>
    let a := i.address g width t
    let x := (g.read i.b t).toNat
    let r := p.s.mapAccess i.core b i.seg x a width read write
    let f := if a % width ≠ 0 then [(stMisaligned, t, a)] else []
    match r.2 with
    | .at_ place => { p with s := r.1, places := p.places ++ [(t, place)], faults := p.faults ++ f }
    | .fault st => { p with s := r.1, faults := p.faults ++ f ++ [(st, t, a)] }
    | .down => { p with s := r.1, faults := p.faults ++ f, down := true }) ⟨s, [], [], false⟩

/-- The 128-byte unit of a place, as a key: coherent, tier 1, object. -/
def Place.unit : Place → Nat × (Nat × Nat)
  | .tier1 a => (0, (0, a / 128))
  | .object o a => (1, (o, a / 128))
  | .coherent a => (2, (0, a / 128))

/-- Byte offset of a place in its unit. -/
def Place.at_ : Place → Nat
  | .tier1 a => a % 128
  | .object _ a => a % 128
  | .coherent a => a % 128

/-- The units of places, in order of first use. -/
def unitsOf (l : List Place) : List (Nat × (Nat × Nat)) :=
  l.foldl (fun u p => if u.contains p.unit then u else u ++ [p.unit]) []

/-- An ST leaves part of a unit that it touches unwritten (04 R115). -/
def narrowStore (l : List (Nat × Place)) (width : Nat) : Bool :=
  (unitsOf (l.map (·.2))).any fun u =>
    let offs := ((l.filter fun e => e.2.unit == u).map fun e => e.2.at_).foldl addOnce []
    offs.length * width != 128

/-- A request is sent (09 R220). -/
def State.sendRequest (s : State) (i : Ins) (g : Group) (kind : RequestKind) (width : Nat) (lanes : List Lane)
    (partition : Nat) : State :=
  let r : Request :=
    { id := s.nextId, core := i.core, group := i.group, pc := g.pc, active := g.active, mask := g.exec i, kind, width, dst := i.d,
      fence := g.fences, lanes, returned := [], stage := .sent, partition, error := 0, errorThread := 0,
      errorAddress := 0, errorLine := none }
  { s with nextId := s.nextId + 1, mem := { s.mem with requests := s.mem.requests ++ [r] } }

/-- The transactions that a request's coherent lanes need, one for each granule (15 R351). -/
def State.addTxns (s : State) (request context : Nat) (kind : TxnKind) (lanes : List Lane) : State :=
  let granules := ((lanes.filterMap Lane.coherent).map fun a => a / 128 * 128).foldl addOnce []
  (granules.foldl (fun s g =>
    let bytes := (lanes.filter fun l => l.inGranule g).foldl (fun b l =>
      let o := (l.coherent.getD 0) % 128
      let d := l.data.flatMap fun w => leBytes 4 w.toNat
      b.take o ++ d ++ b.drop (o + d.length)) (zeros 128)
    s.addTxn kind g request context (if kind.carries then bytes else [])) s).pump

/-- The granules of lanes and the free tags allow the request. -/
def State.tagsFree (s : State) (lanes : List Lane) : Bool :=
  ((lanes.filterMap Lane.coherent).map fun a => a / 128).foldl addOnce [] |>.length |>.add s.cijan.txns.length |>.ble 65536

/-- A request issues: faults first, then the loss of the Context when the domain is down, then the request. -/
def State.issueRequest (s : State) (i : Ins) (b : Block) (g : Group) (p : Places) (kind : RequestKind) (txn : TxnKind)
    (width : Nat) (lanes : List Lane) : Issued :=
  match worstFault p.faults with
  | some f => f
  | none =>
    if p.down then .done (p.s.loseContext (s.coreContext i.core) stCoherentDown) g
    else if lanes.isEmpty then .done p.s g.step
    else if !(p.s.tagsFree lanes) then .stall
    else
      let s1 := p.s.sendRequest i g kind width lanes b.partition
      .done (s1.addTxns p.s.nextId (s.coreContext i.core) txn lanes) g.step

/-- A lane of a load. -/
def loadLane (e : Nat × Place) : Lane := { thread := e.1, place := e.2, data := [], compare := [] }

/-- The encoding of an LD or LDC is defined. -/
def Ins.loadGood (i : Ins) (w : Nat) : Bool :=
  evenReg i.a && groupAligned i.d w && i.seg != 3 && i.imm.toNat / 4096 % 8 == 0

/-- Registers that an access's address comes from. -/
def Ins.addressRegs (i : Ins) : List Nat := pairRegs i.a ++ if i.seg = 1 then [i.b] else []

/-- LD: a request to the point of coherence (04 R114). -/
def Ins.load (i : Ins) (s : State) (b : Block) (g : Group) (w : Nat) : Issued :=
  let p := s.mapThreads i b g w true false
  s.issueRequest i b g p .load .read w (p.places.map loadLane)

/-- LD without an error of the core that issues it (04 R97, R122). -/
def loadWords (i : Ins) (s : State) : Host.Outcome State Fault Refusal :=
  pipeline i s i.addressRegs (widthRegs i.d (i.width.getD 4)) fun s b g =>
    match i.width with
    | none => illegal
    | some w => if !(i.loadGood w) then illegal else i.load s b g w

/-- Key of a place's line in the constant cache, and the number that gives its set. -/
def Place.constKey : Place → Nat × Nat
  | .tier1 a => (a / 128 * 2, a / 128)
  | .object o a => ((o * 2 ^ 41 + a) / 128 * 2 + 1, a / 128)
  | .coherent a => (a / 128 * 2, a / 128)

/-- A 128-byte line read at its point of coherence for a read-only cache (07 R186). -/
def State.lineAt (s : State) (partition : Nat) (p : Place) : Got :=
  match p with
  | .tier1 a =>
    let loc := a / 128 * 128
    let slot := loc / 4096
    if s.mem.deadBits.contains slot then
      let s1 := s.count (slotStation slot) partition fun k => { k with deadReads := k.deadReads + 1 }
      if (s.partition partition).deadStrict then ⟨s1, stDeadRead, []⟩ else ⟨s1, stOk, zeros 128⟩
    else if s.poisoned1 loc 128 then ⟨s, stMemoryError, []⟩
    else ⟨s, stOk, memRead zeroByte s.mem.t1 loc 128⟩
  | .object o a =>
    match tget s.objects o with
    | none => ⟨s, stWindowRange, []⟩
    | some x => s.objReadRaw o x (a / 128 * 128) 128
  | .coherent a => ⟨s, stOk, s.companionRead (a / 128 * 128) 128⟩

/-- A line through the constant cache. -/
def State.constLine (s : State) (core partition : Nat) (p : Place) : Got :=
  let (key, n) := p.constKey
  match roFind (s.core core).constCache (n % 128) key with
  | some d => ⟨s.modCore core fun c => { c with constCache := roUse c.constCache 4 (n % 128) key d }, stOk, d⟩
  | none =>
    let g := s.lineAt partition p
    if g.status ≠ stOk then g
    else ⟨g.s.modCore core fun c => { c with constCache := roUse c.constCache 4 (n % 128) key g.bytes }, stOk, g.bytes⟩

/-- What LDC reads by thread: state, words by thread, faults, and the line of the first fault of an object. -/
structure ConstReads where
  s : State
  words : List (Nat × List Word)
  faults : Faults
  line : Option (Nat × Nat)

/-- Object and line of a place. -/
def State.placeLine (s : State) : Place → Option (Nat × Nat)
  | .object o a => (tget s.objects o).map fun x => (o, x.lineOf a)
  | _ => none

/-- What an LDC of WIDTH `n` reads, thread by thread in ascending order: each line comes through the constant cache. -/
def State.constReads (s : State) (i : Ins) (b : Block) (g : Group) (n : Nat) (places : List (Nat × Place)) : ConstReads :=
  places.foldl (fun (r : ConstReads) e =>
    let l := r.s.constLine i.core b.partition e.2
    if l.status ≠ stOk then
      { r with s := l.s, faults := r.faults ++ [(l.status, e.1, i.address g n e.1)]
               line := r.line.orElse fun _ => l.s.placeLine e.2 }
    else { r with s := l.s, words := r.words ++ [(e.1, wordsOf (n / 4) (slice l.bytes e.2.at_ n))] }) ⟨s, [], [], none⟩

/-- LDC: VOL, and a coherent window, behave as LD; otherwise each line comes through the constant cache (04 R114, 09 R225). -/
def execLdc (i : Ins) (s : State) : Host.Outcome State Fault Refusal :=
  pipeline i s i.addressRegs (widthRegs i.d (i.width.getD 4)) fun s b g =>
    match i.width with
    | none => illegal
    | some w =>
      if !(i.loadGood w) then illegal
      else if i.vol || i.seg == 2 then i.load s b g w
      else
        let p := s.mapThreads i b g w true false
        match worstFault p.faults with
        | some f => f
        | none =>
          let r := p.s.constReads i b g w p.places
          match worstFault r.faults with
          | some (.fault st t a) => .done (r.s.accessFault i.core i.group t st a g.pc g.active r.line) g
          | _ =>
            .done r.s (g.writeMany i.d (w / 4) (g.exec i) fun t => tgetD r.words t []).step

/-- The encoding of an ST is defined. -/
def Ins.stGood (i : Ins) (w : Nat) : Bool :=
  evenReg i.a && groupAligned i.c w && i.seg != 3 && i.imm.toNat / 4096 % 8 == 0

/-- A lane of a store: the words of SRC2. -/
def Ins.storeLane (i : Ins) (g : Group) (n : Nat) (e : Nat × Place) : Lane :=
  { thread := e.1, place := e.2, data := (List.range (n / 4)).map fun k => g.read (i.c + k) e.1, compare := [] }

/-- ST (04 R115, R116). -/
def execSt (i : Ins) (s : State) : Host.Outcome State Fault Refusal :=
  pipeline i s (i.addressRegs ++ widthRegs i.c (i.width.getD 4)) [] fun s b g =>
    match i.width with
    | none => illegal
    | some w =>
      if !(i.stGood w) then illegal
      else
        let p := s.mapThreads i b g w false true
        let p := if p.faults.isEmpty && narrowStore p.places w then
            { p with faults := (p.places.head?.map fun e => (stNarrowWrite, e.1, i.address g w e.1)).toList }
          else p
        s.issueRequest i b g p .store .write w (p.places.map (i.storeLane g w))

/-! ### Atomics (04 R117, R118) -/

/-- The encoding of an atomic is defined (04 R117, R118). -/
def Ins.atomicGood (i : Ins) (op : AtomicOp) (noret : Bool) : Bool :=
  let w := i.width.getD 4
  i.width.isSome && w != 16 && (op != .fadd || w == 4) && evenReg i.a && groupAligned i.c w && (noret || groupAligned i.d w) &&
    (op != .cas || groupAligned i.b w) && i.seg != 3 && i.imm.toNat / 4096 % 16 == 0

/-- A lane of an atomic: the words of SRC2, and for ACAS the words of SRC1 that it compares. -/
def Ins.atomicLane (i : Ins) (g : Group) (op : AtomicOp) (n : Nat) (e : Nat × Place) : Lane :=
  let words (r t : Nat) : List Word := (List.range (n / 4)).map fun k => g.read (r + k) t
  { thread := e.1, place := e.2, data := words i.c e.1, compare := if op = .cas then words i.b e.1 else [] }

/-- Registers that an atomic reads, and those it writes. -/
def Ins.atomicSources (i : Ins) (op : AtomicOp) : List Nat :=
  let w := i.width.getD 4
  i.addressRegs ++ (if op = .cas then widthRegs i.b w else []) ++ widthRegs i.c w
def Ins.atomicDests (i : Ins) (noret : Bool) : List Nat := if noret then [] else widthRegs i.d (i.width.getD 4)

/-- An atomic: NORET writes no destination. -/
def atomic (op : AtomicOp) (noret : Bool) (i : Ins) (s : State) : Host.Outcome State Fault Refusal :=
  pipeline i s (i.atomicSources op) (i.atomicDests noret) fun s b g =>
    if !(i.atomicGood op noret) then illegal
    else
      let w := i.width.getD 4
      let p := s.mapThreads i b g w true true
      s.issueRequest i b g p (.atomic op (!noret)) .readExcl w (p.places.map (i.atomicLane g op w))

/-- AADD (04 R118): Atomic integer add. -/
def execAadd (noret : Bool) (i : Ins) (s : State) : Host.Outcome State Fault Refusal := atomic .add noret i s
/-- AFADD (04 R118): Atomic binary32 add in ascending thread order. -/
def execAfadd (noret : Bool) (i : Ins) (s : State) : Host.Outcome State Fault Refusal := atomic .fadd noret i s
/-- AMIN (04 R118): Atomic signed minimum. -/
def execAmin (noret : Bool) (i : Ins) (s : State) : Host.Outcome State Fault Refusal := atomic .min noret i s
/-- AMAX (04 R118): Atomic signed maximum. -/
def execAmax (noret : Bool) (i : Ins) (s : State) : Host.Outcome State Fault Refusal := atomic .max noret i s
/-- AUMIN (04 R118): Atomic unsigned minimum. -/
def execAumin (noret : Bool) (i : Ins) (s : State) : Host.Outcome State Fault Refusal := atomic .umin noret i s
/-- AUMAX (04 R118): Atomic unsigned maximum. -/
def execAumax (noret : Bool) (i : Ins) (s : State) : Host.Outcome State Fault Refusal := atomic .umax noret i s
/-- AAND (04 R118): Atomic bitwise AND. -/
def execAand (noret : Bool) (i : Ins) (s : State) : Host.Outcome State Fault Refusal := atomic .and noret i s
/-- AOR (04 R118): Atomic bitwise OR. -/
def execAor (noret : Bool) (i : Ins) (s : State) : Host.Outcome State Fault Refusal := atomic .or noret i s
/-- AXOR (04 R118): Atomic bitwise exclusive OR. -/
def execAxor (noret : Bool) (i : Ins) (s : State) : Host.Outcome State Fault Refusal := atomic .xor noret i s
/-- AXCHG (04 R118): Atomic exchange, serialised by thread index. -/
def execAxchg (noret : Bool) (i : Ins) (s : State) : Host.Outcome State Fault Refusal := atomic .xchg noret i s
/-- ACAS (04 R118): Atomic compare-and-swap, serialised by thread index. -/
def execAcas (noret : Bool) (i : Ins) (s : State) : Host.Outcome State Fault Refusal := atomic .cas noret i s

/-! ### At the point of coherence -/

/-- Station of port A of a pair (01 Table 1-2). -/
def portStation (pair : Nat) : Nat := if pair < 5 then pair else 43 + pair

/-- Where a lane's access is served: the station, and the line of the object that holds it, if one does. -/
structure Served where
  station : Nat
  line : Option (Nat × (Object × Nat))

/-- The point of coherence of a lane (09 Table 9-2); none for a coherent window, and for an object without a home. -/
def State.servedAt (s : State) (p : Place) : Option Served :=
  match p with
  | .tier1 a => some ⟨(granulePlace (a / 2 ^ 23)).1, none⟩
  | .object o a =>
    match tget s.objects o with
    | none => none
    | some x =>
      match (x.rawParts a 1).head? with
      | some (.line l _ _) => (s.home x.partition o l).map fun h => ⟨h.1, some (o, (x, l))⟩
      | _ => some ⟨portStation (x.locate a).1, none⟩
  | .coherent _ => none

/-- The lane waits for a fill that its request has joined. -/
def State.waitsFill (s : State) (r : Request) (l : Lane) : Bool :=
  match s.servedAt l.place with
  | some ⟨_, some (o, (_, n))⟩ => s.mem.fills.any fun f => f.object == o && f.line == n && f.requesters.contains r.id
  | _ => false

/-- Lanes of a request that arrive at a station. -/
def State.lanesAt (s : State) (r : Request) (station : Nat) : List Lane :=
  r.lanes.filter fun l => (s.servedAt l.place).any (fun v => v.station == station) && !(s.waitsFill r l)

/-- A fault met at a point of coherence, kept if it ranks above the one kept so far (04 R122). -/
def Request.fail (r : Request) (status thread address : Nat) (line : Option (Nat × Nat)) : Request :=
  if r.error = 0 ∨ faultRank status < faultRank r.error ∨ (status = r.error ∧ thread < r.errorThread) then
    { r with error := status, errorThread := thread, errorAddress := address, errorLine := line }
  else r

/-- Address of a place for a fault record. -/
def Place.address : Place → Nat
  | .tier1 a => a
  | .object _ a => a
  | .coherent a => a

/-- Lanes leave a request with an error. -/
def State.failLanes (s : State) (r : Nat) (lanes : List Lane) (status : Nat) (line : Option (Nat × Nat)) : State :=
  match lanes.head? with
  | none => s
  | some l => s.modRequest r fun x =>
      { x.fail status l.thread l.place.address line with lanes := x.lanes.filter fun y => !(lanes.contains y) }

/-- Lanes leave a request with the words that they return. -/
def State.doneLanes (s : State) (r : Nat) (lanes : List Lane) (words : List (Nat × List Word)) : State :=
  s.modRequest r fun x =>
    { x with returned := x.returned ++ words, lanes := x.lanes.filter fun y => !(lanes.contains y) }

/-- The lanes of a request in one 128-byte unit are performed on its bytes: new bytes, if it writes, and returned words. -/
def unitEffect (r : Request) (lanes : List Lane) (bytes : List Byte) : Option (List Byte) × List (Nat × List Word) :=
  let at_ (l : Lane) : Nat := l.place.at_
  match r.kind with
  | .store =>
    (some (lanes.foldl (fun b l =>
      let d := l.data.flatMap fun w => leBytes 4 w.toNat
      b.take (at_ l) ++ d ++ b.drop (at_ l + d.length)) bytes), [])
  | .atomic op _ =>
    let x := atomicUnit op r.width at_ lanes bytes
    (some x.1, x.2)
  | _ => (none, lanes.map fun l => (l.thread, wordsOf (r.width / 4) (slice bytes (at_ l) r.width)))

/-- A request that is a plain store reads nothing. -/
def Request.reads (r : Request) : Bool := r.kind != .store

/-- The lanes of one unit at a location of tier 1: `write` writes the bytes there. -/
def State.performUnit (s : State) (r : Request) (lanes : List Lane) (loc : Nat) (line : Option (Nat × Nat))
    (write : State → List Byte → State) : State :=
  let base := loc / 128 * 128
  if r.reads && s.poisoned1 base 128 then s.failLanes r.id lanes stMemoryError line
  else
    let x := unitEffect r lanes (memRead zeroByte s.mem.t1 base 128)
    let s1 := match x.1 with
      | some b => write s b
      | none => s
    s1.doneLanes r.id lanes x.2

/-- Lanes of a request in SCRATCH granules, by unit (07 R182 to R184, 06 R150). -/
def State.performScratch (s : State) (r : Request) (lanes : List Lane) : State :=
  let lines := (lanes.map fun l => l.place.address / 4096).foldl addOnce []
  lines.foldl (fun s slot =>
    let mine := lanes.filter fun l => l.place.address / 4096 == slot
    let dead := s.mem.deadBits.contains slot
    let s1 := if dead && r.reads then s.count (slotStation slot) r.partition fun k => { k with deadReads := k.deadReads + 1 }
      else s
    if dead && r.reads && (s.partition r.partition).deadStrict then s1.failLanes r.id mine stDeadRead none
    else
      let s2 : State := if dead then { s1 with mem := { s1.mem with t1 := memZero s1.mem.t1 (slot * 4096) 4096 } } else s1
      (unitsOf (mine.map (·.place))).foldl (fun s u =>
        let here := mine.filter fun l => l.place.unit == u
        s.performUnit r here (u.2.2 * 128) none fun s b =>
          { s with mem := s.mem.writeLine (u.2.2 * 128) b
                   fail := { s.fail with written := addOnce s.fail.written (slot / 2048) } }) s2) s

/-- Lanes of a request in one resident line of an object (07 R173). -/
def State.performLine (s : State) (r : Request) (lanes : List Lane) (o : Nat) (x : Object) (line slot : Nat) : State :=
  let at_ (l : Lane) : Nat := (l.place.address - x.lineOffset line)
  let s1 := s.useLine slot
  let units := (lanes.map fun l => at_ l / 128).foldl addOnce []
  units.foldl (fun s u =>
    s.performUnit r (lanes.filter fun l => at_ l / 128 == u) (slot * 4096 + u * 128) (some (o, line)) fun s b =>
      s.writeSlot slot (u * 128) b) s1

/-- A tile load ends at its point of coherence with a status of 06 R155 or 07 R184, and the stored VERSION, 0 if no tag was read. -/
def State.failTile (s : State) (r : Request) (lanes : List Lane) (status : Nat) (line : Option (Nat × Nat)) (version : Word) :
    State :=
  (s.failLanes r.id lanes status line).modRequest r.id fun x => { x with returned := [(x.errorThread, [version])] }

/-- A tile load reads payload and tag as one operation (06 R152); what the check at the core will find is counted here. -/
def State.performTile (s : State) (r : Request) (lanes : List Lane) (slot : Nat) (payload : List Byte) (tag : Tag)
    (line : Option (Nat × Nat)) : State :=
  match r.kind, lanes.head? with
  | .tileLoad _ _ format, some l =>
    let st := tileOutcome (s.poisoned1 (slot * 4096) 4096) false format payload tag
    if st ≠ stOk then (s.countTile (slotStation slot) 0xFF st tag).failTile r lanes st line tag.version
    else s.doneLanes r.id lanes [(l.thread, wordsOf 1024 payload ++ [tag.version])]
  | _, _ => s

/-- Lanes of a request that failed at a line of an object. -/
def State.failLine (s : State) (r : Request) (lanes : List Lane) (status o : Nat) (x : Object) (line : Nat) : State :=
  match r.kind with
  | .tileLoad _ _ _ =>
    let w := x.locate (tagOffset x.tiles line)
    let read := status != stDeadRead && !(s.poisoned2 w.1 w.2)
    s.failTile r lanes status (some (o, line)) (if read then (s.objTag2 x line).version else 0)
  | _ => s.failLanes r.id lanes status (some (o, line))

/-- Lanes of a request are served from a resident line. -/
def State.serveLine (s : State) (r : Request) (lanes : List Lane) (o : Nat) (x : Object) (line slot : Nat) : State :=
  match r.kind with
  | .tileLoad _ _ _ => (s.useLine slot).performTile r lanes slot (s.lineData slot) (s.tag slot) (some (o, line))
  | _ => s.performLine r lanes o x line slot

/-- Fill entries of a slice. -/
def fillEntries : Nat := 256

/-- Requesters that a fill entry records. -/
def fillRequesters : Nat := 64

/-- A request joins the fill of a line; one that the entry still records is counted (07 R175). -/
def State.joinFill (s : State) (f : Fill) (r : Request) (partition : Nat) : State :=
  let s1 : State := { s with mem := { s.mem with fills := s.mem.fills.map fun x =>
    if x.object = f.object ∧ x.line = f.line then { x with requesters := x.requesters ++ [r.id] } else x } }
  if f.requesters.length < fillRequesters then
    s1.count f.station partition fun k => { k with mergedMisses := k.mergedMisses + 1 }
  else s1

/-- A fill of a line begins in a slot, for a request (07 Table 7-2). -/
def State.beginFill (s : State) (station o line slot partition : Nat) (r : Nat) : State :=
  let l : Line := { object := o, line, partition, mode := .filling, pin := false, lastUse := 0, installed := s.beat.number }
  { s with mem := { s.mem with
      lines := tset s.mem.lines slot l
      fills := s.mem.fills ++ [{ station, object := o, line, slot, requesters := [r], pins := [] }] } }

/-- Lanes of a request at one line of an object: served, or waiting for a fill (07 R171, Table 7-2, R174, R175). -/
def State.accessLine (s : State) (r : Request) (lanes : List Lane) (o : Nat) (x : Object) (line : Nat) : State :=
  if x.unreadable then s.failLine r lanes stMemoryError o x line
  else
    match s.home x.partition o line with
    | none => s.failLanes r.id lanes stWindowRange none
    | some (st, set) =>
      let busy := decide (fillEntries ≤ (s.mem.fills.filter (·.station == st)).length)
      match s.findLine o line with
      | some (slot, l) =>
        match l.mode with
        | .filling =>
          match s.mem.fills.find? fun f => f.object == o && f.line == line with
          | some f => s.joinFill f r x.partition
          | none => s
        | .dead =>
          let s1 := if r.reads then s.count st x.partition fun k => { k with deadReads := k.deadReads + 1 } else s
          if r.reads && (s.partition x.partition).deadStrict then s1.failLine r lanes stDeadRead o x line
          else if busy then s
          else (s1.dropLine slot).beginFill st o line slot x.partition r.id
        | _ => s.serveLine r lanes o x line slot
      | none =>
        if busy then s else
        match s.victim (s.cacheGranules x.partition st) set with
        | none => s
        | some slot => (s.evict slot).beginFill st o line slot x.partition r.id

/-- Lanes of a request in a tag block of an object, served at the home port (07 R189 (c), 08 R204). -/
def State.accessTagBlock (s : State) (r : Request) (lanes : List Lane) (x : Object) : State :=
  (unitsOf (lanes.map (·.place))).foldl (fun s u =>
    let here := lanes.filter fun l => l.place.unit == u
    let off := u.2.2 * 128
    if x.unreadable || (x.codeWords off 128).any (fun w => s.poisoned2 w.1 w.2) then
      s.failLanes r.id here stMemoryError none
    else
      let e := unitEffect r here (s.objRead2 x off 128)
      (match e.1 with
        | some b => s.objWrite2 x off b
        | none => s).doneLanes r.id here e.2) s

/-- An earlier request stands before this one at the station: of the same core there (09 R220), or of the same group before a
release that this one follows (09 R221). -/
def State.barred (s : State) (r : Request) (station : Nat) : Bool :=
  s.mem.requests.any fun q =>
    decide (q.id < r.id) && q.core == r.core &&
      (!(s.lanesAt q station).isEmpty || (q.group == r.group && decide (q.fence < r.fence) && !q.lanes.isEmpty))

/-- The requests whose lanes are performed as words: loads, stores and atomics. -/
def Request.plain (r : Request) : Bool :=
  match r.kind with
  | .load | .store | .atomic _ _ => true
  | _ => false

/-- The lanes of a request that a station serves are performed there: those of SCRATCH granules, then line by line those of objects, then
those of tag blocks. -/
def State.serveAt (s : State) (r : Request) (station : Nat) : State :=
  let lanes := s.lanesAt r station
  let scratch := lanes.filter fun l => match l.place with | .tier1 _ => true | _ => false
  let s1 := if scratch.isEmpty then s else s.performScratch r scratch
  let objects := lanes.filterMap fun l => (s.servedAt l.place).bind fun v => v.line.map fun x => (l, x)
  let keys := (objects.map fun e => (e.2.1, e.2.2.2)).foldl (fun k e => if k.contains e then k else k ++ [e]) []
  let s2 := keys.foldl (fun s k =>
    let mine := objects.filter fun e => e.2.1 == k.1 && e.2.2.2 == k.2
    match mine.head? with
    | some (_, (o, (x, line))) => s.accessLine r (mine.map (·.1)) o x line
    | none => s) s1
  let tags := lanes.filter fun l => match l.place with
    | .object _ _ => (s.servedAt l.place).any (·.line.isNone)
    | _ => false
  tags.foldl (fun s l => match l.place with
    | .object o _ => match tget s.objects o with
      | some x => s.accessTagBlock r [l] x
      | none => s
    | _ => s) s2

/-- SLICE_ACCESS: the lanes of a request that a station serves arrive there. -/
def State.sliceAccess (s : State) (id station : Nat) (upsets : List Upset) : State :=
  match s.request id with
  | none => s
  | some r => if !r.plain ∨ s.barred r station then s else (s.observe upsets).serveAt r station

/-! ### Fills (07 R173 to R175, R178) -/

/-- Requests that joined a fill are served from the line, or end with its status. -/
def State.serveJoined (s : State) (f : Fill) (o : Object) (status : Nat) : State :=
  f.requesters.foldl (fun s id =>
    match s.request id with
    | none => s
    | some r =>
      let mine := r.lanes.filter fun l => match s.servedAt l.place with
        | some ⟨_, some (i, (_, n))⟩ => i == f.object && n == f.line
        | _ => false
      if status = stOk then s.serveLine r mine f.object o f.line f.slot
      else s.failLine r mine status f.object o f.line) s

/-- The pins that wait for a line take it; a TIER1_PIN with all its lines completes (07 R178). -/
def State.pinFilled (s : State) (object line slot status : Nat) : State :=
  let wanted := s.mem.pinnings.filter fun p => p.object == object && p.lines.contains line
  wanted.foldl (fun s p =>
    if status ≠ stOk then
      ({ s with mem := { s.mem with pinnings := s.mem.pinnings.filter (·.id != p.id) } }).completeId p.command status 0 0
    else
      let s1 := match s.findLine object line with
        | some (x, _) => s.pinLine x
        | none => s.pinLine slot
      let rest := p.lines.filter (· != line)
      if rest.isEmpty then
        ({ s1 with mem := { s1.mem with pinnings := s1.mem.pinnings.filter (·.id != p.id) } }).completeId p.command stOk 0 0
      else { s1 with mem := { s1.mem with pinnings := s1.mem.pinnings.map fun x => if x.id = p.id then { x with lines := rest } else x } }) s

/-- A line brought into its home slice: the slot it is in and the status of its check; none when no way can take it. -/
def State.bringLine (s : State) (object : Nat) (o : Object) (line station set : Nat) : Option (State × (Nat × Nat)) :=
  match s.findLine object line with
  | some (slot, l) =>
    if l.mode = LineMode.filling ∨ l.mode = LineMode.dead then
      let r := (s.dropLine slot).endFill slot object o line false
      some (r.1, slot, r.2)
    else some (s, slot, stOk)
  | none =>
    (s.victim (s.cacheGranules o.partition station) set).map fun slot =>
      let r := (s.evict slot).endFill slot object o line false
      (r.1, slot, r.2)

/-- FILL_COMPLETE: a line that a fill entry or a TIER1_PIN waits for returns from tier 2, is checked and installed, and serves what
joined it. -/
def State.fillComplete (s : State) (station object line : Nat) (upsets : List Upset) : State :=
  match tget s.objects object with
  | none => s
  | some o =>
    let mine (f : Fill) : Bool := f.station == station && f.object == object && f.line == line
    let fill := s.mem.fills.find? mine
    let pinned := s.mem.pinnings.any fun p => p.object == object && p.lines.contains line
    match s.home o.partition object line with
    | none => s
    | some (st, set) =>
      if fill.isNone && !(pinned && st == station) then s
      else
        match (s.observe upsets).bringLine object o line station set with
        | none => s
        | some (s1, slot, status) =>
          let s2 : State := { s1 with mem := { s1.mem with fills := s1.mem.fills.filter fun f => !mine f } }
          let s3 := match fill with
            | some f => s2.serveJoined { f with slot := slot } o status
            | none => s2
          s3.pinFilled object line slot status

/-! ### Return and acknowledgement -/

/-- A request leaves. -/
def State.dropRequest (s : State) (id : Nat) : State :=
  { s with mem := { s.mem with requests := s.mem.requests.filter (·.id != id) } }

/-- A group has received a value that it waited for. -/
def State.gotValue (s : State) (core group : Nat) : State :=
  if s.inFlight core group Request.returns then s else s.modGroup core group fun g => { g with readySince := s.now }

/-- LOAD_RETURN: the words of a load or value-returning atomic reach its group, or the fault that it met (04 R97, R122). -/
def State.loadReturn (s : State) (id : Nat) : State :=
  match s.request id with
  | none => s
  | some r =>
    if !r.returns ∨ !r.plain ∨ !r.lanes.isEmpty then s
    else
      let s1 := s.dropRequest id
      if r.error ≠ 0 then
        s1.accessFault r.core r.group (some r.errorThread) r.error r.errorAddress r.pc r.active r.errorLine
      else
        let m := BitVec.ofNat 64 (maskOf (r.returned.map (·.1)))
        let words (t : Nat) : List Word := ((r.returned.find? fun w => w.1 == t).map (·.2)).getD []
        ((s1.modGroup r.core r.group fun g => g.writeMany r.dst (r.width / 4) m words).gotValue r.core r.group).endFence
          r.core r.group

/-- STORE_ACK: every home of a store has acknowledged it; fences that waited for it go on (09 R217). -/
def State.storeAck (s : State) (id : Nat) : State :=
  match s.request id with
  | none => s
  | some r =>
    if r.returns ∨ !r.stores ∨ !r.lanes.isEmpty then s
    else
      let s1 := s.dropRequest id
      if r.error ≠ 0 then
        s1.accessFault r.core r.group (some r.errorThread) r.error r.errorAddress r.pc r.active r.errorLine
      else s1.endFence r.core r.group

end Sys2Proof.Machine
end

