-- ==== Sys2Proof/Machine/Matrix.lean ====
section
/-!
DEFINITION. The class MATRIX (05 R126 to R144): accumulators, matrix steps, partial records and conversions. A matrix instruction
has its effect when it issues: the matrix queue is in order, so the outcome is that of issue order (05 R127).
-/
namespace Sys2Proof.Machine
open Sys2Proof

/-! ### Fields -/

/-- Bits of IMM20. -/
def Ins.bits (i : Ins) (low n : Nat) : Nat := i.imm.toNat / 2 ^ low % 2 ^ n

/-- ACC, RELAX, AFMT and BFMT (05 Table 5-7). -/
def Ins.acc (i : Ins) : Nat := i.bits 10 1
def Ins.relax (i : Ins) : Bool := i.imm.getLsbD 19
def Ins.afmt (i : Ins) : Nat := i.bits 0 5
def Ins.bfmt (i : Ins) : Nat := i.bits 5 5

/-- Bits of IMM20 outside `named` are 0 (05 R139). -/
def Ins.onlyBits (i : Ins) (named : List Nat) : Bool := (List.range 20).all fun k => named.contains k || !(i.imm.getLsbD k)

/-- The value of register `r` that a uniform operand has (05 R139). -/
def Group.uniform (g : Group) (i : Ins) (r : Nat) : Nat :=
  match lowestThread (g.exec i) with
  | some t => (g.read r t).toNat
  | none => 0

/-- The lowest executing thread. -/
def Group.first (g : Group) (i : Ins) : Nat := (lowestThread (g.exec i)).getD 0

/-- A matrix instruction issues: in no executing thread it has no effect (05 R142); an encoding outside the tables is illegal;
the rest is `f`. -/
def matrixIssue (i : Ins) (s : State) (sources dests : List Nat) (ok : Bool) (f : State → Block → Group → Issued) :
    Host.Outcome State Fault Refusal :=
  pipeline i s sources dests fun s b g =>
    if g.exec i = 0 then .done s g.step
    else if !ok then illegal
    else f s b g

/-! ### Accumulators (05 R126, R135) -/

/-- Accumulator ACC of a block. -/
def Block.accumulator (b : Block) (n : Nat) : Accumulator := b.acc.getD n Accumulator.initial

/-- An accumulator of the block changes. -/
def Block.setAccumulator (b : Block) (n : Nat) (a : Accumulator) : Block := { b with acc := lmod b.acc n fun _ => a }

/-- The collapse of the stacks (05 R135). -/
def Accumulator.collapse (a : Accumulator) : List Word := collapseLevels a.count a.levels

/-- A format code for reference after one more chunk: codes that differ leave it open (05 Table 5-6). -/
def keepFormat (count old new free : Nat) : Nat := if count = 0 ∨ old = new then new else free

/-- One chunk appended (05 R135). -/
def Accumulator.append (a : Accumulator) (v : List Word) (afmt bfmt free : Nat) : Accumulator :=
  { base := a.base, count := a.count + 1, levels := appendLevels 11 0 a.count a.levels v
    afmt := keepFormat a.count a.afmt afmt (free % 32), bfmt := keepFormat a.count a.bfmt bfmt (free / 32 % 32) }

/-! ### Operands of a matrix step (05 R128 to R130) -/

/-- Registers of the A group by element width (05 Table 5-3). -/
def aRegisters (w : Nat) (sparse : Bool) : Nat :=
  match w, sparse with
  | 4, false => 1
  | 4, true => 2
  | 16, _ => 4
  | _, false => 2
  | _, true => 4

/-- A pairing of Table 5-8. -/
def pairingAllowed (a b : Nat) : Bool :=
  let float8 := fun c => c == 4 || c == 5 || isMx c
  codeValid a && codeValid b &&
  match codeElement b with
  | 2 => codeElement a == 2
  | 3 => codeElement a == 3
  | 6 => codeElement a == 6 || codeElement a == 7
  | 7 => codeElement a == 6 || codeElement a == 7
  | e => float8 e && float8 (codeElement a)

/-- B operands accepted in sparse form (05 R130). -/
def sparseAllowed (b : Nat) : Bool := codeElement b == 12 || codeElement b == 7

/-- The A operand of one instruction: the group, the threads in which it executes, register fields, format code, and K positions
per thread. -/
structure AOperand where
  g : Group
  mask : U64
  start : Nat
  scales : Nat
  code : Nat
  per : Nat

/-- Element of row `r` at K position `p`; none where the instruction does not execute in its thread (05 R128, R142). -/
def AOperand.element (a : AOperand) (r p : Nat) : Option Nat :=
  let t := 4 * r + p / a.per
  if !(a.mask.getLsbD t) then none
  else
    let w := elementWidth (codeElement a.code)
    let bits := (List.range 4).foldr (fun k acc => acc * 2 ^ 32 + (a.g.read (a.start + k) t).toNat) 0
    some (bits / 2 ^ (w * (p % a.per)) % 2 ^ w)

/-- Exponent of the block scale of row `r` at position `p`, from the lowest thread of the block that executes (05 R128). -/
def AOperand.scale (a : AOperand) (r p : Nat) : Option Int :=
  if !(isMx (codeElement a.code)) then some 0
  else
    let bs := blockSize a.code
    match ((List.range 4).map (4 * r + ·)).find? fun t => a.mask.getLsbD t && (t % 4 * a.per) / bs == p / bs with
    | some t => scaleExponent (a.g.read a.scales t).toNat
    | none => some 0

/-- Bytes of a row of 256 elements (05 R129). -/
def rowBytes (code : Nat) : Nat := 32 * elementWidth (codeElement code)

/-- Bytes of a panel (05 Table 5-4). -/
def panelBytes (code : Nat) (sparse : Bool) : Nat :=
  let rows := if isMx (codeElement code) then (if codeBlk16 code then 2 else 1) else 0
  if sparse then 6144 + 2 * rows * 256 else 32 * rowBytes code + rows * 256

/-- Element `c` of a row of `w`-bit elements. -/
def rowElement (row : List Byte) (w c : Nat) : Nat := leNat row / 2 ^ (w * c) % 2 ^ w

/-- The nibble I1:I0 of group `q` and column `c` of a sparse panel (05 R130). -/
def sparseNibble (panel : List Byte) (q c : Nat) : Nat := rowElement (slice panel (4096 + q * 128) 128) 4 c

/-- Some nibble does not have I0 below I1 (05 R130). -/
def sparseBroken (panel : List Byte) : Bool :=
  (List.range 16).any fun q => (List.range 256).any fun c =>
    let n := sparseNibble panel q c
    decide (n / 4 % 4 ≤ n % 4)

/-- Weight at position `p` of column `c`; none where a sparse panel has a zero of its own. -/
def panelElement (panel : List Byte) (code : Nat) (sparse : Bool) (p c : Nat) : Option Nat :=
  let w := elementWidth (codeElement code)
  if !sparse then some (rowElement (slice panel (p * rowBytes code) (rowBytes code)) w c)
  else
    let n := sparseNibble panel (p / 4) c
    let row := fun h => slice panel ((2 * (p / 4) + h) * 128) 128
    if n % 4 = p % 4 then some (rowElement (row 0) 4 c)
    else if n / 4 % 4 = p % 4 then some (rowElement (row 1) 4 c)
    else none

/-- Exponent of the block scale of column `c` at position `p` (05 Table 5-4). -/
def panelScale (panel : List Byte) (code : Nat) (sparse : Bool) (p c : Nat) : Option Int :=
  if !(isMx (codeElement code)) then some 0
  else
    let base := if sparse then 6144 else 32 * rowBytes code
    scaleExponent (field panel (base + p / blockSize code * 256 + c) 1)

/-- The products of output (`r`, `c`) in chunk `h` of the step. -/
def stepProducts (a : AOperand) (panel : List Byte) (bcode : Nat) (sparse : Bool) (h r c : Nat) : List Product :=
  (List.range 32).filterMap fun k =>
    let p := 32 * h + k
    match a.element r p, panelElement panel bcode sparse p c with
    | some x, some y =>
      some { a := decodeElem (codeElement a.code) x, b := decodeElem (codeElement bcode) y
             sa := a.scale r p, sb := panelScale panel bcode sparse p c }
    | _, _ => none

/-- The chunk values of the 4,096 outputs. -/
def stepValues (a : AOperand) (panel : List Byte) (bcode : Nat) (sparse : Bool) (h : Nat) : List Word :=
  (List.range 4096).map fun o => BitVec.ofNat 32 (chunkValue (stepProducts a panel bcode sparse h (o / 256) (o % 256)))

/-! ### Faults of addresses -/

/-- Faults of `n` bytes at core-store address `a`, aligned to `align` (05 R129, R139). -/
def panelFaults (t a n align : Nat) : Faults :=
  (if a % align ≠ 0 then [(stMisaligned, t, a)] else []) ++
    if coreStoreSize < a + n then [(stCoreStoreRange, t, a)] else []

/-- A group-wide instruction is divergent (05 R142). -/
def Group.diverged (g : Group) (i : Ins) : Bool := g.exec i != 0 && g.exec i != BitVec.allOnes 64

/-- MATRIX_RELAXED after a divergent instruction with RELAX 1 (05 R142 (b)). -/
def Group.relaxed (g : Group) (i : Ins) : Group := if g.diverged i then g.raise 0x100 else g

/-- ST_MATRIX_DIVERGED of a divergent instruction with RELAX 0. -/
def divergedFaults (g : Group) (i : Ins) : Faults :=
  if g.diverged i && !i.relax then [(stMatrixDiverged, g.first i, 0)] else []

/-! ### Matrix steps -/

/-- The encoding of an MMA or MMAS is defined (05 R128, R130, R139). -/
def Ins.stepGood (i : Ins) (sparse : Bool) : Bool :=
  let w := elementWidth (codeElement i.afmt)
  i.d == 0 && i.onlyBits [0, 1, 2, 3, 4, 5, 6, 7, 8, 9, 10, 19] && pairingAllowed i.afmt i.bfmt
    && (!sparse || (sparseAllowed i.bfmt && w != 16)) && i.a % aRegisters w sparse == 0 && (isMx (codeElement i.afmt) || i.b == 0)

/-- Registers that a matrix step reads. -/
def Ins.stepSources (i : Ins) (sparse : Bool) : List Nat :=
  (List.range (aRegisters (elementWidth (codeElement i.afmt)) sparse)).map (i.a + ·) ++ [i.b, i.c]

/-- Chunks that a matrix step appends: one, or two of a sparse panel. -/
def stepChunks (sparse : Bool) : Nat := if sparse then 2 else 1

/-- The panel of a matrix step. -/
def Block.stepPanel (b : Block) (i : Ins) (g : Group) (sparse : Bool) : List Byte :=
  b.storeRead (g.uniform i i.c) (panelBytes i.bfmt sparse)

/-- Faults of a matrix step (05 R129, R130, R135, R142). -/
def Block.stepFaults (b : Block) (i : Ins) (g : Group) (sparse : Bool) : Faults :=
  let p := g.uniform i i.c
  let acc := b.accumulator i.acc
  let chunks := stepChunks sparse
  let t := g.first i
  panelFaults t p (panelBytes i.bfmt sparse) 512 ++ divergedFaults g i
    ++ (if sparse && sparseBroken (b.stepPanel i g sparse) then [(stMatrixFormat, t, p)] else [])
    ++ if 1024 < acc.count + chunks ∨ 2 ^ 20 < acc.base + acc.count + chunks then [(stReductionOrder, t, 0)] else []

/-- The accumulator after a matrix step. -/
def Block.stepped (b : Block) (i : Ins) (g : Group) (sparse : Bool) (free : Nat) : Accumulator :=
  let a : AOperand := { g, mask := g.exec i, start := i.a, scales := i.b, code := i.afmt, per := 8 * stepChunks sparse }
  (List.range (stepChunks sparse)).foldl (fun (x : Accumulator) h =>
    x.append (stepValues a (b.stepPanel i g sparse) i.bfmt sparse h) i.afmt i.bfmt free) (b.accumulator i.acc)

/-- MMA and MMAS (05 R126 to R135, R140, R142). -/
def matrixStep (sparse : Bool) (i : Ins) (s : State) : Host.Outcome State Fault Refusal :=
  matrixIssue i s (i.stepSources sparse) [] (i.stepGood sparse) fun s b g =>
    match worstFault (b.stepFaults i g sparse) with
    | some f => f
    | none =>
      if s.storeHeld i.core (g.uniform i i.c) (panelBytes i.bfmt sparse) then .stall
      else .done (s.useFree.modBlock i.core fun b => b.setAccumulator i.acc (b.stepped i g sparse s.free.toNat)) (g.relaxed i).step

/-- MBEGIN: the accumulator is emptied and takes its BASE (05 Table 5-7). -/
def execMbegin (i : Ins) (s : State) : Host.Outcome State Fault Refusal :=
  matrixIssue i s [i.a] [] (i.d == 0 && i.b == 0 && i.c == 0 && i.onlyBits [10]) fun s _ g =>
    let v := g.uniform i i.a
    if 2 ^ 20 ≤ v then illegal
    else .done (s.modBlock i.core fun b => b.setAccumulator i.acc { Accumulator.initial with base := v }) g.step

/-- MMA: one dense chunk is appended (05 R126). -/
def execMma (i : Ins) (s : State) : Host.Outcome State Fault Refusal := matrixStep false i s

/-- MMAS: two chunks of a sparse panel are appended (05 R130). -/
def execMmas (i : Ins) (s : State) : Host.Outcome State Fault Refusal := matrixStep true i s

/-- The encoding of an MREAD is defined. -/
def Ins.readGood (i : Ins) : Bool := i.a == 0 && i.b == 0 && i.c == 0 && i.onlyBits [10, 11, 12, 13, 14, 19] && i.d % 4 == 0

/-- MREAD: collapsed values of one array in the executing threads (05 Table 5-7). -/
def execMread (i : Ins) (s : State) : Host.Outcome State Fault Refusal :=
  matrixIssue i s [] (widthRegs i.d 16) i.readGood fun s b g =>
    match worstFault (divergedFaults g i) with
    | some f => f
    | none =>
      let v := (b.accumulator i.acc).collapse
      let g1 := g.writeMany i.d 4 (g.exec i) fun t => (v.drop (256 * (t / 4) + 16 * i.bits 11 4 + 4 * (t % 4))).take 4
      .done s (g1.relaxed i).step

/-! ### Partial records and final results (05 R136, R137) -/

/-- Bytes of a partial record. -/
def recordSize : Nat := 16512

/-- Words of a list of bytes. -/
def wordsAt (bytes : List Byte) (n : Nat) : List Word :=
  (List.range n).map fun k => BitVec.ofNat 32 (field bytes (4 * k) 4)

/-- Little-endian bytes of words. -/
def bytesOfWords (l : List Word) : List Byte := l.flatMap fun w => leBytes 4 w.toNat

/-- A partial record (05 Table 5-6). -/
structure Partial where
  values : List Word
  base : Nat
  count : Nat
  afmt : Nat
  bfmt : Nat

/-- Its bytes. -/
def Partial.bytes (p : Partial) : List Byte :=
  bytesOfWords p.values ++ leBytes 4 p.base ++ leBytes 4 p.count ++ leBytes 1 p.afmt ++ leBytes 1 p.bfmt ++ zeros 118

/-- The record that bytes hold. -/
def Partial.of (bytes : List Byte) : Partial :=
  { values := wordsAt bytes 4096, base := field bytes 16384 4 % 2 ^ 20, count := field bytes 16388 4
    afmt := field bytes 16392 1, bfmt := field bytes 16393 1 }

/-- A final result of output (`r`, `c`) (05 R137 (b) to (d)): element code in OUTFMT's format. -/
def finalValue (v : Word) (row col cin : Option Word) (outElement : Nat) : Nat :=
  let v1 := match row with | some x => matrixMul v x | none => v
  let v2 := match col with | some x => matrixMul v1 x | none => v1
  let v3 := match cin with | some x => matrixAdd v2 x | none => v2
  if outElement = 1 then v3.toNat else (convertTo outElement (decodeElem 1 v3.toNat)).1

/-- ELEMENT of OUTFMT. -/
def outElement (code : Nat) : Nat := match code with | 0 => 1 | 1 => 3 | _ => 2

/-- Bytes of the 16 by 256 results (05 R137). -/
def finalBytes (v : List Word) (scales cin : Option (List Word)) (out : Nat) : List Byte :=
  let n := elementWidth out / 8
  (List.range 4096).flatMap fun o =>
    let row := scales.map fun l => l.getD (o / 256) 0
    let col := scales.map fun l => l.getD (16 + o % 256) 0
    leBytes n (finalValue (v.getD o 0) row col (cin.map fun l => l.getD o 0) out)

/-- MODE, ADD, SCALE and OUTFMT of an MSTORE (05 Table 5-7). -/
def Ins.storeMode (i : Ins) : Nat := i.bits 0 2
def Ins.storeAdd (i : Ins) : Bool := i.imm.getLsbD 2
def Ins.storeScale (i : Ins) : Bool := i.imm.getLsbD 3

/-- The encoding of an MSTORE is defined. -/
def Ins.mstoreGood (i : Ins) : Bool :=
  i.d == 0 && i.onlyBits [0, 1, 2, 3, 5, 6, 10] && decide (i.storeMode < 2) && decide (i.bits 5 2 < 3)
    && (i.storeMode == 1 || (!i.storeAdd && !i.storeScale))

/-- Bytes that an MSTORE writes. -/
def Ins.mstoreSize (i : Ins) : Nat :=
  if i.storeMode = 0 then recordSize else 4096 * (elementWidth (outElement (i.bits 5 2)) / 8)

/-- Faults of an MSTORE (05 R136, R137, R139). -/
def Block.mstoreFaults (b : Block) (i : Ins) (g : Group) : Faults :=
  let t := g.first i
  let acc := b.accumulator i.acc
  let order := if i.storeMode = 0 then !(spanAligned acc.base acc.count) else acc.base != 0
  panelFaults t (g.uniform i i.a) i.mstoreSize 128 ++ (if i.storeAdd then panelFaults t (g.uniform i i.b) 16384 128 else [])
    ++ (if i.storeScale then panelFaults t (g.uniform i i.c) 1088 128 else [])
    ++ if order then [(stReductionOrder, t, g.uniform i i.a)] else []

/-- An unfinished tile instruction uses a range that an MSTORE names. -/
def State.mstoreHeld (s : State) (i : Ins) (g : Group) : Bool :=
  s.storeHeld i.core (g.uniform i i.a) i.mstoreSize || (i.storeAdd && s.storeHeld i.core (g.uniform i i.b) 16384)
    || (i.storeScale && s.storeHeld i.core (g.uniform i i.c) 1088)

/-- What an MSTORE writes. -/
def Block.mstoreBytes (b : Block) (i : Ins) (g : Group) : List Byte :=
  let acc := b.accumulator i.acc
  if i.storeMode = 0 then
    Partial.bytes { values := acc.collapse, base := acc.base, count := acc.count, afmt := acc.afmt, bfmt := acc.bfmt }
  else
    finalBytes acc.collapse (if i.storeScale then some (wordsAt (b.storeRead (g.uniform i i.c) 1088) 272) else none)
      (if i.storeAdd then some (wordsAt (b.storeRead (g.uniform i i.b) 16384) 4096) else none) (outElement (i.bits 5 2))

/-- MSTORE: a partial record or a final result is written (05 R136, R137, R139). -/
def execMstore (i : Ins) (s : State) : Host.Outcome State Fault Refusal :=
  matrixIssue i s [i.a, i.b, i.c] [] i.mstoreGood fun s b g =>
    match worstFault (b.mstoreFaults i g) with
    | some f => f
    | none =>
      if s.mstoreHeld i g then .stall
      else .done (s.modBlock i.core fun b => b.storeWrite (g.uniform i i.a) (b.mstoreBytes i g)) g.step

/-- The partial record in the core store that a register names. -/
def Block.partialAt (b : Block) (i : Ins) (g : Group) (r : Nat) : Partial := Partial.of (b.storeRead (g.uniform i r) recordSize)

/-- A record that MLOADP refuses (05 Table 5-7): COUNT no power of two to 1,024, or more chunks than there are. -/
def Partial.broken (p : Partial) : Bool :=
  p.count == 0 || p.count != 2 ^ Nat.log2 p.count || decide (1024 < p.count) || decide (2 ^ 20 < p.base + p.count)

/-- MLOADP: a record becomes the single entry of the stacks (05 Table 5-7). -/
def execMloadp (i : Ins) (s : State) : Host.Outcome State Fault Refusal :=
  matrixIssue i s [i.a] [] (i.d == 0 && i.b == 0 && i.c == 0 && i.onlyBits [10]) fun s b g =>
    let t := g.first i
    let a := g.uniform i i.a
    let p := b.partialAt i g i.a
    match worstFault (panelFaults t a recordSize 128 ++ if p.broken then [(stReductionOrder, t, a)] else []) with
    | some f => f
    | none =>
      if s.storeHeld i.core a recordSize then .stall
      else
        let acc : Accumulator :=
          { base := p.base, count := p.count, levels := [(Nat.log2 p.count, p.values)], afmt := p.afmt, bfmt := p.bfmt }
        .done (s.modBlock i.core fun b => b.setAccumulator i.acc acc) g.step

/-- Faults of an MRED (05 R136, R139). -/
def Block.mredFaults (b : Block) (i : Ins) (g : Group) : Faults :=
  let t := g.first i
  let l := b.partialAt i g i.a
  let r := b.partialAt i g i.b
  panelFaults t (g.uniform i i.a) recordSize 128 ++ panelFaults t (g.uniform i i.b) recordSize 128
    ++ panelFaults t (g.uniform i i.c) recordSize 128
    ++ if !(mergeable l.base l.count r.base r.count) then [(stReductionOrder, t, g.uniform i i.a)] else []

/-- The merged record. -/
def Block.mredBytes (b : Block) (i : Ins) (g : Group) (free : Nat) : List Byte :=
  let l := b.partialAt i g i.a
  let r := b.partialAt i g i.b
  Partial.bytes
    { values := List.zipWith matrixAdd l.values r.values, base := l.base, count := l.count + r.count
      afmt := keepFormat 1 l.afmt r.afmt (free % 32), bfmt := keepFormat 1 l.bfmt r.bfmt (free / 32 % 32) }

/-- MRED: two records merge into a third (05 R136). -/
def execMred (i : Ins) (s : State) : Host.Outcome State Fault Refusal :=
  matrixIssue i s [i.a, i.b, i.c] [] (i.d == 0 && i.onlyBits []) fun s b g =>
    match worstFault (b.mredFaults i g) with
    | some f => f
    | none =>
      if s.storeHeld i.core (g.uniform i i.a) recordSize || s.storeHeld i.core (g.uniform i i.b) recordSize
          || s.storeHeld i.core (g.uniform i i.c) recordSize then .stall
      else .done (s.useFree.modBlock i.core fun b => b.storeWrite (g.uniform i i.c) (b.mredBytes i g s.free.toNat)) g.step

/-- Codes that MQUANT converts to (05 R143). -/
def quantCode (c : Nat) : Bool := codeValid c && decide (4 ≤ codeElement c)

/-- What MQUANT writes: 16 rows of 256 values converted. -/
def Block.quantBytes (b : Block) (i : Ins) (g : Group) : List Byte :=
  quantise (i.bits 0 5) ((List.range 16).map fun r => wordsAt (b.storeRead (g.uniform i i.a + 1024 * r) 1024) 256)

/-- The encoding of an MQUANT is defined. -/
def Ins.quantGood (i : Ins) : Bool :=
  let code := i.bits 0 5
  i.d == 0 && i.c == 0 && i.onlyBits [0, 1, 2, 3, 4] && quantCode code && codeElement code != 7

/-- MQUANT: 16 rows of 256 binary32 values converted (05 R143). -/
def execMquant (i : Ins) (s : State) : Host.Outcome State Fault Refusal :=
  matrixIssue i s [i.a, i.b] [] i.quantGood fun s b g =>
    let t := g.first i
    let src := g.uniform i i.a
    let dst := g.uniform i i.b
    let n := (b.quantBytes i g).length
    match worstFault (panelFaults t src 16384 128 ++ panelFaults t dst n 128) with
    | some f => f
    | none =>
      if s.storeHeld i.core src 16384 || s.storeHeld i.core dst n then .stall
      else .done (s.modBlock i.core fun b => b.storeWrite dst (b.quantBytes i g)) g.step

end Sys2Proof.Machine
end

