-- ==== Sys2Proof/Machine/Tiles.lean ====
section
/-!
DEFINITION. The class TILE (06 R158 to R160) and what happens to a tile at its point of coherence (06 R151, R152, R154; 07 R172).
-/
namespace Sys2Proof.Machine
open Sys2Proof

/-! ### TLOAD and TSTORE -/

/-- FMT of a tile instruction is a format code, or 00h (06 R158, 05 R123). -/
def tileFormatGood (c : Nat) : Bool := c == 0 || codeValid c

/-- A place that a tile can be at: tier 1, or the payload of a tile of a tiled object (06 R145). -/
def State.tilePlace (s : State) : Place → Bool
  | .tier1 _ => true
  | .object o a => match tget s.objects o with
    | some x => x.tiled && (match (x.rawParts a 1).head? with | some (.line _ 0 _) => true | _ => false)
    | none => false
  | .coherent _ => false

/-- Where a tile instruction's tile is, with the faults of its addresses (06 R158, R159). -/
structure TileAccess where
  s : State
  place : Option Place
  cstore : Nat
  faults : Faults

/-- The operands of a tile instruction, from the lowest thread in which it executes. -/
def State.tileAccess (s : State) (i : Ins) (b : Block) (g : Group) (write : Bool) : TileAccess :=
  let t := g.first i
  let a := g.readPair i.a t
  let c := (g.read i.c t).toNat
  let m := s.mapAccess i.core b i.seg (g.read i.b t).toNat a 4096 (!write) write
  let own := (if a % 4096 ≠ 0 then [(stMisaligned, t, a)] else []) ++ panelFaults t c 4096 128
  match m.2 with
  | .at_ p => ⟨m.1, some p, c, own ++ if m.1.tilePlace p then [] else [(stWindowRange, t, a)]⟩
  | .fault st => ⟨m.1, none, c, own ++ [(st, t, a)]⟩
  | .down => ⟨m.1, none, c, own ++ [(stWindowRange, t, a)]⟩

/-- The encoding of a tile instruction is defined. -/
def Ins.tileGood (i : Ins) (named : List Nat) : Bool :=
  evenReg i.a && decide (i.seg < 2) && i.onlyBits named && (i.seg == 1 || i.b == 0) && tileFormatGood (i.bits 0 5)

/-- Tile instructions of a kind in flight in a core (06 R159). -/
def State.tilesInFlight (s : State) (core : Nat) (load : Bool) : Nat :=
  (s.mem.requests.filter fun r => r.core == core && match r.kind with
    | .tileLoad _ _ _ => load
    | .tileStore _ _ _ => !load
    | _ => false).length

/-- Request of a tile instruction. -/
def State.tileRequest (s : State) (i : Ins) (b : Block) (g : Group) (kind : RequestKind) (p : Place) : State :=
  s.sendRequest i g kind 4096 [{ thread := g.first i, place := p, data := [], compare := [] }] b.partition

/-- Registers of the tile address. -/
def Ins.tileRegs (i : Ins) : List Nat := i.addressRegs ++ [i.c]

/-- TLOAD (06 R158, R159): the tile's payload goes to the core store, VERSION and status to the pair DST. -/
def execTload (i : Ins) (s : State) : Host.Outcome State Fault Refusal :=
  matrixIssue i s i.tileRegs (pairRegs i.d) (i.tileGood [0, 1, 2, 3, 4, 8, 16, 17] && evenReg i.d) fun s b g =>
    let x := s.tileAccess i b g false
    match worstFault x.faults, x.place with
    | some f, _ => f
    | none, none => illegal
    | none, some p =>
      if 8 ≤ s.tilesInFlight i.core true || s.storeHeld i.core x.cstore 4096 then .stall
      else .done (x.s.tileRequest i b g (.tileLoad x.cstore (i.imm.getLsbD 8) (i.bits 0 5)) p) g.step

/-- TSTORE (06 R158): 4,096 bytes of the core store are published with a tag of FORMAT FMT. -/
def execTstore (i : Ins) (s : State) : Host.Outcome State Fault Refusal :=
  matrixIssue i s i.tileRegs [] (i.tileGood [0, 1, 2, 3, 4, 16, 17] && i.d == 0) fun s b g =>
    let x := s.tileAccess i b g true
    match worstFault x.faults, x.place with
    | some f, _ => f
    | none, none => illegal
    | none, some p =>
      if 8 ≤ s.tilesInFlight i.core false || s.storeHeld i.core x.cstore 4096 then .stall
      else
        let payload := b.storeRead x.cstore 4096
        let tag := tagFor payload (i.bits 0 5) (s.producer 1 i.core)
        .done (x.s.tileRequest i b g (.tileStore x.cstore payload tag.bytes) p) g.step

/-! ### At the point of coherence -/

/-- The station at which a request's only lane is served. -/
def State.tileStation (s : State) (r : Request) : Nat :=
  ((r.lanes.head?.bind fun l => s.servedAt l.place).map (·.station)).getD 0

/-- The object, its index and the tile of a place. -/
def State.tileOf (s : State) : Place → Option (Nat × (Object × Nat))
  | .object o a => (tget s.objects o).map fun x => (o, x, x.lineOf a)
  | _ => none

/-- TILE_READ: a slice serves a tile read, payload and tag together (06 R152, R157; 07 R171, R183, R184). -/
def State.tileRead (s0 : State) (id : Nat) (upsets : List Upset) : State :=
  match s0.request id with
  | none => s0
  | some r =>
    match r.kind, r.lanes with
    | .tileLoad _ _ _, l :: _ =>
      if s0.barred r (s0.tileStation r) || s0.waitsFill r l then s0
      else
        let s := s0.observe upsets
        match l.place, s.tileOf l.place with
        | .tier1 a, _ =>
          let slot := a / 4096
          if s.mem.deadBits.contains slot then
            let s1 := s.count (slotStation slot) r.partition fun k => { k with deadReads := k.deadReads + 1 }
            if (s.partition r.partition).deadStrict then s1.failTile r [l] stDeadRead none 0
            else s1.performTile r [l] slot (zeros 4096) (zeroTile (s.tag slot)) none
          else s.performTile r [l] slot (s.lineData slot) (s.tag slot) none
        | _, some (o, x, n) => s.accessLine r [l] o x n
        | _, none => s.failTile r [l] stWindowRange none 0
    | _, _ => s0

/-- Entries of a home port's pending-write table (06 R154). -/
def pendingEntries : Nat := 64

/-- TILE_PUBLICATION: a tile arrives at a tier-1 slice and is published there (06 R151), or, for a tile of tier 2, passes its
home slice (07 R172) and takes an entry at its home port, if the table has room and the tile has none (06 R154 (a)). -/
def State.tilePublication (s : State) (id : Nat) : State :=
  match s.request id with
  | none => s
  | some r =>
    match r.kind, r.lanes with
    | .tileStore _ payload tag, l :: _ =>
      if s.barred r (s.tileStation r) then s
      else
        match l.place, s.tileOf l.place with
        | .tier1 a, _ =>
          let s1 := { s with
            mem := s.mem.publish (a / 4096) payload (Tag.ofBytes tag)
            fail := { s.fail with written := addOnce s.fail.written (a / 2 ^ 23) } }
          s1.doneLanes id [l] []
        | _, some (o, x, n) =>
          let port := (x.locate (tileOffset n)).1
          let open_ := s.mem.pendingTiles.filter (·.id != 0)
          let busy := (open_.filter fun e => match tget s.objects e.object with
            | some y => (y.locate (tileOffset e.tile)).1 == port
            | none => false).length
          if open_.any (fun e => e.object == o && e.tile == n) || pendingEntries ≤ busy then s
          else if x.unreadable then s.failLanes id [l] stMemoryError (some (o, n))
          else
            let e : PendingTile := { id, object := o, tile := n, payload, tag := Tag.ofBytes tag }
            let s1 := s.dropCopy o n
            let rest := s1.mem.pendingTiles.filter fun e => !(e.id == 0 && e.object == o && e.tile == n)
            { s1 with mem := { s1.mem with pendingTiles := rest ++ [e] } }
        | _, none => s.failLanes id [l] stWindowRange none
    | _, _ => s

/-- HOME_PORT_TILE_WRITE: a tile in the pending-write table is written, its tag block after its payload, and its entry is cleared
(06 R154 (b) to (d); 07 R172; 08 R204). -/
def State.homePortTileWrite (s : State) (id : Nat) (upsets : List Upset) : State :=
  match s.mem.pendingTiles.find? fun e => e.id == id && id != 0 with
  | none => s
  | some e =>
    let s1 := s.observe upsets
    let s2 : State := { s1 with mem := { s1.mem with pendingTiles := s1.mem.pendingTiles.filter (·.id != id) } }
    match tget s2.objects e.object with
    | none => s2
    | some x =>
      let w := s2.writeTile e.object x e.tile e.payload e.tag
      match w.1.request id with
      | none => w.1
      | some r =>
        if w.2 = stOk then w.1.doneLanes id r.lanes []
        else w.1.failLanes id r.lanes w.2 (some (e.object, e.tile))

/-! ### The return of a tile -/

/-- A status with which a TLOAD of SOFT 1 goes on (06 R155, R159). -/
def tileStatus (st : Nat) : Bool :=
  st == stMemoryError || st == stTileUntagged || st == stTileFormat || st == stTileRace || st == stTileCrc

/-- LOAD_RETURN of a TLOAD (06 R149 (b), R159). -/
def State.tileReturn (s : State) (id : Nat) : State :=
  match s.request id with
  | none => s
  | some r =>
    match r.kind, r.lanes with
    | .tileLoad c soft _, [] =>
      let words := (r.returned.head?.map (·.2)).getD []
      let s1 := s.dropRequest id
      let mask := r.mask
      let write (version status : Word) (s : State) : State :=
        (s.modGroup r.core r.group fun g => (g.write r.dst mask fun _ => version).write (r.dst + 1) mask fun _ => status)
      let back (s : State) : State := (s.gotValue r.core r.group).endFence r.core r.group
      if r.error = 0 then
        back (write (words.getD 1024 0) 0
          (s1.modBlock r.core fun b => b.storeWrite c ((words.take 1024).flatMap fun w => leBytes 4 w.toNat)))
      else if soft && tileStatus r.error then back (write (words.getD 0 0) (BitVec.ofNat 32 r.error) s1)
      else s1.accessFault r.core r.group (some r.errorThread) r.error r.errorAddress r.pc r.active r.errorLine
    | _, _ => s

end Sys2Proof.Machine
end

