-- ==== Sys2Proof/Machine/Fabric.lean ====
section
/-!
DEFINITION. The panel fabric: links (14 R324 to R328), carillons (14 R331 to R333), and the weighted-share arbiters
(14 R336 to R341).
-/
namespace Sys2Proof.Machine
open Sys2Proof

/-! ### Links (14 R323 to R328, 21 R488) -/

/-- Attach stations of an edge die (01 R17). -/
def attachStations (e : Nat) : List Nat :=
  match e with
  | 0 => [2, 3]
  | 1 => [23, 29]
  | 2 => [50, 51]
  | _ => [18, 24]

/-- The edge die that a station is attached to. -/
def edgeOf (station : Nat) : Option Nat := (List.range 4).find? fun e => (attachStations e).contains station

/-- The two ends of a link direction, stations 0 to 53 or edge dies 54 to 57; none for an entry without a link. -/
def linkEnds (x : Nat) : Option (Nat × Nat) :=
  if x < 270 then
    let s := x / 5
    match x % 5 with
    | 0 => if 6 ≤ s then some (s, s - 6) else none
    | 1 => if s % 6 < 5 then some (s, s + 1) else none
    | 2 => if s < 48 then some (s, s + 6) else none
    | 3 => if 0 < s % 6 then some (s, s - 1) else none
    | _ => (edgeOf s).map fun e => (s, 54 + e)
  else
    ((attachStations ((x - 270) / 2))[(x - 270) % 2]?).map fun s => (54 + (x - 270) / 2, s)

/-- The entries of the fabric window that have a link. -/
def linkEntries : List Nat := (List.range 278).filter fun x => (linkEnds x).isSome

/-- A link direction that starts its training. -/
def Link.bringup (old : Option Link) : Link :=
  match old with
  | some l => { l with mode := .bringup, mapped := 0, failures := 0, frameErrors := [] }
  | none => { mode := .bringup, mapped := 0, failures := 0, frameErrors := [], replays := 0, retrains := 0, hot := 0 }

/-- The state with a link direction changed. -/
def State.modLink (s : State) (x : Nat) (f : Link → Link) : State :=
  { s with fabric := { s.fabric with links := tmod s.fabric.links x f } }

/-- Links whose two ends are released or refilled enter BRINGUP (14 Table 14-2). -/
def State.startLinks (s : State) (stations : List Nat) : State :=
  linkEntries.foldl (fun s x =>
    match linkEnds x with
    | some (a, b) =>
      if (stations.contains a || stations.contains b) && !(s.baseOut a) && !(s.baseOut b) then
        { s with fabric := { s.fabric with links := tset s.fabric.links x (Link.bringup (tget s.fabric.links x)) } }
      else s
    | none => s) s

/-- Links of a station whose base die is reset go OFF. -/
def State.stopLinks (s : State) (station : Nat) : State :=
  let off (x : Nat) (l : Link) : Link :=
    match linkEnds x with
    | some (a, b) => if a = station ∨ b = station then { l with mode := .off, failures := 0, frameErrors := [] } else l
    | none => l
  { s with fabric := { s.fabric with links := tmapv s.fabric.links off } }

/-- LINK_TRAINING_RESULT: a training of a link ends (14 Table 14-2); more than 128 wires cannot be mapped out (14 R324). -/
def State.linkTrainingResult (s : State) (x : Nat) (success : Bool) (wires : Nat) : State :=
  match tget s.fabric.links x with
  | none => s
  | some l =>
    let good := success && decide (wires ≤ 128)
    if l.mode ≠ .bringup ∧ l.mode ≠ .retraining then s
    else if good then s.modLink x fun l => { l with mode := .inService, mapped := wires, failures := 0, frameErrors := [] }
    else if l.failures + 1 < 3 then s.modLink x fun l => { l with failures := l.failures + 1 }
    else
      let s1 := s.modLink x fun l => { l with mode := .degraded, failures := 0, frameErrors := [] }
      if l.mode = .retraining then s1.retestAll else s1

/-- LINK_DEGRADED_RETRY: a DEGRADED link is trained once more (14 Table 14-2). -/
def State.linkDegradedRetry (s : State) (x : Nat) (success : Bool) (wires : Nat) : State :=
  match tget s.fabric.links x with
  | some l =>
    if l.mode = .degraded ∧ success ∧ wires ≤ 128 then
      s.modLink x fun l => { l with mode := .inService, mapped := wires, failures := 0, frameErrors := [] }
    else s
  | none => s

/-- Instants within the last `span` of `now`. -/
def recent (l : List Nat) (now span : Nat) : List Nat := l.filter fun t => decide (now < t + span)

/-- FRAME_REPLAY: a receiver finds a frame-check mismatch and the sender replays (14 R326); 16 of them within 1 ms change the
link's state (14 Table 14-2). -/
def State.frameReplay (s : State) (x : Nat) : State :=
  match tget s.fabric.links x with
  | none => s
  | some l =>
    if l.mode = .off ∨ l.mode = .failed then s
    else
      let errors := recent l.frameErrors s.now 100000 ++ [s.now]
      let s1 := s.modLink x fun l => { l with replays := l.replays + 1, frameErrors := errors }
      if errors.length < 16 then s1
      else if l.mode = .inService then
        s1.modLink x fun l => { l with mode := .retraining, retrains := l.retrains + 1, failures := 0, frameErrors := [] }
      else (s1.modLink x fun l => { l with mode := .failed, failures := 0, frameErrors := [] }).retestAll

/-- Payload bytes that a link carries in 1 µs in its mode (14 Table 14-1). -/
def Link.rate (l : Link) : Nat := if l.mode = .inService then 4000000 else 256000

/-- LINK_HOT_WINDOW: a window of 1 µs has ended (14 R328). -/
def State.linkHotWindow (s : State) (x bytes : Nat) : State :=
  match tget s.fabric.links x with
  | some l => if l.rate * 4 < bytes * 5 ∧ l.mode ≠ .off ∧ l.mode ≠ .failed then
      s.modLink x fun l => { l with hot := l.hot + 1 } else s
  | none => s

/-! ### Carillons of fills (14 R331 to R333, 07 R175) -/

/-- Receive buffers of a target (14 Table 14-5). -/
def receiveBuffers : Nat := 16

/-- The state with a carillon changed. -/
def State.modCarillon (s : State) (id : Nat) (f : Carillon → Carillon) : State :=
  { s with fabric := { s.fabric with carillons := s.fabric.carillons.map fun c => if c.id = id then f c else c } }

/-- Carillon `id`. -/
def State.carillon (s : State) (id : Nat) : Option Carillon := s.fabric.carillons.find? (·.id == id)

/-- A carillon with every target served releases its payload (14 R333 (a)). -/
def State.endCarillon (s : State) (id : Nat) : State :=
  { s with fabric := { s.fabric with carillons := s.fabric.carillons.filter fun c =>
    !(c.id == id && c.targets.all c.delivered.contains) } }

/-- A request reads data that a fill brings to its station. -/
def Request.reader (r : Request) : Bool :=
  match r.kind with
  | .load | .tileLoad _ _ _ => true
  | _ => false

/-- The line of a fill is sent once to the stations of all joined readers (07 R175). -/
def State.sendFill (s : State) (station : Nat) (joined : List Nat) : State :=
  let readers := joined.filter fun id => (s.request id).any Request.reader
  let targets := (readers.filterMap fun id => (s.request id).map fun r => r.core / 32).foldl addOnce []
  if targets.isEmpty then s
  else
    let c : Carillon :=
      { id := s.nextId, source := station, targets, requests := readers, asked := targets, answers := [], delivered := [],
        laggards := [], nackAt := 0, attempts := 1 }
    { s with nextId := s.nextId + 1, fabric := { s.fabric with carillons := s.fabric.carillons ++ [c] } }

/-- FILL_COMPLETE: the fill ends (`fillComplete`), and its line is sent to those that joined it. -/
def State.fillReturns (s : State) (station object line : Nat) (upsets : List Upset) : State :=
  let f := s.mem.fills.find? fun f => f.station == station && f.object == object && f.line == line
  let s1 := s.fillComplete station object line upsets
  match f, s1.findLine object line with
  | some f, some _ =>
    if s1.mem.fills.any fun g => g.object == object && g.line == line then s1 else s1.sendFill station f.requesters
  | _, _ => s1

/-- The line that a request waits for has not reached its station. -/
def State.onItsWay (s : State) (id : Nat) : Bool :=
  match s.request id with
  | none => false
  | some r => s.fabric.carillons.any fun c => c.requests.contains id &&
      !(c.delivered.contains (r.core / 32)) && !(c.answers.contains (r.core / 32, true))

/-- Buffers in use at a target. -/
def State.receiving (s : State) (target : Nat) : List Nat := tgetD s.fabric.receive target []

/-- CARILLON_PAYLOAD: the payload reaches a target, which takes it and answers ACK, or drops it and answers NACK (14 R332). -/
def State.carillonPayload (s : State) (id target : Nat) : State :=
  match s.carillon id with
  | none => s
  | some c =>
    if !(c.asked.contains target) ∨ s.baseOut target then s
    else
      let room := decide ((s.receiving target).length < receiveBuffers)
      let s1 := s.modCarillon id fun c =>
        { c with asked := c.asked.filter (· != target), answers := c.answers ++ [(target, room)] }
      if room then
        { s1 with fabric := { s1.fabric with receive := tset s1.fabric.receive target (s1.receiving target ++ [id]) } }
      else s1

/-- CARILLON_ACK: a target's acknowledgement reaches the source; its buffer has been delivered (14 R332, R333). -/
def State.carillonAck (s : State) (id target : Nat) : State :=
  match s.carillon id with
  | none => s
  | some c =>
    if !(c.answers.contains (target, true)) then s
    else
      let s1 := s.modCarillon id fun c =>
        { c with answers := c.answers.filter (· != (target, true)), delivered := addOnce c.delivered target }
      let left := (s1.receiving target).filter (· != id)
      let table := if left.isEmpty then terase s1.fabric.receive target else tset s1.fabric.receive target left
      ({ s1 with fabric := { s1.fabric with receive := table } }).endCarillon id

/-- CARILLON_NACK: a target's refusal reaches the source (14 R332). -/
def State.carillonNack (s : State) (id target : Nat) : State :=
  match s.carillon id with
  | none => s
  | some c =>
    if !(c.answers.contains (target, false)) then s
    else s.modCarillon id fun c =>
      { c with answers := c.answers.filter (· != (target, false)), laggards := addOnce c.laggards target, nackAt := s.now }

/-- The laggards are sent the payload again, as a new carillon over that set (14 R332). -/
def State.retryCarillon (s : State) (id : Nat) : State :=
  s.modCarillon id fun c =>
    if c.laggards.isEmpty then c
    else { c with asked := c.laggards.foldl addOnce c.asked, laggards := [], attempts := c.attempts + 1 }

/-- BUFFER_FREE: a laggard with a free buffer says so (14 R332). -/
def State.bufferFree (s : State) (id target : Nat) : State :=
  match s.carillon id with
  | some c =>
    if c.laggards.contains target && decide ((s.receiving target).length < receiveBuffers) then s.retryCarillon id else s
  | none => s

/-- CARILLON_RETRY_TIMER: 2 µs after a NACK (14 R332). -/
def State.carillonRetryTimer (s : State) (id : Nat) : State :=
  match s.carillon id with
  | some c => if c.laggards.isEmpty then s else (s.clockTo (c.nackAt + 200)).retryCarillon id
  | none => s

/-- A station goes out: what it has not taken it will not take; a carillon with no other target left ends (14 R333 (a),
Table 14-10). -/
def State.carillonsWithout (s : State) (station : Nat) : State :=
  let f (c : Carillon) : Carillon :=
    { c with
      targets := c.targets.filter fun t => t != station || c.delivered.contains t
      asked := c.asked.filter (· != station)
      answers := c.answers.filter (·.1 != station)
      laggards := c.laggards.filter (· != station) }
  { s with fabric := { s.fabric with
      carillons := (s.fabric.carillons.map f).filter fun c => !(c.targets.all c.delivered.contains)
      receive := terase s.fabric.receive station } }

/-! ### Weighted-share arbiters (14 R336 to R341) -/

/-- Blocks per µs of a resource (14 Table 14-9). -/
def resourceCapacity (a : Nat) : Nat := if a < 10 then 6250 else 390

/-- Number of arbitrated resources. -/
def resourceCount : Nat := 66

/-- Slots of an arbiter: slot 129 exists at home ports only (14 R336). -/
def slotExists (a i : Nat) : Bool := decide (i < 129) || (i == 129 && decide (a < 10))

/-- WEIGHT of a slot (14 R337). -/
def State.slotWeight (s : State) (a i : Nat) : Nat :=
  if 129 < i then 0
  else if i = 129 then (if a < 10 then 900 else 0)
  else if i = 128 ∨ i % 2 = 1 then 64
  else tgetD s.fabric.weights (a * 256 + i) 0

/-- An arbiter that has done nothing. -/
def Arbiter.initial : Arbiter := { grants := 0, boundaries := 0, slots := [] }

/-- Arbiter of a resource. -/
def State.arbiter (s : State) (a : Nat) : Arbiter := tgetD s.fabric.arbiters a Arbiter.initial

/-- A slot of an arbiter. -/
def State.arbSlot (s : State) (a i : Nat) : ArbSlot :=
  let w := s.slotWeight a i
  let c : Int := (s.fabric.refills * w : Nat)
  tgetD (s.arbiter a).slots i { weight := w, counter := c, shown := c, requests := [] }

/-- A request arrives at a slot. -/
def State.arrive (s : State) (a : Nat) (arb : Arbiter) (r : Arrival) : Arbiter :=
  if !(slotExists a r.slot) ∨ r.blocks = 0 then arb
  else
    let d := s.arbSlot a r.slot
    let k := tgetD arb.slots r.slot { d with requests := [] }
    let q : ArbRequest := { arrival := arb.boundaries, blocks := r.blocks, progress := 0 }
    { arb with slots := tset arb.slots r.slot { k with requests := k.requests ++ [q] } }

/-- The slots with something pending. -/
def Arbiter.waiting (arb : Arbiter) : List (Nat × ArbSlot) := arb.slots.filter fun x => !x.2.requests.isEmpty

/-- Arrival of a slot's oldest unfinished request. -/
def ArbSlot.oldest (k : ArbSlot) : Nat := (k.requests.head?.map (·.arrival)).getD 0

/-- The longest wait among pending slots; ties to the lowest slot. -/
def longestWait : List (Nat × ArbSlot) → Option (Nat × ArbSlot)
  | [] => none
  | x :: r => match longestWait r with
    | some y => if y.2.oldest < x.2.oldest then some y else some x
    | none => some x

/-- The fullest counter among pending slots; ties to the lowest slot. -/
def fullestSlot : List (Nat × ArbSlot) → Option (Nat × ArbSlot)
  | [] => none
  | x :: r => match fullestSlot r with
    | some y => if x.2.counter < y.2.counter then some y else some x
    | none => some x

/-- One block of a slot's first request is transferred (14 R338). -/
def ArbSlot.block (k : ArbSlot) : ArbSlot :=
  let counter := max (k.counter - 1) (-65536)
  match k.requests with
  | [] => { k with counter }
  | q :: rest =>
    if q.progress + 1 < q.blocks then { k with counter, requests := { q with progress := q.progress + 1 } :: rest }
    else { k with counter, requests := rest }

/-- A fuller slot is pending: a ranked grant of slot `i` is revoked (14 R338, R339). -/
def Arbiter.revokes (arb : Arbiter) (i : Nat) : Bool :=
  match tget arb.slots i with
  | none => false
  | some k => arb.waiting.any fun x => x.1 != i && decide (k.counter + 128 < x.2.counter)

/-- The blocks of a grant, with the arrivals at each block boundary. -/
def State.runGrant (s : State) (a i : Nat) (ranked : Bool) : Nat → List ArrivalList → Arbiter → Arbiter
  | 0, _, arb => arb
  | n + 1, late, arb =>
    let arb1 : Arbiter := { arb with slots := tmod arb.slots i ArbSlot.block, boundaries := arb.boundaries + 1 }
    let arb2 := (late.headD []).foldl (s.arrive a) arb1
    if ranked && arb2.revokes i then arb2 else s.runGrant a i ranked n late.tail arb2

/-- Blocks left of a slot's first request. -/
def ArbSlot.remaining (k : ArbSlot) : Nat := (k.requests.head?.map fun q => q.blocks - q.progress).getD 0

/-- The resource of an arbiter serves (14 Table 14-10). -/
def State.resourceUp (s : State) (a : Nat) : Bool :=
  if a < 10 then !((s.mem.pairs[a]?).any (·.out))
  else if a < 58 then (s.peal.lanes[(a - 10) / 2]?).any (·.up)
  else (s.cijan.engines[(a - 58) / 2]?).any (·.up)

/-- NEXT_GRANT: a resource falls free and its arbiter grants; `late` holds the requests that have arrived by then, and those that
arrive at each block boundary of the grant (14 R338). -/
def State.nextGrant (s : State) (a : Nat) (late : List ArrivalList) : State :=
  let arb := (late.headD []).foldl (s.arrive a) (s.arbiter a)
  let put (x : Arbiter) : State := { s with fabric := { s.fabric with arbiters := tset s.fabric.arbiters a x } }
  if arb.waiting.isEmpty ∨ !(s.resourceUp a) then put arb
  else
    let arb1 : Arbiter := { arb with grants := arb.grants + 1 }
    let long := arb1.grants % 8 == 0
    match if long then longestWait arb1.waiting else fullestSlot arb1.waiting with
    | some (i, k) => put (s.runGrant a i (!long) (min (if long then 8 else 128) k.remaining) late.tail arb1)
    | none => put arb1

/-- REFILL_WINDOW: every slot's counter rises by its WEIGHT, to twice its WEIGHT at most (14 R337). -/
def State.refillWindow (s : State) : State :=
  let fill (k : ArbSlot) : ArbSlot :=
    let c : Int := min (k.counter + (k.weight : Nat)) ((2 * k.weight : Nat) : Int)
    { k with counter := c, shown := c }
  { s with fabric := { s.fabric with
      refills := min 2 (s.fabric.refills + 1)
      arbiters := tmapv s.fabric.arbiters fun _ arb => { arb with slots := tmapv arb.slots fun _ k => fill k } } }

/-- WEIGHT of a partition's ADMITTED slot at a resource, from its admitted Kits (14 R337). -/
def State.admittedWeight (s : State) (a p : Nat) : Nat :=
  min (resourceCapacity a) ((s.kits.filter fun k => k.2.partition == p && k.2.mode == .admitted).map fun k =>
    Config.peakDemand k.1 a ((k.2.placement.map (·.cores)).getD 0)).sum

/-- The WEIGHT of every ADMITTED slot takes effect at a downbeat (14 R337): a slot that changes keeps its counter. -/
def State.applyWeights (s : State) : State :=
  let admitted := (s.kits.filter fun k => k.2.mode == KitMode.admitted).map (·.2.partition)
  let listed := s.fabric.weights.map fun w => w.1 % 256 / 2
  let parts := (admitted ++ listed).foldl addOnce []
  (List.range resourceCount).foldl (fun s a =>
    parts.foldl (fun s p =>
      let w := s.admittedWeight a p
      if w = s.slotWeight a (2 * p) then s
      else
        let k := s.arbSlot a (2 * p)
        let arb := s.arbiter a
        { s with fabric := { s.fabric with
            weights := if w = 0 then terase s.fabric.weights (a * 256 + 2 * p) else tset s.fabric.weights (a * 256 + 2 * p) w
            arbiters := tset s.fabric.arbiters a { arb with slots := tset arb.slots (2 * p) { k with weight := w } } } }) s) s

end Sys2Proof.Machine
end

