-- ==== Sys2Proof/Machine/Inbound.lean ====
section
/-!
DEFINITION. Ring transfers at their targets (16 R384, R385), batches of peal Kits that arrive (10 R252), messages that are only
passed on (16 R373), and the Almanac's START_RING (02 R45, Table 2-4).
-/
namespace Sys2Proof.Machine
open Sys2Proof

/-! ### START_RING -/

/-- The status with which a START_RING does not start, if any (02 Table 2-7; 16 R383, R385, R390; 11 R281, R283). -/
def State.ringActionFault (s : State) (e : AlmanacEntry) (whole : Bool) (b : List Byte) : Option Nat :=
  let t := s.ringTransfer b
  let owner := if t.srcSpace = 1 then (s.objectOf t.srcHandle).map (·.2) else none
  if !(s.descriptorPlace e.partition e.arg0 128 128) then some stBadParam
  else if isCoherent e.arg0 && s.cijan.mode != .up then some stCoherentDown
  else match s.ringCheck whole e.partition b with
    | some (st, _) => some st
    | none =>
      if sideCoherent t.srcSpace 1 t.srcRow && s.cijan.mode != .up then some stCoherentDown
      else if owner.any (fun o => s.lostContext o.context) then some stContextLost
      else if owner.any (fun o => o.mode == .retiring) then some stBadParam
      else if s.beat.lock = .free then some stUnlocked
      else s.ringBlocked t

/-- START_RING (02 Table 2-4, R42): a descriptor that fails gives its status to the Chime. -/
def State.ringAction (s : State) (i : Nat) : State :=
  s.issue i 3 true (fun s e => s.setError e.arg1 stOverrun) fun s e =>
    let f := (s.context e.context).function
    let b := s.sysRead e.arg0 128
    match s.ringActionFault e (f == 0) b with
    | some st => s.setError e.arg1 st
    | none =>
      let t := s.ringTransfer b
      let v := field b 56 8 + if bit (field b 0 1) 1 then s.beat.number else 0
      let t1 := { t with almanac := some i, context := e.context, partition := e.partition, function := f }
      s.beginRing { t1 with kit := some e.target, chime := some (e.arg1, BitVec.ofNat 64 v), span := e.span }

/-! ### Inbound transfers (16 R384, R385) -/

/-- A buffer is free again: its credit goes back on the lane that the message came on (16 R369, R370). -/
def State.returnCredit (s : State) (lane channel : Nat) : State := s.send ⟨.ringCredit, lane, [channel, 1], []⟩

/-- The inbound transfer of a source. -/
def State.inbound (s : State) (source transfer : Nat) : Option Inbound :=
  s.peal.inbound.find? fun x => x.source == source && x.transfer == transfer

/-- The state with an inbound transfer changed. -/
def State.modInbound (s : State) (source transfer : Nat) (f : Inbound → Inbound) : State :=
  { s with peal := { s.peal with inbound := s.peal.inbound.map fun x =>
      if x.source = source ∧ x.transfer = transfer then f x else x } }

/-- The status that a target gives an OPEN it cannot take; none where it takes it (16 R385). -/
def State.openFault (s : State) (f : OpenFields) : Option Nat :=
  match f.handoff with
  | some h => if (s.kit (h / 2)).isSome then none else some stBadParam
  | none =>
    let row (_ : Nat) : Nat := f.dst
    let tileBad := f.tile && (f.dst % 4096 != 0 || f.length % 4096 != 0 || sideCoherent f.space 1 row || sideTier2 f.space 1 row)
    if 63 < f.partition ∨ 1 < f.space ∨ f.length = 0 then some stBadParam
    else if !(s.sideGood false f.partition f.tile f.space f.handle 1 f.length row) then some stBadParam
    else if f.chime.any (fun c => !(s.chimesInside f.partition c.1 1)) then some stBadParam
    else if f.dst % 128 ≠ 0 ∨ f.length % 128 ≠ 0 then some stNarrowWrite
    else if tileBad then some stBadParam
    else if sideCoherent f.space 1 row && s.cijan.mode != .up then some stCoherentDown
    else if (if f.space = 1 then s.objectOf f.handle else none).any (fun o => s.lostContext o.2.context) then some stContextLost
    else none

/-- OPEN: the target checks it and takes it, or answers NACK (16 R384 (a), R385; 17 R398 (c), R401 (f)). A transfer that it holds already, or has
finished, is not opened again (16 R374). -/
def State.openTransfer (s : State) (source transfer : Nat) (f : OpenFields) : State :=
  if (s.inbound source transfer).isSome then s
  else if s.peal.finished.contains (source, transfer) then s.toMember source 0 .ringDone [transfer, stOk] []
  else if s.functions.any (fun v => v.2.mode == .resetting && v.2.partitions.contains f.partition) then
    s.toMember source 0 .ringNack [transfer, stSquashed] []
  else if 1024 ≤ s.peal.inbound.length ∨ s.frozenPartition f.partition then s.toMember source 0 .ringNack [transfer, 0] []
  else match s.openFault f with
    | some st => s.toMember source 0 .ringNack [transfer, st] []
    | none =>
      let x : Inbound :=
        { source, transfer, partition := f.partition, tile := f.tile, space := f.space, dst := f.dst, handle := f.handle,
          length := f.length, taken := [], chime := f.chime, error := 0, batchKit := f.handoff, batch := [] }
      { s with peal := { s.peal with inbound := s.peal.inbound ++ [x] } }

/-- Everything of an inbound transfer has been performed: DST_CHIME is signalled, DONE is returned (16 R384 (d)). -/
def State.finishInbound (s : State) (x : Inbound) : State :=
  let left := s.peal.inbound.filter fun y => !(y.source == x.source && y.transfer == x.transfer)
  let finished := lastN 1024 (s.peal.finished ++ [(x.source, x.transfer)])
  let s1 := { s with peal := { s.peal with inbound := left, finished } }
  let s2 : State := match x.chime with
    | some (c, v) => { s1 with signals := s1.signals ++ [(⟨c, v, x.error, 0⟩ : Signal)] }
    | none => s1
  s2.toMember x.source 0 .ringDone [x.transfer, x.error] []

/-- Messages of an inbound transfer. -/
def Inbound.messages (x : Inbound) : Nat := ceilDiv x.length messageBytes

/-- Every message has been taken. -/
def Inbound.whole (x : Inbound) : Bool := decide (x.messages ≤ x.taken.length)

/-- One tile of a DATA message: checked, then published with the receiving lane's engine as PRODUCER (06 R149 (d), Table
6-2). -/
def State.takeTile (x : Inbound) (lane a : Nat) (y : State × Nat) (payload : List Byte) (tag : Tag) : State × Nat :=
  let st := tileOutcome false false 0 payload tag
  let keep (e : Nat) : Nat := if y.2 = stOk then e else y.2
  if st ≠ stOk then (y.1.countTile 0xFF 0xFF st tag, keep st)
  else
    let w := y.1.tilePut x.space x.handle a payload (tagFor payload tag.format (y.1.producer 3 lane))
    (w.1, keep w.2)

/-- The units of a DATA message are written, those that were not sent left out (16 R384 (c), 08 R210 (c)). -/
def State.takeUnits (s : State) (x : Inbound) (lane index : Nat) (missing : List Nat) (payload tags : List Byte) : State × Nat :=
  let unit := if x.tile then 4096 else 128
  let base := x.dst + index * messageBytes
  let n := min messageBytes (x.length - index * messageBytes) / unit
  (List.range n).foldl (fun y j =>
    if missing.contains j then y
    else if x.tile then
      State.takeTile x lane (base + j * unit) y (padTo 4096 (slice payload (j * unit) unit))
        (Tag.ofBytes (padTo 16 (slice tags (16 * j) 16)))
    else
      let w := y.1.unitWrite x.space x.handle (base + j * unit) (padTo 128 (slice payload (j * unit) unit))
      (w.1, if y.2 = stOk then w.2 else y.2)) (s, x.error)

/-! ### Batches (10 R252) -/

/-- A step descriptor read back from its bytes (10 Table 10-6). -/
def StepDesc.ofBytes (b : List Byte) : StepDesc :=
  { seq := field b 0 4, kind := field b 4 1, produces := bit (field b 5 1) 0, sparse := bit (field b 5 1) 1,
    tokens := field b 6 2, position := field b 8 4, attend := field b 12 4, input := field b 16 8,
    summaryFirst := field b 24 4, summaryCount := field b 28 2, select := field b 30 2, seed := field b 32 8,
    slot := field b 40 4, pages := [], selected := false, selection := [], lastOfAppend := false, append := 0, epoch := 0,
    launched := none }

/-- A batch read back from the bytes of its HANDOFF. -/
def Batch.ofBytes (b : List Byte) : Batch :=
  let steps := field b 8 4
  let commands := field b 12 4
  { beat := field b 0 8
    steps := (List.range steps).map fun i => StepDesc.ofBytes (padTo 128 (slice b (16 + 128 * i) 128))
    commands := (List.range commands).map fun i =>
      let r := padTo 64 (slice b (16 + 128 * steps + 64 * i) 64)
      { opcode := field r 0 2, params := r.drop 16 } }

/-- The bytes of an inbound batch, in order of their messages. -/
def Inbound.batchData (x : Inbound) : List Byte :=
  ((List.range x.messages).flatMap fun i => (tgetD x.batch i [])).take x.length

/-- A whole HANDOFF gives its batch to its Kit while fewer than 4 wait there; then it completes (10 R252 (b)). A STEP_DONE
completes when it is whole. -/
def State.settleInbound (s : State) (x : Inbound) : State :=
  if !x.whole then s
  else match x.batchKit with
    | none => s.finishInbound x
    | some h =>
      if h % 2 = 1 then s.finishInbound x
      else match s.kit (h / 2) with
        | none => s.finishInbound x
        | some k =>
          if 4 ≤ k.batches.length then s
          else (s.modKit (h / 2) fun k => { k with batches := k.batches ++ [Batch.ofBytes x.batchData] }).finishInbound x

/-- Inbound transfers that can complete now do, in order of arrival. -/
def State.settleInbounds (s : State) : State := s.peal.inbound.foldl (fun s x => s.settleInbound x) s

/-- DATA: the target writes a message it does not hold yet (16 R374, R384 (c)). -/
def State.ringDataIn (s : State) (source transfer index : Nat) (missing : List Nat) (payload tags : List Byte)
    (lane channel : Nat) : State :=
  let s1 := s.returnCredit lane channel
  match s1.inbound source transfer with
  | none => s1
  | some x =>
    if x.taken.contains index ∨ x.messages ≤ index then s1
    else
      let w := if x.batchKit.isSome then (s1, x.error) else s1.takeUnits x lane index missing payload tags
      let y := { x with taken := x.taken ++ [index], error := w.2,
                        batch := if x.batchKit.isSome then tset x.batch index payload else [] }
      (w.1.modInbound source transfer fun _ => y).settleInbound y

/-- STEP_DONE: the last member's result records reach the head, which applies them at its next BUILD; the steps of the batch are
no longer in flight (10 R251, R252 (e)). -/
def State.stepDoneIn (s : State) (kit beat : Nat) (records : List Byte) : State :=
  match s.kit kit with
  | none => s
  | some k =>
    match k.batches.find? (·.beat == beat) with
    | none => s
    | some b =>
      if !(isPealKit kit) || !(s.isHead k) then s
      else
        let live := ((List.range b.steps.length).zip b.steps).filter fun e => (s.seq e.2.seq).any fun x => x.mode != .lost
        let results := (live.filter fun e => e.2.produces).map fun e =>
          ({ step := e.2, bytes := padTo 128 (slice records (128 * e.1) 128) } : PendingResult)
        let s1 := s.modKit kit fun k =>
          { k with results := k.results ++ results, batches := k.batches.filter (·.beat != beat) }
        live.foldl (fun s e => s.stepDone e.2.seq) s1

/-! ### Messages for other members (16 R373) -/

/-- The channel on which a message leaves by direction `outward`, having come by direction `inward` on `channel`: in a dimension it
moves up after the dateline, and it moves back when it turns (16 R372 (a)). -/
def nextChannel (sizes : Nat × (Nat × Nat)) (here inward outward channel : Nat) : Nat :=
  let base := channel / 2 * 2
  let n := max 1 (dimSize sizes (inward / 2))
  let v := component here (inward / 2)
  let crossed := if inward % 2 = 0 then v == 0 else v + 1 == n
  if inward / 2 ≠ outward / 2 then base else if crossed || channel % 2 == 1 then base + 1 else base

/-- CUT_THROUGH_FORWARD: a message for `target`, by way of `via` if it makes a detour, that came in on a lane leaves on the next
engine of the same edge die, and its buffer is free again. At VIA it moves to the second channel set (16 R372 (b)). -/
def State.cutThrough (s : State) (lane target : Nat) (via : Option Nat) (channel flits : Nat) : State :=
  let e := lane / 6
  let here := s.peal.coordinate
  let first := match via with
    | some v => decide (channel < 2) && v != here
    | none => false
  match torusPath s.peal.sizes here (if first then via.getD target else target) with
  | [] => s
  | d :: _ =>
    let turned := via == some here && decide (channel < 2)
    let c := if 4 ≤ channel then channel else if turned then 2 else nextChannel s.peal.sizes here (opposite (lane % 6)) d channel
    let s1 := { s with peal := { s.peal with forwarded := s.peal.forwarded + 1 } }
    (s1.onLane (6 * e + d) c ⟨.ringForward, target, [6 * e + d, c, flits], []⟩).returnCredit lane channel

end Sys2Proof.Machine
end

