-- ==== Sys2Proof/Machine/Rounds.lean ====
section
/-!
DEFINITION. Rounds over the peal: the creation of a peal Kit (03 R64) and its placement (03 R84 to R87, Table 3-2). CTRL messages of
a round begin with a code: 1 a creation block, 3 PREPARE, 4 its answer, 5 COMMIT, 6 RELEASE, 7 the answer to a creation block.
-/
namespace Sys2Proof.Machine
open Sys2Proof

/-! ### Rounds -/

/-- The round of a Kit. -/
def State.round (s : State) (kit : Nat) : Option Round := s.peal.rounds.find? (·.kit == kit)

/-- The state with the round of a Kit changed. -/
def State.modRound (s : State) (kit : Nat) (f : Round → Round) : State :=
  { s with peal := { s.peal with rounds := s.peal.rounds.map fun r => if r.kit = kit then f r else r } }

/-- A round is over. -/
def State.dropRound (s : State) (kit : Nat) : State :=
  { s with peal := { s.peal with rounds := s.peal.rounds.filter (·.kit != kit) } }

/-- The reservation of a Kit. -/
def State.reservation (s : State) (kit : Nat) : Option Reservation := s.peal.reservations.find? (·.kit == kit)

/-- The reservation of a Kit is over. -/
def State.dropReservation (s : State) (kit : Nat) : State :=
  { s with peal := { s.peal with reservations := s.peal.reservations.filter (·.kit != kit) } }

/-- A message of a round to a member. -/
def State.roundMessage (s : State) (m code kit : Nat) (fields : List Nat) (bytes : List Byte) : State :=
  s.toMember m 0 .ringCtrl (code :: kit :: fields) bytes

/-- A message of a round to every member of it but this one. -/
def State.roundAll (s : State) (r : Round) (code : Nat) (fields : List Nat) : State :=
  (r.members.filter (· != s.peal.coordinate)).foldl (fun s m => s.roundMessage m code r.kit fields []) s

/-! ### Shares (03 R85) -/

/-- First layer and number of layers of the member at position `i` of `m`. -/
def shareOf (layers m i : Nat) : Nat × Nat :=
  let each := layers / max 1 m
  let more := layers % max 1 m
  (each * i + min i more, each + if i < more then 1 else 0)

/-- What a PREPARE says. -/
structure PrepareBlock where
  replace : Bool
  share : Share
  percentile : Nat
  marginShare : Nat
  load : Load

/-- A PREPARE as bytes: no layout is given. -/
def PrepareBlock.bytes (p : PrepareBlock) : List Byte :=
  leBytes 4 (b2n p.replace) ++ leBytes 4 p.share.first ++ leBytes 4 p.share.count ++ leBytes 4 p.share.total ++
    leBytes 4 p.percentile ++ leBytes 4 p.marginShare ++ leBytes 4 p.load.replica ++ leBytes 4 p.load.records.length ++
    p.load.records.flatMap DescRecord.toBytes

/-- A PREPARE read back. -/
def PrepareBlock.ofBytes (b : List Byte) : PrepareBlock :=
  { replace := field b 0 4 == 1
    share := { first := field b 4 4, count := field b 8 4, total := field b 12 4 }
    percentile := field b 16 4
    marginShare := field b 20 4
    load := { replica := field b 24 4
              records := (List.range (field b 28 4)).map fun i => DescRecord.ofBytes (padTo 64 (slice b (32 + 64 * i) 64)) } }

/-! ### PREPARE at a member (03 R86, R87) -/

/-- Local admissions that were read in the same beat as a PREPARE complete with ST_PREEMPTED_BY_PEER (03 R87). -/
def State.preemptLocal (s : State) : State :=
  let waits (c : Command) : Bool := match c.wait with
    | .commit k _ => !(isPealKit k) && c.readBeat == s.beat.number
    | .replace k _ _ _ => !(isPealKit k) && c.readBeat == s.beat.number
    | _ => false
  (s.commands.filter waits).foldl (fun s c => s.complete c stPreempted 2 0) s

/-- A member's answer to a PREPARE: status (0 for FIT), the slots of its pool, its report; none from a member without the Kit. -/
structure Answer where
  s : State
  answers : Bool
  status : Nat
  slots : Nat
  report : List Byte

/-- A member runs admission on its share, and reserves it if it fits. -/
def State.prepareShare (s : State) (kit : Nat) (p : PrepareBlock) : Answer :=
  match s.kit kit with
  | none => ⟨s, false, 0, 0, []⟩
  | some k =>
    let load := if p.replace then k.load.getD p.load else p.load
    let share := if p.replace then k.share load else p.share
    let good := if p.replace then k.mode == .admitted && k.next.isNone else k.mode == .created || k.mode == .loading
    if !good then ⟨s, false, 0, 0, []⟩
    else
      let s0 := s.preemptLocal
      let f := s0.placeKit k load share p.percentile p.marginShare (if p.replace then k.placement else none)
      let report := s0.reportBytes kit s.peal.coordinate (f.failing.head?) f.placement f.uses
      let s3 := if p.replace then s0 else s0.noteAdmission report
      if !f.failing.isEmpty then ⟨s3, true, stNoFit, 0, report⟩
      else
        let s1 := s3.modKit kit fun k => { k with percentile := p.percentile, marginShare := p.marginShare }
        let s2 := if p.replace then (s1.placeTiles f.placement).modKit kit fun k =>
              { k with next := some { f.placement with tilesInPlace := true } }
          else ((s1.modKit kit fun k => { k with mode := .loading, load := some load }).rebind).reserve kit f
        let r : Reservation :=
          { kit, firstLayer := share.first, layerCount := share.count, since := s.now, sinceBeat := s.beat.number,
            switchBeat := none }
        let slots := (((s2.kit kit).bind (·.placement)).map fun p => (p.pool.map (·.slots)).sum).getD 0
        ⟨{ s2 with peal := { s2.peal with reservations := s2.peal.reservations ++ [r] } }, true, stOk, slots, report⟩

/-- PREPARE reaches a member, which answers its leader. -/
def State.prepare (s : State) (kit : Nat) (block : List Byte) : State :=
  if (s.reservation kit).isSome then s
  else
    let a := s.prepareShare kit (PrepareBlock.ofBytes block)
    match a.answers, s.peal.leader with
    | true, some l => a.s.roundMessage l 4 kit [a.status, a.slots] a.report
    | _, _ => a.s

/-- What a reservation holds is given back, and the Kit is as before the PREPARE (03 R86). -/
def State.releaseReservation (s : State) (kit : Nat) : State :=
  match s.reservation kit, s.kit kit with
  | some _, some k =>
    let s1 := s.dropReservation kit
    if k.mode = .admitted then
      let s2 := match k.next, k.placement with
        | some n, some p => s1.unpinPlacement kit n p.tensors
        | _, _ => s1
      s2.modKit kit fun k => { k with next := none }
    else (s1.endPlacement kit).modKit kit fun k => { k with mode := if k.mode = .lost then .lost else .created }
  | some _, none => s.dropReservation kit
  | none, _ => s

/-- A stored peal Kit that its members have not all accepted is dropped (03 R64 (d)). -/
def State.dropCreation (s : State) (kit : Nat) : State :=
  { s.dropRound kit with creations := s.creations.filter fun x => !(x.kit.id == kit) }

/-- RELEASE: reservations and unaccepted Kits of a round are given up. -/
def State.releaseRound (s : State) (kit : Nat) : State :=
  if (s.round kit).any (·.creation) then s.dropCreation kit else s.releaseReservation kit

/-- COMMIT: the member switches at beat S; a Kit that every member has accepted is created (03 R64 (c), R86 (c)). -/
def State.commitRound (s : State) (kit beat slots : Nat) : State :=
  if (s.round kit).any (·.creation) then s.dropRound kit
  else
    let s1 : State := { s with peal := { s.peal with reservations := s.peal.reservations.map fun r =>
      if r.kit = kit then { r with switchBeat := some beat } else r } }
    s1.modKit kit fun k => { k with pealSlots := slots }

/-- RESERVATION_EXPIRY: neither COMMIT nor RELEASE within the later of 256 beats and 1 s (03 R86). -/
def State.reservationExpiry (s : State) (kit : Nat) : State :=
  match s.reservation kit with
  | some r =>
    if r.switchBeat.isSome ∨ s.beat.number < r.sinceBeat + 256 then s
    else (s.clockTo (r.since + 100000000)).releaseReservation kit
  | none =>
    match s.round kit with
    | some r =>
      if !r.creation ∨ r.command ≠ 0 ∨ s.beat.number < r.sinceBeat + 256 then s
      else (s.clockTo (r.since + 100000000)).dropCreation kit
    | none => s

/-! ### The leader's placement round (03 R86) -/

/-- A report with MODULE naming a member (03 Table 3-7). -/
def withModule (b : List Byte) (m : Nat) : List Byte := padTo 128 (b.take 16 ++ leBytes 4 m ++ b.drop 20)

/-- The report for a member that did not answer: RESOURCE 00h, FAILING 0, its MODULE (03 R86 (d)). -/
def State.silentReport (s : State) (r : Round) (m : Nat) : List Byte :=
  let (percentile, margin) := ((s.kit r.kit).map fun k => (k.percentile, k.marginShare)).getD (0, 0)
  leBytes 2 0 ++ leBytes 2 0xFFFF ++ leBytes 4 0 ++ leBytes 4 r.kit ++ leBytes 2 0xFFFF ++ zeros 2 ++ leBytes 4 m ++
    leBytes 1 percentile ++ zeros 19 ++ zeros 8 ++ leBytes 4 (Machine.margin s.beat.period s.guardLen margin) ++
    leBytes 4 s.beatLimit ++ zeros 72

/-- Status of a member's answer in a round; none before it. -/
def Round.answer (r : Round) (m : Nat) : Option Nat := tget r.answers m

/-- The lowest member in pipeline order that failed: it refused, or it did not answer. -/
def Round.failed (r : Round) : Option Nat := r.members.find? fun m => !(r.answer m == some stOk)

/-- A placement round ends. -/
def State.endPlacementRound (s : State) (r : Round) : State :=
  match r.failed with
  | none =>
    let beat := s.beat.number + 64
    let slots := match r.slots with
      | [] => 0
      | x :: rest => rest.foldl (fun n e => min n e.2) x.2
    ((s.dropRound r.kit).roundAll r 5 [beat, slots]).commitRound r.kit beat slots
  | some m =>
    let bytes := match r.answer m with
      | some _ => if m = s.peal.coordinate then withModule (tgetD r.reports m []) 0xFFFFFFFF else withModule (tgetD r.reports m []) m
      | none => s.silentReport r m
    let s1 := ((s.dropRound r.kit).roundAll r 6 []).releaseReservation r.kit
    let s2 := if (s1.kit r.kit).any (fun k => k.mode == .loading) then
        (s1.modKit r.kit fun k => { k with mode := .created, load := none }).rebind
      else s1
    (s2.writeResult r.report bytes).completeId r.command stNoFit (bytes.headD 0).toNat 0

/-- A creation round ends: the Kit is created at the coming downbeat, or its KIT_CREATE completes with the status of the lowest
member that refused, and its coordinate; a member that did not answer counts as unreachable (03 R64 (c), (d)). -/
def State.endCreationRound (s : State) (r : Round) : State :=
  match r.failed with
  | none => (s.dropRound r.kit).roundAll r 5 [0, 0]
  | some m =>
    let st := (r.answer m).getD stUnreachable
    ((s.dropCreation r.kit).roundAll r 6 []).completeId r.command st (m * 2 ^ 20) 0

/-- A round in which every member has answered ends. -/
def State.settleRound (s : State) (kit : Nat) : State :=
  match s.round kit with
  | none => s
  | some r =>
    if r.command = 0 ∨ !(r.members.all fun m => (r.answer m).isSome) then s
    else if r.creation then s.endCreationRound r else s.endPlacementRound r

/-- An answer to a PREPARE at the leader. -/
def State.takeAnswer (s : State) (kit m status slots : Nat) (report : List Byte) : State :=
  (s.modRound kit fun r =>
    if !(r.members.contains m) ∨ (r.answer m).isSome then r
    else { r with answers := tset r.answers m status, reports := tset r.reports m report
                  slots := if status = stOk then r.slots ++ [(m, slots)] else r.slots })

/-- PREPARE_ANSWER. -/
def State.prepareAnswer (s : State) (kit m status slots : Nat) (report : List Byte) : State :=
  if (s.round kit).any (·.creation) then s else (s.takeAnswer kit m status slots report).settleRound kit

/-- PREPARE_WAIT_EXPIRY: after the later of 32 beats and 128 ms the members that are missing count as failed (03 R86 (b), (d)). -/
def State.prepareWaitExpiry (s : State) (kit : Nat) : State :=
  match s.round kit with
  | none => s
  | some r =>
    if r.command = 0 ∨ s.beat.number < r.sinceBeat + 32 then s
    else
      let s1 := s.clockTo (r.since + 12800000)
      if r.creation then s1.endCreationRound r else s1.endPlacementRound r

/-- The leader's run of admission for a peal Kit: PREPARE goes to every member with its share (03 R85, R86 (a)). -/
def State.startRound (s : State) (kit : Nat) (c : Command) (replace : Bool) (percentile marginShare report : Nat) : State :=
  match s.kit kit with
  | none => s
  | some k =>
    match k.load with
    | none => s
    | some load =>
      let members := s.pipeline k
      let blockOf (i : Nat) : PrepareBlock :=
        let sh := shareOf load.layers members.length i
        { replace, share := { first := sh.1, count := sh.2, total := load.layers }, percentile, marginShare, load }
      let r : Round :=
        { kit, creation := false, command := c.id, members, answers := [], slots := [], reports := [], report,
          since := s.now, sinceBeat := s.beat.number }
      let s1 : State := { s.setWait c.id (.list 0) with peal := { s.peal with rounds := s.peal.rounds ++ [r] } }
      let s2 := ((List.range members.length).zip members).foldl (fun (s : State) e =>
        if e.2 = s.peal.coordinate then
          let a := s.prepareShare kit (blockOf e.1)
          if a.answers then a.s.takeAnswer kit e.2 a.status a.slots a.report else a.s
        else s.roundMessage e.2 3 kit [] (blockOf e.1).bytes) s1
      s2.settleRound kit

/-- ADMISSION_COMPLETE of a peal Kit, at its leader. -/
def State.pealAdmission (s : State) (kit : Nat) : State :=
  match s.nextAdmission with
  | none => s
  | some c =>
    match c.wait with
    | .commit x report =>
      let (p, m) := ((s.kit kit).map fun k => (k.percentile, k.marginShare)).getD (0, 0)
      if x ≠ kit then s else s.startRound kit c false p m report
    | .replace x report p m => if x ≠ kit then s else s.startRound kit c true p m report
    | _ => s

/-- ADMISSION_COMPLETE (03 R73, R86). -/
def State.admissionEnds (s : State) (kit : Nat) : State := if isPealKit kit then s.pealAdmission kit else s.admissionComplete kit

/-- Peal placements whose beat S has come are ADMITTED, or switched in once the Kit has no open list (03 R86 (c), R88). -/
def State.switchPeal (s : State) : State :=
  s.peal.reservations.foldl (fun s r =>
    match r.switchBeat, s.kit r.kit with
    | some b, some k =>
      if s.beat.number < b then s
      else if k.mode = .placing then
        ((s.dropReservation r.kit).modKit r.kit fun k => { k with mode := .admitted }).completeWhere fun c =>
          c.op == .modelCommit && c.wait == .list 0 && param c.op c.packet 0 == r.kit
      else match k.next, k.placement with
        | some n, some p =>
          if k.mode ≠ .admitted then s.dropReservation r.kit
          else if !(s.openLists r.kit).isEmpty then s
          else
            let s1 := (s.dropReservation r.kit).modKit r.kit fun k =>
              { k with placement := some { n with pool := p.pool }, next := none }
            (s1.unpinPlacement r.kit p n.tensors).completeWhere fun c =>
              c.op == .placeReplace && c.wait == .list 0 && param c.op c.packet 0 == r.kit
        | _, _ => s.dropReservation r.kit
    | some _, none => s.dropReservation r.kit
    | none, _ => s) s

/-! ### The creation of a peal Kit at a member (03 R64) -/

/-- The verdict of a member on the block of a peal Kit, under its own state. -/
def State.creationVerdict (s : State) (kit : Nat) (b : List Byte) (units : List Nat) : Verdict :=
  let ctx := field b 8 2
  let parent := field b 0 4
  let unitKits := units.filterMap unitOf
  let busy := (s.kit parent).any fun k =>
    k.mode == .loading || k.mode == .placing || k.mode == .admitted || k.mode == .unloading || k.mode == .retiring
  guards
    (s.kitBlockGuards b units ++
     [(s.lostContext ctx, plain stContextLost), ((s.context ctx).mode != .active, s.conflict 2 (s.context ctx).mode.code),
      (busy || unitKits.any s.heldUnit, s.conflict 5 (s.kitCode parent)),
      ((s.kit kit).isSome || s.creations.any (fun x => x.kit.id == kit), s.conflict 5 (s.kitCode kit))])
    (.done s kit)

/-- PEAL_KIT_CREATE_ROUND: the block reaches a member, which checks it and answers the leader; accepted, the Kit waits for the
leader's word (03 R64 (c)). -/
def State.creationRound (s : State) (kit : Nat) (block : List Byte) : State :=
  if (s.round kit).isSome then s
  else
    let b := padTo 64 (block.take 64)
    let units := (List.range ((block.length - 64) / 4)).map fun i => field block (64 + 4 * i) 4
    let answer (s : State) (st : Nat) : State := match s.peal.leader with
      | some l => s.roundMessage l 7 kit [st] []
      | none => s
    match s.creationVerdict kit b units with
    | .refuse st _ _ => answer s st
    | _ =>
      let k := Kit.ofBlock kit b (units.filterMap unitOf)
      let r : Round :=
        { kit, creation := true, command := 0, members := [], answers := [], slots := [], reports := [], report := 0,
          since := s.now, sinceBeat := s.beat.number }
      answer { s with creations := s.creations ++ [{ kit := k, command := 0 }]
                      peal := { s.peal with rounds := s.peal.rounds ++ [r] } } stOk

/-- PEAL_KIT_CREATE_ANSWER at the leader. -/
def State.creationAnswer (s : State) (kit m status : Nat) : State :=
  if (s.round kit).any (·.creation) then (s.takeAnswer kit m status 0 []).settleRound kit else s

end Sys2Proof.Machine
end

