-- ==== Sys2Proof/Machine/Lifecycle.lean ====
section
/-!
DEFINITION. What becomes possible once something else has ended: deferred destroys, frees and unloads (03 Table 3-2, 10 Table 10-2, 11
Table 11-11, 12 Tables 12-3 and 12-5), commands behind a BARRIER (11 R278 (b)) and commands that wait for release (20 R459).
-/
namespace Sys2Proof.Machine
open Sys2Proof

/-- An outstanding KIT_DESTROY whose Kit no other command names any more. -/
def State.endKitDestroy (s : State) (c : Command) (kit : Nat) : State :=
  if (s.kitNamers kit c.id).isEmpty then (s.removeKit kit).complete c stOk 0 0 else s

/-- An outstanding MODEL_UNLOAD whose last list has retired: tiles, pins and KV pool are released. -/
def State.endUnload (s : State) (c : Command) (kit : Nat) : State :=
  match s.kit kit with
  | none => s
  | some k =>
    if k.mode ≠ .unloading ∨ !(s.openLists kit).isEmpty ∨ (s.kitSeqs kit).any (fun e => e.2.mode == .closing) then s
    else ((s.endPlacement kit).modKit kit fun k => { k with mode := .created }).complete c stOk 0 0

/-- A queue that is destroyed: its record goes to its ring first. -/
def State.endQueueDestroy (s : State) (c : Command) (q : Nat) : State :=
  if s.outstanding q c.id = 0 then
    let s1 := s.complete c stOk 0 0
    { s1 with queues := terase s1.queues q }
  else s

/-- Objects that are RETIRING and no longer named are released, and their MEM_FREE completes (12 R296). -/
def State.endRetiring (s : State) : State :=
  s.objects.foldl (fun s e =>
    let h := e.2.handle e.1
    if e.2.mode = .retiring ∧ s.refs h 0 = 0 then (s.releaseObject e.1).completeWhere fun c => c.wait == .memFree h else s) s

/-- Sequences that are CLOSING and have no work in flight are FREE; so is a LOST one that a SEQ_CLOSE waits for (10 Table 10-2,
12 R290 (c)). -/
def State.endClosing (s : State) : State :=
  s.sequences.foldl (fun s e =>
    let closing := e.2.mode == .closing && !(s.seqBusy e.1)
    let lost := e.2.mode == .lost && s.commands.any fun c => c.wait == .seqClose e.1
    if closing || lost then s.freeSeq e.1 else s) s

/-- Kits of a lost Context that is destroyed leave, each after its children. -/
def State.destroyKits (s : State) (ctx : Nat) : State :=
  (s.kitsOf ctx).foldl (fun s k => if s.hasChild k then s else s.removeKit k) s

/-- Its queues: those with commands outstanding drain first. -/
def State.destroyQueues (s : State) (ctx : Nat) : State :=
  (s.queuesOf ctx).foldl (fun s q =>
    if s.outstanding q 0 = 0 then { s with queues := terase s.queues q }
    else s.modQueue q fun k => { k with mode := .draining, leaf := false }) s

/-- Its objects: LIVE ones are freed, BOUND ones are marked. -/
def State.destroyObjects (s : State) (ctx : Nat) : State :=
  (s.objectsOf ctx).foldl (fun s i => match tget s.objects i with
    | some o =>
      if o.mode = .live then
        if s.refs (o.handle i) 0 = 0 then s.releaseObject i else s.modObject i fun o => { o with mode := .retiring }
      else if o.mode = .bound then s.modObject i fun o => { o with marked := true }
      else s
    | none => s) s

/-- Nothing of a Context is left. -/
def State.contextEmpty (s : State) (ctx : Nat) : Bool :=
  (s.kitsOf ctx).isEmpty && (s.queuesOf ctx).isEmpty && (s.seqsOf ctx).isEmpty && (s.objectsOf ctx).isEmpty

/-- A Context that is DESTROYING frees what it can, and is FREE when nothing is left (12 Table 12-3). -/
def State.destroyContext (s : State) (ctx : Nat) : State :=
  if (s.context ctx).mode ≠ .destroying then s
  else
    let s1 := if (s.context ctx).lossStatus = 0 then s
      else ((s.seqsOf ctx).foldl (fun s q => s.freeSeq q) (s.destroyKits ctx)).destroyQueues ctx
    let s2 := s1.destroyObjects ctx
    if s2.contextEmpty ctx then
      let s3 := { s2 with contexts := terase s2.contexts ctx }
      s3.completeWhere fun c => c.wait == .contextDestroy ctx
    else s2

/-- One outstanding command, if what it waits for has come. -/
def State.endWait (s : State) (c : Command) : State :=
  match c.wait with
  | .kitDestroy k => s.endKitDestroy c k
  | .unload k => s.endUnload c k
  | .queueDestroy q => s.endQueueDestroy c q
  | _ => s

/-- Waiting records go to their rings (11 R276). -/
def State.flushRings (s : State) : State :=
  s.crings.foldl (fun s e => if e.2.waiting.isEmpty then s else s.flushRing (e.1 / 32) (e.1 % 32) e.2.waiting.length) s

/-- One round of what has become possible. -/
def State.progress (s : State) : State :=
  let s1 := (s.commands.map (·.id)).foldl (fun s i => match s.command i with | some c => s.endWait c | none => s) s
  let s2 := s1.endClosing.endRetiring
  (s2.contexts.map (·.1)).foldl (fun s c => s.destroyContext c) s2

/-- A command may start: it waits at a BARRIER whose earlier commands have completed, or for release. -/
def State.startable (s : State) (c : Command) : Bool :=
  match c.wait with
  | .barrier =>
    let f := (s.queue c.queue).function
    !(s.commands.any fun o => o.queue == c.queue && decide (o.id < c.id)) && (f == 0 || (s.function f).mode == .enabled)
  | .release => s.boot.released
  | _ => false

/-- A command that counts as read now starts (11 R278 (b)). -/
def State.startWaiting (effectOf : Op → Call → State → Verdict) (s : State) (c : Command) : State :=
  if s.startable c then
    let c1 := { c with readBeat := s.beat.number, readAt := s.now, beforeBuild := !s.beat.building }
    let s1 : State := { s with commands := s.commands.map fun o => if o.id = c.id then c1 else o }
    s1.admitCommand effectOf c1
  else s

/-- What a round of settling can change. -/
def State.openWork (s : State) : List Nat :=
  [s.commands.length, s.kits.length, s.sequences.length, s.queues.length, s.contexts.length,
   (s.objects.filter fun o => o.2.mode == .retiring).length, (s.objects.filter fun o => o.2.mode == .free).length,
   (s.commands.filter fun c => c.wait == .barrier || c.wait == .release).length]

/-- Rounds until nothing more happens. -/
def settleRounds (effectOf : Op → Call → State → Verdict) : Nat → State → State
  | 0, s => s
  | fuel + 1, s =>
    let s1 := s.progress
    let s2 := (s1.commands.map (·.id)).foldl (fun s i => match s.command i with
      | some c => s.startWaiting effectOf c
      | none => s) s1
    if s2.openWork == s.openWork then s2 else settleRounds effectOf fuel s2

/-- Everything that can go on does, and waiting records are written. -/
def settle (effectOf : Op → Call → State → Verdict) (s : State) : State :=
  (settleRounds effectOf (s.commands.length + s.kits.length + s.sequences.length + s.contexts.length + s.objects.length + 2)
    s).flushRings

end Sys2Proof.Machine
end

