-- ==== Sys2Proof/Machine/Trust.lean ====
section
/-!
DEFINITION. The SM3 hash and the verification of SM2 signatures that images and reports rest on (20 R464, R470, R472). The spec names
the standards; their constants are taken from them (PRESUMED).
-/
namespace Sys2Proof.Machine
open Sys2Proof

/-! ### SM3 (GB/T 32905) -/

/-- Rotation of a word to the left. -/
def rotl (x : Word) (n : Nat) : Word := x.rotateLeft (n % 32)

/-- The permutation P0. -/
def sm3P0 (x : Word) : Word := x ^^^ rotl x 9 ^^^ rotl x 17

/-- The permutation P1. -/
def sm3P1 (x : Word) : Word := x ^^^ rotl x 15 ^^^ rotl x 23

/-- The Boolean function FF of round `j`. -/
def sm3FF (j : Nat) (x y z : Word) : Word := if j < 16 then x ^^^ y ^^^ z else (x &&& y) ||| (x &&& z) ||| (y &&& z)

/-- The Boolean function GG of round `j`. -/
def sm3GG (j : Nat) (x y z : Word) : Word := if j < 16 then x ^^^ y ^^^ z else (x &&& y) ||| (~~~x &&& z)

/-- A big-endian number of bytes. -/
def beNat (b : List Byte) : Nat := b.foldl (fun a x => a * 256 + x.toNat) 0

/-- A number in `n` big-endian bytes. -/
def beBytes (n v : Nat) : List Byte := (leBytes n v).reverse

/-- The words of a block, expanded to 68. -/
def sm3Expand (block : List Byte) : List Word :=
  let w0 := (List.range 16).map fun i => BitVec.ofNat 32 (beNat (slice block (4 * i) 4))
  (List.range 52).foldl (fun (w : List Word) i =>
    let j := i + 16
    let g (k : Nat) : Word := w.getD (j - k) 0
    w ++ [sm3P1 (g 16 ^^^ g 9 ^^^ rotl (g 3) 15) ^^^ rotl (g 13) 7 ^^^ g 6]) w0

/-- One round: the state and the words. -/
def sm3Round (w : List Word) (v : List Word) (j : Nat) : List Word :=
  let x (i : Nat) : Word := v.getD i 0
  let t : Word := if j < 16 then 0x79cc4519 else 0x7a879d8a
  let ss1 := rotl (rotl (x 0) 12 + x 4 + rotl t j) 7
  let ss2 := ss1 ^^^ rotl (x 0) 12
  let tt1 := sm3FF j (x 0) (x 1) (x 2) + x 3 + ss2 + (w.getD j 0 ^^^ w.getD (j + 4) 0)
  let tt2 := sm3GG j (x 4) (x 5) (x 6) + x 7 + ss1 + w.getD j 0
  [tt1, x 0, rotl (x 1) 9, x 2, sm3P0 tt2, x 4, rotl (x 5) 19, x 6]

/-- The compression of a block. -/
def sm3Compress (v : List Word) (block : List Byte) : List Word :=
  let w := sm3Expand block
  ((List.range 64).foldl (sm3Round w) v).zipWith (· ^^^ ·) v

/-- The message padded to whole blocks. -/
def sm3Pad (m : List Byte) : List Byte :=
  let n := m.length
  m ++ [0x80] ++ zeros ((119 - n % 64) % 64) ++ beBytes 8 (8 * n)

/-- The 32 bytes of SM3. -/
def sm3 (m : List Byte) : List Byte :=
  let p := sm3Pad m
  let iv : List Word := [0x7380166f, 0x4914b2b9, 0x172442d7, 0xda8a0600, 0xa96f30bc, 0x163138aa, 0xe38dee4d, 0xb0fb0e4e]
  ((List.range (p.length / 64)).foldl (fun v i => sm3Compress v (slice p (64 * i) 64)) iv).flatMap fun w => beBytes 4 w.toNat

/-! ### The recommended curve of GB/T 32918.5 -/

def curveP : Nat := 0xFFFFFFFEFFFFFFFFFFFFFFFFFFFFFFFFFFFFFFFF00000000FFFFFFFFFFFFFFFF
def curveA : Nat := 0xFFFFFFFEFFFFFFFFFFFFFFFFFFFFFFFFFFFFFFFF00000000FFFFFFFFFFFFFFFC
def curveB : Nat := 0x28E9FA9E9D9F5E344D5A9E4BCF6509A7F39789F515AB8F92DDBCBD414D940E93
def curveN : Nat := 0xFFFFFFFEFFFFFFFFFFFFFFFFFFFFFFFF7203DF6B21C6052B53BBF40939D54123
def curveG : Nat × Nat :=
  (0x32C4AE2C1F1981195F9904466A39C9948FE30BBFF2660BE1715A4589334C74C7,
   0xBC3736A2F4F6779C59BDCEE36B692153D0A9877CC62A474002DF32E52139F0A0)

/-- `b ^ e` modulo `m` over the 256 low bits of `e`, from the top. -/
def powMod (b e m : Nat) : Nat :=
  (List.range 256).foldl (fun a i => let s := a * a % m; if bit e (255 - i) then s * b % m else s) 1

/-- The inverse modulo the prime of the curve. -/
def invP (x : Nat) : Nat := powMod x (curveP - 2) curveP

/-- A point: none is the point at infinity. -/
abbrev CurvePoint := Option (Nat × Nat)

/-- The sum of two points. -/
def pointAdd (a b : CurvePoint) : CurvePoint :=
  match a, b with
  | none, q => q
  | p, none => p
  | some (x1, y1), some (x2, y2) =>
    let step (l : Nat) : CurvePoint :=
      let x3 := (l * l + 2 * curveP - x1 - x2) % curveP
      some (x3, (l * (x1 + curveP - x3) + curveP - y1) % curveP)
    if x1 = x2 then
      if (y1 + y2) % curveP = 0 then none
      else step ((3 * x1 * x1 + curveA) * invP (2 * y1 % curveP) % curveP)
    else step ((y2 + curveP - y1) * invP ((x2 + curveP - x1) % curveP) % curveP)

/-- A multiple of a point. -/
def pointMul (k : Nat) (p : CurvePoint) : CurvePoint :=
  (List.range 256).foldl (fun a i => let d := pointAdd a a; if bit k (255 - i) then pointAdd d p else d) none

/-- The identifier of images and reports: "ZRL-HUATHIRE", ENTL 0060h (20 R464). -/
def signerId : List Byte := [0x5A, 0x52, 0x4C, 0x2D, 0x48, 0x55, 0x41, 0x54, 0x48, 0x49, 0x52, 0x45]

/-- Z_A of a public key, x followed by y, big-endian (20 R464). -/
def signerZ (key : List Byte) : List Byte :=
  sm3 ([0x00, 0x60] ++ signerId ++ beBytes 32 curveA ++ beBytes 32 curveB ++ beBytes 32 curveG.1 ++ beBytes 32 curveG.2 ++
    padTo 64 key)

/-- The signature R followed by S over a message verifies under a public key (GB/T 32918.2). -/
def signatureValid (key message signature : List Byte) : Bool :=
  let e := beNat (sm3 (signerZ key ++ message))
  let r := beNat (slice signature 0 32)
  let q := beNat (slice signature 32 32)
  let good (v : Nat) : Bool := decide (0 < v) && decide (v < curveN)
  let t := (r + q) % curveN
  let point : CurvePoint := some (beNat (slice key 0 32), beNat (slice key 32 32))
  match pointAdd (pointMul q (some curveG)) (pointMul t point) with
  | some (x, _) => good r && good q && t != 0 && (e + x) % curveN == r
  | none => false

/-! ### What manufacture wrote (20 R464, R470) -/

/-- The verification key of the mask ROM with a KEY_INDEX (20 R464). -/
def romKey (i : Nat) : List Byte := (List.range 64).map fun k => Config.flashByte (16 + i) k

/-- The enrolled public key of an edge die. -/
def enrolledKey (e : Nat) : List Byte := (List.range 64).map fun k => Config.flashByte 1 (64 * e + k)

/-- The four enrolled keys in edge-die order. -/
def enrolledKeys : List Byte := (List.range 4).flatMap enrolledKey

/-- The identity digest (20 R470). -/
def identityDigest : List Byte := sm3 enrolledKeys

/-- The interface identifier as a number: bytes 0 to 7 of the identity digest (20 R457). -/
def ownDigest : Nat := field identityDigest 0 8

/-- The module serial number and the factory signature. -/
def serialNumber : List Byte := (List.range 16).map fun k => Config.flashByte 2 k
def factorySignature : List Byte := (List.range 64).map fun k => Config.flashByte 3 k

end Sys2Proof.Machine
end

