-- ==== Sys2Proof/Machine/Membership.lean ====
section
/-!
DEFINITION. Membership of the peal, its leader, its member map and its time tree (16 R371, R374 to R382, R388 to R391), and the commands
PEAL_FORM, PEAL_JOIN, PEAL_LEAVE and PEAL_QUERY.
-/
namespace Sys2Proof.Machine
open Sys2Proof

/-- STATE of PEAL_QUERY (16 Table 16-2). -/
def Membership.code : Membership → Nat
  | .alone => 0 | .forming => 1 | .joining => 2 | .member => 3 | .leaving => 4 | .asleep => 5

/-- SHAPE as PEAL_FORM gives it (16 Table 16-6). -/
def shapeCode (sizes : Nat × (Nat × Nat)) : Nat := (sizes.1 - 1) + 16 * (sizes.2.1 - 1) + 256 * (sizes.2.2 - 1)

/-- The sizes that a SHAPE stands for. -/
def shapeSizes (w : Nat) : Nat × (Nat × Nat) := (w % 16 + 1, (w / 16 % 16 + 1, w / 256 % 16 + 1))

/-- The module belongs to a larger peal now. -/
def PealState.inPeal (p : PealState) : Bool := p.mode == .member || p.mode == .leaving

/-! ### Paths change (16 R374) -/

/-- Lanes of this module that are up, as a mask of engines. -/
def State.laneMask (s : State) : Nat := maskOf ((List.range 24).filter fun i => (s.peal.lanes[i]?).any (·.up))

/-- Messages of unfinished transfers whose path has changed since `before` are sent again; transfers that nothing reaches end; Kits
are tested again under 03 R89 (16 R374). -/
def State.rerouted (s before : State) : State :=
  let s1 := (s.mem.transfers.filter (·.ring)).foldl (fun (s : State) t =>
    let moved := t.targets.filter fun m =>
      !(t.delivered.contains m) && !(t.failedTargets.contains m) && (s.route m).isSome && s.route m != before.route m
    if moved.isEmpty then s
    else
      let s1 := s.sendRing t.id moved
      { s1 with peal := { s1.peal with resent := s1.peal.resent + t.messages * moved.length } }) s
  s1.endUnreachable.retestAll

/-- This module's view of one member is flooded on channel 4 of every lane that is up (16 R374). -/
def State.floodMap (s : State) (member lanes : Nat) (present : Bool) : State :=
  (List.range 24).foldl (fun s i => s.onLane i 4 ⟨.ringCtrl, i, [8, member, lanes, b2n present], []⟩) s

/-- The lowest candidate known is flooded (16 R378). -/
def State.floodElect (s : State) (candidate : Nat) : State :=
  (List.range 24).foldl (fun s i => s.onLane i 4 ⟨.ringCtrl, i, [9, candidate], []⟩) s

/-- This module as a candidate: it is a MEMBER and holds a primary edge die (16 R378). -/
def State.ownCandidate (s : State) : Option Nat :=
  if s.peal.mode = .member ∧ !s.fail.stopped then some s.peal.coordinate else none

/-- The leader is gone: an election begins, and the new one takes office at the first downbeat at least 8 beats on. -/
def State.startElection (s : State) : State :=
  let known := (s.peal.candidate.toList ++ s.ownCandidate.toList)
  let c := (known.foldl (fun (b : Option Nat) x => some (min x (b.getD x))) none)
  let s1 := { s with peal := { s.peal with
    leader := none, candidate := c, officeBeat := s.peal.officeBeat.or (some (s.beat.number + 8)) } }
  match c with
  | some x => s1.floodElect x
  | none => s1

/-- A member is out of the member map: paths change, its inbound transfers are gone, and a leader's loss starts an election (16
R374, R378, R389). -/
def State.memberOut (s : State) (m : Nat) : State :=
  let p := s.peal
  let s1 := { s with peal := { p with
    members := p.members.filter (· != m), lanesDown := p.lanesDown.filter (·.1 != m)
    inbound := p.inbound.filter (·.source != m), finished := p.finished.filter (·.1 != m)
    admitting := p.admitting.filter (·.1 != m) } }
  let s2 := if p.leader = some m then
      ({ s1 with peal := { s1.peal with candidate := if s1.peal.candidate = some m then none else s1.peal.candidate } }).startElection
    else s1
  s2.rerouted s

/-- MEMBER_LOST: a neighbour has sent no SYNC for 200 µs, or all its links are down; at the next downbeat MODE 1 of R388 is applied to
it (16 R389). -/
def State.memberLost (s : State) (m : Nat) : State :=
  if !s.peal.inPeal ∨ m = s.peal.coordinate ∨ !(s.peal.members.contains m) then s
  else
    let s1 := { s with peal := { s.peal with lost := addOnce s.peal.lost m } }
    (s1.memberOut m).floodMap m 0 false

/-- MEMBER_MAP_CHANGE: a flooded change reaches this member, which passes it on (16 R374). -/
def State.memberMapChange (s : State) (m lanes : Nat) (present : Bool) : State :=
  if !s.peal.inPeal ∨ m = s.peal.coordinate ∨ !(s.peal.members.contains m) then s
  else if !present then s.memberLost m
  else
    let down := ((List.range 24).filter fun i => !(bit lanes i)).map fun i => (m, i)
    let l := s.peal.lanesDown.filter (·.1 != m) ++ down
    if l == s.peal.lanesDown then s
    else (({ s with peal := { s.peal with lanesDown := l } } : State).rerouted s).floodMap m lanes true

/-- ELECT: the lowest candidate that a neighbour knows (16 R378). -/
def State.elect (s : State) (c : Nat) : State :=
  if !s.peal.inPeal ∨ s.peal.officeBeat.isNone ∨ !(s.peal.members.contains c) then s
  else if s.peal.candidate.any (· ≤ c) then s
  else ({ s with peal := { s.peal with candidate := some c } }).floodElect c

/-! ### Links (16 R371) -/

/-- RING_LINK_DOWN: the engine's link is down; what it holds is lost with it (16 R371, R374). -/
def State.ringLinkDown (s : State) (lane : Nat) : State :=
  match s.peal.lanes[lane]? with
  | none => s
  | some l =>
    if !l.up then s
    else
      let s1 := (s.setLane lane { l.fresh with up := false, offsets := [] }).logFailure 0x17 0xFF lane
      if s.peal.inPeal then ((s1.rerouted s).floodMap s.peal.coordinate s1.laneMask true) else s1

/-- RING_LINK_RETRAIN: a link that is down retrains every 10 ms, and comes up when both ends have exchanged SYNC on all wavelengths
(16 R371). -/
def State.ringLinkRetrain (s : State) (lane : Nat) (success : Bool) : State :=
  match s.peal.lanes[lane]?, tget s.fail.edges (lane / 6) with
  | some l, some e =>
    if l.up ∨ !success ∨ !e.up ∨ dimSize s.peal.sizes (lane % 6 / 2) ≤ 1 ∧ s.peal.inPeal then s
    else
      let s1 := s.setLane lane { l.fresh with up := true }
      if s.peal.inPeal then ((s1.rerouted s).floodMap s.peal.coordinate s1.laneMask true) else s1
  | _, _ => s

/-! ### Time over the links (16 R380, R381) -/

/-- Insertion in an ascending list. -/
def median (l : List Int) : Int :=
  let a := sortBy (fun x y => decide (x ≤ y)) l
  match a.length with
  | 0 => 0
  | n => if n % 2 = 1 then a.getD (n / 2) 0 else (a.getD (n / 2 - 1) 0 + a.getD (n / 2) 0) / 2

/-- Lanes of a direction that are up. -/
def State.lanesOf (s : State) (d : Nat) : List Lane16 :=
  (List.range 4).filterMap fun e => (s.peal.lanes[6 * e + d]?).bind fun l => if l.up then some l else none

/-- The offset measured in a direction: the median over the lanes up, averaged over the last 64 exchanges; none before the first. -/
def State.directionOffset (s : State) (d : Nat) : Option Int :=
  let lanes := s.lanesOf d
  let n := (lanes.map (·.offsets.length)).foldl max 0
  if n = 0 then none
  else
    let each := (List.range n).map fun i => median (lanes.filterMap fun l => l.offsets[i]?)
    some (each.sum / n)

/-- The direction of the time parent: the first hop of the path to the leader, or of its detour (16 R381). -/
def State.parentDirection (s : State) : Option Nat :=
  match (if s.peal.mode = .forming then some 0 else s.peal.leader) with
  | none => none
  | some l =>
    if l = s.peal.coordinate then none
    else if s.peal.inPeal then (s.route l).map fun r => s.firstDirection l r
    else some ((torusPath s.peal.sizes s.peal.coordinate l).headD 0)

/-- The direction's latest estimate of a neighbour's offset from the leader. -/
def State.neighbourEstimate (s : State) (d : Nat) : Int :=
  ((s.lanesOf d).foldl (fun (b : Nat × Int) l => if b.1 ≤ l.syncAt then (l.syncAt, l.neighbourEstimate) else b) (0, 0)).2

/-- The own estimate: the parent's plus the offset measured from it, and its steering input in ns (16 R381). -/
def State.steer (s : State) : State :=
  match s.parentDirection with
  | none => { s with peal := { s.peal with estimate := 0, timeParent := s.peal.coordinate } }
  | some d =>
    match s.directionOffset d with
    | none => s
    | some o =>
      let e := s.neighbourEstimate d + o
      { s with peal := { s.peal with estimate := e, timeParent := neighbour s.peal.sizes s.peal.coordinate d }
               beat := { s.beat with offset := e / 4 } }

/-- SYNC_EXCHANGE: every 16 µs a SYNC leaves on each lane with the own estimate (16 R380, R381). -/
def State.syncExchange (s : State) : State :=
  (List.range 24).foldl (fun s i =>
    s.onLane i 4 ⟨.ringSync, i, [s.beat.number, ofSigned 8 s.peal.estimate], []⟩) s

/-- The module is within 8 ns of its time parent and LOCKED. -/
def State.aligned (s : State) : Bool :=
  match s.parentDirection with
  | none => true
  | some d => (s.directionOffset d).any fun o => decide (o.natAbs ≤ 32)

/-! ### CTRL (16 R376, R377, R388) -/

/-- The own coordinate is known. -/
def State.placed (s : State) : Bool := s.peal.reached.contains s.peal.coordinate

/-- What this module says in CTRL. -/
def State.ctrlBytes (s : State) (lane : Nat) : List Nat :=
  let p := s.peal
  let known := if p.mode = .forming ∨ p.mode = .joining then p.reached else p.members
  [0, p.mode.code, p.pealId, if p.inPeal || s.placed then p.coordinate else 4096, lane, ownDigest, shapeCode p.sizes,
   s.beat.period, s.beat.buildShare, s.beat.guardShare] ++ known ++ p.locked ++
    (match p.admitBeat with | some (b, _) => [b] | none => []) ++ p.admitting.flatMap (fun a => [a.1, a.2]) ++
    p.leaving.flatMap fun l => [l.1, l.2.1, l.2.2]

/-- CTRL leaves on every lane that is up. -/
def State.announce (s : State) : State :=
  (List.range 24).foldl (fun s i => s.onLane i 4 ⟨.ringCtrl, i, s.ctrlBytes i, []⟩) s

/-- Commands that wait for formation or admission complete with a status. -/
def State.endWaiting (s : State) (status : Nat) : State :=
  (s.commands.filter fun c => c.wait == .pealForm || c.wait == .pealJoin).foldl (fun s c => s.complete c status 0 0) s

/-- The module is ALONE again, its forming or joining at an end (16 Table 16-2). -/
def State.standAlone (s : State) (fault : Option Nat) (status : Nat) : State :=
  let p := s.peal
  ({ s with peal := { p with
      mode := .alone, pealId := 0, coordinate := 0, sizes := (1, (1, 1)), founder := false, leader := none, members := [],
      lanesDown := [], reached := [], neighbours := [], locked := [], admitBeat := none, admitting := [], candidate := none,
      officeBeat := none, fault := if fault.isSome then fault else p.fault } }).endWaiting status

/-- FORMATION_TIMEOUT (16 Table 16-2). -/
def State.formationTimeout (s : State) : State :=
  if (s.peal.mode = .forming ∨ s.peal.mode = .joining) ∧ s.peal.admitBeat.isNone then
    (s.clockTo (s.peal.since + 100000 * s.peal.timeout)).standAlone none stUnreachable
  else s

/-- The coordinate that a neighbour in direction `d` at `c` gives this module. -/
def coordinateFrom (sizes : Nat × (Nat × Nat)) (c d : Nat) : Nat := neighbour sizes c (opposite d)

/-- The wiring check of a CTRL in direction `d` (16 R376 (c)): the faulty coordinate. -/
def State.wiringFault (s : State) (lane : Nat) (f : CtrlFields) : Option Nat :=
  let d := lane % 6
  let p := s.peal
  let there := if s.placed then neighbour p.sizes p.coordinate d else f.coordinate % 4096
  let known := (tget p.neighbours d).any (· != f.digest)
  let crossed := f.fromLane != lane / 6 * 6 + opposite d
  let own := f.digest == ownDigest
  let twice := s.placed && decide (f.coordinate < 4096) && coordinateFrom p.sizes f.coordinate d != p.coordinate
  let same := s.placed && p.neighbours.any fun n =>
    n.2 == f.digest && n.1 != d && neighbour p.sizes p.coordinate n.1 != there
  if known || crossed || own || twice || same then some there else none

/-- The founder names a downbeat at least 64 beats ahead when every module reports LOCKED (16 R376 (e)). -/
def State.nameFormation (s : State) : State :=
  let p := s.peal
  let all := shapeMembers p.sizes
  if p.mode = .forming ∧ p.founder ∧ p.admitBeat.isNone ∧ all.all p.reached.contains ∧ all.all p.locked.contains then
    ({ s with peal := { p with admitBeat := some (s.beat.number + 64, 0) } }).announce
  else s

/-- A FORMING or JOINING module that is within 8 ns of its time parent says so. -/
def State.reportLocked (s : State) : State :=
  let p := s.peal
  if (p.mode = .forming ∨ p.mode = .joining) ∧ s.placed ∧ !(p.locked.contains p.coordinate) ∧ s.aligned then
    (({ s with peal := { p with locked := p.locked ++ [p.coordinate] } }).announce).nameFormation
  else s

/-- A change of period that this module is told of in another beat count: it takes effect at the same downbeat. -/
def State.takePeriod (s : State) (difference : Int) (period build guard_ effective : Nat) : State :=
  { s with beat := { s.beat with
      change := some { period, buildShare := build, guardShare := guard_, effective := ((effective : Int) - difference).toNat } } }

/-- A CTRL of another FORMING module: coordinate, reach and locks are learnt, and passed on if they are news (16 R376). -/
def State.ctrlForming (s : State) (lane : Nat) (f : CtrlFields) : State :=
  let p := s.peal
  let d := lane % 6
  let there := if s.placed then some (neighbour p.sizes p.coordinate d) else if f.coordinate < 4096 then some f.coordinate else none
  if f.mode ≠ 1 ∨ f.pealId ≠ p.pealId then s.standAlone there stUnreachable
  else match s.wiringFault lane f with
    | some c => s.standAlone (some c) stUnreachable
    | none =>
      let fresh := !s.placed && decide (f.coordinate < 4096)
      let own := if fresh then coordinateFrom p.sizes f.coordinate d else p.coordinate
      let reached := if fresh || s.placed then ((if fresh then [own] else []) ++ f.members).foldl addOnce p.reached else p.reached
      let locked := f.locked.foldl addOnce p.locked
      let diff := ((p.lanes[lane]?).map (·.beatDifference)).getD 0
      let given := match p.admitBeat, f.named with
        | none, some (b, _) => some (((b : Int) - diff).toNat, 0)
        | a, _ => a
      let s1 := { s with peal := { p with
        coordinate := own, reached, locked, admitBeat := given, neighbours := tset p.neighbours d f.digest } }
      let differs := f.period != s.beat.period || f.buildShare != s.beat.buildShare || f.guardShare != s.beat.guardShare
      let s2 := if fresh && differs then s1.takePeriod 0 f.period f.buildShare f.guardShare (s.beat.number + 1) else s1
      let news := reached != p.reached || locked != p.locked || given != p.admitBeat
      if news then s2.announce.nameFormation else s2

/-- A CTRL of a member at a JOINING module (16 R377): it takes its coordinate, the peal's period and shares, and its named downbeat. -/
def State.ctrlJoining (s : State) (lane : Nat) (f : CtrlFields) : State :=
  let p := s.peal
  if f.mode ≠ 3 ∨ f.pealId ≠ p.pealId ∨ 4096 ≤ f.coordinate then s
  else
    let sizes := shapeSizes f.shape
    let own := coordinateFrom sizes f.coordinate (lane % 6)
    if f.members.contains own then s.standAlone none stStateConflict
    else
      let diff := ((p.lanes[lane]?).map (·.beatDifference)).getD 0
      let leader := (f.members.foldl (fun (b : Option Nat) x => some (min x (b.getD x))) none)
      let given := match p.admitBeat, f.named with
        | none, some (b, m) => if m = own then some (((b : Int) - diff).toNat, b) else none
        | a, _ => a
      let s1 := { s with peal := { p with
        sizes, coordinate := own, reached := addOnce f.members own, admitBeat := given
        leader := if p.leader.isSome then p.leader else leader } }
      let differs := f.period != s.beat.period || f.buildShare != s.beat.buildShare || f.guardShare != s.beat.guardShare
      let s2 := match f.pending with
        | some (pe, (b, (g, e))) => s1.takePeriod diff pe b g e
        | none => if differs then s1.takePeriod 0 f.period f.buildShare f.guardShare (s.beat.number + 1) else s1
      s2.reportLocked

/-- A CTRL at a member (16 R377, R388): joiners that report LOCKED are named a downbeat by the leader; leaves and named downbeats
are passed on. -/
def State.ctrlMember (s : State) (f : CtrlFields) : State :=
  let p := s.peal
  if f.pealId ≠ p.pealId then s
  else
    let ready := (f.locked.filter fun m =>
      inShape p.sizes m && !(p.members.contains m) && !(p.admitting.any (·.1 == m)))
    let leads := p.leader == some p.coordinate
    let named := if leads then ready.map fun m => (m, s.beat.number + 16)
      else match f.named with
        | some (b, m) => if p.members.contains m ∨ p.admitting.any (·.1 == m) then [] else [(m, b)]
        | none => []
    let leaves := f.leaving.filter fun l => p.members.contains l.1 && !(p.leaving.any (·.1 == l.1))
    if named.isEmpty ∧ leaves.isEmpty ∧ (ready.all p.locked.contains) then s
    else
      let mode : Membership := if leaves.any (fun l => l.1 == p.coordinate) then .leaving else p.mode
      ({ s with peal := { p with
        admitting := p.admitting ++ named, leaving := p.leaving ++ leaves, locked := ready.foldl addOnce p.locked, mode } }).announce

/-- CTRL. -/
def State.ctrl (s : State) (lane : Nat) (f : CtrlFields) : State :=
  let s1 := s.returnCredit lane 4
  match s.peal.mode with
  | .forming => s1.ctrlForming lane f
  | .joining => s1.ctrlJoining lane f
  | .member | .leaving => s1.ctrlMember f
  | .alone | .asleep => s1

/-- SYNC: a neighbour's beat, estimate and the measured offset (16 R380, R381); one found more than 8 ns away is counted. -/
def State.sync (s : State) (lane : Nat) (f : SyncFields) : State :=
  match s.peal.lanes[lane]? with
  | none => s
  | some l =>
    if !l.up then s
    else
      let s1 := s.returnCredit lane 4
      let s2 := s1.setLane lane { l with
        syncAt := s.now, beatDifference := (f.beat : Int) - s.beat.number, neighbourEstimate := f.estimate,
        offsets := (f.offset :: l.offsets).take 64 }
      let far := s2.peal.inPeal && (s2.directionOffset (lane % 6)).any fun o => decide (32 < o.natAbs)
      let s3 := if far then { s2 with win := { s2.win with syncAlarm := s2.win.syncAlarm + 1 } } else s2
      s3.steer.reportLocked

/-- PERIOD_CHANGE_PROPAGATE: an accepted change reaches this member (02 R52, 16 R390). -/
def State.periodPropagated (s : State) (period build guard_ effective : Nat) : State :=
  if s.peal.inPeal then s.takePeriod 0 period build guard_ effective
  else if s.peal.mode = .joining then
    let diff := ((s.parentDirection.map s.lanesOf).bind (·.head?)).map (·.beatDifference)
    s.takePeriod (diff.getD 0) period build guard_ effective
  else s

/-! ### Commands (16 R391) -/

/-- A Kit of the module is ADMITTED (16 Table 16-2). -/
def State.anyAdmitted (s : State) : Bool := s.kits.any fun k => k.2.mode == .admitted

/-- PEAL_FORM. -/
def pealFormEffect (c : Call) (s : State) : Verdict :=
  let founder := c.arg 2 == 1
  guards [(c.arg 0 == 0, c.bad 0), (decide (4096 ≤ c.arg 1), c.bad 1), (decide (1 < c.arg 2), c.bad 2),
          (s.peal.mode != .alone || s.anyAdmitted, s.conflict 0 s.peal.mode.code)]
    (let s1 := { s with peal := { s.peal with
        mode := .forming, pealId := c.arg 0, sizes := shapeSizes (c.arg 1), founder, coordinate := 0
        reached := if founder then [0] else [], neighbours := [], locked := [], admitBeat := none
        timeout := if c.arg 3 = 0 then 10000 else c.arg 3, since := s.now } }
     .defer (s1.announce.reportLocked.nameFormation) .pealForm 0)

/-- PEAL_JOIN; a module whose Kits would lie too deep refuses (03 R61). -/
def pealJoinEffect (c : Call) (s : State) : Verdict :=
  let deep := s.kits.any fun k => decide (14 ≤ s.level k.1)
  guards [(c.arg 0 == 0, c.bad 0), (s.peal.mode != .alone || s.anyAdmitted || deep, s.conflict 0 s.peal.mode.code)]
    (let s1 := { s with peal := { s.peal with
        mode := .joining, pealId := c.arg 0, reached := [], neighbours := [], locked := [], admitBeat := none
        leader := none, timeout := if c.arg 1 = 0 then 10000 else c.arg 1, since := s.now } }
     .defer s1.announce .pealJoin 0)

/-- A peal Kit other than peal Kit 0 that gives a member a share and is not CREATED (16 R388). -/
def State.sharing (s : State) (m : Nat) : List (Nat × Kit) :=
  s.kits.filter fun k => isPealKit k.1 && k.1 != 2 ^ 27 && k.2.mode != .created && k.2.units.contains (.module m)

/-- PEAL_LEAVE (16 R388, R390): L is the first beat at least 64 beats ahead. -/
def pealLeaveEffect (c : Call) (s : State) : Verdict :=
  let m := c.arg 0
  guards
    ([(decide (4096 ≤ m), c.bad 0), (decide (1 < c.arg 1), c.bad 1)] ++
     (match s.notLeader with | some l => [(true, s.roleConflict l)] | none => []) ++
     [(!s.peal.inPeal || !(s.peal.members.contains m) || s.peal.leaving.any (·.1 == m), s.conflict 0 s.peal.mode.code),
      (c.arg 1 == 0 && !(s.sharing m).isEmpty, s.conflict 5 (((s.sharing m).head?.map (·.2.mode.code)).getD 0))])
    (let mode : Membership := if m = s.peal.coordinate then .leaving else s.peal.mode
     let s1 := { s with peal := { s.peal with leaving := s.peal.leaving ++ [(m, (c.arg 1, s.beat.number + 64))], mode } }
     .defer s1.announce (.pealLeave m) 0)

/-- The record of PEAL_QUERY (16 Table 16-7). -/
def State.pealBytes (s : State) : List Byte :=
  let p := s.peal
  let lanes := maskOf (((List.range 24).filter fun i => (p.lanes[i]?).any (·.up)).map fun i => 4 * (i % 6) + i / 6)
  let members := if p.inPeal then p.members else [p.coordinate]
  let offset := (s.parentDirection.bind s.directionOffset).getD 0
  let fault := match p.fault with | some c => c + 0x8000 | none => 0
  let map := bitMap 512 members
  leBytes 8 p.pealId ++ leBytes 2 p.coordinate ++ leBytes 2 (p.leader.getD p.coordinate) ++ leBytes 2 (shapeCode p.sizes) ++
    leBytes 1 p.mode.code ++ leBytes 1 s.beat.lock.code ++ leBytes 2 members.length ++
    leBytes 2 (match s.parentDirection with | some d => neighbour p.sizes p.coordinate d | none => p.coordinate) ++
    leBytes 2 fault ++ zeros 2 ++ leBytes 4 lanes ++ leBytes 4 (ofSigned 4 offset) ++ leBytes 8 p.resent ++
    leBytes 8 p.forwarded ++ zeros 80 ++ map

/-- PEAL_QUERY. -/
def pealQueryEffect (c : Call) (s : State) : Verdict := guards (c.resultGuards s 0 640) (c.result s 0 s.pealBytes)

/-! ### At a downbeat (16 R376 (e), R377, R378, R388, R389) -/

/-- Peal Kit 0, whose units are the device Kits of the members (03 R60, R64). -/
def Kit.pealRoot (members : List Nat) : Kit :=
  { Kit.device (members.map .module) with id := 2 ^ 27, parent := 2 ^ 27 }

/-- Units of peal Kit 0 changed. -/
def State.modRoot (s : State) (f : List KitUnit → List KitUnit) : State :=
  s.modKit (2 ^ 27) fun k => { k with units := f k.units }

/-- The beat number becomes another one, and FORMATION rises (02 R28). -/
def State.renumber (s : State) (n : Nat) : State :=
  let tai := s.downbeatTai
  let change := s.beat.change.map fun c => { c with effective := c.effective + n - s.beat.number }
  { s with beat := { s.beat with number := n, formation := s.beat.formation + 1, pairBeat := n, pairTai := tai, change } }

/-- Every founding member is a MEMBER at beat 0. -/
def State.formPeal (s : State) : State :=
  match s.peal.mode, s.peal.admitBeat with
  | .forming, some (b, _) =>
    if b ≠ s.beat.number then s
    else
      let members := shapeMembers s.peal.sizes
      let s1 := s.renumber 0
      let s2 := { s1 with
        peal := { s1.peal with mode := .member, members, leader := some 0, admitBeat := none, locked := [] }
        kits := tset s1.kits (2 ^ 27) (Kit.pealRoot members) }
      s2.endWaiting stOk
  | _, _ => s

/-- A joiner takes the peal's beat number at its downbeat, its Almanac is disarmed, and its device Kit is a unit of peal Kit 0. -/
def State.joinPeal (s : State) : State :=
  match s.peal.mode, s.peal.admitBeat with
  | .joining, some (b, n) =>
    if b ≠ s.beat.number then s
    else
      let members := sortBy (fun x y => decide (x ≤ y)) (addOnce s.peal.reached s.peal.coordinate)
      let s1 := s.renumber n
      let s2 := { s1 with
        almanac := { s1.almanac with mode := .disarmed, due := [] }
        peal := { s1.peal with mode := .member, members, admitBeat := none, locked := []
                               leader := some (members.foldl min s1.peal.coordinate) }
        kits := tset s1.kits (2 ^ 27) (Kit.pealRoot members) }
      s2.endWaiting stOk
  | _, _ => s

/-- A leader that takes office sends RELEASE for every PREPARE that is open (16 R379). -/
def State.takeOffice (s : State) (l : Nat) : State :=
  let s1 := { s with peal := { s.peal with leader := some l, candidate := none, officeBeat := none } }
  if l ≠ s.peal.coordinate then s1
  else
    let open_ := s.peal.reservations.filter (·.switchBeat.isNone)
    open_.foldl (fun s r =>
      let others := (match s.kit r.kit with | some k => s.pipeline k | none => []).filter (· != s.peal.coordinate)
      (others.foldl (fun s m => s.roundMessage m 6 r.kit [] []) s).releaseReservation r.kit) s1

/-- Members that join at this downbeat enter the map; one with a lower value than the leader's leads (16 R377, R378). -/
def State.enterMembers (s : State) : State :=
  let now := s.peal.admitting.filter fun a => a.2 ≤ s.beat.number
  if !s.peal.inPeal ∨ now.isEmpty then s
  else
    let members := sortBy (fun x y => decide (x ≤ y)) (now.foldl (fun l a => addOnce l a.1) s.peal.members)
    let s1 := { s with peal := { s.peal with
      members, admitting := s.peal.admitting.filter fun a => s.beat.number < a.2
      locked := s.peal.locked.filter fun m => !(now.any (·.1 == m)) } }
    let s2 := (now.foldl (fun s a => s.modRoot fun l => l.filter (· != .module a.1) ++ [.module a.1]) s1).rerouted s
    let low := members.foldl min (members.headD 0)
    if s2.peal.leader.any fun l => decide (low < l) then s2.takeOffice low else s2

/-- MODE 1 of 16 R388 for a member: every peal Kit that gives it a share is treated as having reached its OVERRUN_LIMIT, its Chimes
receiving ST_PEAL_UNREACHABLE first. -/
def State.losePealKits (s : State) (m : Nat) : State :=
  (s.sharing m).foldl (fun s e =>
    let k := e.2
    let s1 := s.failKit k.id stUnreachable
    let chimes := (s1.chimesOf k.context).filter fun c => k.chimeBase ≤ c ∧ c < k.chimeBase + k.chimeCount
    let s2 := chimes.foldl (fun s c => s.setError c stUnreachable) s1
    (s2.modKit k.id fun k => { k with heldFrom := none }).loseContext k.context stOverrun) s

/-- PEAL_LEAVE commands for a member complete. -/
def State.leaveDone (s : State) (m : Nat) : State := s.completeWhere fun c => c.wait == .pealLeave m

/-- The own leave: the module is ALONE again at D(L); its beat number runs on. -/
def State.leavePeal (s : State) : State :=
  let made := s.kits.filter fun k => isPealKit k.1 && k.1 != 2 ^ 27 && k.2.mode == KitMode.created
  let s0 := made.foldl (fun s k => s.removeKit k.1) s
  let s1 : State := { s0 with kits := terase s0.kits (2 ^ 27) }
  let s2 := { s1 with peal := { s1.peal with leaving := [], lost := [], rounds := [], reservations := [] } }
  ((s2.leaveDone s.peal.coordinate).standAlone none stOk).endUnreachable

/-- A member leaves at D(L) (16 R388). -/
def State.leaveAt (s : State) (m mode : Nat) : State :=
  let s1 := if mode = 1 then s.losePealKits m else s
  if m = s.peal.coordinate then s1.leavePeal
  else
    let s2 := { s1 with peal := { s1.peal with leaving := s1.peal.leaving.filter (·.1 != m) } }
    let s3 := ((s2.modRoot fun l => l.filter (· != .module m)).memberOut m).leaveDone m
    if s1.peal.leader = some m then s3.takeOffice (s3.peal.members.foldl min s3.peal.coordinate) else s3

/-- Leaves whose L has come. -/
def State.leaves (s : State) : State :=
  (s.peal.leaving.filter fun l => l.2.2 ≤ s.beat.number).foldl (fun s l => s.leaveAt l.1 l.2.1) s

/-- Members that have been lost since the last downbeat (16 R389, R390). -/
def State.loseMembers (s : State) : State :=
  s.peal.lost.foldl (fun s m =>
    let s1 := s.losePealKits m
    let s2 := { s1 with peal := { s1.peal with leaving := s1.peal.leaving.filter (·.1 != m), lost := s1.peal.lost.filter (· != m) } }
    (s2.modRoot fun l => l.filter (· != .module m)).leaveDone m) s

/-- The new leader takes office (16 R378). -/
def State.office (s : State) : State :=
  match s.peal.officeBeat with
  | some b =>
    if s.beat.number < b then s
    else match s.peal.candidate with
      | some c => s.takeOffice c
      | none => s
  | none => s

/-- The peal at a downbeat, the new beat number in place. -/
def State.pealDownbeat (s : State) : State :=
  s.formPeal.joinPeal.loseMembers.enterMembers.leaves.office.switchPeal

end Sys2Proof.Machine
end

