-- ==== Sys2Proof/Machine/Image.lean ====
section
/-!
DEFINITION. The image of a function as bytes (17 R403 to R405), and an image read back (17 R406 (a)).
-/
namespace Sys2Proof.Machine
open Sys2Proof

/-! ### Packets -/

/-- A packet as its 64 bytes (11 Table 11-1). -/
def Packet.bytes (op : Op) (p : Packet) : List Byte :=
  leBytes 2 (opcodeOf op) ++ [p.flags, p.reserved] ++ leBytes 4 p.chime.toNat ++ leBytes 8 p.chimeValue.toNat ++ padTo 48 p.params

/-- A packet from its 64 bytes. -/
def Packet.ofBytes (b : List Byte) : Packet :=
  { flags := b.getD 2 0, reserved := b.getD 3 0, chime := BitVec.ofNat 32 (field b 4 4),
    chimeValue := BitVec.ofNat 64 (field b 8 8), params := padTo 48 (b.drop 16) }

/-! ### What belongs to a function -/

/-- Contexts of a function, ascending. -/
def State.contextsOf (s : State) (f : Nat) : List Nat :=
  (s.contexts.filter fun c => c.2.mode != .free && c.2.function == f && c.1 != 65535).map (·.1)

/-- Kits of a function's Contexts, ascending. -/
def State.functionKits (s : State) (f : Nat) : List (Nat × Kit) :=
  s.kits.filter fun k => (s.contextsOf f).contains k.2.context

/-- Queues of a function's range that are not FREE. -/
def State.functionQueues (s : State) (f : Nat) : List Nat :=
  (s.queues.filter fun q => q.2.mode != .free && s.inRange f q.1).map (·.1)

/-- Pool and summary objects of a function's Kits (17 R404), by object number. -/
def State.functionPools (s : State) (f : Nat) : List Nat :=
  (s.functionKits f).flatMap fun k => match k.2.placement with
    | some p => p.pool.flatMap fun x => [x.handle, x.summaryHandle].filterMap fun h => (s.objectOf h).map (·.1)
    | none => []

/-- Memory objects of a function's Contexts and of its Kits, ascending. -/
def State.functionObjects (s : State) (f : Nat) : List (Nat × Object) :=
  s.objects.filter fun o => o.2.mode != .free && ((s.contextsOf f).contains o.2.context || (s.functionPools f).contains o.1)

/-- SCRATCH granules of partitions, ascending. -/
def State.scratchOf (s : State) (parts : List Nat) : List Nat :=
  (s.mem.granules.filter fun g => g.2.mode == .scratch && parts.contains g.2.partition).map (·.1)

/-! ### The entry of a function (17 Table 17-1) -/

/-- A completion ring's descriptor (11 Table 11-12). -/
def CRing.bytes (r : CRing) : List Byte :=
  leBytes 8 r.base ++ leBytes 8 r.produced ++ leBytes 8 r.consumed ++ leBytes 1 r.log2Size ++ leBytes 1 r.irqCount ++
    leBytes 2 r.irqDelay ++ leBytes 2 r.vector ++ leBytes 2 (r.waiting.filter (·.1)).length ++ leBytes 4 r.noticesDropped ++
    zeros 28

/-- A descriptor read back. -/
def CRing.ofBytes (b : List Byte) : CRing :=
  { CRing.unset with base := field b 0 8, produced := field b 8 8, consumed := field b 16 8, log2Size := field b 24 1,
                     irqCount := field b 25 1, irqDelay := field b 26 2, vector := field b 28 2, noticesDropped := field b 32 4 }

/-- The first 128 bytes of a function's entry. -/
def State.functionHead (s : State) (f : Nat) : List Byte :=
  let v := s.function f
  let mode := if f = 0 then 1 else v.mode.code
  leBytes 2 f ++ leBytes 1 mode ++ zeros 1 ++ leBytes 4 v.firstQueue ++ leBytes 4 v.queueCount ++
    leBytes 4 (s.functionQueues f).length ++ leBytes 8 (if f = 0 then 2 ^ 64 - 1 else maskOf v.partitions) ++
    leBytes 2 (s.contextsOf f).length ++ zeros 2 ++ leBytes 4 v.squashed ++ leBytes 8 v.freezeBeat ++ leBytes 8 v.imageBytes ++
    zeros 80

/-- The 4,096 bytes of a function's entry. -/
def State.functionEntry (s : State) (f : Nat) : List Byte :=
  s.functionHead f ++ zeros 1920 ++ (List.range 32).flatMap fun r => (s.cring f r).bytes

/-! ### Sections (17 Table 17-7) -/

/-- A section: the number of its records and its bytes. -/
structure Section_ where
  count : Nat
  bytes : List Byte

/-- A section of equal records. -/
def sectionOf (l : List (List Byte)) : Section_ := { count := l.length, bytes := l.flatten }

/-- SPREAD run starts of a partition's granules: bit g set where a run begins. -/
def State.spreadStarts (s : State) (p : Nat) : List Nat :=
  s.mem.granules.filterMap fun g =>
    if g.2.partition = p ∧ g.2.spread.any (fun r => r.1 == g.1) then some g.1 else none

/-- A partition's record. -/
def State.partitionRecord (s : State) (p : Nat) : List Byte :=
  leBytes 1 p ++ zeros 127 ++ s.partitionBytes p ++ bitMap 256 (s.scratchOf [p]) ++ bitMap 256 (s.spreadStarts p)

/-- STATE, LEVEL, FLAGS and counters of a Kit (no layout is given). -/
def State.kitSummary (s : State) (k : Kit) (lists : Nat) : List Byte :=
  let records := (k.load.map (·.records.length)).getD 0
  let p := k.seqPolicy
  leBytes 1 k.mode.code ++ leBytes 1 (s.level k.id) ++
    leBytes 1 (b2n k.degraded + 2 * b2n k.load.isSome + 4 * b2n k.heldFrom.isSome + 8 * b2n k.placement.isSome) ++
    leBytes 1 ((k.load.map (·.replica)).getD 0) ++ leBytes 1 k.consecutive ++ leBytes 1 lists ++ leBytes 2 k.lostCores ++
    leBytes 4 records ++ leBytes 4 k.overrunSoft ++ leBytes 4 k.overrunHard ++ leBytes 4 k.buildShort ++
    leBytes 4 k.almanacLate ++ leBytes 4 k.almanacSkipped ++ leBytes 4 k.transferOverrun ++ leBytes 4 k.scoreLate ++
    leBytes 4 k.summaryFail ++ leBytes 4 k.noResults ++ leBytes 2 (p.denseLimit / 64) ++ leBytes 2 p.chunkMax ++
    leBytes 2 p.sinkPages ++ leBytes 2 p.recentPages ++ leBytes 2 p.topPages ++ leBytes 2 p.heads ++ leBytes 2 p.dims ++
    leBytes 2 p.slipLimit

/-- Two bits for a task. -/
def TaskMode.bits2 : TaskMode → Nat
  | .retired => 1 | .saved => 2 | _ => 0

/-- Bytes of a number, least first, as many as it is given. -/
def packPairs (l : List Nat) : Nat := (l.reverse).foldl (fun a b => a * 4 + b) 0

/-- An unfinished list of a Kit. -/
def WorkList.image (l : WorkList) : List Byte :=
  let n := l.tasks.length
  leBytes 8 l.address ++ leBytes 4 n ++ zeros 4 ++ leBytes (ceilDiv (2 * n) 128 * 16) (packPairs (l.tasks.map (·.mode.bits2)))

/-- A Kit's record. -/
def State.kitRecord (s : State) (k : Kit) : List Byte :=
  let lists := s.openLists k.id
  k.block ++ s.kitSummary k lists.length ++ ((k.load.map (·.records)).getD []).flatMap DescRecord.toBytes ++
    lists.flatMap WorkList.image

/-- Sequence entries of a Kit's range, in order. -/
def State.kitSequences (s : State) (k : Kit) : List (List Byte) :=
  match k.placement with
  | none => []
  | some p => (List.range p.seqCount).map fun i => match s.seq (p.seqBase + i) with
    | some x => x.bytes
    | none => zeros 512

/-- Poisoned code words of an object: object offsets. -/
def State.poisonOf (s : State) (o : Object) : List Nat :=
  ((pieces 512 (o.footprint / 512 + 2) 0 o.footprint).map (·.1)).filter fun a => let l := o.locate a; s.poisoned2 l.1 l.2

/-- The contents of an object, poisoned code words as zeros (17 R404). -/
def State.objectImage (s : State) (o : Object) : List Byte :=
  let bad := s.poisonOf o
  (pieces 512 (o.footprint / 512 + 2) 0 o.footprint).flatMap fun p =>
    if bad.contains p.1 then zeros p.2 else s.objRead2 o p.1 p.2

/-- A SCRATCH granule: data, tags, DEAD bits; poisoned code words as zeros. -/
def State.granuleImage (s : State) (g : Nat) : List Byte :=
  let base := g * 2 ^ 23
  let data := (List.range 65536).flatMap fun i =>
    if s.poisoned1 (base + 128 * i) 128 then zeros 128 else memRead zeroByte s.mem.t1 (base + 128 * i) 128
  data ++ (List.range 2048).flatMap (fun l => (s.tag (g * 2048 + l)).bytes) ++
    bitMap 4096 ((s.mem.deadBits.filter fun x => x / 2048 == g).map (· % 2048))

/-- Lines of an object that software has pinned: pins of a placement are not among them (17 R404). -/
def State.softPins (s : State) (i : Nat) (o : Object) : List Nat :=
  let h := o.handle i
  if s.kits.any fun k => k.2.placement.any fun p => p.tensors.any fun t => t.handle == h && t.pinned then []
  else sortBy (fun a b => decide (a ≤ b)) ((s.mem.lines.filter fun l => l.2.object == i && l.2.pin).map (·.2.line))

/-- Runs of consecutive numbers: first and count. -/
def runsOf : List Nat → List (Nat × Nat)
  | [] => []
  | a :: r =>
    match runsOf r with
    | (b, n) :: t => if b = a + 1 then (a, n + 1) :: t else (a, 1) :: (b, n) :: t
    | [] => [(a, 1)]

/-- Outstanding commands of a function's queues, oldest first. -/
def State.functionCommands (s : State) (f : Nat) : List Command :=
  s.commands.filter fun c => (s.functionQueues f).contains c.queue

/-- Records that wait for a function's rings. -/
def State.waitingRecords (s : State) (f : Nat) : List (Nat × List Byte) :=
  (List.range 32).flatMap fun r => (s.cring f r).waiting.map fun w => (r, w.2)

/-- The 15 sections of a function's image. -/
def State.sections (s : State) (f : Nat) : List Section_ :=
  let v := s.function f
  let parts := sortBy (fun a b => decide (a ≤ b)) v.partitions
  let objects := s.functionObjects f
  let chimes := parts.flatMap fun p => let x := s.partition p; (List.range x.chimeCount).map (· + x.chimeBase)
  let entries := parts.flatMap fun p => let x := s.partition p; (List.range x.almanacCount).map (· + x.almanacFirst)
  let view := s.almanac.view
  [sectionOf [s.functionEntry f],
   sectionOf (parts.map s.partitionRecord),
   sectionOf ((s.contextsOf f).map fun c => s.contextBytes c ++ leBytes 2 c ++ zeros 446),
   sectionOf ((List.range v.queueCount).map fun i => s.queueBytes (v.firstQueue + i)),
   sectionOf ((s.functionKits f).map fun k => s.kitRecord k.2),
   sectionOf ((s.functionKits f).flatMap fun k => s.kitSequences k.2),
   sectionOf (objects.map fun o => s.objectBytes o.1 o.2 0),
   { count := objects.length, bytes := objects.flatMap fun o => s.objectImage o.2 },
   sectionOf ((s.scratchOf parts).map s.granuleImage),
   sectionOf (chimes.map fun c => (s.chimeBytes c).take 16),
   sectionOf (entries.map fun i => (tgetD view i AlmanacEntry.zero).bytes),
   sectionOf (objects.flatMap fun o => (runsOf (s.softPins o.1 o.2)).map fun r =>
     leBytes 4 o.1 ++ zeros 4 ++ leBytes 4 r.1 ++ leBytes 4 r.2),
   sectionOf ((s.functionCommands f).map (fun c => leBytes 4 c.queue ++ zeros 4 ++ leBytes 8 c.index ++ c.packet.bytes c.op) ++
     (s.waitingRecords f).map fun w => leBytes 1 w.1 ++ zeros 15 ++ padTo 32 w.2),
   sectionOf (objects.flatMap fun o => (s.poisonOf o.2).map fun a => leBytes 4 o.1 ++ zeros 4 ++ leBytes 8 a),
   { count := 0, bytes := [] }]

/-! ### The image (17 Tables 17-5, 17-6) -/

/-- The next multiple of 4,096. -/
def pad4k (n : Nat) : Nat := ceilDiv n 4096 * 4096

/-- Offsets of sections laid one after the other from `at_`. -/
def sectionOffsets : Nat → List Section_ → List Nat
  | _, [] => []
  | a, x :: r => a :: sectionOffsets (a + pad4k x.bytes.length) r

/-- Directory entry of KIND `kind`. -/
def dirEntry (kind offset : Nat) (x : Section_) : List Byte :=
  leBytes 2 kind ++ zeros 2 ++ leBytes 4 x.count ++ leBytes 8 offset ++ leBytes 8 x.bytes.length ++ leBytes 4 (crc32c x.bytes) ++
    zeros 4

/-- IMAGE_BYTES of sections. -/
def imageSize (l : List Section_) : Nat := 4096 + (l.map fun x => pad4k x.bytes.length).sum

/-- The header of an image. -/
def State.imageHeader (s : State) (f size : Nat) : List Byte :=
  let v := s.function f
  let b := leBytes 4 0x5A564631 ++ leBytes 2 1 ++ leBytes 2 f ++ leBytes 8 v.freezeBeat ++ leBytes 8 size ++
    leBytes 8 (maskOf v.partitions) ++ leBytes 4 v.firstQueue ++ leBytes 4 v.queueCount ++ leBytes 4 (ownDigest % 2 ^ 32) ++
    zeros 208
  b ++ leBytes 4 (crc32c b)

/-- The image of a function (17 R403). -/
def State.image (s : State) (f : Nat) : List Byte :=
  let l := s.sections f
  let dir := ((List.range 15).zip ((sectionOffsets 4096 l).zip l)).flatMap fun e => dirEntry (e.1 + 1) e.2.1 e.2.2
  padTo 4096 (s.imageHeader f (imageSize l) ++ dir) ++ l.flatMap fun x => padTo (pad4k x.bytes.length) x.bytes

/-! ### An image read back (17 R406 (a)) -/

/-- A directory entry as it is read. -/
structure DirEntry where
  count : Nat
  offset : Nat
  bytes : Nat

/-- Entry `k` of an image's directory. -/
def dirAt (b : List Byte) (k : Nat) : DirEntry :=
  let at_ := 256 + 32 * k
  { count := field b (at_ + 4) 4, offset := field b (at_ + 8) 8, bytes := field b (at_ + 16) 8 }

/-- Section `kind` of an image. -/
def imageSection (b : List Byte) (kind : Nat) : Section_ :=
  let d := dirAt b (kind - 1)
  { count := d.count, bytes := slice b d.offset d.bytes }

/-- The image offset of the first thing wrong with an image of at most `length` bytes: MAGIC, VERSION, a CRC, a reserved field, its
length. -/
def imageFault (b : List Byte) (length : Nat) : Option Nat :=
  let head : List (Bool × Nat) :=
    [(field b 0 4 != 0x5A564631, 0), (field b 4 2 != 1, 4), (decide (length < field b 16 8), 16),
     ((slice b 44 208).any (· != 0), 44), (field b 252 4 != crc32c (slice b 0 252), 252)]
  let entry (k : Nat) : List (Bool × Nat) :=
    let at_ := 256 + 32 * k
    let d := dirAt b k
    [(field b at_ 2 != k + 1, at_), (field b (at_ + 2) 2 != 0, at_ + 2), (k == 14 && d.count != 0, at_ + 4),
     (d.offset % 4096 != 0 || decide (field b 16 8 < d.offset + d.bytes), at_ + 8),
     (field b (at_ + 24) 4 != crc32c (slice b d.offset d.bytes), at_ + 24), (field b (at_ + 28) 4 != 0, at_ + 28)]
  ((head ++ (List.range 15).flatMap entry).find? (·.1)).map (·.2)

end Sys2Proof.Machine
end

