-- ==== Sys2Proof/Machine/Functions.lean ====
section
/-!
DEFINITION. Virtual functions: their states, reset, freeze, save, restore and resume (17_virtual_functions_and_migration.md).
-/
namespace Sys2Proof.Machine
open Sys2Proof

/-- The refusals of the function that parameter 0 names: function 0, or none (17 R396). -/
def Call.vfGuards (c : Call) : List (Bool × Verdict) := [(c.arg 0 == 0 || decide (4095 < c.arg 0), c.bad 0)]

/-- The function is in none of the states that accept the command (17 R396). -/
def Call.vfMode (c : Call) (s : State) (ok : FunctionMode → Bool) : List (Bool × Verdict) :=
  let m := (s.function (c.arg 0)).mode
  [(!(ok m), s.conflict 9 m.code)]

/-- CONTEXTS and QUEUES of a function are 0 (17 Table 17-1). -/
def State.vfEmpty (s : State) (f : Nat) : Bool := (s.contextsOf f).isEmpty && (s.functionQueues f).isEmpty

/-- VF_ENABLE (17 Table 17-3). -/
def vfEnableEffect (c : Call) (s : State) : Verdict :=
  let f := c.arg 0
  let on := c.arg 1 == 1
  guards (c.vfGuards ++ [(decide (1 < c.arg 1), c.bad 1)] ++ c.vfMode s (fun m => if on then m == .disabled else m == .enabled) ++
      [(!on && !(s.vfEmpty f), s.conflict 9 1)])
    (if on then .done (s.modFunction f fun _ => { VFunction.initial with mode := .enabled }) 0
     else .done { s with functions := terase s.functions f, crings := s.crings.filter fun r => r.1 / 32 != f } 0)

/-- The range of another virtual function overlaps a range of queues (17 R394). -/
def State.rangeTaken (s : State) (f first count : Nat) : Bool :=
  s.functions.any fun v => v.1 != f && decide (v.2.firstQueue < first + count) && decide (first < v.2.firstQueue + v.2.queueCount)

/-- Partitions that a mask names. -/
def maskParts (m : Nat) : List Nat := (List.range 64).filter fun p => bit m p

/-- VF_ASSIGN (17 R395). -/
def vfAssignEffect (c : Call) (s : State) : Verdict :=
  let f := c.arg 0
  let b := s.sysRead (c.arg 1) 64
  let (parts, first, count) := (field b 0 8, field b 8 4, field b 12 4)
  guards (c.vfGuards ++ [(c.blockBad s 1 64 64, c.bad 1), (bit parts 0, badBlock 0), (decide (2 ^ 20 ≤ first), badBlock 8),
      (decide (1048320 < count) || (decide (0 < count) && (decide (first < 256) || decide (1048576 < first + count))), badBlock 12),
      (s.rangeTaken f first count, badBlock 8), ((slice b 16 48).any (· != 0), badBlock 16)] ++ c.vfMode s (· == .enabled) ++
      [(!(s.vfEmpty f), s.conflict 9 1), (c.domainDown s 1, plain stCoherentDown)])
    (.done (s.modFunction f fun v =>
      { v with partitions := maskParts parts, firstQueue := first, queueCount := count }) 0)

/-! ### Reset (17 R398, R399) -/

/-- Units of a transfer. -/
def Transfer.unitCount (t : Transfer) : Nat := t.rows * (t.rowBytes / (if t.tile then 4096 else 128))

/-- Unit `i` of a transfer is moved. -/
def Transfer.moveNth (t : Transfer) (x : State × Nat) (i : Nat) : State × Nat :=
  let unit := if t.tile then 4096 else 128
  let per := max 1 (t.rowBytes / unit)
  t.moveUnit x (t.srcRow (i / per) + i % per * unit) (t.dstRow (i / per) + i % per * unit)

/-- A transfer stops at its next unit: how many it has written is open; it completes with ST_SQUASHED (17 R398 (c)). -/
def State.squashTransfer (s : State) (t : Transfer) : State :=
  if t.ring then s.finishRing t stSquashed
  else
    let n := s.free.toNat % (t.unitCount + 1)
    let r := (List.range n).foldl t.moveNth (s.useFree, stOk)
    r.1.endTransfer t stSquashed

/-- A command of a function that has not taken effect when the function is reset (17 R398 (b)). -/
def Wait.unstarted : Wait → Bool
  | .transfer _ => false
  | .kitCreate _ => true
  | w => w.undone

/-- Inbound transfers of partitions are turned away. -/
def State.squashInbound (s : State) (parts : List Nat) : State :=
  (s.peal.inbound.filter fun x => parts.contains x.partition && x.batchKit.isNone).foldl (fun (s : State) x =>
    ({ s with peal := { s.peal with
        inbound := s.peal.inbound.filter fun y => !(y.source == x.source && y.transfer == x.transfer) } }).toMember
      x.source 0 .ringNack [x.transfer, stSquashed] []) s

/-- Steps (a) to (d) of a reset. -/
def State.resetFunction (s : State) (f : Nat) : State :=
  let v := s.function f
  let gone := (s.functionCommands f).filter fun c => c.wait.unstarted
  let s1 := s.modFunction f fun v =>
    { v with mode := .resetting, wasSaved := v.mode == .saved, squashed := gone.length, resuming := false }
  let drop (s : State) (c : Command) : State :=
    let s1 := match c.wait with
      | .kitCreate k => { s with creations := s.creations.filter fun x => x.kit.id != k }
      | _ => s
    s1.failCommand c stSquashed
  let s2 := gone.foldl drop s1
  let s3 := (s2.mem.transfers.filter fun t =>
    t.function == f || (t.almanac.isSome && v.partitions.contains t.partition)).foldl (fun s t => s.squashTransfer t) s2
  let s4 := s3.squashInbound v.partitions
  let s5 := { s4 with crings := s4.crings.map fun (r : Nat × CRing) => (r.1, if r.1 / 32 = f then { r.2 with waiting := [] } else r.2) }
  (s5.contextsOf f).foldl (fun s c => s.loseContext c stSquashed) s5

/-- VF_RESET; a VF_FREEZE that has not completed ends with ST_SQUASHED. -/
def vfResetEffect (c : Call) (s : State) : Verdict :=
  let f := c.arg 0
  guards (c.vfGuards ++ c.vfMode s fun m => m == .enabled || m == .freezing || m == .frozen || m == .saved)
    (let s1 := (s.commands.filter fun o => o.wait == .vfFreeze f).foldl (fun s o => s.complete o stSquashed 0 0) s
     .defer (s1.resetFunction f) (.vfReset f) 0)

/-- A partition that only this virtual function may use gives up its scratch, its Almanac entries and its Chimes (17 R398 (f) to
(h)). -/
def State.clearPartition (s : State) (p : Nat) : State :=
  let k := s.partition p
  let own := (s.mem.granules.filter fun g => g.2.partition == p).map (·.1)
  let s1 := own.foldl (fun s g =>
    ((s.granuleSlots g).foldl (fun s x => s.dropLine x) s).modGranule g fun x => { x with mode := .cache, spread := none }) s
  let mine (a : Nat) : Bool := own.contains (a / 2048)
  let s2 : State := { s1 with mem := { s1.mem with
    t1 := own.foldl (fun m g => memZero m (g * 2 ^ 23) (2 ^ 23)) s1.mem.t1
    tags := s1.mem.tags.filter fun t => !(mine t.1)
    deadBits := s1.mem.deadBits.filter fun x => !(mine x)
    poison1 := s1.mem.poison1.filter fun x => !(mine (x / 32)) } }
  let off (l : List (Nat × AlmanacEntry)) : List (Nat × AlmanacEntry) := l.map fun e =>
    (e.1, if k.almanacFirst ≤ e.1 ∧ e.1 < k.almanacFirst + k.almanacCount then { e.2 with valid := false } else e.2)
  let gone (i : Nat) : Bool := decide (k.almanacFirst ≤ i) && decide (i < k.almanacFirst + k.almanacCount)
  let a := s2.almanac
  let s3 : State := { s2 with almanac := { a with
    entries := off a.entries, staged := off a.staged, due := a.due.filter fun d => !(gone d.index) } }
  ((List.range k.chimeCount).map (· + k.chimeBase)).foldl (fun s c => (s.setError c stSquashed).setChime c Chime.initial) s3

/-- The Contexts of a function are destroyed as far as they can be (12 Table 12-3, LOST). -/
def State.destroyContexts (s : State) (f : Nat) : Nat → State
  | 0 => s
  | fuel + 1 =>
    let s1 := (s.contextsOf f).foldl (fun s c => (s.modContext c fun k => { k with mode := .destroying }).destroyContext c)
      (s.endClosing.endRetiring)
    if (s1.contextsOf f).isEmpty || s1.kits.length == s.kits.length then s1 else s1.destroyContexts f fuel

/-- VF_RESET_COMPLETE: steps (e) to (h), when every write has been performed (17 R398, R399). -/
def State.vfResetComplete (s : State) (f : Nat) : State :=
  let v := s.function f
  if v.mode ≠ .resetting then s
  else
    let s1 := s.destroyContexts f (s.kits.length + 2)
    if !(s1.contextsOf f).isEmpty then s1
    else
      let queues := s1.functionQueues f
      let s2 : State := { s1 with
        queues := s1.queues.filter fun q => !(queues.contains q.1)
        crings := s1.crings.filter fun r => r.1 / 32 != f }
      let own := v.partitions.filter fun p => !(s.functions.any fun w => w.1 != f && w.2.partitions.contains p)
      let s3 := own.foldl (fun s p => s.clearPartition p) s2
      let s4 := s3.modFunction f fun v => { v with mode := .enabled, wasSaved := false }
      (s4.commands.filter fun c => c.wait == .vfReset f).foldl (fun s c => s.complete c stOk 0 v.squashed) s4

/-! ### Freeze (17 R400 to R402) -/

/-- VF_FREEZE. -/
def vfFreezeEffect (c : Call) (s : State) : Verdict :=
  let f := c.arg 0
  let v := s.function f
  let shared := s.functions.any fun w => w.1 != f && w.2.partitions.any v.partitions.contains
  let peal := (s.functionKits f).any fun k => isPealKit k.1
  let seqs := s.sequences.any fun q => q.2.mode != .free && isPealKit q.2.kit && v.partitions.contains q.2.partition
  guards (c.vfGuards ++ c.vfMode s (· == .enabled) ++ [(shared || peal || seqs, s.conflict 9 v.mode.code)])
    (let beat := s.beat.number + if s.beat.building then 2 else 1
     .defer (s.modFunction f fun v => { v with mode := .freezing, freezeBeat := beat }) (.vfFreeze f) 0)

/-- A wait that a frozen function keeps (17 R402 (b)). -/
def Wait.keeps : Wait → Bool
  | .barrier | .chime _ _ | .kitLaunch _ _ _ | .list _ | .append _ | .seqClose _ | .memFree _ | .queueDestroy _ | .contextDestroy _
  | .kitDestroy _ | .unload _ => true
  | _ => false

/-- DIRTY lines of partitions are written back and CLEAN (17 R402 (e)). -/
def State.cleanLines (s : State) (parts : List Nat) : State :=
  (s.mem.lines.filter fun l => parts.contains l.2.partition && l.2.mode == .dirty).foldl (fun s l =>
    let s1 := s.writeBack l.1 l.2
    { s1 with mem := { s1.mem with lines := tmod s1.mem.lines l.1 fun k => { k with mode := .clean } } }) s

/-- A transfer reads or writes a partition of a function. -/
def State.movesOf (s : State) (parts : List Nat) (t : Transfer) : Bool :=
  let handle (h : Nat) : Bool := h != 0 && parts.contains (h / 2 ^ 48 % 64)
  let side (space a : Nat) : Bool := space == 0 && parts.any fun p => s.nameable false p a 128
  parts.contains t.partition || handle t.srcHandle || handle t.dstHandle || side t.srcSpace t.src || (!t.ring && side t.dstSpace t.dst)

/-- The conditions of 17 R402 but (e). -/
def State.canFreeze (s : State) (f : Nat) : Bool :=
  let v := s.function f
  let kits := (s.functionKits f).map (·.1)
  let running (t : Task) : Bool := match t.mode with | .running _ => true | _ => false
  decide (v.freezeBeat ≤ s.beat.number) &&
    !(s.lists.any fun l => kits.contains l.kit && l.open_ && l.tasks.any running) &&
    (s.functionCommands f).all (fun c => c.wait.keeps) && !(s.mem.transfers.any (s.movesOf v.partitions)) &&
    !(s.peal.inbound.any fun x => v.partitions.contains x.partition && x.batchKit.isNone) &&
    !(s.sequences.any fun q => kits.contains q.2.kit && q.2.inFlight != 0) &&
    !((s.functionKits f).any fun k => !k.2.results.isEmpty)

/-- FREEZE_COMPLETE. -/
def State.freezeComplete (s : State) (f : Nat) : State :=
  if (s.function f).mode ≠ .freezing ∨ !(s.canFreeze f) then s
  else
    let s1 := (s.cleanLines (s.function f).partitions).modFunction f fun v => { v with mode := .frozen }
    s1.completeWhere fun c => c.wait == .vfFreeze f

/-- At D(F) the PREEMPTIBLE tasks of a FREEZING function are switched out (17 R401 (e)). -/
def State.freezeTasks (s : State) (f : Nat) : State :=
  let kits := (s.functionKits f).map (·.1)
  (s.cores.map (·.1)).foldl (fun s c =>
    match (s.core c).block with
    | some b =>
      if kits.contains b.kit && (s.task b.list b.task).any (·.record.preemptible) then s.clearCore c else s
    | none => s) s

/-! ### Save (17 R403) -/

/-- The place of an image is one that 17 Table 17-4 allows for `n` bytes. -/
def Call.imagePlace (c : Call) (s : State) (n : Nat) : Bool :=
  let a := c.arg 2
  if c.arg 1 = 0 then a % 4096 == 0 && ((isCoherent a && s.cijan.mode != .up) || s.nameable true 0 a n) &&
    (isCoherent a || (match region a with | .tier1 => true | _ => false))
  else (s.objectOf a).any fun o => o.2.partition == 0 && decide (n ≤ o.2.footprint) && !o.2.tiled

/-- The refusals of an image in a memory object by its state. -/
def Call.imageObject (c : Call) (s : State) : List (Bool × Verdict) :=
  match (if c.arg 1 = 1 then s.objectOf (c.arg 2) else none) with
  | some (_, o) => [(s.lostContext o.context, plain stContextLost), (o.mode == .retiring, s.conflict 3 o.mode.code)]
  | none => []

/-- VF_SAVE: with CAPACITY 0 it only reports IMAGE_BYTES. -/
def vfSaveEffect (c : Call) (s : State) : Verdict :=
  let f := c.arg 0
  let capacity := c.arg 3
  let size := imageSize (s.sections f)
  let saves := capacity != 0
  guards (c.vfGuards ++ [(decide (1 < c.arg 1), c.bad 1), (saves && !(c.imagePlace s (min size capacity)), c.bad 2)] ++
      (if saves then c.imageObject s else []) ++ c.vfMode s (fun m => m == .frozen || m == .saved) ++
      [(saves && c.arg 1 == 0 && isCoherent (c.arg 2) && s.cijan.mode != .up, plain stCoherentDown),
       (saves && decide (capacity < size), .refuse stNoSpace 0 size)])
    (if saves then
      .defer (s.modFunction f fun v =>
        { v with mode := .saving, imageSpace := c.arg 1, imageAt := c.arg 2, imageLength := size }) (.vfSave f) 0
     else .done s size)

/-- Bytes written at a place of an image: state and status. -/
def State.writeImage (s : State) (space at_ : Nat) (bytes : List Byte) : State × Nat :=
  if space = 1 then
    match s.objectOf at_ with
    | some (i, o) => s.objWriteRaw i o 0 bytes
    | none => (s, stBadParam)
  else if isCoherent at_ && s.cijan.mode != .up then (s, stCoherentDown)
  else (s.sysWrite at_ bytes, stOk)

/-- IMAGE_WRITTEN: the image is in place, or a write to the target has failed (17 Table 17-3, Table 17-8); `error` is the status of an
uncorrectable error met in the target, 0 for none. -/
def State.imageWritten (s : State) (f error : Nat) : State :=
  let v := s.function f
  if v.mode ≠ .saving then s
  else
    let image := s.image f
    let r := if error = 0 then s.writeImage v.imageSpace v.imageAt image else (s, error)
    let ok := r.2 == stOk
    let s1 := r.1.modFunction f fun v =>
      { v with mode := if ok then .saved else .frozen, imageBytes := if ok then image.length else v.imageBytes }
    (s1.commands.filter fun c => c.wait == .vfSave f).foldl (fun s c => s.complete c r.2 0 (if ok then image.length else 0)) s1

/-! ### Resume (17 R408) -/

/-- VF_RESUME: accepted, it takes effect at the next downbeat. -/
def vfResumeEffect (c : Call) (s : State) : Verdict :=
  guards (c.vfGuards ++ c.vfMode s fun m => m == .frozen || m == .saved)
    (.done (s.modFunction (c.arg 0) fun v => { v with resuming := true }) 0)

/-- A beat number moved by the length of a freeze. -/
def rebased (beat n freeze : Nat) : Nat := (((beat : Int) + n - freeze).toNat) % 2 ^ 64

/-- A function resumes at the downbeat of the running beat. -/
def State.resumeFunction (s : State) (f : Nat) : State :=
  let v := s.function f
  let n := s.beat.number
  let ctxs := s.contextsOf f
  let move (x : Sequence) : Sequence :=
    { x with nextDue := rebased x.nextDue n v.freezeBeat
             appends := x.appends.map fun a => { a with beat := rebased a.beat n v.freezeBeat } }
  let s1 : State := { s with
    sequences := s.sequences.map fun q => (q.1, if ctxs.contains q.2.context then move q.2 else q.2)
    queues := s.queues.map fun q =>
      (q.1, if s.inRange f q.1 ∧ q.2.mode = .active ∧ q.2.head < q.2.tail then { q.2 with leaf := true } else q.2) }
  s1.modFunction f fun v => { v with mode := .enabled, resuming := false }

/-- Functions at a downbeat: those that resume, then those whose freeze beat has come. -/
def State.functionsDownbeat (s : State) : State :=
  s.functions.foldl (fun s f =>
    if f.2.resuming then s.resumeFunction f.1
    else if f.2.mode = .freezing ∧ f.2.freezeBeat = s.beat.number then s.freezeTasks f.1
    else s) s

end Sys2Proof.Machine
end

