-- ==== Sys2Proof/Machine/Restore.lean ====
section
/-!
DEFINITION. VF_RESTORE: an image is tested and a function is built again from it (17 R406, R407).
-/
namespace Sys2Proof.Machine
open Sys2Proof

/-! ### Records of an image -/

/-- The value among `l` whose code is `n`. -/
def decodeBy {α : Type} (l : List α) (code : α → Nat) (d : α) (n : Nat) : α := (l.find? fun x => code x == n).getD d

/-- Records of `n` bytes of a section. -/
def Section_.records (x : Section_) (n : Nat) : List (List Byte) := (List.range x.count).map fun i => slice x.bytes (n * i) n

/-- Bytes as a memory of their own. -/
def memOf (bytes : List Byte) : Memory := ((List.range bytes.length).zip bytes).filter fun c => c.2 != 0

/-- Numbers of the Contexts of an image, with their entries. -/
def imageContexts (b : List Byte) : List (Nat × Context) :=
  ((imageSection b 3).records 512).map fun r =>
    (field r 64 2,
     { mode := decodeBy [.free, .active, .lost, .destroying] ContextMode.code .free (field r 0 1), partition := field r 1 1,
       function := field r 2 2, noticeRing := field r 4 1, lossStatus := field r 6 2, lossBeat := field r 8 8,
       lossOffset := field r 16 4, viaQueue := none })

/-- A queue from its descriptor. -/
def Queue.ofBytes (b : List Byte) : Queue :=
  { Queue.free with
    ringBase := field b 0 8, head := field b 8 8, tail := field b 16 8, kit := field b 24 4, context := field b 28 2,
    partition := field b 30 1, log2Size := field b 31 1, function := field b 32 2, completionRing := field b 34 1,
    mode := decodeBy [.free, .active, .stopped, .broken, .draining] QueueMode.code .free (field b 35 1),
    chimeBase := field b 36 4, chimeCount := field b 40 4, ownChimeBase := field b 36 4, ownChimeCount := field b 40 4,
    weight := field b 44 1 }

/-- Queues of an image that are not FREE. -/
def imageQueues (b : List Byte) (first : Nat) : List (Nat × Queue) :=
  let l := (imageSection b 4).records 64
  (((List.range l.length).zip l).map fun e => (first + e.1, Queue.ofBytes e.2)).filter fun q => q.2.mode != .free

/-- An unfinished list of a Kit in an image: address and the tasks' bits. -/
structure ListImage where
  kit : Nat
  address : Nat
  tasks : List Nat

/-- The lists of a Kit from its record's last part, and what follows. -/
def listImages (kit : Nat) : Nat → List Byte → List ListImage × List Byte
  | 0, b => ([], b)
  | k + 1, b =>
    let n := field b 8 4
    let m := ceilDiv (2 * n) 128 * 16
    let v := field b 16 m
    let x : ListImage := { kit, address := field b 0 8, tasks := (List.range n).map fun i => v / 4 ^ i % 4 }
    let r := listImages kit k (b.drop (16 + m))
    (x :: r.1, r.2)

/-- A Kit of an image: the Kit without units and placement, the number of its direct units, whether a placement holds, its lists. -/
structure KitImage where
  kit : Kit
  units : Nat
  placed : Bool
  lists : List ListImage

/-- A Kit from its record, and what follows the record. -/
def kitImage (b : List Byte) : KitImage × List Byte :=
  let k := Kit.ofBlock (field b 4 4) b []
  let x := slice b 64 64
  let flags := field x 2 1
  let n := field x 8 4
  let records := (List.range n).map fun i => DescRecord.ofBytes (slice b (128 + 64 * i) 64)
  let lists := listImages k.id (field x 5 1) (b.drop (128 + 64 * n))
  let policy : SeqPolicy :=
    { denseLimit := field x 48 2 * 64, chunkMax := field x 50 2, sinkPages := field x 52 2, recentPages := field x 54 2,
      topPages := field x 56 2, heads := field x 58 2, dims := field x 60 2, slipLimit := field x 62 2 }
  let mode := decodeBy [.created, .loading, .placing, .admitted, .unloading, .retiring, .lost] KitMode.code .created (field x 0 1)
  let kit : Kit := { k with
    mode, degraded := bit flags 0, lostCores := field x 6 2, consecutive := field x 4 1, overrunSoft := field x 12 4,
    overrunHard := field x 16 4, buildShort := field x 20 4, almanacLate := field x 24 4, almanacSkipped := field x 28 4,
    transferOverrun := field x 32 4, scoreLate := field x 36 4, summaryFail := field x 40 4, noResults := field x 44 4,
    seqPolicy := policy, load := if bit flags 1 then some { replica := field x 3 1, records } else none }
  ({ kit, units := field b 14 2, placed := bit flags 3, lists := lists.1 }, lists.2)

/-- The Kits of an image. -/
def kitImages : Nat → List Byte → List KitImage
  | 0, _ => []
  | n + 1, b => let r := kitImage b; r.1 :: kitImages n r.2

/-- The Kits of an image, ascending KIT_ID. -/
def imageKits (b : List Byte) : List KitImage := let x := imageSection b 5; kitImages x.count x.bytes

/-- An object of an image, by its index. -/
def objectImageOf (r : List Byte) : Nat × Object :=
  let h := field r 0 8
  let flags := field r 21 1
  (h % 2 ^ 20,
   { generation := h / 2 ^ 20 % 2 ^ 28, footprint := field r 8 8, tiles := field r 16 4,
     mode := decodeBy [.free, .live, .bound, .retiring] ObjectMode.code .free (field r 20 1), tiled := bit flags 0,
     pool := bit flags 1, summary := bit flags 2, unreadable := bit flags 3, context := field r 22 2, partition := field r 24 1,
     firstPair := field r 25 1, pairs := maskParts (field r 26 2), bindings := field r 32 2, marked := false, units := [],
     granules := [] })

/-- Memory objects of an image. -/
def imageObjects (b : List Byte) : List (Nat × Object) := ((imageSection b 7).records 64).map objectImageOf

/-- The partition records of an image: partition and 1,152 bytes. -/
def imagePartitions (b : List Byte) : List (Nat × List Byte) := ((imageSection b 2).records 1152).map fun r => (field r 0 1, r)

/-- SCRATCH granules of an image, with their 8,425,472 bytes. -/
def imageScratch (b : List Byte) : List (Nat × List Byte) :=
  let gs := (imagePartitions b).flatMap fun p => mapBits 2048 (slice p.2 640 256)
  let x := imageSection b 9
  let sorted := sortBy (fun a b => decide (a ≤ b)) gs
  ((List.range sorted.length).zip sorted).map fun e => (e.2, slice x.bytes (8425472 * e.1) 8425472)

/-- Bytes of tier 1 as an image gives them. -/
def scratchRead (l : List (Nat × List Byte)) (a n : Nat) : List Byte :=
  match tget l (a / 2 ^ 23) with
  | some b => slice b (a % 2 ^ 23) n
  | none => zeros n

/-! ### Tests (17 R406 (b) to (e)) -/

/-- Coherent addresses that an image's rings and queues name, with the bytes from there and the partition. -/
def imageCoherent (b : List Byte) (first : Nat) : List (Nat × (Nat × Nat)) :=
  let rings := (List.range 32).map fun r => CRing.ofBytes (slice (slice (imageSection b 1).bytes 2048 2048) (64 * r) 64)
  let parts := (imagePartitions b).map (·.1)
  let ringPlaces := rings.flatMap fun (r : CRing) =>
    if r.base = 0 then [] else parts.map fun p => (r.base, (32 * 2 ^ r.log2Size, p))
  let queuePlaces := (imageQueues b first).map fun q => (q.2.ringBase, (64 * 2 ^ q.2.log2Size, q.2.partition))
  (ringPlaces ++ queuePlaces).filter fun x => isCoherent x.1

/-- The first partition of an image whose carve-out differs here, or that is in use (17 R406 (c)). -/
def State.partitionDiffers (s : State) (p : Nat) (r : List Byte) : Bool :=
  let mine := s.partitionBytes p
  let theirs := slice r 128 512
  let tier2 (b : List Byte) : List Nat := mapBits 1024 (slice b 256 128)
  let inPair (l : List Nat) (q : Nat) : Nat :=
    (l.filter fun g => if q < 10 then g < 1020 && g / 102 == q else decide (1020 ≤ g)).length
  slice mine 0 256 != slice theirs 0 256 || slice mine 384 16 != slice theirs 384 16 ||
    (List.range 11).any (fun q => inPair (tier2 mine) q != inPair (tier2 theirs) q) ||
    s.contexts.any (fun c => c.2.mode != .free && c.2.partition == p && c.1 != 65535) ||
    s.objects.any (fun o => o.2.mode != .free && o.2.partition == p) ||
    s.mem.lines.any fun l => l.2.partition == p && l.2.pin

/-- The sequence range that an image's SCRATCH gives a placed Kit, with the header of its sequence area. -/
def KitImage.area (k : KitImage) (scratch : List (Nat × List Byte)) : Option (List Byte) :=
  match k.kit.load.bind (·.kv) with
  | none => none
  | some _ =>
    let top := k.kit.scratchBase + k.kit.scratchSize
    let size (l : Load) (slots : Nat) : Nat :=
      areaSize (Machine.stepSlots ((l.batch.map (·.1)).getD 0)) ((l.kv.map (·.arg1)).getD 0) slots
    let l := k.kit.load.getD ⟨0, []⟩
    let good (n : Nat) : Bool :=
      let h := scratchRead scratch (top - size l n) 352
      let q := field h 18 1
      field h 12 4 == (l.kv.map (·.arg1)).getD 0 && ((List.range q).map fun i => field h (48 + 32 * i) 4).sum == n
    (firstFrom good 1 2097152).map fun n => scratchRead scratch (top - size l n) 352

/-- The pool that a sequence area's header names. -/
def areaPool (h : List Byte) : List PoolPair :=
  (List.range (field h 18 1)).map fun i =>
    { pair := field h (52 + 32 * i) 1, granules := [], handle := field h (32 + 32 * i) 8, slots := field h (48 + 32 * i) 4,
      summaryHandle := field h (40 + 32 * i) 8 }

/-- Tests (b) to (e) of an image for a function. -/
def State.imageConflicts (s : State) (f : Nat) (b : List Byte) : List (Bool × Verdict) :=
  let v := s.function f
  let parts := imagePartitions b
  let scratch := imageScratch b
  let ranges := (imageKits b).filterMap fun k => if k.placed then k.area scratch else none
  let seqTaken := ranges.any fun h => s.kits.any fun k => k.2.placement.any fun p =>
    p.seqCount != 0 && overlap (field h 8 4) (field h 12 4) p.seqBase p.seqCount
  let ctx := (imageContexts b).find? fun c => (s.context c.1).mode != .free
  let kit := (imageKits b).find? fun k => (s.kit k.kit.id).isSome || s.creations.any fun x => x.kit.id == k.kit.id
  let object := (imageObjects b).find? fun o => (tget s.objects o.1).any (·.mode != .free)
  [(v.mode != .enabled || !(s.vfEmpty f) || field b 32 4 != v.firstQueue || field b 36 4 != v.queueCount ||
      field b 24 8 != maskOf v.partitions || field b 6 2 != f, s.conflict 9 v.mode.code),
   (parts.any fun p => s.partitionDiffers p.1 p.2, s.conflict 0 0),
   (ctx.isSome, s.conflict 2 (s.context ((ctx.map (·.1)).getD 0)).mode.code),
   (kit.isSome, s.conflict 5 (s.kitCode ((kit.map (·.kit.id)).getD 0))),
   (seqTaken, s.conflict 6 0),
   (object.isSome, s.conflict 3 (((object.bind fun o => tget s.objects o.1).map (·.mode.code)).getD 0)),
   ((imageCoherent b v.firstQueue).any fun x => (s.window x.2.2 x.1 x.2.1).isNone, badBlock 0)]

/-! ### Rebuilding (17 R407) -/

/-- Last granule of the SPREAD run that begins at `g`: before the next start, in consecutive SCRATCH granules, at most 64. -/
def runLength (scratch starts : List Nat) (g : Nat) : Nat :=
  ((List.range 64).takeWhile fun i => i == 0 || (scratch.contains (g + i) && !(starts.contains (g + i)))).length

/-- Modes and SPREAD runs of a partition's granules. -/
def State.restoreModes (s : State) (r : List Byte) : State :=
  let scratch := mapBits 2048 (slice r 640 256)
  let starts := mapBits 2048 (slice r 896 256)
  let s1 := scratch.foldl (fun s g =>
    ((s.granuleSlots g).foldl (fun s x => (s.evict x).dropLine x) s).modGranule g fun k => { k with mode := .scratch, spread := none }) s
  starts.foldl (fun s g =>
    let n := runLength scratch starts g
    (List.range n).foldl (fun s i => s.modGranule (g + i) fun k => { k with spread := some (g, n) }) s) s1

/-- Contents of a SCRATCH granule. -/
def State.restoreScratch (s : State) (g : Nat) (b : List Byte) : State :=
  let tags := (List.range 2048).foldl (fun (m : MemState) l =>
    m.setTag (g * 2048 + l) (Tag.ofBytes (slice b (2 ^ 23 + 16 * l) 16))) s.mem
  let dead := (mapBits 2048 (slice b (2 ^ 23 + 32768) 256)).map (· + g * 2048)
  let m : MemState := { tags with
    t1 := memPaste tags.t1 (g * 2 ^ 23) (2 ^ 23) (memOf (slice b 0 (2 ^ 23)))
    deadBits := (tags.deadBits.filter fun x => x / 2048 != g) ++ dead
    poison1 := tags.poison1.filter fun x => x / 65536 != g }
  { s with mem := m }

/-- A memory object takes its place and contents: none where the partition has no room. -/
def State.restoreObject (s : State) (i : Nat) (o : Object) (data : List Byte) : Option State :=
  let put (o : Object) : State :=
    let s1 : State := { s with objects := tset s.objects i o }
    s1.objWrite2 o 0 data
  if o.pool || o.summary then
    let pair := o.pairs.headD 0
    let n := if o.pool then o.footprint / 2 ^ 30 else summaryGranules o.tiles
    let free := s.freePairGranules o.partition pair
    if free.length < n then none
    else
      let gs := free.take n
      let per := 2 ^ 30 / unitBytes
      let units := if o.pool then [] else (List.range (ceilDiv o.tiles 32)).map fun u =>
        ({ pair, base := gs.getD (u / per) 0 % 102 * 2 ^ 30 + u % per * unitBytes } : Extent)
      some (put { o with granules := gs, units })
  else
    (s.layout2 o.partition o.footprint).map fun l =>
      put { o with firstPair := l.1, units := l.2, pairs := (l.2.map (·.pair)).foldl addOnce [] }

/-- All objects: pool and summary objects first. -/
def State.restoreObjects (s : State) (b : List Byte) : Option State :=
  let objects := imageObjects b
  let data := (imageSection b 8).bytes
  let places := objects.foldl (fun (x : List (Nat × (Object × Nat)) × Nat) o => (x.1 ++ [(o.1, o.2, x.2)], x.2 + o.2.footprint)) ([], 0)
  let order := (places.1.filter fun e => e.2.1.pool || e.2.1.summary) ++ places.1.filter fun e => !(e.2.1.pool || e.2.1.summary)
  let destroyed := (imageContexts b).filterMap fun c => if c.2.mode = .destroying then some c.1 else none
  order.foldl (fun (x : Option State) e => x.bind fun s =>
    let o := { e.2.1 with marked := e.2.1.mode == .bound && destroyed.contains e.2.1.context }
    s.restoreObject e.1 o (slice data e.2.2 o.footprint)) (some s)

/-- Listed code words are poisoned. -/
def State.restorePoison (s : State) (b : List Byte) : State :=
  ((imageSection b 14).records 16).foldl (fun s r =>
    let i := field r 0 4
    match tget s.objects i with
    | none => s
    | some o =>
      let l := o.locate (field r 8 8)
      { s with mem := { s.mem with pairs := lmod s.mem.pairs l.1 fun p => { p with poison := addOnce p.poison (l.2 / 512 * 512) } } }) s

/-- Kits that a Kit of an image has below it. -/
def childImages (l : List KitImage) (k : Nat) : List Nat :=
  (l.filter fun x => x.kit.parent == k).map (·.kit.id)

/-- What a restore has built, or the Kit that does not fit with its finding. -/
structure Rebuilt where
  s : State
  misfit : Option (Nat × Finding)
  room : Bool

/-- A Kit takes units of the device Kit, and its place under a new admission. -/
def State.restoreKit (s : State) (all : List KitImage) (scratch : List (Nat × List Byte)) (x : KitImage) : Rebuilt :=
  let children := childImages all x.kit.id
  let free := match s.kit 0 with
    | some d => sortBy (fun a b => decide (a ≤ b)) (s.directCores d)
    | none => []
  let cores := free.take (x.units - children.length)
  let s1 := s.modKit 0 fun d =>
    { d with units := (d.units.filter fun u => !(cores.any fun c => u == .core c)) ++ if x.kit.parent = 0 then [.kit x.kit.id] else [] }
  let k := { x.kit with units := cores.map KitUnit.core ++ children.map KitUnit.kit }
  let s2 : State := { s1 with kits := tset s1.kits k.id k }
  match (if x.placed then k.load else none) with
  | none => ⟨s2, none, true⟩
  | some l =>
    let header := x.area scratch
    let pool := (areaPool (header.getD [])).map fun (q : PoolPair) =>
      { q with granules := ((s2.objectOf q.handle).map (·.2.granules)).getD [] }
    let f0 := s2.placeKit k l l.whole k.percentile k.marginShare none
    let keep : Placement := { f0.placement with
      pool, seqBase := field (header.getD []) 8 4, seqCount := field (header.getD []) 12 4 }
    let f := s2.placeKit k l l.whole k.percentile k.marginShare (some keep)
    let p := { f.placement with tilesInPlace := true }
    let s3 := (s2.placeTiles p).modKit k.id fun y => { y with placement := some p }
    ⟨s3, if f.failing.isEmpty ∨ k.mode ≠ .admitted then none else some (k.id, f), true⟩

/-- Page map of a Sequence from its slot in SCRATCH: map blocks and pages (10 R245). -/
def State.readMap (s : State) (k : Kit) (p : Placement) (q : Nat) : List (Nat × Nat) × List (Nat × Nat) :=
  let word (a : Nat) : Nat := field (s.readT1 a 4) 0 4
  let blocks := ((List.range 64).map fun i => (i, word (k.seqSlot p q + 4 * i))).filter fun e => e.2 != 0xFFFFFFFF
  let pages := blocks.flatMap fun e =>
    ((List.range 256).map fun i => (256 * e.1 + i, word (k.mapBlock p e.2 + 4 * i))).filter fun x => x.2 != 0xFFFFFFFF
  (blocks, pages)

/-- A Sequence from its entry; the commands of its appends are those of the restored function. -/
def sequenceOf (r : List Byte) (appenders : List Nat) (map : List (Nat × Nat) × List (Nat × Nat)) : Sequence :=
  let flags := field r 1 1
  let beat := field r 80 8
  let appends := (List.range (field r 11 1)).map fun i =>
    ({ address := field r (128 + 16 * i) 8, count := field r (136 + 16 * i) 4, done := field r (140 + 16 * i) 4, beat,
       command := appenders.getD i 0 } : Append)
  { mode := decodeBy [.free, .waiting, .prefill, .decode, .paused, .closing, .lost] SeqMode.code .free (field r 0 1),
    autoDecode := bit flags 0, inFlight := 0, kvWait := bit flags 2, priority := field r 2 1, endReason := field r 3 1,
    kit := field r 4 4, context := field r 8 2, partition := field r 10 1, position := field r 12 4, pending := field r 16 4,
    generated := field r 20 4, genLimit := field r 24 4, stepInterval := field r 28 2, nextDue := field r 32 8,
    outCount := field r 40 8, chime := field r 48 4, slipped := field r 52 4, output := field r 56 8,
    outputLen := field r 64 4, seed := field r 72 8, appends, lastResult := slice r 256 128, pages := map.2,
    mapBlocks := map.1, epoch := appends.length }

/-- Sequences of the placed Kits, in the order of the image. -/
def State.restoreSequences (s : State) (b : List Byte) : State :=
  let entries := imageSection b 6
  let step (x : State × Nat) (ki : KitImage) : State × Nat :=
    match x.1.kit ki.kit.id with
    | some k =>
      match k.placement with
      | some p =>
        let one (s : State) (i : Nat) : State :=
          let q := p.seqBase + i
          let r := slice entries.bytes (512 * (x.2 + i)) 512
          if field r 0 1 = 0 then s
          else
            let who := (s.commands.filter fun c => c.op == .seqAppend && param c.op c.packet 0 == q).map (·.id)
            { s with sequences := tset s.sequences q (sequenceOf r who (s.readMap k p q)) }
        ((List.range p.seqCount).foldl one x.1, x.2 + p.seqCount)
      | none => x
    | none => x
  ((imageKits b).foldl step (s, 0)).1

/-- Chimes and Almanac entries of a partition. -/
def State.restoreRanges (s : State) (b : List Byte) : State :=
  let parts := (imagePartitions b).map (·.1)
  let chimes := parts.flatMap fun p => let x := s.partition p; (List.range x.chimeCount).map (· + x.chimeBase)
  let entries := parts.flatMap fun p => let x := s.partition p; (List.range x.almanacCount).map (· + x.almanacFirst)
  let s1 := (chimes.zip ((imageSection b 10).records 16)).foldl (fun s e =>
    s.setChime e.1 { counter := BitVec.ofNat 64 (field e.2 0 8), error := field e.2 8 2, lowCount := field e.2 10 2,
                     context := field e.2 12 2, partition := field e.2 15 1 }) s
  (entries.zip ((imageSection b 11).records 32)).foldl (fun (s : State) e =>
    { s with almanac := { s.almanac with entries := putEntry s.almanac.entries e.1 (AlmanacEntry.ofBytes e.2) } }) s1

/-- What a command of an image waits for; a list is that of the first open list of its Kit and address. -/
def State.restoredWait (s : State) (c : Command) (barred : Bool) : Wait :=
  let a := param c.op c.packet
  if barred then .barrier
  else match c.op with
  | .chimeWait => .chime ((s.queue c.queue).deviceChime (a 0)) (a 1)
  | .kitLaunch =>
    match s.lists.find? fun l => l.kit == a 0 && l.address == a 1 && l.open_ && l.launcher == .almanac 0 with
    | some l => .list l.id
    | none => .kitLaunch (a 0) (a 1) (a 2)
  | .seqAppend => .append (a 0)
  | .seqClose => .seqClose (a 0)
  | .memFree => .memFree (a 0)
  | .queueDestroy => .queueDestroy (a 0)
  | .contextDestroy => .contextDestroy (a 0)
  | .kitDestroy => .kitDestroy (a 0)
  | .modelUnload => .unload (a 0)
  | _ => .barrier

/-- An outstanding command takes its place again. -/
def State.restoreCommand (s : State) (r : List Byte) : State :=
  let q := field r 0 4
  let c0 : Command :=
    { id := s.nextId, queue := q, index := field r 8 8, op := opOf (field r 16 2), packet := Packet.ofBytes (slice r 16 64),
      wait := .barrier, readBeat := s.beat.number, readAt := s.now, beforeBuild := true, result := 0, context := (s.queue q).context }
  let barred := c0.packet.barrier && s.commands.any fun o => o.queue == q
  let w := s.restoredWait c0 barred
  let s1 : State := { s with nextId := s.nextId + 1, commands := s.commands ++ [{ c0 with wait := w }] }
  match w with
  | .chime h t => { s1 with waiters := s1.waiters ++ [{ chime := h, target := BitVec.ofNat 64 t, waiter := .command c0.id }] }
  | .list id => s1.modList id fun l => { l with launcher := .command c0.id }
  | _ => s1

/-- An unfinished list is open again: its tasks' records lie in SCRATCH. -/
def State.restoreList (s : State) (ctx : Nat) (x : ListImage) : State :=
  let records := (s.listRecords x.address x.tasks.length).map TaskRecord.ofBytes
  let s1 := s.launch x.kit ctx x.address records (.almanac 0) [] 0 []
  let mark (t : Task) (b : Nat) : Task :=
    { t with mode := if b = 1 then .retired else if b = 2 then .saved else .waiting, switches := if b = 2 then 1 else 0 }
  s1.modList s.nextId fun l => { l with tasks := (l.tasks.zip x.tasks).map fun t => mark t.1 t.2 }

/-- The first placed Kit, ascending, that does not fit. -/
def State.restoreKits (s : State) (b : List Byte) : Rebuilt :=
  let all := imageKits b
  let scratch := imageScratch b
  all.foldl (fun (x : Rebuilt) k =>
    let r := x.s.restoreKit all scratch k
    { r with misfit := x.misfit.orElse fun _ => r.misfit }) ⟨s, none, true⟩

/-- Software pins are made again. -/
def State.restorePins (s : State) (b : List Byte) : State :=
  ((imageSection b 12).records 16).foldl (fun s r =>
    let i := field r 0 4
    match tget s.objects i with
    | none => s
    | some o => (List.range (field r 12 4)).foldl (fun s j =>
        let t := s.touchLine i o (field r 8 4 + j) false
        if t.status = stOk then t.s.pinLine t.slot else t.s) s) s

/-- The function as an image gives it (17 R407). -/
def State.rebuild (s : State) (f : Nat) (b : List Byte) : Rebuilt :=
  let head := (imageSection b 1).bytes
  let s1 := (imagePartitions b).foldl (fun s p => s.restoreModes p.2) s
  let s2 := (imageScratch b).foldl (fun s g => s.restoreScratch g.1 g.2) s1
  match s2.restoreObjects b with
  | none => ⟨s, none, false⟩
  | some s3 =>
    let s4 := s3.restorePoison b
    let first := (s.function f).firstQueue
    let rings := (List.range 32).map fun r => (f * 32 + r, CRing.ofBytes (slice head (2048 + 64 * r) 64))
    let s5 : State := { s4 with
      contexts := (imageContexts b).foldl (fun t c => tset t c.1 { c.2 with function := f }) s4.contexts
      queues := (imageQueues b first).foldl (fun t q => tset t q.1 q.2) s4.queues
      crings := rings.foldl (fun t r => if r.2 = CRing.unset then t else tset t r.1 r.2) s4.crings }
    let s6 := s5.restoreRanges b
    let k := s6.restoreKits b
    let s7 := k.s.rebind.restorePins b
    let s8 := (imageKits b).foldl (fun s x => x.lists.foldl (fun s l => s.restoreList x.kit.context l) s) s7
    let pending := imageSection b 13
    let commands := firstFrom (fun n => 80 * n + 48 * (pending.count - n) == pending.bytes.length) 0 (pending.count + 1)
    let m := commands.getD pending.count
    let s9 := (List.range m).foldl (fun s i => s.restoreCommand (slice pending.bytes (80 * i) 80)) s8
    let s10 := (List.range (pending.count - m)).foldl (fun s i =>
      let r := slice pending.bytes (80 * m + 48 * i) 48
      let ring := s.cring f (field r 0 1)
      let bytes := slice r 16 32
      s.setCring f (field r 0 1) { ring with waiting := ring.waiting ++ [(field bytes 5 1 == 1, bytes)] }) s9
    let s11 := s10.restoreSequences b
    let s12 := s11.modFunction f fun v =>
      { v with mode := .restoring, squashed := field head 28 4, freezeBeat := field b 8 8, imageBytes := field b 16 8 }
    ⟨s12, k.misfit, true⟩

/-! ### The command and its two events -/

/-- VF_RESTORE: its parameters; the image is read and tested afterwards. -/
def vfRestoreEffect (c : Call) (s : State) : Verdict :=
  let f := c.arg 0
  let n := c.arg 3
  guards (c.vfGuards ++ [(decide (1 < c.arg 1), c.bad 1), (!(c.imagePlace s (max n 1)), c.bad 2), (n == 0, c.bad 3)] ++
      c.reportGuards s 4 ++ c.imageObject s ++
      [(c.arg 1 == 0 && isCoherent (c.arg 2) && s.cijan.mode != .up, plain stCoherentDown)])
    (.defer (s.modFunction f fun v =>
      { v with imageSpace := c.arg 1, imageAt := c.arg 2, imageLength := n, imageReport := c.arg 4 }) (.vfRestore f) 0)

/-- The bytes of an image where VF_RESTORE names it. -/
def State.readImage (s : State) (space at_ n : Nat) : Got :=
  if space = 1 then
    match s.objectOf at_ with
    | some (i, o) => s.objReadRaw i o 0 n
    | none => ⟨s, stBadParam, []⟩
  else if isCoherent at_ && s.cijan.mode != .up then ⟨s, stCoherentDown, []⟩
  else if s.poisonedAt at_ n then ⟨s, stMemoryError, []⟩
  else ⟨s, stOk, s.sysRead at_ n⟩

/-- The verdict on an image. -/
def State.imageVerdict (s : State) (f : Nat) (b : List Byte) (length : Nat) : Verdict :=
  match imageFault b length with
  | some o => badBlock o
  | none => guards (s.imageConflicts f b) (.done s 0)

/-- RESTORE_IMAGE_TESTED: the image has been read and tested (17 R406). -/
def State.restoreImageTested (s : State) (f : Nat) : State :=
  let v := s.function f
  match s.commands.find? fun c => c.wait == .vfRestore f with
  | none => s
  | some c =>
    if v.mode = .restoring then s
    else
      let g := s.readImage v.imageSpace v.imageAt v.imageLength
      if g.status ≠ stOk then g.s.conclude c (plain g.status)
      else
        match g.s.imageVerdict f g.bytes v.imageLength with
        | .done s1 _ =>
          let r := s1.rebuild f g.bytes
          if !r.room then s1.conclude c (.refuse stNoFit 3 0)
          else
            match r.misfit with
            | some (kit, x) =>
              let u := x.failing.head?
              let s2 := s1.writeResult v.imageReport (s1.reportBytes kit 0xFFFFFFFF u x.placement x.uses)
              s2.conclude c (.refuse stNoFit ((u.map (·.code)).getD 0) 0)
            | none => s1.modFunction f fun v => { v with mode := .restoring }
        | w => g.s.conclude c w

/-- RESTORE_REBUILT: the state is rebuilt, and the function is FROZEN (17 R407). -/
def State.restoreRebuilt (s : State) (f : Nat) : State :=
  let v := s.function f
  if v.mode ≠ .restoring then s
  else
    let g := s.readImage v.imageSpace v.imageAt v.imageLength
    let s1 := (g.s.rebuild f g.bytes).s.modFunction f fun v => { v with mode := .frozen }
    s1.completeWhere fun c => c.wait == .vfRestore f

end Sys2Proof.Machine
end

