-- ==== Sys2Proof/Machine/Failure.lean ====
section
/-!
DEFINITION. Failures: cores, compute dies, base dies and edge dies, intercalation and recalibration, and the firmware of stations
(19_failure_and_intercalation.md).
-/
namespace Sys2Proof.Machine
open Sys2Proof

/-! ### Kits that a failure touches (19 R434) -/

/-- Compute die of a station. -/
def State.die (s : State) (st : Nat) : ComputeDie := tgetD s.fail.dies st (ComputeDie.reset st)

/-- The state with a compute die changed. -/
def State.modDie (s : State) (st : Nat) (f : ComputeDie → ComputeDie) : State :=
  { s with fail := { s.fail with dies := tmod s.fail.dies st f } }

/-- The 32 cores of a station. -/
def stationCores (st : Nat) : List Nat := (List.range 32).map (· + 32 * st)

/-- A list has a task on one of the cores. -/
def State.listOn (s : State) (cores : List Nat) (list : Nat) : Bool :=
  cores.any fun c =>
    let k := s.core c
    k.block.any (·.list == list) || (match k.phase with | .restoring l _ => l == list | _ => false)

/-- A list has a request that waits at a station. -/
def State.waitsAt (s : State) (list st : Nat) : Bool :=
  s.mem.requests.any fun r => (s.core r.core).block.any (·.list == list) && !(s.lanesAt r st).isEmpty

/-- Kits that a failure of cores, or of a base die, touches. -/
def State.touchedKits (s : State) (cores stations : List Nat) : List Nat :=
  ((s.lists.filter fun l => l.open_ && (s.listOn cores l.id || stations.any (s.waitsAt l.id))).map (·.kit)).foldl addOnce []

/-- The unfinished lists of every touched Kit are cancelled (19 R434, R437). -/
def State.cancelTouched (s : State) (cores stations : List Nat) (station pair : Nat) : State :=
  (s.touchedKits cores stations).foldl (fun s k => s.cancelForRepeat k 0 0 station pair) s

/-- Cores leave the Kits that hold them (03 R89). -/
def State.leaveKits (s : State) (cores : List Nat) : State :=
  let gone (u : KitUnit) : Bool := match u with | .core c => cores.contains c | _ => false
  let f (id : Nat) (k : Kit) : Kit :=
    { k with units := k.units.filter fun u => !(gone u)
             lostCores := if id = 0 then 0 else k.lostCores + (k.units.filter gone).length }
  { s with kits := tmapv s.kits f }

/-- What cores hold is gone. -/
def State.emptyCores (s : State) (cores : List Nat) : State :=
  cores.foldl (fun s c => if (s.core c).block.isSome ∨ (s.core c).phase ≠ .idle then (s.dropRequests c).freeCore c else s) s

/-! ### Cores (19 R439, R440) -/

/-- State codes of Table 19-2. -/
def DieMode.code : DieMode → Nat
  | .inService => 0 | .intercalary => 1 | .starting => 2 | .measuring => 3 | .failed => 4 | .retired => 5

/-- A core is retired. -/
def State.retireCore (s : State) (c : Nat) : State :=
  let s1 := (s.modCore c fun k => { k with retired := true, retiring := false }).leaveKits [c]
  (s1.logFailure 0x10 (c / 32) (c % 32)).completeWhere fun o => o.wait == .coreRetire c

/-- CORE_FAILURE: a core fails and is retired at once. -/
def State.coreFailure (s : State) (c : Nat) : State :=
  if !(s.coreUsable c) then s
  else ((((s.cancelTouched [c] [] (c / 32) 0xFF).emptyCores [c]).retireCore c)).retestAll

/-- LAUNCH_ACK_TIMEOUT: a core that was given a launch, a switch or a restore does not acknowledge it. -/
def State.launchAckTimeout (s : State) (c : Nat) : State :=
  if (s.core c).phase = .idle then s else s.coreFailure c

/-- A single-bit error of a core is corrected and counted; 16 of them within 1 ms retire the core when it holds no task. -/
def State.coreCorrected (s : State) (c : Nat) : State :=
  let at_ := recent (s.core c).correctedAt s.now 100000 ++ [s.now]
  s.modCore c fun k =>
    { k with corrected := k.corrected + 1, correctedAt := lastN 16 at_, retiring := k.retiring || decide (16 ≤ at_.length) }

/-- A core is in service (19 Table 19-3). -/
def State.coreInService (s : State) (c : Nat) : Bool := s.coreUsable c

/-- CORE_RETIRE. -/
def coreRetireEffect (c : Call) (s : State) : Verdict :=
  let k := c.arg 0
  guards [(decide (1727 < k), c.bad 0), (!(s.coreInService k), s.conflict 0xB (s.die (k / 32)).mode.code)]
    (.defer (s.modCore k fun x => { x with retiring := true }) (.coreRetire k) 0)

/-! ### Compute dies (19 R441, Table 19-2) -/

/-- Dies in service or on their way into it. -/
def State.diesServing (s : State) : Nat :=
  (s.fail.dies.filter fun d => d.2.mode == .inService || d.2.mode == .starting).length

/-- An intercalary die is started. -/
def State.startDie (s : State) (st : Nat) : State :=
  let s1 := s.modDie st fun d => { d with mode := .starting, joining := false }
  { s1 with fail := { s1.fail with passedOver := s1.fail.passedOver.filter (· != st) } }

/-- The intercalary die at the lowest station that automatic intercalation takes. -/
def State.nextIntercalary (s : State) (passed : List Nat) : Option Nat :=
  (s.fail.dies.find? fun d => d.2.mode == .intercalary && !(passed.contains d.1)).map (·.1)

/-- Automatic intercalation, when a die leaves service. -/
def State.autoIntercalate (s : State) : State :=
  if !s.fail.autoIntercalate || decide (48 ≤ s.diesServing) then s
  else match s.nextIntercalary s.fail.passedOver with
    | some st => s.startDie st
    | none => s

/-- Commands for a die that another event has taken away from it complete with ST_STATE_CONFLICT. -/
def State.failDieCommands (s : State) (st : Nat) : State :=
  let code := (s.die st).mode.code
  (s.commands.filter fun c => c.wait == .die st || c.wait == .recalibrate st).foldl (fun s c =>
    s.complete c stStateConflict (code + 0xB * 2 ^ 16 + 0xFFF * 2 ^ 20) s.beat.number) s

/-- A compute die is lost: its work is cancelled before this. -/
def State.dieLost (s : State) (st : Nat) (trip : Bool) : State :=
  let d := s.die st
  let failed (d : ComputeDie) : ComputeDie :=
    { d with mode := .failed, failedAt := s.now, byTrip := trip, joining := false, releasing := false }
  match d.mode with
  | .inService =>
    let s1 := ((s.emptyCores (stationCores st)).leaveKits (stationCores st)).modDie st failed
    ((s1.logFailure 0x11 st 0xFF).failDieCommands st).autoIntercalate
  | .failed | .retired => s
  | _ => (s.modDie st failed).failDieCommands st

/-- COMPUTE_DIE_FAILURE: a die in service resets, stops its clock or trips. -/
def State.computeDieFailure (s : State) (st : Nat) (trip : Bool) : State :=
  if (s.die st).mode ≠ .inService then s
  else ((s.cancelTouched (stationCores st) [] st 0xFF).dieLost st trip).retestAll

/-- A die is retired: its table of Table 19-2 ends there. -/
def State.retireDie (s : State) (st : Nat) : State :=
  (s.modDie st fun d => { d with mode := .retired, joining := false }).logFailure 0x13 st 0xFF

/-- DIE_SELF_TEST_DONE: the self-test of a STARTING die ends; a die whose clock table is stale is measured before it joins. -/
def State.dieSelfTestDone (s : State) (st : Nat) (pass : Bool) : State :=
  let d := s.die st
  if d.mode ≠ .starting ∨ d.joining then s
  else if pass then (if d.staleTable then s else s.modDie st fun d => { d with joining := true })
  else
    let s1 := s.retireDie st
    (s1.failDieCommands st).autoIntercalate

/-- A unit that tripped may return (18 R428). -/
def State.untripped (s : State) (unit : Nat) : Bool := !(s.power.tripped.contains unit)

/-- DIE_RESTART_DONE: the restart of a FAILED die ends; after a trip, or while its base die is out, it has not ended. -/
def State.dieRestartDone (s : State) (st : Nat) (pass : Bool) : State :=
  if (s.die st).mode ≠ .failed ∨ s.baseOut st ∨ !(s.untripped st) then s
  else if pass then s.modDie st fun d => { d with mode := .intercalary, byTrip := false }
  else s.retireDie st

/-- DIE_INTERCALATE. -/
def dieIntercalateEffect (c : Call) (s : State) : Verdict :=
  let (st, action) := (c.arg 0, c.arg 1)
  let all := st == 0xFF
  let target := if all then s.nextIntercalary [] else some st
  let d := s.die (target.getD 0)
  let code := if target.isSome then d.mode.code else 0
  guards
    [(if action = 0 then !all && decide (53 < st) else if action = 1 then decide (53 < st) else !all, c.bad 0),
     (decide (3 < action), c.bad 1),
     (action == 0 && (target.isNone || d.mode != .intercalary || decide (48 ≤ s.diesServing)), s.conflict 0xB code),
     (action == 1 && (d.mode != .inService || d.releasing), s.conflict 0xB code)]
    (if action = 0 then .defer (s.startDie (target.getD 0)) (.die (target.getD 0)) 0
     else if action = 1 then .defer (s.modDie st fun d => { d with releasing := true }) (.die st) 0
     else .done { s with fail := { s.fail with autoIntercalate := action == 3 } } 0)

/-! ### Recalibration (19 R445) -/

/-- CLOCK_RECALIBRATE. -/
def clockRecalibrateEffect (c : Call) (s : State) : Verdict :=
  let st := c.arg 0
  let d := s.die st
  guards ([(decide (53 < st), c.bad 0)] ++ c.resultGuards s 1 64 ++
      [(d.mode != .intercalary && d.mode != .retired, s.conflict 0xB d.mode.code)])
    (let s1 := s.modDie st fun d => { d with mode := .measuring }
     .defer { s1 with fail := { s1.fail with passedOver := s1.fail.passedOver.filter (· != st) } } (.recalibrate st) 0)

/-- The new maximum of a core that passed up to step `n` MHz. -/
def newMaximum (n : Nat) : Nat := max 600 (min 720 n - 8)

/-- The new tables of a die: `steps` holds the highest step that each core passes. -/
def State.takeTable (s : State) (st : Nat) (steps : List Nat) : State :=
  (List.range 32).foldl (fun (s : State) i =>
    let n := steps.getD i 0
    let c := 32 * st + i
    if n < 608 then s.modCore c fun k => { k with retired := true }
    else
      let s1 := s.modCore c fun k => { k with retired := false }
      { s1 with fail := { s1.fail with clocks := tset s1.fail.clocks c (newMaximum n) } }) s

/-- The result record of a recalibration. -/
def tableRecord (steps : List Nat) : List Byte :=
  (List.range 32).flatMap fun i => let n := steps.getD i 0; leBytes 2 (if n < 608 then 0 else newMaximum n)

/-- RECALIBRATION_DONE: the measurement of a die ends. -/
def State.recalibrationDone (s : State) (st : Nat) (steps : List Nat) : State :=
  let d := s.die st
  let passing := ((List.range 32).filter fun i => 608 ≤ steps.getD i 0).length
  match d.mode with
  | .measuring =>
    let s1 := (s.takeTable st steps).logFailure 0x1A st passing
    let s2 := if 28 ≤ passing then s1.modDie st fun d => { d with mode := .intercalary, staleTable := false } else s1.retireDie st
    match s2.commands.find? fun c => c.wait == .recalibrate st with
    | some c =>
      let a := param c.op c.packet 1
      (s2.writeResult a (tableRecord steps)).complete c stOk 0 c.result
    | none => s2
  | .starting =>
    if d.staleTable then
      ((s.takeTable st steps).logFailure 0x1A st passing).modDie st fun d => { d with staleTable := false, joining := true }
    else s
  | _ => s

/-! ### Dies and cores at a downbeat -/

/-- Cores hold no task. -/
def State.coresIdle (s : State) (cores : List Nat) : Bool := cores.all fun c => (s.core c).phase == .idle && (s.core c).block.isNone

/-- Cores of a new die go to the Kits with DEGRADED set, in ascending KIT_ID, as many as each has lost (03 R90). -/
def giveBack : List (Nat × Kit) → List Nat → List (Nat × Kit) × List Nat
  | [], free => ([], free)
  | (id, k) :: r, free =>
    let n := if k.degraded && id != 0 && !(isPealKit id) then min k.lostCores free.length else 0
    let k1 := { k with units := k.units ++ (free.take n).map KitUnit.core, lostCores := k.lostCores - n }
    let rest := giveBack r (free.drop n)
    ((id, k1) :: rest.1, rest.2)

/-- A die joins: its cores that are not retired. -/
def State.joinDie (s : State) (st : Nat) : State :=
  let s1 := s.modDie st fun d => { d with mode := .inService, joining := false }
  let cores := (stationCores st).filter fun c => !(s.core c).retired
  let g := giveBack s1.kits cores
  let changed := (s1.kits.filter fun k => k.2.degraded).map (·.1)
  let s2 := ({ s1 with kits := g.1 } : State).modKit 0 fun k => { k with units := k.units ++ g.2.map KitUnit.core }
  let s3 := (changed.foldl (fun s k => s.retestKit k) s2).logFailure 0x12 st 0xFF
  s3.completeWhere fun c => c.wait == .die st

/-- A die that is released leaves service. -/
def State.releaseDie (s : State) (st : Nat) : State :=
  let s1 := (s.modDie st fun d => { d with mode := .intercalary, releasing := false }).leaveKits (stationCores st)
  let s2 : State := { s1 with fail := { s1.fail with passedOver := addOnce s1.fail.passedOver st } }
  ((s2.autoIntercalate).completeWhere fun c => c.wait == .die st).retestAll

/-- Dies and cores that change at a downbeat. -/
def State.failureDownbeat (s : State) : State :=
  let joining := (s.fail.dies.filter fun d => d.2.mode == .starting && d.2.joining && !(s.baseOut d.1)).map (·.1)
  let s1 := joining.foldl (fun s st => s.joinDie st) s
  let leaving := (s1.fail.dies.filter fun d => d.2.mode == .inService && d.2.releasing && s1.coresIdle (stationCores d.1)).map (·.1)
  let s2 := leaving.foldl (fun s st => s.releaseDie st) s1
  let cores := (s2.cores.filter fun c => c.2.retiring && !c.2.retired && s2.coresIdle [c.1]).map (·.1)
  if cores.isEmpty then s2 else (cores.foldl (fun s c => s.retireCore c) s2).retestAll

/-! ### What a base-die reset destroys (19 R443) -/

/-- Bytes of tier 1 from an address lie in part in granule `g`. -/
def State.inGranule (s : State) (g a n : Nat) : Bool :=
  decide (a + n ≤ 2 ^ 34) && (linePieces a n).any fun p => s.spreadMap p.1 / 2 ^ 23 == g

/-- The ranges of tier 1 whose loss costs a Context (19 R443 (d)). -/
def State.contextAreas (s : State) (ctx : Nat) : List (Nat × Nat) :=
  let kits := s.kitsOf ctx
  let queues := s.queues.filter fun q => q.2.context == ctx && q.2.mode != .free && !q.2.management
  let k := s.context ctx
  let ring (f r : Nat) : Nat × Nat := let x := s.cring f r; (x.base, if x.base = 0 then 0 else 32 * 2 ^ x.log2Size)
  (s.kits.filter fun x => x.2.context == ctx).flatMap (fun x => (x.2.scratchBase, x.2.scratchSize) ::
    ((x.2.placement.map (·.lists)).getD []).map fun l => (l.address, l.bytes)) ++
  (s.lists.filter fun l => l.open_ && kits.contains l.kit).flatMap (fun l =>
    (l.address, 64 * l.tasks.length) :: l.tasks.flatMap fun t =>
      [(t.record.descTable, 32 * t.record.descCount), (t.record.saveArea, if t.record.preemptible then 2 ^ 22 else 0)]) ++
  (s.sequences.filter fun q => q.2.context == ctx && q.2.mode != .free).map (fun q => (q.2.output, 128 * q.2.outputLen)) ++
  queues.map (fun q => (q.2.ringBase, 64 * 2 ^ q.2.log2Size)) ++
  queues.map (fun q => ring q.2.function q.2.completionRing) ++
  (if k.viaQueue.isSome then [] else [ring k.function k.noticeRing])

/-- Some of the ranges lie in part in one of the granules. -/
def State.hits (s : State) (granules : List Nat) (l : List (Nat × Nat)) : Bool :=
  l.any fun r => decide (0 < r.2) && granules.any fun g => s.inGranule g r.1 r.2

/-- The device Context when SCRATCH granules lose their data (12 R291). -/
def State.deviceLoss (s : State) (granules : List Nat) : State :=
  let queues := (s.queues.filter fun q => q.2.context == 65535 && q.2.mode == .active && !q.2.management &&
    s.hits granules [(q.2.ringBase, 64 * 2 ^ q.2.log2Size)]).map (·.1)
  let s1 := queues.foldl (fun s q => s.breakQueue q 2 (s.queue q).head) s
  let rings := (s1.crings.filter fun r => r.1 / 32 == 0 && r.2.base != 0 && s1.hits granules [(r.2.base, 32 * 2 ^ r.2.log2Size)]).map (·.1)
  rings.foldl (fun s r =>
    let x := s.cring 0 r
    let n := x.produced - x.consumed
    if n = 0 then s
    else (s.setCring 0 r { x with noticesDropped := (x.noticesDropped + n) % 2 ^ 32 }).attend 17) s1

/-- The lines of a slice that is reset: CLEAN ones are dropped, pinned ones to be filled again; DIRTY ones are lost. -/
def State.loseLine (s : State) (slot : Nat) (l : Line) : State :=
  match l.mode, tget s.objects l.object with
  | .dirty, some o =>
    let at_ := o.locate (o.lineOffset l.line)
    let s1 := (o.codeWords (o.lineOffset l.line) 4096).foldl (fun s w => s.poison2 w.1 w.2 (some l.object)) s
    (s1.reportError 0x02 0 (slotStation slot) at_.1 at_.2 l.partition (o.handle l.object) l.line).dropLine slot
  | .clean, some _ =>
    let s1 := s.dropLine slot
    if l.pin then { s1 with fail := { s1.fail with repins := tset s1.fail.repins slot (l.object, l.line) } } else s1
  | .filling, _ => s
  | _, _ => s.dropLine slot

/-- The contents of a slice's allocatable ways are gone. -/
def State.loseSlice (s : State) (st : Nat) : State :=
  let s1 := (s.mem.lines.filter fun l => slotStation l.1 == st).foldl (fun s l => s.loseLine l.1 l.2) s
  let granules := (List.range 2048).filter fun g => (granulePlace g).1 == st
  let lost := granules.filter fun g => (s1.granule g).mode == .scratch && s1.fail.written.contains g
  let ctxs := (s1.contexts.filter fun c => c.1 != 65535 && c.2.mode == .active && s1.hits lost (s1.contextAreas c.1)).map (·.1)
  let s2 := ctxs.foldl (fun s c => s.loseContext c stMemoryError) (s1.deviceLoss lost)
  let mine (slot : Nat) : Bool := granules.contains (slot / 2048)
  let m : MemState := { s2.mem with
    t1 := granules.foldl (fun m g => memZero m (g * 2 ^ 23) (2 ^ 23)) s2.mem.t1
    tags := s2.mem.tags.filter fun t => !(mine t.1)
    deadBits := s2.mem.deadBits.filter fun x => !(mine x)
    poison1 := s2.mem.poison1.filter fun w => !(mine (w / 32))
    raw := s2.mem.raw.filter fun r => !(r.tier == 1 && mine (r.address / 4096)) }
  { s2 with mem := m, fail := { s2.fail with written := s2.fail.written.filter fun g => !(granules.contains g) } }

/-- Pending-write entries of the home port of a station are left open for good (19 R443 (e)). -/
def State.stalePending (s : State) (st : Nat) : State :=
  let here (e : PendingTile) : Bool := match tget s.objects e.object with
    | some o => portStation (o.locate (tileOffset e.tile)).1 == st
    | none => false
  { s with mem := { s.mem with pendingTiles := s.mem.pendingTiles.map fun e => if here e then { e with id := 0 } else e } }

/-! ### Base dies (19 R442 to R444) -/

/-- Memory station index of a station (01 R14). -/
def memoryIndex (st : Nat) : Option Nat := if st < 5 then some st else if 48 ≤ st ∧ st < 53 then some (st - 43) else none

/-- The state with a base die changed. -/
def State.modBase (s : State) (st : Nat) (f : BaseDie → BaseDie) : State :=
  { s with fail := { s.fail with bases := tmod s.fail.bases st f } }

/-- A station can be reached from an attach station of the primary (14 R323 (c)). -/
def State.reachable (s : State) (st : Nat) : Bool :=
  (attachStations s.fail.primary).any fun a => !(s.baseOut a) && (a == st || (s.pathHops a st).isSome)

/-- One base die is reset. -/
def State.resetBase (s : State) (st cause : Nat) : State :=
  if s.baseOut st ∨ 54 ≤ st then s
  else
    let pair := (memoryIndex st).getD 0xFF
    let cores := if (s.die st).mode = .inService then stationCores st else []
    let s1 := (s.cancelTouched cores [st] st pair).modBase st fun b => { b with out := true, cause, since := s.now }
    let s2 := ((s1.dieLost st (cause == 1)).stopLinks st).carillonsWithout st
    let s3 := ((s2.loseSlice st).stalePending st).logFailure 0x14 st cause
    match s3.fail.stationUpdate with
    | some u =>
      if u.restarting.any (·.1 == st) then
        { s3 with fail := { s3.fail with stationUpdate := some { u with restarting := none, next := st + 1, again := addOnce u.again st } } }
      else s3
    | none => s3

/-- Both copies of the load area are out before release: START_FAULT 2, and the claim is released (20 R461 (b), R475). -/
def State.loadAreaLost (s : State) : State :=
  if s.boot.released ∨ !s.boot.stage1 ∨ !(s.baseOut 5) ∨ !(s.baseOut 53) then s
  else { s with boot := { s.boot with startFault := 2, claim := .none } }

/-- BASE_DIE_RESET: a base die is reset, and with it every station that no path reaches any more. -/
def State.baseDieReset (s : State) (st cause : Nat) : State :=
  if s.baseOut st ∨ 54 ≤ st then s
  else
    let s1 := s.resetBase st cause
    let cut := (List.range 54).filter fun x => !(s1.baseOut x) && !(s1.reachable x)
    ((cut.foldl (fun s x => s.resetBase x 3) s1).loadAreaLost).retestAll

/-- The pins of a slice are made again. -/
def State.refillPins (s : State) (st : Nat) : State :=
  let mine := s.fail.repins.filter fun r => slotStation r.1 == st
  let s1 := mine.foldl (fun s r => match tget s.objects r.2.1 with
    | some o => (s.endFill r.1 r.2.1 o r.2.2 true).1
    | none => s) s
  { s1 with fail := { s1.fail with repins := s1.fail.repins.filter fun r => slotStation r.1 != st } }

/-- BASE_DIE_REJOIN: a reset base die has trained, refilled and rejoined the mesh; a tripped one stays out until its sensor allows,
one without a path until a path returns. -/
def State.baseDieRejoin (s : State) (st : Nat) : State :=
  let back := s.modBase st fun b => { b with out := false, cause := 0 }
  if !(s.baseOut st) ∨ !(s.untripped (128 + st)) ∨ !(back.reachable st) then s
  else
    let again := match s.fail.stationUpdate with
      | some u => u.again.contains st
      | none => false
    let s1 := if again then back else back.modBase st fun b => { b with firmware := s.fail.stationImage }
    let found := (st = 5 ∨ st = 53) ∧ s1.boot.startFault = 2
    let s1 : State := if found then { s1 with boot := { s1.boot with startFault := 0 } } else s1
    ((s1.startLinks [st]).refillPins st).retestAll

/-- STATION_WATCHDOG: a station controller's watchdog has lapsed for 1 ms. -/
def State.stationWatchdog (s : State) (st : Nat) : State := s.baseDieReset st 0

/-- ROUTER_STATE_ERROR: an uncorrectable error in router or control-node state. -/
def State.routerStateError (s : State) (st : Nat) : State := s.baseDieReset st 2

/-! ### Repetition (19 R435, R436) -/

/-- Every station that a Kit's work needs is in the mesh: those of its cores and of its partition's granules and pairs. -/
def State.stationsIn (s : State) (kit : Nat) : Bool :=
  match s.kit kit with
  | none => false
  | some k =>
    let granules := (List.range 2048).filter fun g => (s.granule g).partition == k.partition
    let needs := (s.directCores k).map (· / 32) ++ granules.map (fun g => (granulePlace g).1) ++
      (s.pairsOf k.partition).flatMap fun p => [portStation p, if p = 4 then 0 else if p = 9 then 48 else portStation p + 1]
    needs.all fun st => !(s.baseOut st)

/-- A task of a repetition whose UNIT names a core that is out runs as UNIT ANY of its Kit (19 R435). -/
def State.repeatTask (s : State) (t : Task) : Task :=
  let r := t.record
  if r.unitKind = 1 ∧ !(s.coreUsable r.unit) then { t with record := { r with unitKind := 0, unit := 0 } } else t

/-- REPETITION: at a downbeat, the cancelled lists of a Kit launch again, whole. -/
def State.repetition (s : State) (kit : Nat) : State :=
  let again := s.lists.filter fun l => l.kit == kit && l.repeat_ && l.cancelled
  if !s.beat.running ∨ s.now ≠ s.beat.start ∨ again.isEmpty ∨ s.frozenKit kit ∨ !(s.stationsIn kit) then s
  else if !((s.kit kit).any fun k => k.mode == .admitted || k.mode == .unloading) then s
  else again.foldl (fun s l =>
    (s.modList l.id fun l => { l with tasks := l.tasks.map s.repeatTask }).relaunch l.id) s

/-! ### Edge dies and the primary role (19 R446 to R448, 01 R17 to R19) -/

/-- Edge die `e`. -/
def State.edge (s : State) (e : Nat) : EdgeDie :=
  tgetD s.fail.edges e { up := false, lost := false, usable := false, mgmtUp := false, mgmtDownSince := none }

/-- The state with an edge die changed. -/
def State.modEdge (s : State) (e : Nat) (f : EdgeDie → EdgeDie) : State :=
  { s with fail := { s.fail with edges := tmod s.fail.edges e f } }

/-- A healthy edge die. -/
def State.healthyEdge (s : State) (e : Nat) : Bool := decide (e < 4) && (s.edge e).up && !(s.edge e).lost

/-- An edge die that may be primary: healthy, with a usable security block (20 R470). -/
def State.primaryAble (s : State) (e : Nat) : Bool := s.healthyEdge e && (s.edge e).usable

/-- The next healthy edge die after `e` in the cyclic order. -/
def State.nextEdge (s : State) (e : Nat) : Option Nat := [e + 1, e + 2, e + 3].map (· % 4) |>.find? s.primaryAble

/-- PRIMARY_FAILOVER: the primary role passes (19 R447, 15 R362 (d), 20 R457, R475). -/
def State.movePrimary (s : State) (target : Nat) : State :=
  let again (u : LiveUpdate) : LiveUpdate := { u with verified := false, restartedAt := none }
  let s1 : State := { s with fail := { s.fail with primary := target } }
  let s2 : State := { s1 with boot := { s1.boot with liveUpdate := s1.boot.liveUpdate.map again } }
  let s3 := (s2.logFailure 0x16 0xFF target).declareDown 4 0xFF
  if (s3.edge target).mgmtUp then s3.send ⟨.neighbourAdvertisement, target, [ownDigest], []⟩ else s3

/-- LAST_EDGE_LOST: nothing further launches and every core is held in reset (19 R448). -/
def State.lastEdgeLost (s : State) : State :=
  let s1 := s.emptyCores (s.cores.map (·.1))
  { s1 with fail := { s1.fail with stopped := true }, beat := { s1.beat with running := false } }

/-- An edge die is lost (19 R446). -/
def State.edgeLost (s : State) (e : Nat) : State :=
  if !(s.healthyEdge e) then s
  else
    let s1 := (s.modEdge e fun x => { x with up := false, lost := true, mgmtUp := false }).logFailure 0x15 0xFF e
    let s2 := ((List.range 6).foldl (fun s d => s.ringLinkDown (6 * e + d)) s1).cijanEngineLoss e
    let s3 :=
      if s2.fail.primary ≠ e then s2
      else match s2.nextEdge e with
        | some n => s2.movePrimary n
        | none => s2.lastEdgeLost
    s3.retestAll

/-- EDGE_HEARTBEAT_TIMEOUT. -/
def State.edgeHeartbeatTimeout (s : State) (e : Nat) : State := s.edgeLost e

/-- MGMT_LINK_LOSS: the optical link of the primary's management port has been down for 1 s. -/
def State.mgmtLinkLoss (s : State) : State :=
  let e := s.fail.primary
  if !(s.healthyEdge e) then s
  else
    let s1 := s.modEdge e fun x => { x with mgmtUp := false }
    match s1.nextEdge e with
    | some n => s1.movePrimary n
    | none => s1

/-- EDGE_PRIMARY_MOVE: the reply comes from the new primary. -/
def edgePrimaryMoveEffect (c : Call) (s : State) : Verdict :=
  let e := c.arg 0
  let target := if e = 0xFF then s.nextEdge s.fail.primary else if s.primaryAble e ∧ e ≠ s.fail.primary then some e else none
  guards [(decide (3 < e) && e != 0xFF, c.bad 0), (target.isNone, s.conflict 0xB 0)] (.done (s.movePrimary (target.getD 0)) 0)

/-! ### Station firmware (19 R449) -/

/-- Number of the image most recently verified that holds station firmware. -/
def State.newestImage (s : State) : Nat := (s.boot.images.map (·.1)).foldl max 0

/-- STATION_FW_UPDATE. -/
def stationFwUpdateEffect (c : Call) (s : State) : Verdict :=
  let gap := c.arg 0
  let n := s.newestImage
  let newer := s.fail.bases.any fun b => decide (b.2.firmware < n)
  guards [(!newer || s.fail.stationUpdate.isSome || s.power.vigil == .entering, s.conflict 0xB 0)]
    (let u : StationUpdate :=
       { command := c.cmd.id, gap := if gap = 0 then 1000 else gap, image := n, next := 0, restarting := none, again := [] }
     .defer { s with fail := { s.fail with stationUpdate := some u, stationImage := n } } .stationUpdate 0)

/-- The stations that an update still has to do, in order: those out are skipped, those interrupted come last. -/
def State.updateRest (s : State) (u : StationUpdate) : List Nat :=
  (((List.range 54).filter fun st => decide (u.next ≤ st) && !(u.again.contains st)) ++ u.again).filter fun st => !(s.baseOut st)

/-- The update is done. -/
def State.endUpdate (s : State) : State :=
  match s.fail.stationUpdate with
  | some u => ({ s with fail := { s.fail with stationUpdate := none } } : State).completeId u.command stOk 0 0
  | none => s

/-- STATION_UPDATE_NEXT: the next station's firmware is written and its controller restarts. -/
def State.stationUpdateNext (s : State) : State :=
  match s.fail.stationUpdate with
  | none => s
  | some u =>
    if u.restarting.isSome then s
    else match s.updateRest u with
      | [] => s.endUpdate
      | st :: _ =>
        { s with fail := { s.fail with stationUpdate := some { u with restarting := some (st, s.now), again := u.again.filter (· != st) } } }

/-- STATION_CONTROLLER_RESTART: a controller starts on new firmware, or does not within 2 ms. -/
def State.stationControllerRestart (s : State) (success : Bool) : State :=
  match s.fail.stationUpdate with
  | none => s
  | some u =>
    match u.restarting with
    | none => s
    | some (st, _) =>
      if success then
        let s1 := (s.modBase st fun b => { b with firmware := u.image }).logFailure 0x19 st 0xFF
        let u1 := { u with restarting := none, next := max u.next (st + 1) }
        let s2 : State := { s1 with fail := { s1.fail with stationUpdate := some u1 } }
        if (s2.updateRest u1).isEmpty then s2.endUpdate else s2
      else
        let old := (tget s.fail.bases st).map (·.firmware)
        let s1 : State := { s with fail := { s.fail with stationUpdate := none, stationImage := old.getD 0 } }
        s1.completeId u.command stImageRejected 0 0

end Sys2Proof.Machine
end

