-- ==== Sys2Proof/Machine/Power.lean ====
section
/-!
DEFINITION. The power cap, clocks and duty, the thermal cap, trips, telemetry and entry to Vigil (18_power_and_thermal.md).
-/
namespace Sys2Proof.Machine
open Sys2Proof

/-! ### The cap (18 R411 to R418) -/

/-- The effective cap once the next control step has taken a fall of the rack cap (18 R412). -/
def State.comingCap (s : State) : Nat :=
  let p := s.power
  let a := min (min p.rampedCap p.rackCap) p.thermalCap
  if p.lapsed then min a p.fallback else a

/-- BUDGET_BELOW_COMMITMENT: the cap state of Table 18-2; `again` for a POWER_SET_CAP that leaves it BELOW. -/
def State.capState (s : State) (again : Bool) : State :=
  let below := decide (s.comingCap < s.commitment)
  let tell (s : State) (status : Nat) : State :=
    s.notice .companion 0x000D status 65535 0 s.comingCap (ceilDiv s.commitment 1000)
  if below && !s.power.below then
    (tell { s with power := { s.power with below := true } } stBudget).attend 13
  else if below && again then tell s stBudget
  else if !below && s.power.below then tell { s with power := { s.power with below := false } } stOk
  else s

/-- A figure that a cap may have (18 R411). -/
def capGood (n : Nat) : Bool := decide (1200000 ≤ n) && decide (n ≤ 4000000)

/-- POWER_SET_CAP. -/
def powerSetCapEffect (c : Call) (s : State) : Verdict :=
  let (cap, ramp, lease, fallback) := (c.arg 0, c.arg 1, c.arg 2, c.arg 3)
  guards [(!(capGood cap), c.bad 0), (decide (4000 < ramp), c.bad 1), (!(capGood fallback), c.bad 3)]
    (let p := { s.power with
       rackCap := cap, rampUp := if ramp = 0 then 100 else ramp, lapsed := false, fallback
       lease := if lease = 0 then none else some { length := lease * 100000, renewedAt := s.now }
       capsAccepted := s.power.capsAccepted + 1 }
     .done (({ s with power := p } : State).capState true) s.commitment)

/-- POWER_QUERY; read from a management queue it renews a lease (18 R413, R424). -/
def powerQueryEffect (c : Call) (s : State) : Verdict :=
  let renew (l : Lease) : Lease := { l with renewedAt := s.now }
  let s1 : State := if c.queue.management then { s with power := { s.power with lease := s.power.lease.map renew } } else s
  guards (c.resultGuards s 0 128) (c.result s1 0 (s.telemetryBytes 15 none 0))

/-- LEASE_LAPSE: L ms have passed without a renewal (18 R413). -/
def State.leaseLapse (s : State) : State :=
  match s.power.lease with
  | none => s
  | some l =>
    let s1 := s.clockTo (l.renewedAt + l.length)
    let p := { s1.power with lease := none, lapsed := true, leaseLapsed := s1.power.leaseLapsed + 1 }
    (({ s1 with power := p } : State).attend 14).capState false

/-! ### Clocks and duty (18 R419 to R422) -/

/-- The input is between 36 V and 40 V, or above 60 V (18 R423). -/
def PowerState.riding (p : PowerState) : Bool := match p.input.mode with | .riding _ => true | _ => false

/-- Target clock and duty after a control step with the meter's mean `mean` (18 R420, governor_step). -/
def governed (riding : Bool) (cap mean f d : Nat) : Nat × Nat :=
  let f := if riding then min f 600 else f
  if cap - cap / 100 < mean then
    if 600 < f then (f - 4, d) else if 1 < d then (f, d - 1) else (f, d)
  else if mean < cap - 3 * (cap / 100) then
    if d < 64 then (f, d + 1) else if f < 720 ∧ !riding then (f + 4, d) else (f, d)
  else (f, d)

/-- The ramped cap after a step of 1 µs (18 R412). -/
def PowerState.ramped (p : PowerState) : Nat :=
  if p.rackCap ≤ p.rampedCap then p.rackCap else min p.rackCap (p.rampedCap + p.rampUp)

/-- GOVERNOR_STEP with the meter's mean over the last 1 µs, in mW. -/
def State.governorStep (s : State) (mean : Nat) : State :=
  if s.power.vigil = .vigil ∨ !s.power.input.powered then s
  else
    let p := s.power
    let s1 : State := { s with power := { p with rampedCap := p.ramped } }
    let g := governed p.riding s1.effectiveCap mean p.clock p.duty
    let p1 := { s1.power with
      clock := g.1, duty := g.2, meanUs := mean, energy := p.energy + mean
      throttleUs := p.throttleUs + (if g.2 < 64 then 1 else 0)
      droops := p.droops.filter fun x => decide (s.now < x.2 + 100) }
    ({ s1 with power := p1 } : State).capState false

/-- DROOP: the supply of a compute die falls below what its clocks need; its cores drop to 600 MHz, or, where 600 MHz does not hold
for 1 µs, its clock stops (18 R422). -/
def State.droop (s : State) (st : Nat) (holds : Bool) : State :=
  if (s.die st).mode ≠ .inService then s
  else
    let p := { s.power with droopEvents := s.power.droopEvents + 1, droops := s.power.droops ++ [(st, s.now)] }
    let s1 : State := { s with power := p }
    if holds then s1 else s1.computeDieFailure st false

/-! ### Heat (18 R426 to R428) -/

/-- THERMAL_SET_LIMITS. -/
def thermalSetLimitsEffect (c : Call) (s : State) : Verdict :=
  let (t, inlet) := (c.arg 0, c.arg 1)
  guards [(decide (t < 70) || decide (100 < t), c.bad 0), (decide (inlet < 20) || decide (45 < inlet), c.bad 1)]
    (.done { s with power := { s.power with tThrottle := t, inletMax := inlet } } 0)

/-- A sensor's threshold in 0.1 °C: T_THROTTLE of a die, 85 °C of a stack. -/
def PowerState.threshold (p : PowerState) (unit : Nat) : Int := if 64 ≤ unit ∧ unit < 128 then 850 else (p.tThrottle : Int) * 10

/-- Most that the thermal cap may be for an inlet temperature (18 R426 (c)). -/
def inletCap (inletMax : Nat) (inlet : Int) : Nat :=
  let excess := inlet - (inletMax : Int) * 10
  if excess ≤ 0 then 4000000 else max 1200000 (4000000 - (excess.toNat * 15000))

/-- THERMAL_CAP_UPDATE with the readings of the last 1 ms (18 R426). -/
def State.thermalCapUpdate (s : State) (r : Readings) : State :=
  if s.power.vigil = .vigil ∨ !s.power.input.powered then s
  else
    let p := s.power
    let temps := r.temps.foldl (fun t x => tset t x.1 x.2) p.temps
    let hot := temps.any fun x => decide (p.threshold x.1 ≤ x.2)
    let cool := temps.all fun x => decide (x.2 ≤ p.threshold x.1 - 20)
    let since := if cool then some (p.coolSince.getD s.now) else none
    let cap :=
      if hot then min p.thermalCap (max 1200000 (r.mean - 50000))
      else if since.any (fun t => decide (t + 100000 ≤ s.now)) then min 4000000 (p.thermalCap + 50000)
      else p.thermalCap
    let p1 := { p with
      temps, inlet := r.inlet, outlet := r.outlet, meanMs := r.mean, coolSince := since
      thermalCap := min cap (inletCap p.inletMax r.inlet), input := { p.input with voltage := r.voltage } }
    ({ s with power := p1 } : State).capState false

/-- TELEMETRY_REWRITE: once per ms the record of the power window is written again (21 R486). -/
def State.telemetryRewrite (s : State) : State :=
  if s.power.vigil = .vigil ∨ !s.power.input.powered then s
  else { s with power := { s.power with telemetry := s.telemetryBytes 15 none 0 } }

/-- The stack pair of a stack (01 Table 1-2). -/
def stackPair (stack : Nat) : Nat :=
  if stack % 2 = 0 then stack / 2
  else let m := stack / 2; if m = 0 then 4 else if m = 5 then 9 else m - 1

/-- A pair goes out, or comes back. -/
def State.setPairOut (s : State) (pair : Nat) (out : Bool) : State :=
  { s with mem := { s.mem with pairs := lmod s.mem.pairs pair fun p => { p with out } } }

/-- A unit with a sensor: a compute die, an edge die, a stack or a base die. -/
def sensorUnit (u : Nat) : Bool := decide (u < 58) || (decide (64 ≤ u) && decide (u < 84)) || (decide (128 ≤ u) && decide (u < 182))

/-- THERMAL_TRIP: a die reaches 110 °C, or a stack 95 °C; the unit is lost (18 R428). -/
def State.thermalTrip (s : State) (unit : Nat) : State :=
  if s.power.tripped.contains unit then s
  else
    let p := { s.power with tripped := addOnce s.power.tripped unit, trips := s.power.trips + 1 }
    let s1 := ({ s with power := p } : State).attend 15
    if unit < 54 then
      if (s1.die unit).mode = .inService then s1.computeDieFailure unit true else s1.dieLost unit true
    else if unit < 58 then s1.edgeLost (unit - 54)
    else if 64 ≤ unit ∧ unit < 84 then s1.setPairOut (stackPair (unit - 64)) true
    else if 128 ≤ unit then s1.baseDieReset (unit - 128) 1
    else s1

/-- TRIP_RECOVERY: the unit's sensor has read 20 °C below the trip level for 1 s. -/
def State.tripRecovery (s : State) (unit : Nat) : State :=
  if !(s.power.tripped.contains unit) then s
  else
    let s1 : State := { s with power := { s.power with tripped := s.power.tripped.filter (· != unit) } }
    let pair := stackPair (unit - 64)
    let other := s1.power.tripped.any fun u => 64 ≤ u && u < 84 && stackPair (u - 64) == pair
    if 64 ≤ unit ∧ unit < 84 ∧ !other then s1.setPairOut pair false else s1

/-! ### Vigil (18 R429 to R431) -/

/-- Something that R429 lists prevents entry to Vigil. -/
def State.vigilBarred (s : State) : Bool :=
  s.kits.any (fun k => k.1 != 0 && k.2.mode != .created) ||
    s.functions.any (fun f => f.2.mode == .freezing || f.2.mode == .saving || f.2.mode == .restoring || f.2.mode == .resetting) ||
    s.mem.granules.any (fun g => g.2.mode == .flushing || g.2.diag) || s.mem.granules2.any (fun g => g.2.diag) ||
    s.mem.banks.any (fun b => b.2.rebuilding.isSome) ||
    s.peal.mode == .forming || s.peal.mode == .joining || s.peal.mode == .leaving ||
    s.boot.liveUpdate.isSome || s.fail.stationUpdate.isSome ||
    s.fail.dies.any fun d => d.2.mode == .measuring || d.2.mode == .starting || d.2.releasing

/-- VIGIL_ENTER. -/
def vigilEnterEffect (_ : Call) (s : State) : Verdict :=
  guards [(s.power.vigil != .awake || s.vigilBarred, s.conflict 0 0)]
    (.defer { s with power := { s.power with vigil := .entering } } .vigil 0)

/-- VIGIL_WAKE: an entry to Vigil ends (18 Table 18-5, R433). -/
def vigilWakeEffect (c : Call) (s : State) : Verdict :=
  let enter := s.commands.find? fun o => o.wait == .vigil
  let status := if (enter.map fun o => (s.queue o.queue).management) == some c.queue.management then stStateConflict else stPreempted
  guards [(!c.queue.management, plain stNotPermitted), (s.power.vigil != .entering, s.conflict 0 0)]
    (let s1 : State := { s with power := { s.power with vigil := .awake } }
     let detail := if status = stPreempted then 0 else 0xFFF * 2 ^ 20
     let result := if status = stPreempted then 0 else s.beat.number
     .done (match enter with | some o => s1.complete o status detail result | none => s1) 0)

/-- Registers, core stores and read-only caches are lost; what module flash holds of a core stays (18 R430). -/
def Core.unpowered (c : Core) : Core := { Core.initial with retired := c.retired, retiring := c.retiring }

/-- What loses power when the dies do, but for the two tiers, tables and queues. -/
def State.gateDies (s : State) : State :=
  let ofGroup (w : ChimeWaiter) : Bool := match w.waiter with | .group _ _ => true | _ => false
  { s with
    cores := s.cores.map fun c => (c.1, c.2.unpowered)
    lists := []
    waiters := s.waiters.filter fun w => !ofGroup w
    mem := { s.mem with requests := [] }
    fabric := FabricState.reset
    cijan := { s.cijan with mode := .down, txns := [], heldHello := none, engines := List.replicate 4 CijanEngine.reset }
    peal := { s.peal with lanes := List.replicate 24 Lane16.reset } }

/-- VIGIL_ENTRY: at D(E), every other command that was read having completed (18 Table 18-5, R430). -/
def State.vigilEntry (s : State) : State :=
  let others := s.commands.filter fun c => c.wait != .vigil
  if s.power.vigil ≠ .entering ∨ !s.beat.running ∨ s.now ≠ s.beat.start ∨ !others.isEmpty then s
  else
    let s1 := s.completeWhere fun c => c.wait == .vigil
    let s2 := s1.signals.foldl (fun s g => s.applySignal g) { s1 with signals := [] }
    let a := { s2.almanac with mode := .disarmed, due := [], disarmAtDownbeat := false }
    let s3 : State := { s2 with almanac := a, beat := { s2.beat with running := false } }
    let s4 := (s3.declareDown 7 0xFF).gateDies
    { s4 with
      peal := { s4.peal with mode := if s4.peal.mode = .member then .asleep else s4.peal.mode }
      power := { s4.power with vigil := .vigil, listener := s4.fail.primary } }

end Sys2Proof.Machine
end

