-- ==== Sys2Proof/WellFormed.lean ====
section
/-!
DEFINITION. Which commands are well formed: their operands name units and numbers that the module has. A command that is not well formed
occurs on no module; the machine's own checks do not rest on this one.
-/
namespace Sys2Proof
open Sys2Proof.Machine

/-- A queue number (11 R271). -/
def queueGood (q : Nat) : Bool := decide (q < 1048576)
/-- A packet's PARAMS are 48 bytes (11 Table 11-1). -/
def packetGood (p : Packet) : Bool := p.params.length == 48
/-- A code that no row of 11 Table 11-8 has. -/
def codeGood (code : Nat) : Bool := decide (code < 65536) && allOps.all fun o => opcodeOf o != code
/-- A core ID (01 R10). -/
def coreGood (c : Nat) : Bool := decide (c < 1728)
/-- A group of a block (04 R91). -/
def groupGood (g : Nat) : Bool := decide (g < 16)
/-- A station (01 R8), an edge die or its Cijan engine (01 R17), a lane (16 R366), a direction of the torus. -/
def stationGood (s : Nat) : Bool := decide (s < 54)
def edgeGood (e : Nat) : Bool := decide (e < 4)
def laneGood (l : Nat) : Bool := decide (l < 24)
def directionGood (d : Nat) : Bool := decide (d < 6)
/-- An arbitrated resource (14 R336), a link direction (21 R488), a unit with a sensor (18 R426). -/
def resourceGood (r : Nat) : Bool := decide (r < resourceCount)
def linkGood (x : Nat) : Bool := (linkEnds x).isSome
/-- A function (17), a completion ring (11 R275), a transaction tag (15 Table 15-2). -/
def functionGood (f : Nat) : Bool := decide (f < 4096)
def ringGood (r : Nat) : Bool := decide (r < 32)
def tagGood (t : Nat) : Bool := decide (t < 65536)
/-- A pipeline instruction's core and group. -/
def insGood (i : Ins) : Bool := coreGood i.core && groupGood i.group
/-- A relation of ICMP or FCMP that has an OP (04 Table 4-10). -/
def icmpGood (rel : Nat) : Bool := decide (rel < 10)
def fcmpGood (rel : Nat) : Bool := decide (rel < 8)
/-- What a core's code can find: nothing, a corrected or an uncorrectable error (04 R112). -/
def eccGood (ecc : Nat) : Bool := decide (ecc < 3)

/-- The command is well formed. -/
def wellFormed : Instr → Bool
  | .deviceNop q p => queueGood q && packetGood p
  | .deviceQuery q p => queueGood q && packetGood p
  | .undefinedOpcode q code p => queueGood q && codeGood code && packetGood p
  | .queueCreate q p => queueGood q && packetGood p
  | .queueDestroy q p => queueGood q && packetGood p
  | .queueStop q p => queueGood q && packetGood p
  | .queueStart q p => queueGood q && packetGood p
  | .queueQuery q p => queueGood q && packetGood p
  | .cringSet q p => queueGood q && packetGood p
  | .contextCreate q p => queueGood q && packetGood p
  | .contextDestroy q p => queueGood q && packetGood p
  | .contextQuery q p => queueGood q && packetGood p
  | .coreRetire q p => queueGood q && packetGood p
  | .dieIntercalate q p => queueGood q && packetGood p
  | .clockRecalibrate q p => queueGood q && packetGood p
  | .memAlloc q p => queueGood q && packetGood p
  | .memFree q p => queueGood q && packetGood p
  | .memQuery q p => queueGood q && packetGood p
  | .dmaCopy q p => queueGood q && packetGood p
  | .tier1RegionSet q p => queueGood q && packetGood p
  | .tier1Config q p => queueGood q && packetGood p
  | .tier1Pin q p => queueGood q && packetGood p
  | .tier1Unpin q p => queueGood q && packetGood p
  | .tier1Dead q p => queueGood q && packetGood p
  | .tier1Counters q p => queueGood q && packetGood p
  | .roInvalidate q p => queueGood q && packetGood p
  | .modelBegin q p => queueGood q && packetGood p
  | .modelDescribe q p => queueGood q && packetGood p
  | .modelCommit q p => queueGood q && packetGood p
  | .modelAbort q p => queueGood q && packetGood p
  | .modelUnload q p => queueGood q && packetGood p
  | .placeQuery q p => queueGood q && packetGood p
  | .placeReplace q p => queueGood q && packetGood p
  | .seqOpen q p => queueGood q && packetGood p
  | .seqAppend q p => queueGood q && packetGood p
  | .seqSet q p => queueGood q && packetGood p
  | .seqPause q p => queueGood q && packetGood p
  | .seqResume q p => queueGood q && packetGood p
  | .seqTruncate q p => queueGood q && packetGood p
  | .seqClose q p => queueGood q && packetGood p
  | .seqQuery q p => queueGood q && packetGood p
  | .seqPolicy q p => queueGood q && packetGood p
  | .kitCreate q p => queueGood q && packetGood p
  | .kitDestroy q p => queueGood q && packetGood p
  | .kitQuery q p => queueGood q && packetGood p
  | .kitLaunch q p => queueGood q && packetGood p
  | .chimeInit q p => queueGood q && packetGood p
  | .chimeSignal q p => queueGood q && packetGood p
  | .chimeWait q p => queueGood q && packetGood p
  | .chimeQuery q p => queueGood q && packetGood p
  | .chimeClear q p => queueGood q && packetGood p
  | .beatSetPeriod q p => queueGood q && packetGood p
  | .almanacWrite q p => queueGood q && packetGood p
  | .almanacRead q p => queueGood q && packetGood p
  | .almanacArm q p => queueGood q && packetGood p
  | .almanacDisarm q p => queueGood q && packetGood p
  | .timeSetSource q p => queueGood q && packetGood p
  | .timeQuery q p => queueGood q && packetGood p
  | .overrunSetPolicy q p => queueGood q && packetGood p
  | .pealForm q p => queueGood q && packetGood p
  | .pealJoin q p => queueGood q && packetGood p
  | .pealLeave q p => queueGood q && packetGood p
  | .pealQuery q p => queueGood q && packetGood p
  | .ringSend q p => queueGood q && packetGood p
  | .partitionSet q p => queueGood q && packetGood p
  | .partitionQuery q p => queueGood q && packetGood p
  | .vfEnable q p => queueGood q && packetGood p
  | .vfAssign q p => queueGood q && packetGood p
  | .vfReset q p => queueGood q && packetGood p
  | .vfFreeze q p => queueGood q && packetGood p
  | .vfSave q p => queueGood q && packetGood p
  | .vfRestore q p => queueGood q && packetGood p
  | .vfResume q p => queueGood q && packetGood p
  | .powerSetCap q p => queueGood q && packetGood p
  | .powerQuery q p => queueGood q && packetGood p
  | .thermalSetLimits q p => queueGood q && packetGood p
  | .vigilEnter q p => queueGood q && packetGood p
  | .vigilWake q p => queueGood q && packetGood p
  | .eccDiagMode q p => queueGood q && packetGood p
  | .eccRawWrite q p => queueGood q && packetGood p
  | .eccRawRead q p => queueGood q && packetGood p
  | .eccScrubSet q p => queueGood q && packetGood p
  | .eccDieMark q p => queueGood q && packetGood p
  | .eccLogRead q p => queueGood q && packetGood p
  | .fwDeliver q p => queueGood q && packetGood p
  | .fwLiveUpdate q p => queueGood q && packetGood p
  | .identityQuery q p => queueGood q && packetGood p
  | .attest q p => queueGood q && packetGood p
  | .stationFwUpdate q p => queueGood q && packetGood p
  | .edgePrimaryMove q p => queueGood q && packetGood p
  | .iadd i => insGood i
  | .isub i => insGood i
  | .imul i => insGood i
  | .imulhs i => insGood i
  | .imulhu i => insGood i
  | .imac i => insGood i
  | .shl i => insGood i
  | .shr i => insGood i
  | .sar i => insGood i
  | .andBits i => insGood i
  | .orBits i => insGood i
  | .xorBits i => insGood i
  | .notBits i => insGood i
  | .popc i => insGood i
  | .clz i => insGood i
  | .sel i => insGood i
  | .icmp rel i => icmpGood rel && insGood i
  | .fadd i => insGood i
  | .fsub i => insGood i
  | .fmul i => insGood i
  | .fmac i => insGood i
  | .fmin i => insGood i
  | .fmax i => insGood i
  | .fminnum i => insGood i
  | .fmaxnum i => insGood i
  | .fcmp rel i => fcmpGood rel && insGood i
  | .rcp i => insGood i
  | .sqrt i => insGood i
  | .rsqrt i => insGood i
  | .exp2 i => insGood i
  | .log2 i => insGood i
  | .sinpi i => insGood i
  | .cospi i => insGood i
  | .tanh i => insGood i
  | .mov i => insGood i
  | .movs i => insGood i
  | .lxch i => insGood i
  | .cvt i => insGood i
  | .pset i => insGood i
  | .pget i => insGood i
  | .bra i => insGood i
  | .brc i => insGood i
  | .call i => insGood i
  | .ret i => insGood i
  | .endThreads i => insGood i
  | .cld i => insGood i
  | .cst i => insGood i
  | .ld ecc i => eccGood ecc && insGood i
  | .ldc i => insGood i
  | .st i => insGood i
  | .aadd _ i => insGood i
  | .afadd _ i => insGood i
  | .amin _ i => insGood i
  | .amax _ i => insGood i
  | .aumin _ i => insGood i
  | .aumax _ i => insGood i
  | .aand _ i => insGood i
  | .aor _ i => insGood i
  | .axor _ i => insGood i
  | .axchg _ i => insGood i
  | .acas _ i => insGood i
  | .fence i => insGood i
  | .bar i => insGood i
  | .chwait i => insGood i
  | .chset i => insGood i
  | .nop i => insGood i
  | .mbegin i => insGood i
  | .mma i => insGood i
  | .mmas i => insGood i
  | .mread i => insGood i
  | .mstore i => insGood i
  | .mloadp i => insGood i
  | .mred i => insGood i
  | .mquant i => insGood i
  | .tload i => insGood i
  | .tstore i => insGood i
  | .windowSwap core _ => coreGood core
  | .loadReturn _ => true
  | .storeAck _ => true
  | .doorbell function queue _ => functionGood function && queueGood queue
  | .cringDoorbell function ring _ => functionGood function && ringGood ring
  | .irqDelayExpiry function ring => functionGood function && ringGood ring
  | .bootGo => true
  | .attention _ => true
  | .registerWrite _ _ _ => true
  | .downbeat => true
  | .stepBuilderWalk _ => true
  | .selectionDeadline => true
  | .selectionPublished _ _ => true
  | .guardStart => true
  | .transferDeadline _ => true
  | .launchWorkList _ => true
  | .startDma _ => true
  | .startRing _ => true
  | .signalChime _ => true
  | .sampleTelemetry _ => true
  | .chimeSignalApplied _ => true
  | .taskStart _ _ core => coreGood core
  | .taskRetire core => coreGood core
  | .switchRequest _ _ core => coreGood core
  | .drainComplete core => coreGood core
  | .saveComplete core => coreGood core
  | .restoreComplete core => coreGood core
  | .tilePublication _ => true
  | .tileRead _ _ => true
  | .homePortTileWrite _ _ => true
  | .sliceAccess _ station _ => stationGood station
  | .fillComplete station _ _ _ => stationGood station
  | .transferComplete _ _ => true
  | .scrubStep _ _ _ => true
  | .partRebuilt station _ => stationGood station
  | .admissionComplete _ => true
  | .prepare _ _ => true
  | .prepareAnswer _ _ _ _ _ => true
  | .prepareWaitExpiry _ => true
  | .commit _ _ _ => true
  | .release _ => true
  | .reservationExpiry _ => true
  | .openTransfer _ _ _ lane _ => laneGood lane
  | .data _ _ _ _ _ _ lane _ => laneGood lane
  | .doneMessage _ _ _ lane _ => laneGood lane
  | .nack _ _ _ lane _ => laneGood lane
  | .openRetry _ => true
  | .sync lane _ => laneGood lane
  | .syncExchange => true
  | .ctrl lane _ => laneGood lane
  | .credit lane _ _ => laneGood lane
  | .retry lane _ => laneGood lane
  | .cutThroughForward lane _ _ _ _ => laneGood lane
  | .stepDone _ _ _ => true
  | .elect lane _ => laneGood lane
  | .memberMapChange _ _ _ => true
  | .periodChangePropagate _ _ _ _ => true
  | .pealKitCreateRound _ _ => true
  | .ringLinkDown lane => laneGood lane
  | .ringLinkRetrain lane _ => laneGood lane
  | .memberLost _ => true
  | .formationTimeout => true
  | .timingInputLost direction => directionGood direction
  | .timingInputRestored direction => directionGood direction
  | .holdoverTimeout => true
  | .ptpMessage _ => true
  | .cData tag _ _ => tagGood tag
  | .cAck tag _ => tagGood tag
  | .cNack tag _ => tagGood tag
  | .creqResend tag => tagGood tag
  | .cErr tag _ _ => tagGood tag
  | .domainDownComplete => true
  | .transactionTimeout tag => tagGood tag
  | .dRead engine function tag _ _ => edgeGood engine && functionGood function && tagGood tag
  | .dWrite engine function tag _ _ => edgeGood engine && functionGood function && tagGood tag
  | .dWriteTile engine function tag _ _ _ => edgeGood engine && functionGood function && tagGood tag
  | .linkHello _ _ => true
  | .linkBlockChecked _ _ => true
  | .linkReset => true
  | .linkResetTimer => true
  | .linkCredit engine _ _ => edgeGood engine
  | .engineState engine _ => edgeGood engine
  | .cijanEngineLoss engine => edgeGood engine
  | .managementDatagram edge _ _ _ => edgeGood edge
  | .statusDatagram edge _ _ _ => edgeGood edge
  | .statusBroadcast => true
  | .icmpv6Message edge _ _ _ => edgeGood edge
  | .wakeDatagram _ _ _ => true
  | .wakeComplete _ => true
  | .vigilEntry => true
  | .refillWindow => true
  | .nextGrant resource _ => resourceGood resource
  | .carillonPayload _ _ => true
  | .carillonAck _ _ => true
  | .carillonNack _ _ => true
  | .bufferFree _ _ => true
  | .carillonRetryTimer _ => true
  | .carillonTimeout _ => true
  | .linkTrainingResult link _ _ => linkGood link
  | .frameReplay link => linkGood link
  | .linkDegradedRetry link _ _ => linkGood link
  | .governorStep _ => true
  | .droop station _ => stationGood station
  | .leaseLapse => true
  | .thermalCapUpdate _ => true
  | .telemetryRewrite => true
  | .thermalTrip unit => sensorUnit unit
  | .tripRecovery unit => sensorUnit unit
  | .inputVoltageFault _ => true
  | .rideThroughExpiry => true
  | .prechargeMate _ => true
  | .powerQualified => true
  | .mainContactMate => true
  | .withdrawal => true
  | .edgeSelfTest _ => true
  | .mgmtLinkUp edge => edgeGood edge
  | .loadReady => true
  | .stackTraining _ _ _ => true
  | .imageVerified => true
  | .memoryFill _ => true
  | .stationFwStarted => true
  | .computeSelfTest _ _ => true
  | .coreRelease => true
  | .liveUpdateCheck _ => true
  | .stationUpdateNext => true
  | .stationControllerRestart _ => true
  | .launchAckTimeout core => coreGood core
  | .repetition _ => true
  | .computeDieFailure station => stationGood station
  | .dieSelfTestDone station _ => stationGood station
  | .dieRestartDone station _ => stationGood station
  | .recalibrationDone station _ => stationGood station
  | .stationWatchdog station => stationGood station
  | .baseDieRejoin station => stationGood station
  | .edgeHeartbeatTimeout edge => edgeGood edge
  | .mgmtLinkLoss => true
  | .freezeComplete function => functionGood function
  | .imageWritten function _ => functionGood function
  | .restoreRebuilt function => functionGood function
  | .vfResetComplete function => functionGood function
  | .inputRangeExcursion _ => true
  | .inputRangeReturn _ => true
  | .pealKitCreateAnswer _ _ _ => true
  | .restoreImageTested function => functionGood function
  | .linkHotWindow link _ => linkGood link
  | .routerStateError station => stationGood station

end Sys2Proof
end

