-- ==== Sys2Proof/Decode.lean ====
section
/-!
DEFINITION. The words of the block. spec/opcode_table.json gives no row any bits, so no word of the table spells a command. The pipeline
instructions have words of their own (04 Tables 4-3, 4-7 and 4-10, 05 Table 5-7, 06 Table 6-3): their decoder and encoder are here.
-/
namespace Sys2Proof
open Sys2Proof.Machine

/-- The command that a word spells by the opcode table's bits: the table gives none. -/
def decodeTableWord (_nbits _w : Nat) : Option Instr := none

/-! ### The instruction word (04 R102, Table 4-3) -/

/-- CLASS, OP and the other fields of a pipeline instruction; none for a command that is no pipeline instruction. -/
def opcodeWord : Instr → Option (Nat × Nat × Ins)
  | .iadd i => some (0, 0x00, i)
  | .isub i => some (0, 0x01, i)
  | .imul i => some (0, 0x02, i)
  | .imulhs i => some (0, 0x03, i)
  | .imulhu i => some (0, 0x04, i)
  | .imac i => some (0, 0x05, i)
  | .shl i => some (0, 0x06, i)
  | .shr i => some (0, 0x07, i)
  | .sar i => some (0, 0x08, i)
  | .andBits i => some (0, 0x09, i)
  | .orBits i => some (0, 0x0A, i)
  | .xorBits i => some (0, 0x0B, i)
  | .notBits i => some (0, 0x0C, i)
  | .popc i => some (0, 0x0D, i)
  | .clz i => some (0, 0x0E, i)
  | .sel i => some (0, 0x0F, i)
  | .fadd i => some (1, 0x00, i)
  | .fsub i => some (1, 0x01, i)
  | .fmul i => some (1, 0x02, i)
  | .fmac i => some (1, 0x03, i)
  | .fmin i => some (1, 0x04, i)
  | .fmax i => some (1, 0x05, i)
  | .fminnum i => some (1, 0x06, i)
  | .fmaxnum i => some (1, 0x07, i)
  | .rcp i => some (2, 0x00, i)
  | .sqrt i => some (2, 0x01, i)
  | .rsqrt i => some (2, 0x02, i)
  | .exp2 i => some (2, 0x03, i)
  | .log2 i => some (2, 0x04, i)
  | .sinpi i => some (2, 0x05, i)
  | .cospi i => some (2, 0x06, i)
  | .tanh i => some (2, 0x07, i)
  | .mov i => some (3, 0x00, i)
  | .movs i => some (3, 0x01, i)
  | .lxch i => some (3, 0x02, i)
  | .cvt i => some (3, 0x03, i)
  | .pset i => some (3, 0x04, i)
  | .pget i => some (3, 0x05, i)
  | .bra i => some (4, 0x00, i)
  | .brc i => some (4, 0x01, i)
  | .call i => some (4, 0x02, i)
  | .ret i => some (4, 0x03, i)
  | .endThreads i => some (4, 0x04, i)
  | .cld i => some (5, 0x00, i)
  | .cst i => some (5, 0x01, i)
  | .ld _ i => some (6, 0x00, i)
  | .ldc i => some (6, 0x01, i)
  | .st i => some (6, 0x02, i)
  | .fence i => some (8, 0x00, i)
  | .bar i => some (8, 0x01, i)
  | .chwait i => some (8, 0x02, i)
  | .chset i => some (8, 0x03, i)
  | .nop i => some (8, 0x04, i)
  | .mbegin i => some (9, 0x00, i)
  | .mma i => some (9, 0x01, i)
  | .mmas i => some (9, 0x02, i)
  | .mread i => some (9, 0x10, i)
  | .mstore i => some (9, 0x20, i)
  | .mloadp i => some (9, 0x21, i)
  | .mred i => some (9, 0x22, i)
  | .mquant i => some (9, 0x30, i)
  | .tload i => some (10, 0x00, i)
  | .tstore i => some (10, 0x01, i)
  | .icmp rel i => some (0, 0x10 + rel, i)
  | .fcmp rel i => some (1, 0x10 + rel, i)
  | .aadd noret i => some (7, 2 * 0x00 + b2n noret, i)
  | .afadd noret i => some (7, 2 * 0x01 + b2n noret, i)
  | .amin noret i => some (7, 2 * 0x02 + b2n noret, i)
  | .amax noret i => some (7, 2 * 0x03 + b2n noret, i)
  | .aumin noret i => some (7, 2 * 0x04 + b2n noret, i)
  | .aumax noret i => some (7, 2 * 0x05 + b2n noret, i)
  | .aand noret i => some (7, 2 * 0x06 + b2n noret, i)
  | .aor noret i => some (7, 2 * 0x07 + b2n noret, i)
  | .axor noret i => some (7, 2 * 0x08 + b2n noret, i)
  | .axchg noret i => some (7, 2 * 0x09 + b2n noret, i)
  | .acas noret i => some (7, 2 * 0x0A + b2n noret, i)
  | _ => none

/-- The instruction that CLASS and OP name, with its other fields; none for a reserved CLASS or an OP that its class does not define,
which faults with ST_ILLEGAL_INSTRUCTION (04 R103). -/
def opcodeInstr (cls op : Nat) (i : Ins) : Option Instr :=
  match cls, op with
  | 0, 0x00 => some (.iadd i)
  | 0, 0x01 => some (.isub i)
  | 0, 0x02 => some (.imul i)
  | 0, 0x03 => some (.imulhs i)
  | 0, 0x04 => some (.imulhu i)
  | 0, 0x05 => some (.imac i)
  | 0, 0x06 => some (.shl i)
  | 0, 0x07 => some (.shr i)
  | 0, 0x08 => some (.sar i)
  | 0, 0x09 => some (.andBits i)
  | 0, 0x0A => some (.orBits i)
  | 0, 0x0B => some (.xorBits i)
  | 0, 0x0C => some (.notBits i)
  | 0, 0x0D => some (.popc i)
  | 0, 0x0E => some (.clz i)
  | 0, 0x0F => some (.sel i)
  | 1, 0x00 => some (.fadd i)
  | 1, 0x01 => some (.fsub i)
  | 1, 0x02 => some (.fmul i)
  | 1, 0x03 => some (.fmac i)
  | 1, 0x04 => some (.fmin i)
  | 1, 0x05 => some (.fmax i)
  | 1, 0x06 => some (.fminnum i)
  | 1, 0x07 => some (.fmaxnum i)
  | 2, 0x00 => some (.rcp i)
  | 2, 0x01 => some (.sqrt i)
  | 2, 0x02 => some (.rsqrt i)
  | 2, 0x03 => some (.exp2 i)
  | 2, 0x04 => some (.log2 i)
  | 2, 0x05 => some (.sinpi i)
  | 2, 0x06 => some (.cospi i)
  | 2, 0x07 => some (.tanh i)
  | 3, 0x00 => some (.mov i)
  | 3, 0x01 => some (.movs i)
  | 3, 0x02 => some (.lxch i)
  | 3, 0x03 => some (.cvt i)
  | 3, 0x04 => some (.pset i)
  | 3, 0x05 => some (.pget i)
  | 4, 0x00 => some (.bra i)
  | 4, 0x01 => some (.brc i)
  | 4, 0x02 => some (.call i)
  | 4, 0x03 => some (.ret i)
  | 4, 0x04 => some (.endThreads i)
  | 5, 0x00 => some (.cld i)
  | 5, 0x01 => some (.cst i)
  | 6, 0x00 => some (.ld 0 i)
  | 6, 0x01 => some (.ldc i)
  | 6, 0x02 => some (.st i)
  | 8, 0x00 => some (.fence i)
  | 8, 0x01 => some (.bar i)
  | 8, 0x02 => some (.chwait i)
  | 8, 0x03 => some (.chset i)
  | 8, 0x04 => some (.nop i)
  | 9, 0x00 => some (.mbegin i)
  | 9, 0x01 => some (.mma i)
  | 9, 0x02 => some (.mmas i)
  | 9, 0x10 => some (.mread i)
  | 9, 0x20 => some (.mstore i)
  | 9, 0x21 => some (.mloadp i)
  | 9, 0x22 => some (.mred i)
  | 9, 0x30 => some (.mquant i)
  | 10, 0x00 => some (.tload i)
  | 10, 0x01 => some (.tstore i)
  | 7, 0x00 => some (.aadd false i)
  | 7, 0x01 => some (.aadd true i)
  | 7, 0x02 => some (.afadd false i)
  | 7, 0x03 => some (.afadd true i)
  | 7, 0x04 => some (.amin false i)
  | 7, 0x05 => some (.amin true i)
  | 7, 0x06 => some (.amax false i)
  | 7, 0x07 => some (.amax true i)
  | 7, 0x08 => some (.aumin false i)
  | 7, 0x09 => some (.aumin true i)
  | 7, 0x0A => some (.aumax false i)
  | 7, 0x0B => some (.aumax true i)
  | 7, 0x0C => some (.aand false i)
  | 7, 0x0D => some (.aand true i)
  | 7, 0x0E => some (.aor false i)
  | 7, 0x0F => some (.aor true i)
  | 7, 0x10 => some (.axor false i)
  | 7, 0x11 => some (.axor true i)
  | 7, 0x12 => some (.axchg false i)
  | 7, 0x13 => some (.axchg true i)
  | 7, 0x14 => some (.acas false i)
  | 7, 0x15 => some (.acas true i)
  | 0, _ => if 0x10 ≤ op ∧ op ≤ 0x19 then some (.icmp (op - 0x10) i) else none
  | 1, _ => if 0x10 ≤ op ∧ op ≤ 0x17 then some (.fcmp (op - 0x10) i) else none
  | _, _ => none

/-- The 64 bits of a pipeline instruction. -/
def pipelineWord (x : Instr) : Option (BitVec 64) :=
  (opcodeWord x).map fun w =>
    BitVec.ofNat 4 w.1 ++ BitVec.ofNat 8 w.2.1 ++ BitVec.ofBool w.2.2.pneg ++ w.2.2.pred ++ w.2.2.dst ++ w.2.2.src0 ++ w.2.2.src1 ++
      w.2.2.src2 ++ w.2.2.imm

/-- The instruction that a group of a core issues when it fetches a word. -/
def pipelineInstr (core group : Nat) (w : BitVec 64) : Option Instr :=
  opcodeInstr (w.extractLsb' 60 4).toNat (w.extractLsb' 52 8).toNat
    { core, group, pneg := w.getLsbD 51, pred := w.extractLsb' 48 3, dst := w.extractLsb' 41 7, src0 := w.extractLsb' 34 7,
      src1 := w.extractLsb' 27 7, src2 := w.extractLsb' 20 7, imm := w.extractLsb' 0 20 }

end Sys2Proof
end

