-- ==== Sys2Proof/Machine/Input.lean ====
section
/-!
DEFINITION. The 48 V input: contacts, qualification, ride-through and loss (20 R453 to R455, 18 R423, 22 R495).
-/
namespace Sys2Proof.Machine
open Sys2Proof

/-- What module flash keeps of a compute die: its state (19 R441). -/
def ComputeDie.stored (d : ComputeDie) : ComputeDie :=
  let mode := match d.mode with
    | .starting => DieMode.intercalary
    | .measuring => .intercalary
    | m => m
  { d with mode, joining := false, releasing := false }

/-- Every die loses power and every content is lost (18 R423): what stays is what module flash holds (20 Table 20-7), the contacts,
and the messages and commands outside the module. -/
def State.powerOff (s : State) : State :=
  let r := State.reset
  let i := s.power.input
  let input : InputState := { i with mode := .absent, qualifiedAt := none, switchClosed := none, powered := false }
  let cores := s.cores.filterMap fun c => if c.2.retired then some (c.1, { Core.initial with retired := true }) else none
  let marks (p : Pair) : Pair := { Pair.reset with failedDies := p.failedDies }
  { r with
    now := s.now, nextId := s.nextId, freeCount := s.freeCount, cores, outbox := s.outbox, pending := s.pending
    mem := { r.mem with pairs := s.mem.pairs.map marks }
    power := { r.power with input }
    fail := { r.fail with dies := s.fail.dies.map fun d => (d.1, d.2.stored), clocks := s.fail.clocks }
    boot := { r.boot with floor := s.boot.floor, floorMissing := s.boot.floorMissing, history := s.boot.history } }

/-- A voltage within 40 V to 60 V, in 10 mV units. -/
def voltageGood (v : Nat) : Bool := decide (4000 ≤ v) && decide (v ≤ 6000)

/-- A voltage at which the dies lose power at once (18 R423). -/
def voltageFatal (v : Nat) : Bool := decide (v < 3600) || decide (6300 < v)

/-- The state with the input changed. -/
def State.setInput (s : State) (i : InputState) : State := { s with power := { s.power with input := i } }

/-- The unqualified input reads a voltage: the count of 20 R454 goes on, starts, or stops. -/
def InputState.sensed (i : InputState) (v now : Nat) : InputState :=
  if voltageGood v then
    if i.mode = .inRange then { i with voltage := v } else { i with voltage := v, mode := .inRange, inRangeSince := now }
  else { i with voltage := v, mode := .absent }

/-- The main switch closes where power is qualified and the main contact is mated (22 R495). -/
def State.closeSwitch (s : State) : State :=
  let i := s.power.input
  if i.qualifiedAt.isSome ∧ i.mainMated ∧ i.switchClosed.isNone then
    s.setInput { i with switchClosed := some s.now, powered := true }
  else s

/-- PRECHARGE_MATE: the return and precharge contacts have mated. -/
def State.prechargeMate (s : State) (v : Nat) : State :=
  let i := s.power.input
  if i.prechargeMated then s
  else s.setInput (({ i with returnMated := true, prechargeMated := true, mode := .absent } : InputState).sensed v s.now)

/-- POWER_QUALIFIED: the input has stayed in range for 50 ms. -/
def State.powerQualified (s : State) : State :=
  let i := s.power.input
  if !i.prechargeMated ∨ i.qualifiedAt.isSome ∨ i.mode ≠ .inRange then s
  else
    let s1 := s.clockTo (i.inRangeSince + 5000000)
    (s1.setInput { i with qualifiedAt := some s1.now }).closeSwitch

/-- MAIN_CONTACT_MATE. -/
def State.mainContactMate (s : State) : State :=
  let i := s.power.input
  if !i.prechargeMated ∨ i.mainMated then s else (s.setInput { i with mainMated := true }).closeSwitch

/-- WITHDRAWAL: main, precharge and return break. -/
def State.withdrawal (s : State) : State := (s.powerOff).setInput InputState.reset

/-- INPUT_RANGE_EXCURSION: outside 40 V to 60 V, within 36 V to 63 V. While the main switch still ramps, no ride-through is possible
(22 Table 22-8). -/
def State.inputRangeExcursion (s : State) (v : Nat) : State :=
  let i := s.power.input
  if voltageGood v ∨ voltageFatal v ∨ !i.prechargeMated then s
  else if !i.powered then s.setInput { i with mode := .absent, qualifiedAt := none, voltage := v }
  else if i.switchClosed.any fun t => decide (s.now < t + 2000000) then
    let s1 := s.powerOff
    s1.setInput { s1.power.input with voltage := v }
  else if s.power.riding then s.setInput { i with voltage := v }
  else
    let s1 := s.setInput { i with mode := .riding s.now, voltage := v }
    { s1 with power := { s1.power with clock := min s1.power.clock 600 } }

/-- INPUT_RANGE_RETURN: ride-through ends, or the count of 20 R454 starts. -/
def State.inputRangeReturn (s : State) (v : Nat) : State :=
  let i := s.power.input
  if !(voltageGood v) ∨ !i.prechargeMated then s
  else if s.power.riding then s.setInput { i with mode := .inRange, voltage := v }
  else s.setInput (i.sensed v s.now)

/-- INPUT_VOLTAGE_FAULT: below 36 V, or above 63 V. -/
def State.inputVoltageFault (s : State) (v : Nat) : State :=
  if !(voltageFatal v) ∨ !s.power.input.prechargeMated then s
  else
    let s1 := s.powerOff
    s1.setInput { s1.power.input with voltage := v }

/-- RIDE_THROUGH_EXPIRY: outside 40 V to 60 V for 10 ms. -/
def State.rideThroughExpiry (s : State) : State :=
  match s.power.input.mode with
  | .riding since => (s.clockTo (since + 1000000)).powerOff
  | _ => s

end Sys2Proof.Machine
end

