-- ==== Sys2Proof/Machine/Boot.lean ====
section
/-!
DEFINITION. Start-up, firmware images, live update, identity and attestation, and the end of Vigil
(20_insertion_start_and_trust.md, 18 R432).
-/
namespace Sys2Proof.Machine
open Sys2Proof

/-! ### BOOT_STATUS (20 R461, Table 20-4) -/

/-- PAIRS_OUT: bit p set where pair p is out. -/
def State.pairsOut (s : State) : Nat := maskOf ((List.range 10).filter fun p => (s.mem.pairs[p]?).any (·.out))

/-- CLAIM. -/
def Claim.code : Claim → Nat
  | .none => 0 | .companion => 1 | .management => 2

/-- BOOT_STATUS. -/
def State.bootStatus (s : State) : Nat :=
  let b := s.boot
  b2n b.loadReady + 2 * b2n b.trained + 4 * b2n b.fillDone + 8 * b2n b.verified + 16 * b2n b.stationsStarted +
    32 * b2n b.released + 2 ^ 6 * b.claim.code + 2 ^ 8 * b.rejectReason + 2 ^ 12 * b.startFault +
    2 ^ 16 * s.fail.primary + 2 ^ 18 * maskOf ((List.range 4).filter s.healthyEdge) + 2 ^ 22 * s.pairsOut

/-- The state with start-up changed. -/
def State.modBoot (s : State) (f : BootState → BootState) : State := { s with boot := f s.boot }

/-- Sirmo holds the module under R3 with a START_FAULT (20 R461). -/
def State.startFault (s : State) (code : Nat) : State := s.modBoot fun b => { b with startFault := code }

/-! ### Stages 1 to 4 and 6 to 8 (20 Table 20-2) -/

/-- The edge die that reports position `e`: the code of one die alone, with good parity, and its self-test passed (01 R17). -/
def edgeAt (results : List EdgeResult) (e : Nat) : Option EdgeResult :=
  match results.filter fun r => r.code == e with
  | [r] => if r.parityGood && r.pass then some r else none
  | _ => none

/-- A position's edge die after stage 1: up, or lost (01 R17). -/
def State.takeEdge (s : State) (results : List EdgeResult) (e : Nat) : State :=
  match edgeAt results e with
  | some r =>
    let s1 := s.modEdge e fun x => { x with up := true, lost := false, usable := r.usable }
    { s1 with cijan := { s1.cijan with engines := lmod s1.cijan.engines e fun g => { g with up := true } } }
  | none => (s.modEdge e fun x => { x with up := false, lost := true, usable := false }).logFailure 0x15 0xFF e

/-- EDGE_SELF_TEST: the end of stage 1. The primary is the lowest edge die that may be (01 R19, 20 R470); base dies get power and
the links enter BRINGUP. -/
def State.edgeSelfTest (s : State) (results : List EdgeResult) : State :=
  if s.power.input.qualifiedAt.isNone ∨ s.boot.lit ∨ s.boot.startFault ≠ 0 then s
  else
    let s1 := (List.range 4).foldl (fun s e => s.takeEdge results e) s
    if !((List.range 4).any s1.healthyEdge) then s1.startFault 1
    else
      let s2 := (s1.modBoot fun b => { b with lit := true }).startLinks (List.range 54)
      match (List.range 4).find? s2.primaryAble with
      | none => s2.startFault 5
      | some e => ({ s2 with fail := { s2.fail with primary := e } }).modBoot fun b => { b with stage1 := true }

/-- MGMT_LINK_UP: the optical link of an edge die's management port comes up. -/
def State.mgmtLinkUp (s : State) (e : Nat) : State :=
  if !s.boot.lit ∨ !(s.healthyEdge e) then s
  else s.modEdge e fun x => { x with mgmtUp := true, mgmtDownSince := none }

/-- LOAD_READY: ways 2 and 3 of stations 5 and 53 are filled (Table 20-2, stage 3). -/
def State.becomeLoadReady (s : State) : State :=
  if !s.boot.stage1 ∨ s.boot.loadReady then s
  else if s.baseOut 5 ∧ s.baseOut 53 then s.startFault 2
  else s.modBoot fun b => { b with loadReady := true }

/-- A pair is out until the next power-up: its granules belong to no partition (20 R460). -/
def State.losePair (s : State) (pair : Nat) : State :=
  let held := (List.range 1024).filter fun g => (granule2Parts g).any fun x => x.1 == pair
  (held.foldl (fun s g => s.modGranule2 g fun k => { k with partition := 255 }) s).setPairOut pair true

/-- A lane repair: a LANE_REPAIRED record and its counters (08 R199, 21 R489). -/
def State.laneRepaired (s : State) (pair : Nat) : State :=
  let s1 := s.logEvent 0x0B 4 0xFF pair 0 0 0xFF 0xFF
  let count := tupd s1.win.pairLanes pair 0 (· + 1)
  { s1 with win := { s1.win with lanesRepaired := s1.win.lanesRepaired + 1, pairLanes := count } }

/-- STACK_TRAINING: stage 4 ends with the stacks that failed three attempts, the pair dies (32 p + d) with a lane that cannot be
repaired, and the pairs of the lanes repaired (20 R460). -/
def State.stackTraining (s : State) (failed dies lanes : List Nat) : State :=
  if !s.boot.stage1 ∨ s.boot.trained then s
  else
    let s1 := lanes.foldl (fun s p => s.laneRepaired p) s
    let s2 := dies.foldl (fun s x => s.markDie (x / 32) (x % 32) 4) s1
    let s3 := failed.foldl (fun s x => s.losePair (stackPair x)) s2
    let s4 := s3.modBoot fun b => { b with trained := true }
    if s4.pairsOut = 2 ^ 10 - 1 then s4.startFault 3 else s4

/-- MEMORY_FILL: every code word of both tiers but the load area is zero, no POISON, tag or DEAD bit is set (08 R205). -/
def State.memoryFill (s : State) (micros : Nat) : State :=
  if !s.boot.trained ∨ s.boot.fillDone then s
  else
    let pairs := s.mem.pairs.map fun p => { p with errors := [], poison := [] }
    let mem := { s.mem with t1 := [], t2 := [], tags := [], deadBits := [], poison1 := [], raw := [], pairs }
    ({ s with mem }).modBoot fun b => { b with fillDone := true, fillTime := micros }

/-- STATION_FW_STARTED: the station firmware of the image runs at every station in the mesh (stage 7). -/
def State.stationFwStarted (s : State) : State :=
  if !s.boot.verified ∨ !s.boot.fillDone ∨ s.boot.stationsStarted then s
  else
    let n := s.newestImage
    let run (st : Nat) (b : BaseDie) : BaseDie := if s.baseOut st then b else { b with firmware := n }
    let s1 : State := { s with fail := { s.fail with bases := tmapv s.fail.bases run, stationImage := n } }
    s1.modBoot fun b => { b with stationsStarted := true }

/-- COMPUTE_SELF_TEST: the in-service compute dies have been tested and the module flash records read (stage 8). `flash`: 0 every
record good, 1 one fell back to its older copy, 2 the floor record is missing, 3 a record fails in both copies. -/
def State.computeSelfTest (s : State) (failed : List Nat) (flash : Nat) : State :=
  if !s.boot.stationsStarted ∨ s.boot.diesTested then s
  else
    let tested := failed.filter fun st => (s.die st).mode == .inService
    let s1 := tested.foldl (fun s st => s.dieLost st false) s
    let s2 := s1.modBoot fun b =>
      { b with diesTested := true, flashRead := flash != 3, fellBack := flash == 1, floorMissing := flash == 2,
               floor := if flash = 2 then 0 else b.floor }
    if flash = 3 then s2.startFault 4 else s2

/-! ### Release (20 R459, R467) -/

/-- QUEUE0_BASE and QUEUE0_LOG2 hold valid values (11 R271). -/
def State.queue0Valid (s : State) : Bool :=
  let b := s.boot
  decide (4 ≤ b.queue0Log2) && decide (b.queue0Log2 ≤ 16) && b.queue0Base != 0 && b.queue0Base % 4096 == 0 &&
    s.nameable false 0 b.queue0Base (64 * 2 ^ b.queue0Log2)

/-- Queue 0 is created once the cores are released and its fields are valid, with completion ring 0 of function 0. -/
def State.createQueue0 (s : State) : State :=
  if !s.boot.released ∨ (tget s.queues 0).isSome ∨ !s.queue0Valid then s
  else
    let b := s.boot
    let q : Queue :=
      { Queue.one with ringBase := b.queue0Base, kit := 0, log2Size := b.queue0Log2, management := false }
    let good := b.cring0Base % 128 == 0 && decide (6 ≤ b.cring0Log2) && decide (b.cring0Log2 ≤ 16)
    let r := s.cring 0 0
    let ring : CRing := { r with base := if good then b.cring0Base else 0, log2Size := b.cring0Log2 }
    let s1 := s.setCring 0 0 ring
    ({ s1 with queues := tset s1.queues 0 q }).flushRing 0 0 (r.waiting.length + 1)

/-- The device Kit: every core in service that is not retired (12 R286). -/
def State.createDeviceKit (s : State) : State :=
  if (tget s.kits 0).isSome then s
  else
    let cores := (List.range 1728).filter fun c => s.coreInService c && !(s.core c).retired
    { s with kits := tset s.kits 0 (Kit.device (cores.map KitUnit.core)) }

/-- RAISE_FLOOR of an image put into use (20 R464). -/
def Image.raise (i : Image) (floor : Nat) : Nat := if i.raiseFloor then i.securityVersion else floor

/-- The conditions of R459. -/
def State.releasable (s : State) : Bool :=
  let b := s.boot
  b.fillDone && b.verified && b.stationsStarted && b.diesTested && b.flashRead && b.startFault == 0

/-- A member that wakes joins again at its own coordinate (16 Table 16-2); the limit of PEAL_JOIN's default holds. -/
def State.rejoin (s : State) : State :=
  { s with peal := { s.peal with
      mode := .joining, reached := [], neighbours := [], locked := [], admitBeat := none, leader := none
      timeout := 10000, since := s.now } }

/-- CORE_RELEASE: cores are released at a downbeat. -/
def State.coreRelease (s : State) : State :=
  if s.boot.released ∨ !s.releasable ∨ !s.beat.running ∨ s.now ≠ s.beat.start then s
  else
    let floor := (s.boot.running.map fun i => i.raise s.boot.floor).getD s.boot.floor
    let raised := (s.boot.running.any (·.raiseFloor))
    let s1 := s.modBoot fun b => { b with released := true, floor, floorMissing := b.floorMissing && !raised }
    let s2 := if s1.peal.mode = .asleep then s1.rejoin else s1
    s2.createDeviceKit.createQueue0

/-! ### Images (20 R463 to R466) -/

/-- 16 MiB. -/
def imageLimit : Nat := 2 ^ 24

/-- An empty delivery. -/
def Delivery.empty : Delivery := { bytes := [], chunks := [], length := 0, verifying := false }

/-- A chunk arrives; a repeated one writes the same bytes again. -/
def Delivery.put (d : Delivery) (offset : Nat) (bytes : List Byte) : Delivery :=
  { d with bytes := memWrite zeroByte d.bytes offset bytes, chunks := d.chunks ++ [(offset, bytes.length)] }

/-- Every byte below `n` has arrived. -/
def Delivery.whole (d : Delivery) (n : Nat) : Bool :=
  (List.range (ceilDiv n 128)).all fun b =>
    d.chunks.any fun c => decide (c.1 ≤ 128 * b) && decide (128 * b + 128 ≤ c.1 + c.2)

/-- MAGIC, VERSION, sizes, offsets or reserved fields are wrong (20 R463, Table 20-5). -/
def headerBad (h : List Byte) (n : Nat) : Bool :=
  let (co, cb, so, sb) := (field h 24 4, field h 28 4, field h 32 4, field h 36 4)
  field h 0 4 != 0x5A465731 || field h 4 2 != 1 || field h 8 4 != n || n % 128 != 0 || decide (n < 320) ||
    decide (imageLimit < n) || decide (1 < field h 18 2) || field h 20 4 != 0 || (slice h 48 208).any (· != 0) ||
    co % 4096 != 0 || so % 4096 != 0 || decide (12 * 2 ^ 20 < cb) || decide (4 * 2 ^ 20 < sb) ||
    decide (co < 256) || decide (so < 256) || decide (n - 64 < co + cb) || decide (n - 64 < so + sb) ||
    (decide (co < so + sb) && decide (so < co + cb))

/-- The first check of Table 20-6 that an image fails: 0 where it is verified. -/
def imageCode (b : List Byte) (floor : Nat) : Nat :=
  let n := b.length
  if headerBad (b.take 256) n then 1
  else if field b 6 1 ≠ 0x42 then 2
  else if field b 16 2 ≠ 0x0100 then 3
  else if 3 < field b 7 1 then 4
  else if !(signatureValid (romKey (field b 7 1)) (b.take (n - 64)) (b.drop (n - 64))) then 5
  else if field b 12 4 < floor then 6
  else 0

/-- What Sirmo keeps of a verified image. -/
def imageOf (b : List Byte) : Image :=
  { header := b.take 256, digest := sm3 b, stationDigest := sm3 (slice b (field b 32 4) (field b 36 4))
    securityVersion := field b 12 4, raiseFloor := field b 18 2 == 1, buildId := field b 40 8 }

/-- A refusal: REJECT_REASON and a record; the claim is released (20 R464). -/
def State.rejectImage (s : State) (code : Nat) : State :=
  (s.modBoot fun b => { b with rejectReason := code, claim := if b.verified then b.claim else .none }).logFailure 0x1B 0xFF code

/-- Commands that wait for the check of an image complete. -/
def State.endImage (s : State) (status : Nat) : State :=
  (s.commands.filter fun c => c.wait == .image).foldl (fun s c => s.complete c status 0 0) s

/-- A verified image gets its number. -/
def State.addImage (s : State) (i : Image) : State := s.modBoot fun b => { b with images := b.images ++ [(s.newestImage + 1, i)] }

/-- Beat 0 of a peal of one (02 R27, R28 (b)). -/
def State.startBeat (s : State) (n : Nat) : State :=
  ({ s with beat := { s.beat with running := true, start := s.now, phase := .work, building := false } }).renumber n

/-- The check of the load area ends. -/
def State.checkLoad (s : State) : State :=
  let d := s.boot.load
  let b := memRead zeroByte d.bytes 0 d.length
  let code := imageCode b s.boot.floor
  let s1 := s.modBoot fun b => { b with load := { d with verifying := false } }
  if code ≠ 0 then (s1.rejectImage code).endImage stImageRejected
  else
    let i := imageOf b
    let s2 := (s1.addImage i).modBoot fun b => { b with verified := true, running := some i }
    (s2.startBeat 0).endImage stOk

/-- The check of the staging area ends; a live update that waits for it goes on (20 R468 (a), (b)). -/
def State.checkStaging (s : State) : State :=
  let d := s.boot.staging
  let b := memRead zeroByte d.bytes 0 d.length
  let code := imageCode b s.boot.floor
  let s1 := s.modBoot fun b => { b with staging := { d with verifying := false } }
  if code ≠ 0 then
    let s2 := (s1.rejectImage code).endImage stImageRejected
    match s.boot.liveUpdate with
    | some u => (s2.modBoot fun b => { b with liveUpdate := none }).completeId u.command stImageRejected 0 0
    | none => s2
  else
    let i := imageOf b
    let s2 := (s1.addImage i).modBoot fun b =>
      { b with staged := some i, liveUpdate := b.liveUpdate.map fun u => { u with verified := true } }
    s2.endImage stOk

/-- IMAGE_VERIFIED: the check of an image ends, within 20 ms of its last byte (20 R464). -/
def State.imageVerified (s : State) : State :=
  if !s.boot.verified ∧ s.boot.load.verifying then s.checkLoad
  else if s.boot.staging.verifying then s.checkStaging
  else s

/-- BOOT_GO: the companion's image is read into the load area (20 R465 (a), R466). -/
def State.bootGo (s : State) : State :=
  let b := s.boot
  if !s.reading ∨ !b.loadReady ∨ b.verified ∨ b.claim = .management ∨ b.startFault ≠ 0 then s
  else
    let (a, n) := (b.imageAddress, b.imageBytes)
    let s1 := s.modBoot fun b => { b with claim := .companion }
    if imageLimit < n ∨ n = 0 then s1.rejectImage 1
    else if a % 4096 ≠ 0 ∨ !(isCoherent a) ∨ s.cijan.mode ≠ .up ∨ !((s.window 0 a n).any (·.read)) then s1.rejectImage 8
    else
      let d := Delivery.empty.put 0 (s.companionRead a n)
      s1.modBoot fun b => { b with load := { d with length := n, verifying := true } }

/-- Image bytes that came with a FW_DELIVER packet (20 R465 (b)). -/
def State.chunkOf (s : State) (q index : Nat) : Option (List Byte) :=
  (s.boot.chunks.find? fun c => c.1 == (q, index)).map (·.2)

/-- The bytes that came with a packet are taken. -/
def State.dropChunk (s : State) (q index : Nat) : State :=
  s.modBoot fun b => { b with chunks := b.chunks.filter fun c => c.1 != (q, index) }

/-- FINAL: verification of a delivery of `n` bytes starts; a missing chunk refuses the image at once (20 Table 20-6, code 7). -/
def State.finalImage (s : State) (n : Nat) : Verdict :=
  let d := if s.boot.verified then s.boot.staging else s.boot.load
  if !(d.whole n) ∧ n ≤ imageLimit then .fail (s.rejectImage 7) stImageRejected 0 0
  else
    let d1 : Delivery := { d with length := n, verifying := true }
    .defer (s.modBoot fun b => if b.verified then { b with staging := d1 } else { b with load := d1 }) .image 0

/-- A chunk is written to the load area, or once an image is verified to the staging area (20 R466). -/
def State.putChunk (s : State) (offset : Nat) (bytes : List Byte) : State :=
  if s.boot.verified then
    let d := s.boot.staging
    let new := d.length != 0 && !d.verifying
    let d1 := if new then Delivery.empty else d
    s.modBoot fun b => { b with staging := d1.put offset bytes, staged := if new then none else b.staged }
  else
    let d := if s.boot.claim = .none then Delivery.empty else s.boot.load
    s.modBoot fun b => { b with claim := .management, load := d.put offset bytes }

/-- MODE 2: the delivery is abandoned. -/
def State.abandonImage (s : State) : State :=
  (s.modBoot fun b =>
    if b.verified then { b with staging := Delivery.empty, staged := none }
    else { b with load := Delivery.empty, claim := .none }).endImage stImageRejected

/-- FW_DELIVER (20 R465 (b), R466). -/
def fwDeliverEffect (c : Call) (s : State) : Verdict :=
  let (mode, offset, n) := (c.arg 0, c.arg 1, c.arg 2)
  let bytes := s.chunkOf c.cmd.queue c.cmd.index
  let s1 := s.dropChunk c.cmd.queue c.cmd.index
  let b := s.boot
  guards
    [(!c.queue.management, plain stNotPermitted), (decide (2 < mode), c.bad 0),
     (mode == 0 && (offset % 1024 != 0 || decide (imageLimit < offset + n)), c.bad 1),
     (mode == 0 && (n % 128 != 0 || decide (n < 128) || decide (1024 < n) || !(bytes.any fun x => x.length == n)), c.bad 2),
     (mode == 1 && n != 0, c.bad 2),
     (!b.loadReady || (!b.verified && b.claim == .companion) || (b.verified && b.liveUpdate.isSome), s.conflict 0 0)]
    (if mode = 0 then .done (s1.putChunk offset (bytes.getD [])) 0
     else if mode = 1 then s1.finalImage offset
     else .done s1.abandonImage 0)

/-! ### Live update (20 R468) -/

/-- FW_LIVE_UPDATE: the image is copied into the staging area, or the staged one is taken, and verified. -/
def fwLiveUpdateEffect (c : Call) (s : State) : Verdict :=
  let (a, n) := (c.arg 0, c.arg 1)
  let busy := !s.boot.released || s.boot.liveUpdate.isSome || s.fail.stationUpdate.isSome || s.power.vigil == .entering
  let d := if a = 0 then s.boot.staging else Delivery.empty.put 0 (s.sysRead a (min n imageLimit))
  let u : LiveUpdate :=
    { command := c.cmd.id, source := a, length := if a = 0 then d.length else n, verified := false, restartedAt := none }
  let d1 : Delivery := { d with length := u.length, verifying := true }
  guards
    [(a != 0 && c.blockBad s 0 (min n imageLimit) 128, c.bad 0), (busy, s.conflict 0 0),
     (a != 0 && c.domainDown s 0, plain stCoherentDown),
     (a != 0 && decide (imageLimit < n), .fail (s.rejectImage 1) stImageRejected 0 0),
     (a != 0 && !(isCoherent a) && s.poisonedAt a n, .fail (s.rejectImage 8) stImageRejected 0 0),
     (a == 0 && !(d.whole d.length), .fail (s.rejectImage 7) stImageRejected 0 0)]
    (.defer (s.modBoot fun b => { b with liveUpdate := some u, staging := d1 }) .liveUpdate 0)

/-- The control cores restart on the verified image at a downbeat, and no packet is read (20 R468 (c)). -/
def State.liveUpdateDownbeat (s : State) : State :=
  match s.boot.liveUpdate with
  | some u =>
    if u.verified ∧ u.restartedAt.isNone then
      s.modBoot fun b => { b with liveUpdate := some { u with restartedAt := some s.now } }
    else s
  | none => s

/-- LIVE_UPDATE_CHECK: 150 µs after the restart the new firmware runs and its image is kept, or the control cores restart from the
copy at station 5 (20 R468 (d), (e)). -/
def State.liveUpdateCheck (s : State) (running : Bool) : State :=
  match s.boot.liveUpdate with
  | none => s
  | some u =>
    match u.restartedAt with
    | none => s
    | some t =>
      let s1 := (s.clockTo (t + 15000)).modBoot fun b => { b with liveUpdate := none }
      match running, s.boot.staged with
      | true, some i =>
        let floor := i.raise s.boot.floor
        let s2 := s1.modBoot fun b =>
          { b with running := some i, load := b.staging, floor, floorMissing := b.floorMissing && !i.raiseFloor }
        s2.completeId u.command stOk 0 0
      | _, _ => (s1.rejectImage 9).completeId u.command stImageRejected 0 0

/-! ### Identity and attestation (20 R469 to R472) -/

/-- A result goes to the address in parameter `k`, or from a management queue with address 0 in a reply datagram of its own after the
status record (20 R472). -/
def Call.resultOrDatagram (c : Call) (s : State) (k : Nat) (extra : List (Bool × Verdict)) (bytes : List Byte) : Verdict :=
  if c.queue.management ∧ c.arg k = 0 then
    guards extra (.defer ((s.complete c.cmd stOk 0 0).resultDatagram c.cmd.queue bytes) .downbeat 0)
  else guards (extra ++ c.resultGuards s k bytes.length) (c.result s k bytes)

/-- The 512 bytes of IDENTITY_QUERY (20 R472). -/
def State.identityBytes (s : State) : List Byte :=
  let usable := maskOf ((List.range 4).filter fun e => (s.edge e).usable)
  padTo 512 (serialNumber ++ enrolledKeys ++ factorySignature ++ identityDigest ++ leBytes 1 usable)

/-- IDENTITY_QUERY: serial number, enrolled keys, factory signature, identity digest, and the usable security blocks. -/
def identityQueryEffect (c : Call) (s : State) : Verdict := c.resultOrDatagram s 0 [] s.identityBytes

/-- The station firmware that the most stations run (20 Table 20-8), the lowest number among equals. -/
def State.commonFirmware (s : State) : Nat :=
  let runs := s.fail.bases.filter fun b => !b.2.out
  let count (n : Nat) : Nat := (runs.filter fun b => b.2.firmware == n).length
  (List.range (s.newestImage + 1)).foldl (fun best n => if count best < count n then n else best) 0

/-- Bytes 0 to 319 of the attestation report (20 Table 20-8). -/
def State.attestation (s : State) (function : Nat) (nonce calibration : List Byte) : List Byte :=
  let b := s.boot
  let diag := s.mem.granules.any (·.2.diag) || s.mem.granules2.any (·.2.diag)
  let few := decide (((List.range 4).filter s.healthyEdge).length < 4)
  let common := s.commonFirmware
  let runs := s.fail.bases.filter fun x => !x.2.out
  let digest := ((b.images.find? fun i => i.1 == common).map (·.2.stationDigest)).getD (zeros 32)
  padTo 256
    (leBytes 2 1 ++ leBytes 1 s.fail.primary ++
      leBytes 1 (b2n b.fellBack + 2 * b2n b.floorMissing + 4 * b2n few + 8 * b2n diag) ++
      leBytes 4 ((b.running.map (·.securityVersion)).getD 0) ++ leBytes 4 b.floor ++ leBytes 2 function ++
      leBytes 2 (if b.verified then 0x0100 else 0) ++ leBytes 8 s.beat.number ++
      leBytes 8 ((b.running.map (·.buildId)).getD 0) ++ nonce ++ identityDigest ++
      ((b.running.map (·.digest)).getD (zeros 32)) ++ digest ++ calibration ++
      leBytes 8 (maskOf ((List.range 54).filter fun d => (s.die d).mode == .inService)) ++
      leBytes 8 (maskOf ((List.range 54).filter s.baseOut)) ++ leBytes 2 s.pairsOut ++
      leBytes 1 (runs.filter fun x => x.2.firmware != common).length) ++
    enrolledKey s.fail.primary

/-- The signed report of an ATTEST. The digest of the clock table and die state records is free, their bytes being no part of the
specification. -/
def Call.signedReport (c : Call) (s : State) : List Byte :=
  let nonce := s.sysRead (c.arg 0) 32
  let calibration := (List.range 4).flatMap fun i => leBytes 8 (Config.freeValue (s.freeCount + i)).toNat
  let report := s.attestation c.function nonce calibration
  report ++ padTo 64 (Config.sign s.fail.primary report)

/-- ATTEST: the report, signed by the primary's identity key. -/
def attestEffect (c : Call) (s : State) : Verdict :=
  let s1 : State := { s with freeCount := s.freeCount + 4 }
  c.resultOrDatagram s1 1 [(c.blockBad s 0 32 64, c.bad 0), (c.domainDown s 0, plain stCoherentDown)]
    (c.signedReport s)

/-! ### The end of Vigil (18 R432, Table 18-5) -/

/-- The lights, links and control cores are up again. -/
def State.powerUpDies (s : State) : State :=
  let engine (e : Nat) (g : CijanEngine) : CijanEngine := { g with up := s.healthyEdge e }
  let s1 : State := { s with
    power := { s.power with vigil := .awake }
    cijan := { s.cijan with engines := s.cijan.engines.mapIdx engine } }
  (s1.startLinks ((List.range 54).filter fun st => !(s.baseOut st))).linkResetTimer

/-- WAKE_COMPLETE: the retained image checks and the cores are released, or it does not and the module is held under R3. -/
def State.wakeComplete (s : State) (good : Bool) : State :=
  if s.power.vigil ≠ .waking then s
  else
    let s1 := s.powerUpDies
    let finish (s : State) (status : Nat) : State :=
      (s.commands.filter fun c => c.wait == .wake).foldl (fun s c => s.complete c status 0 0) s
    if !good then
      finish (s1.modBoot fun b =>
        { b with verified := false, released := false, running := none, claim := .none, load := Delivery.empty }) stImageRejected
    else if s1.peal.mode = .asleep then
      finish { s1.rejoin with beat := { s1.beat with running := true, start := s1.now, phase := .work, building := false } } stOk
    else finish (s1.startBeat 0) stOk

end Sys2Proof.Machine
end

