-- ==== Sys2Proof/Machine/Management.lean ====
section
/-!
DEFINITION. The management ports: datagrams of packets, status datagrams, ICMPv6, and the wake datagram (11 R277, 20 R456, R457,
01 R20, 18 R432).
-/
namespace Sys2Proof.Machine
open Sys2Proof

/-- Frames, datagrams and packets dropped at management ports (21 Table 21-3). -/
def State.dropDatagram (s : State) (n : Nat) : State := { s with win := { s.win with mgmtDropped := s.win.mgmtDropped + n } }

/-- The port takes in light: its edge die is healthy and its link up. -/
def State.portUp (s : State) (e : Nat) : Bool := s.healthyEdge e && (s.edge e).mgmtUp

/-- The port's control cores are out of Vigil. -/
def State.portAwake (s : State) : Bool := s.power.vigil != .vigil && s.power.vigil != .waking

/-- A well-formed header of Table 11-13 with its packets. -/
def headerGood (b : List Byte) : Bool :=
  let n := field b 2 2
  field b 0 2 == 1 && decide (1 ≤ n) && decide (n ≤ 16) && decide (field b 4 4 < 2 ^ 20) && decide (16 + 64 * n ≤ b.length) &&
    (n == 1 || b.length == 16 + 64 * n)

/-- The record of a command that a queue still keeps is sent again, with its number (11 R277 (b)). -/
def State.resend (s : State) (q index : Nat) : State :=
  let k := s.queue q
  match k.recent.find? fun r => r.1 == index with
  | some (_, number, bytes) =>
    s.send ⟨.reply, k.peer.1, [q, number, 1, k.peer.2], leBytes 2 1 ++ leBytes 2 1 ++ leBytes 4 q ++ leBytes 8 number ++ bytes⟩
  | none => s

/-- Packet `index` of a datagram, with the bytes that follow it (11 R277 (a) to (c)). -/
def State.takePacket (s : State) (q : Nat) (extra : List Byte) (index : Nat) : State :=
  let k := s.queue q
  if index = k.tail then
    if k.tail - k.head < 2 ^ k.log2Size then
      let s1 := s.modQueue q fun k => { k with tail := k.tail + 1, leaf := k.leaf || k.mode == .active }
      if extra.isEmpty then s1 else s1.modBoot fun b => { b with chunks := b.chunks ++ [((q, index), extra)] }
    else s.dropDatagram 1
  else if index < k.tail then s.resend q index
  else s.dropDatagram 1

/-- The packets of a datagram for a management queue that is neither FREE nor DRAINING. -/
def State.takePackets (s : State) (source port : Nat) (b : List Byte) : State :=
  let (n, q, first) := (field b 2 2, field b 4 4, field b 8 8)
  let s1 := s.modQueue q fun k => { k with peer := (source, port) }
  (List.range n).foldl (fun s k => s.takePacket q (b.drop (16 + 64 * n)) (first + k)) s1

/-- MANAGEMENT_DATAGRAM at the port of edge die `e`. -/
def State.managementDatagram (s : State) (e source port : Nat) (b : List Byte) : State :=
  if !(s.portUp e) ∨ !s.portAwake then s
  else if !s.boot.stage1 ∨ e ≠ s.fail.primary ∨ !(headerGood b) then s.dropDatagram 1
  else
    let k := s.queue (field b 4 4)
    if k.mode = .free ∨ k.mode = .draining ∨ !k.management then s.dropDatagram (field b 2 2) else s.takePackets source port b

/-- A status datagram of KIND 2 (20 Table 20-1). -/
def State.statusBytes (s : State) (e : Nat) : List Byte :=
  padTo 64
    (leBytes 2 0x8001 ++ leBytes 1 2 ++ leBytes 1 (e + 0x80 * b2n (s.boot.stage1 && e == s.fail.primary)) ++ leBytes 1 0x42 ++
      leBytes 1 (b2n !s.portAwake) ++ leBytes 2 (if s.boot.verified then 0x0100 else 0) ++ leBytes 8 s.bootStatus ++
      identityDigest.take 8 ++ leBytes 8 s.beat.number ++ leBytes 8 s.peal.pealId ++ leBytes 8 (s.queue 1).tail ++
      leBytes 2 s.peal.coordinate)

/-- STATUS_DATAGRAM: a request is answered to its source; anything else is dropped and counted. -/
def State.statusDatagram (s : State) (e source port : Nat) (b : List Byte) : State :=
  if !(s.portUp e) ∨ !s.portAwake then s
  else if field b 0 2 ≠ 0x8001 ∨ field b 2 1 ≠ 1 ∨ b.length ≠ 64 then s.dropDatagram 1
  else s.send ⟨.statusDatagram, source, [e, port], s.statusBytes e⟩

/-- ff02::1. -/
def allNodes : Nat := 0xFF02 * 2 ^ 112 + 1

/-- STATUS_BROADCAST: once per second from link-up until queue 1 has read its first packet, and while START_FAULT is not zero. -/
def State.statusBroadcast (s : State) : State :=
  let e := s.fail.primary
  if !s.boot.stage1 ∨ !(s.portUp e) ∨ !s.portAwake then s
  else if (s.queue 1).head ≠ 0 ∧ s.boot.startFault = 0 then s
  else s.send ⟨.statusDatagram, allNodes, [e, 47100], s.statusBytes e⟩

/-- ICMPV6_MESSAGE: an echo is answered, a neighbour solicitation is answered, a listener query is answered by a report (20 R456);
every other message changes nothing here. -/
def State.icmpv6Message (s : State) (e source kind : Nat) (b : List Byte) : State :=
  if !(s.portUp e) ∨ !s.portAwake then s
  else if kind = 128 then s.send ⟨.icmpv6, source, [e, 129], b⟩
  else if kind = 135 then s.send ⟨.neighbourAdvertisement, e, [ownDigest, source], []⟩
  else if kind = 130 then s.send ⟨.icmpv6, source, [e, 143], []⟩
  else s

/-- WAKE_DATAGRAM at the listening receiver: queue 1 at its TAIL, the first packet VIGIL_WAKE (18 R432). -/
def State.wakeDatagram (s : State) (source port : Nat) (b : List Byte) : State :=
  let k := s.queue 1
  let op := field b 16 2
  if s.power.vigil ≠ .vigil ∨ !(headerGood b) ∨ field b 4 4 ≠ 1 ∨ field b 8 8 ≠ k.tail ∨ op ≠ 0x9011 ∨ k.head + 2 ^ k.log2Size ≤ k.tail then s
  else
    let c : Command :=
      { id := s.nextId, queue := 1, index := k.tail, op := .vigilWake, packet := Packet.ofBytes (slice b 16 64), wait := .wake
        readBeat := s.beat.number, readAt := s.now, beforeBuild := true, result := 0, context := k.context }
    let s1 := s.takePackets source port b
    let s2 := if k.head < k.tail then s1
      else s1.modQueue 1 fun k => { k with head := k.head + 1, leaf := decide (k.head + 1 < k.tail) }
    { s2 with
      nextId := s2.nextId + 1, commands := s2.commands ++ [c]
      power := { s2.power with vigil := .waking } }

end Sys2Proof.Machine
end

