-- ==== Sys2Proof/Machine/Registers.lean ====
section
/-!
DEFINITION. The register windows: what a read of a register returns, the writes of RW fields, ATTENTION, doorbells, and DEVICE_QUERY
(21_register_windows.md, 11 R273 to R276).
-/
namespace Sys2Proof.Machine
open Sys2Proof

/-! ### Snapshots (21 R484, R485) -/

/-- The beat counters of the device, in the order of Table 21-7. -/
def State.deviceCounters (s : State) : List Nat :=
  [s.beat.overrunSoft, s.beat.overrunHard, s.beat.buildShort, s.beat.almanacLate, s.beat.almanacSkipped, s.beat.transferOverrun,
   s.win.switches, s.win.switchDeferred, s.win.switchLongest, s.win.scoreLate, s.win.noResultCount, s.win.syncAlarm]

/-- Index of a Kit's block. -/
def blockIndex (kit : Nat) : Nat := if isPealKit kit then 65536 + kit % 4096 else kit % 65536

/-- The 128 bytes of a Kit's block (21 R485). -/
def State.kitBlockBytes (s : State) (k : Kit) : List Byte :=
  let w := tgetD s.win.kitSwitches k.id (0, 0, 0)
  let counters := [k.overrunSoft, k.overrunHard, k.buildShort, k.almanacLate, k.almanacSkipped, k.transferOverrun,
    w.1, w.2.1, w.2.2, k.scoreLate, k.noResults, 0]
  padTo 128
    (counters.flatMap (leBytes 8) ++ leBytes 8 s.beat.number ++ leBytes 1 k.consecutive ++ leBytes 1 k.mode.code ++ zeros 2 ++
      leBytes 4 k.id)

/-- A block whose Kit is gone: STATE 0, the rest as it was. -/
def goneBlock (b : List Byte) : List Byte := b.take 105 ++ zeros 1 ++ b.drop 106

/-- The counters settled at or before this downbeat are shown, of the device and of every Kit. -/
def State.snapshot (s : State) : State :=
  let kept := s.win.kitBlocks.map fun b => (b.1, if s.kits.any fun k => blockIndex k.1 == b.1 then b.2 else goneBlock b.2)
  let blocks := s.kits.foldl (fun t k => tset t (blockIndex k.1) (s.kitBlockBytes k.2)) kept
  let switches := s.win.kitSwitches.filter fun k => (tget s.kits k.1).isSome
  { s with win := { s.win with
      snapshotBeat := s.beat.number, beatBlock := s.deviceCounters, kitBlocks := blocks, kitSwitches := switches } }

/-! ### The windows (21 Table 21-1) -/

/-- Cores that may be units of a Kit. -/
def State.coresServing (s : State) : Nat := ((List.range 1728).filter fun c => s.coreInService c && !(s.core c).retired).length

/-- The identity window (21 Table 21-2). -/
def State.identityWindow (s : State) : List Byte :=
  let b := s.boot
  let up := s.cijan.mode == .up
  let dies (m : DieMode) : Nat := if b.diesTested then maskOf ((List.range 54).filter fun d => (s.die d).mode == m) else 0
  leBytes 2 0x5A44 ++ leBytes 2 0x1536 ++ leBytes 1 0x42 ++ leBytes 1 (maskOf ((List.range 4).filter fun e => (s.edge e).usable)) ++
    leBytes 2 (if b.verified then 0x0100 else 0) ++ leBytes 8 ((b.running.map (·.buildId)).getD 0) ++
    (if b.lit then serialNumber ++ identityDigest else zeros 48) ++ leBytes 8 (dies .inService) ++ leBytes 8 (dies .intercalary) ++
    leBytes 4 (if b.diesTested then s.coresServing else 0) ++ leBytes 4 (if up then s.cijan.companionId else 0) ++
    leBytes 4 (if up then s.cijan.epoch else 0)

/-- SECURITY_VERSION of the running image and the rollback floor. -/
def State.versions (s : State) : List Byte := leBytes 4 s.boot.floor ++ leBytes 4 ((s.boot.running.map (·.securityVersion)).getD 0)

/-- The boot window (20 Table 20-3). -/
def State.bootWindow (s : State) : List Byte :=
  let b := s.boot
  leBytes 8 s.bootStatus ++ leBytes 8 b.imageAddress ++ leBytes 4 b.imageBytes ++ zeros 4 ++ leBytes 8 b.queue0Base ++
    leBytes 1 b.queue0Log2 ++ leBytes 1 b.cring0Log2 ++ zeros 6 ++ leBytes 8 b.cring0Base ++ zeros 8 ++ s.versions

/-- State codes of Tables 15-3 and 18-5 (21 Table 21-4). -/
def DomainMode.code : DomainMode → Nat
  | .down => 0 | .establishing => 1 | .up => 2 | .failing => 3
def VigilMode.code : VigilMode → Nat
  | .awake => 0 | .entering => 1 | .waking => 2 | .vigil => 0

/-- STATUS (21 Table 21-4). -/
def State.statusRegister (s : State) : Nat :=
  let busy := s.boot.liveUpdate.isSome || s.fail.stationUpdate.isSome
  b2n s.boot.released + 2 * s.fail.primary + 2 ^ 3 * maskOf ((List.range 4).filter s.healthyEdge) + 2 ^ 7 * s.cijan.mode.code +
    2 ^ 10 * b2n s.power.below + 2 ^ 11 * s.power.vigil.code + 2 ^ 13 * s.peal.mode.code + 2 ^ 16 * s.beat.lock.code +
    2 ^ 18 * b2n busy + 2 ^ 20 * b2n s.fail.autoIntercalate + 2 ^ 22 * s.pairsOut + 2 ^ 32 * s.boot.startFault

/-- The device status window (21 Table 21-3). -/
def State.deviceWindow (s : State) : List Byte :=
  let w := s.win
  leBytes 8 s.statusRegister ++ leBytes 8 w.attention.toNat ++ leBytes 8 w.attentionEnable.toNat ++ leBytes 2 w.attentionVector ++
    zeros 6 ++ leBytes 4 s.boot.fillTime ++ zeros 4 ++ leBytes 8 (maskOf ((List.range 54).filter s.baseOut)) ++
    leBytes 8 w.chimeLowTotal ++ leBytes 8 w.doorbellDropped ++ leBytes 8 s.cijan.malformed ++ leBytes 8 s.cijan.stale ++
    leBytes 8 s.cijan.narrow ++ leBytes 8 w.noticesDropped ++ leBytes 8 s.mem.logged ++ leBytes 8 w.mgmtDropped

/-- The beat and time window (21 Table 21-6). -/
def State.beatWindow (s : State) : List Byte :=
  let b := s.beat
  leBytes 8 b.number ++ leBytes 8 s.win.snapshotBeat ++ leBytes 4 b.period ++ leBytes 2 b.buildShare ++ leBytes 2 b.guardShare ++
    leBytes 8 ((b.change.map (·.effective)).getD 0) ++ leBytes 4 ((b.change.map (·.period)).getD 0) ++
    leBytes 1 s.almanac.mode.code ++ leBytes 1 s.timeState ++ zeros 2 ++ leBytes 8 s.downbeatTai ++
    leBytes 8 (ofSigned 8 b.ptp.offset) ++ leBytes 8 b.formation ++ s.win.beatBlock.flatMap (leBytes 8)

/-- LEASE_LEFT in ms. -/
def State.leaseLeft (s : State) : Nat := ((s.power.lease.map fun l => ceilDiv (l.renewedAt + l.length - s.now) 100000)).getD 0

/-- The power and thermal window (21 Table 21-8). -/
def State.powerWindow (s : State) : List Byte :=
  let p := s.power
  padTo 128 p.telemetry ++ leBytes 8 p.leaseLapsed ++ leBytes 8 p.trips ++ leBytes 8 p.capsAccepted ++ leBytes 4 s.leaseLeft ++
    leBytes 4 p.fallback ++ leBytes 2 p.rampUp ++ leBytes 1 p.tThrottle ++ leBytes 1 p.inletMax

/-- Counters of a slice. -/
def State.sliceUnit (s : State) (st : Nat) : UnitCounters := tgetD s.mem.slices st ⟨0, 0, 0, 0⟩

/-- Counters of a pair. -/
def State.pairUnit (s : State) (p : Nat) : UnitCounters := ((s.mem.pairs[p]?).map (·.counters)).getD ⟨0, 0, 0, 0⟩

/-- A device total of the error counters. -/
def State.errorTotal (s : State) (f : UnitCounters → Nat) : Nat :=
  ((List.range 10).map fun p => f (s.pairUnit p)).sum + ((List.range 54).map fun st => f (s.sliceUnit st)).sum

/-- A bank of a slice. -/
def State.bankOf (s : State) (st way : Nat) : Option Bank := tget s.mem.banks (st * 40 + way)

/-- Registers 0 to 7 of a pair's entry (21 Table 21-9). -/
def State.pairRegister (s : State) (p : Nat) : Nat → Nat
  | 0 => (s.pairUnit p).corrected
  | 1 => (s.pairUnit p).uncorrectable
  | 2 => ((s.mem.pairs[p]?).map (·.poison.length)).getD 0
  | 3 => ((s.mem.pairs[p]?).map fun x => maskOf x.failedDies).getD 0
  | 4 => tgetD s.win.pairLanes p 0
  | 5 => tgetD s.win.pairPasses p 0
  | _ => 0

/-- Registers 0 to 7 of a slice's entry. -/
def State.sliceRegister (s : State) (st : Nat) : Nat → Nat
  | 0 => (s.sliceUnit st).corrected
  | 1 => (s.sliceUnit st).uncorrectable
  | 2 => (s.sliceUnit st).tileRace
  | 3 => (s.sliceUnit st).tileCrc
  | 4 => tgetD s.win.slicePasses st 0
  | 5 => maskOf ((List.range 40).filter fun w => (s.bankOf st w).any (·.spareFor.isSome))
  | 6 => maskOf ((List.range 40).filter fun w => (s.bankOf st w).any fun b => b.failed.any fun k => b.spareFor != some k)
  | _ => 0

/-- The register at byte `o` of the error counter window. -/
def State.errorRegister (s : State) (o : Nat) : Nat :=
  let pick (t : Nat × Nat) : Nat := if o / 8 % 2 = 0 then t.1 else t.2
  if o < 256 then
    [s.errorTotal (·.corrected), s.errorTotal (·.uncorrectable), s.errorTotal (·.tileRace), s.errorTotal (·.tileCrc),
     s.win.summaryFail, s.win.lanesRepaired].getD (o / 8) 0
  else if o < 896 then s.pairRegister ((o - 256) / 64) (o / 8 % 8)
  else if o < 1024 then 0
  else if o < 4480 then s.sliceRegister ((o - 1024) / 64) (o / 8 % 8)
  else if o < 8192 then 0
  else if o < 13312 then pick (tgetD s.win.pairDies ((o - 8192) / 16) (0, 0))
  else if o < 16384 then 0
  else pick (tgetD s.win.parts ((o - 16384) / 16) (0, 0))

/-- STATE of a link (14 Table 14-2). -/
def LinkMode.code : LinkMode → Nat
  | .off => 0 | .bringup => 1 | .inService => 2 | .retraining => 3 | .degraded => 4 | .failed => 5

/-- The register at byte `o` of the fabric window (21 Table 21-10). -/
def State.fabricRegister (s : State) (o : Nat) : Nat :=
  if o < 278 * 32 then
    let l := tget s.fabric.links (o / 32)
    match o / 8 % 4 with
    | 0 => if (linkEnds (o / 32)).isNone then 0xFF else (l.map fun x => x.mode.code + 256 * x.mapped).getD 0
    | 1 => (l.map (·.hot)).getD 0
    | 2 => (l.map (·.retrains)).getD 0
    | _ => (l.map (·.replays)).getD 0
  else if 16384 ≤ o then
    let a := (o - 16384) / 2048
    let i := o % 2048 / 8
    if a < 66 ∧ slotExists a i then s.slotWeight a i + 2 ^ 32 * ofSigned 4 (s.arbSlot a i).shown else 0
  else 0

/-- STATE of a core (21 Table 21-11). -/
def State.coreState (s : State) (c : Nat) : Nat :=
  let k := s.core c
  if k.retired then 3
  else if (s.die (c / 32)).mode != .inService then 4
  else match k.phase with
    | .draining _ _ => 2
    | .saving _ _ => 2
    | .restoring _ _ => 2
    | _ => if k.holdsTask then 1 else 0

/-- The register of a core. -/
def State.coreRegister (s : State) (c : Nat) : Nat :=
  let owner := ((s.kits.find? fun k => k.2.units.contains (.core c)).map (·.1)).getD 0
  (if (s.core c).retired then 0 else s.maxClock c) + 2 ^ 10 * s.coreState c + 2 ^ 16 * s.coreClock c + 2 ^ 32 * owner

/-- A sensor's last reading. -/
def State.temp (s : State) (unit : Nat) : Int := tgetD s.power.temps unit 0

/-- The 16 bytes of a station: its firmware by the first 32 bits of the digest. -/
def State.stationBytes (s : State) (st : Nat) : List Byte :=
  let firmware := ((tget s.fail.bases st).map (·.firmware)).getD 0
  let digest := ((s.boot.images.find? fun i => i.1 == firmware).map (·.2.stationDigest)).getD (zeros 32)
  leBytes 1 (s.die st).mode.code ++ leBytes 1 (b2n (s.baseOut st)) ++ leBytes 2 (ofSigned 2 (s.temp st)) ++
    leBytes 2 (ofSigned 2 (s.temp (128 + st))) ++ zeros 2 ++ digest.take 4 ++ zeros 4

/-- STATE of a stack: 0 serving, 1 in self-refresh, 2 out. -/
def State.stackState (s : State) (k : Nat) : Nat :=
  if (s.mem.pairs[stackPair k]?).any (·.out) then 2 else if s.power.vigil = .vigil then 1 else 0

/-- The register at byte `o` of the diagnostic window (21 Table 21-11): at reset every field is 0, until stage 8 supplies the cores and
dies and stage 1 the edge dies. -/
def State.diagnosticRegister (s : State) (o : Nat) : Nat :=
  if o < 13824 then (if s.boot.diesTested then s.coreRegister (o / 8) else 0)
  else if o < 16384 then 0
  else if o < 17248 then (if s.boot.diesTested then field (s.stationBytes ((o - 16384) / 16)) (o % 16) 8 else 0)
  else if o < 17408 then 0
  else if o < 17472 then
    let e := (o - 17408) / 16
    if o % 16 = 0 ∧ s.boot.lit then
      b2n (s.healthyEdge e) + 256 * b2n (s.boot.stage1 && s.fail.primary == e) + 2 ^ 16 * ofSigned 2 (s.temp (54 + e))
    else 0
  else if o < 17536 then 0
  else if o < 17696 then
    let k := (o - 17536) / 8
    s.stackState k + 256 * ofSigned 1 (s.temp (64 + k) / 10)
  else 0

/-- The 4,096 bytes of a function page (21 Table 21-12). -/
def State.functionPage (s : State) (f : Nat) : List Byte :=
  let p := tgetD s.win.pages f (0, 0, 0)
  let dropped := ((List.range 32).map fun r => (s.cring f r).noticesDropped).sum
  padTo 128 (s.functionHead f) ++ leBytes 8 p.2.2 ++ leBytes 8 dropped ++ leBytes 8 p.1 ++ leBytes 8 p.2.1 ++ zeros 1888 ++
    (List.range 32).flatMap fun r => (s.cring f r).bytes

/-- First address, size and DEVICE_QUERY code of each window. -/
def windows : List (Nat × (Nat × Nat)) :=
  [(0x700000000000, 0x1000, 0), (0x700000001000, 0x1000, 1), (0x700000002000, 0x1000, 2), (0x700000003000, 0x1000, 3),
   (0x700000004000, 0x1000, 4), (0x700000010000, 0x80000, 5), (0x700000100000, 0x40000, 6), (0x700000180000, 0x8000, 9),
   (0x700001000000, 0x880000, 7), (0x700002000000, 0x1000000, 8)]

/-- Bytes of a window, 0 for a reserved code. -/
def windowSize (w : Nat) : Nat := ((windows.find? fun x => x.2.2 == w).map (·.2.1)).getD 0

/-- The register at byte `o` (a multiple of 8) of window `w`. -/
def State.register (s : State) (w o : Nat) : Nat :=
  match w with
  | 0 => field s.identityWindow o 8
  | 1 => field s.bootWindow o 8
  | 2 => field s.deviceWindow o 8
  | 3 => field s.beatWindow o 8
  | 4 => field s.powerWindow o 8
  | 5 => s.errorRegister o
  | 6 => s.fabricRegister o
  | 7 => field (tgetD s.win.kitBlocks (o / 128) (zeros 128)) (o % 128) 8
  | 8 => field (s.functionPage (o / 4096)) (o % 4096) 8
  | 9 => s.diagnosticRegister o
  | _ => 0

/-! ### Addresses -/

/-- What a register address names. -/
inductive RegisterAt where
  | window (w offset : Nat)
  | queueDoorbell (queue : Nat)
  | ringDoorbell (function ring : Nat)
  | unmapped
deriving DecidableEq, Repr

/-- The register that holds a device physical address. -/
def registerAt (a : Nat) : RegisterAt :=
  if 0x700010000000 ≤ a ∧ a < 0x700010800000 then .queueDoorbell ((a - 0x700010000000) / 8)
  else if 0x700010800000 ≤ a ∧ a < 0x700010900000 then
    .ringDoorbell ((a - 0x700010800000) / 256) ((a - 0x700010800000) / 8 % 32)
  else match windows.find? fun x => decide (x.1 ≤ a) && decide (a < x.1 + x.2.1) with
    | some x => .window x.2.2 ((a - x.1) / 8 * 8)
    | none => .unmapped

/-- A function may reach a register (21 R478). -/
def State.mayReach (s : State) (f : Nat) (r : RegisterAt) : Bool :=
  match r with
  | .unmapped => false
  | .window w o => f == 0 || (w == 8 && o / 4096 == f)
  | .queueDoorbell q => f == 0 || (s.queue q).mode != .free && (s.queue q).function == f || s.inRange f q
  | .ringDoorbell g _ => f == 0 || g == f

/-- The 64 bits of a register: a queue's doorbell reads HEAD, a ring's PRODUCED. -/
def State.readRegister (s : State) : RegisterAt → Nat
  | .window w o => s.register w o
  | .queueDoorbell q => (s.queue q).head
  | .ringDoorbell f r => (s.cring f r).produced
  | .unmapped => 0

/-- The bytes that a read of 4 or 8 bytes returns (21 R477). -/
def State.registerBytes (s : State) (a size : Nat) : List Byte := slice (leBytes 8 (s.readRegister (registerAt a))) (a % 8) size

/-! ### Doorbells (11 R273, R275, Table 11-11) -/

/-- A doorbell write is dropped and counted, for the device and on a function's page. -/
def State.dropDoorbell (s : State) (f : Nat) : State :=
  ({ s with win := { s.win with doorbellDropped := s.win.doorbellDropped + 1 } }).page f 0 0 1

/-- The function whose page counts a queue's doorbells. -/
def State.doorbellFunction (s : State) (q : Nat) : Nat :=
  if (s.queue q).mode != .free then (s.queue q).function
  else ((s.functions.find? fun f => s.inRange f.1 q && f.1 != 0).map (·.1)).getD 0

/-- A write of a new TAIL to the doorbell of a queue, by a function. -/
def State.ringQueue (s : State) (f q tail : Nat) : State :=
  let k := s.queue q
  if s.power.vigil = .vigil then s
  else if (k.mode ≠ .active ∧ k.mode ≠ .stopped) ∨ k.function ≠ f ∨ k.management ∨ (f ≠ 0 ∧ (s.function f).mode = .resetting) then
    s.dropDoorbell (s.doorbellFunction q)
  else if tail < k.tail ∨ k.head + 2 ^ k.log2Size < tail then s.breakQueue q 1 tail
  else s.modQueue q fun k => { k with tail, leaf := k.leaf || (k.mode == .active && decide (k.head < tail)) }

/-- A write of CONSUMED to the doorbell of a completion ring. -/
def State.ringConsumed (s : State) (f ring consumed : Nat) : State :=
  let r := s.cring f ring
  if s.power.vigil = .vigil then s
  else if r.base = 0 ∨ consumed < r.consumed ∨ r.produced < consumed ∨ (f ≠ 0 ∧ (s.function f).mode = .resetting) then s.dropDoorbell f
  else (s.setCring f ring { r with consumed }).flushRing f ring (r.waiting.length + 1)

/-- IRQ_DELAY_EXPIRY: the oldest unsignalled record of a ring has waited IRQ_DELAY µs (11 R276). -/
def State.irqDelayExpiry (s : State) (f ring : Nat) : State :=
  let r := s.cring f ring
  if r.unsignalled = 0 ∨ r.irqCount = 0 then s
  else
    let s1 := s.clockTo (r.oldestUnsignalled + 100 * r.irqDelay)
    (s1.setCring f ring { r with unsignalled := 0 }).interrupt f r.vector

/-! ### Writes (21 R477, R482, 20 R462) -/

/-- ATTENTION: each 1 clears its bit. -/
def State.clearAttention (s : State) (bits : U64) : State :=
  { s with win := { s.win with attention := s.win.attention &&& ~~~bits } }

/-- The new contents of a register when `size` bytes at `a` are written. -/
def mergeRegister (old a size value : Nat) : Nat :=
  let v := leBytes 8 old
  leNat (v.take (a % 8) ++ leBytes size value ++ v.drop (a % 8 + size))

/-- The implemented bits of ATTENTION (21 Table 21-5). -/
def attentionBits : Nat := 2 ^ 19 - 1

/-- The RW fields of the boot window are written before queue 0 exists (20 R462, R467). -/
def State.writeBoot (s : State) (o v : Nat) : State :=
  if (tget s.queues 0).isSome then s
  else
    let s1 := s.modBoot fun b =>
      match o with
      | 8 => { b with imageAddress := v }
      | 16 => { b with imageBytes := v % 2 ^ 32 }
      | 24 => { b with queue0Base := v }
      | 32 => { b with queue0Log2 := v % 256, cring0Log2 := v / 256 % 256 }
      | 40 => { b with cring0Base := v }
      | _ => b
    s1.createQueue0

/-- REGISTER_WRITE: 4 or 8 bytes of a register that has no behaviour of its own; RO fields and reserved bits ignore it. -/
def State.registerWrite (s : State) (a size value : Nat) : State :=
  let r := registerAt a
  let v := mergeRegister (s.readRegister r) a size value
  match r with
  | .window 1 o => if o = 48 then s else s.writeBoot o v
  | .window 2 16 => { s with win := { s.win with attentionEnable := BitVec.ofNat 64 (v % (attentionBits + 1)) } }
  | .window 2 24 => { s with win := { s.win with attentionVector := v % 2 ^ 16 } }
  | _ => s

/-- A well-shaped write of a register by a function that may reach it. -/
def State.writeRegister (s : State) (f a size value : Nat) : State :=
  match registerAt a with
  | .queueDoorbell q => if size = 8 then s.ringQueue f q value else s.dropDoorbell (s.doorbellFunction q)
  | .ringDoorbell g r => s.ringConsumed g r (mergeRegister (s.cring g r).consumed a size value)
  | .window 1 48 => s.bootGo
  | .window 2 8 => s.clearAttention (BitVec.ofNat 64 (mergeRegister 0 a size value))
  | _ => s.registerWrite a size value

/-! ### DEVICE_QUERY (21 R491) -/

/-- A virtual function may query registers `first` to `first + n - 1` of a window. -/
def State.mayQuery (s : State) (f w first n : Nat) : Bool :=
  f == 0 ||
  match w with
  | 0 => true
  | 8 => decide (512 * f ≤ first) && decide (first + n ≤ 512 * (f + 1))
  | 7 => (List.range ((first + n + 15) / 16 - first / 16)).all fun i =>
      s.kits.any fun k => blockIndex k.1 == first / 16 + i && (s.context k.2.context).function == f
  | _ => false

/-- DEVICE_QUERY. -/
def deviceQueryEffect (c : Call) (s : State) : Verdict :=
  let (w, first, n) := (c.arg 0, c.arg 1, c.arg 2)
  let direct := c.queue.management && c.arg 3 == 0
  let bytes := (List.range (min n 8192)).flatMap fun i => leBytes 8 (s.register w (8 * (first + i)))
  c.resultOrDatagram s 3
    [(!(s.mayQuery c.function w first n), plain stNotPermitted), (w == 1 || windowSize w == 0, c.bad 0),
     (decide (windowSize w ≤ 8 * first), c.bad 1),
     (decide (n < 1) || decide (8192 < n) || (direct && decide (128 < n)) || decide (windowSize w < 8 * (first + n)), c.bad 2)]
    bytes

end Sys2Proof.Machine
end

