-- ==== Sys2Proof/Machine/Aperture.lean ====
section
/-!
DEFINITION. The aperture: requests of the companion to device memory and registers (15 R346, R356 to R359, 17 R398 (c), R401 (g),
21 R476 to R478).
-/
namespace Sys2Proof.Machine
open Sys2Proof

/-- Why a request is answered with D_ERR (15 Table 15-6). -/
def dAccess : Nat := 1
def dNarrow : Nat := 2
def dTile : Nat := 3
def dUnreadable : Nat := 4

/-- The function may reach memory at `a`: the physical function all of it, a virtual one the SCRATCH granules of its partitions
(15 R356). -/
def State.apertureReach (s : State) (f a n : Nat) : Bool :=
  match region a with
  | .tier1 => if f = 0 then decide (a + n ≤ 2 ^ 34) else (List.range 64).any fun p => s.usable f p && s.inScratch p a n
  | .tier2 _ o => f == 0 && decide (o + n ≤ pairBytes)
  | .registers => s.mayReach f (registerAt a)
  | _ => false

/-- The request keeps to the shapes of 15 R357: `small` is a SMALL access. -/
def shapeGood (a n : Nat) (small : Bool) : Bool :=
  match region a with
  | .registers => small && (n == 4 || n == 8) && a % n == 0
  | .tier1 => !small && a % 128 == 0 && n % 128 == 0 && decide (128 ≤ n) && decide (a % 4096 + n ≤ 4096)
  | .tier2 _ o => !small && o % 512 == 0 && n % 512 == 0 && decide (512 ≤ n) && decide (n ≤ 4096)
  | _ => false

/-- A request of 4 or 8 bytes is SMALL. -/
def smallSize (n : Nat) : Bool := n == 4 || n == 8

/-- Stations of the ports of a stack pair (01 R14, R15). -/
def pairStations (pair : Nat) : List Nat :=
  (List.range 54).filter fun st => (memoryIndex st).any fun m => stackPair (2 * m) == pair || stackPair (2 * m + 1) == pair

/-- A station that the request needs is out, so that it waits (19 R442). -/
def State.apertureWaits (s : State) (a n : Nat) : Bool :=
  match region a with
  | .tier1 => (linePieces a n).any fun p => s.baseOut (slotStation (s.spreadMap p.1 / 4096))
  | .tier2 p _ => (pairStations p).any s.baseOut
  | _ => false

/-- The engine takes the request: lit, up, and not in Vigil (18 Table 18-5). -/
def State.engineTakes (s : State) (engine : Nat) : Bool :=
  s.boot.lit && s.power.vigil != .vigil && decide (engine < 4) && (s.cijan.engines[engine]?).any (·.up)

/-- The credits of a request go back: one header, and one per data unit (15 R346). -/
def State.returnCredits (s : State) (engine units : Nat) : State := s.send ⟨.linkCredit, engine, [1, units], []⟩

/-- D_ERR; a request of the wrong shape is counted in CIJAN_NARROW. -/
def State.dError (s : State) (engine function tag reason : Nat) : State :=
  let s1 : State := if reason = dNarrow then { s with cijan := { s.cijan with narrow := s.cijan.narrow + 1 } } else s
  s1.send ⟨.dErr, engine, [tag, function, reason], []⟩

/-- D_WRITEs that name the function are refused: it is being reset, or frozen (17 R398 (c), R401 (g)). -/
def State.writesBarred (s : State) (f : Nat) : Bool :=
  f != 0 && ((s.function f).mode == .resetting || (s.function f).halted s.beat.number s.beat.building)

/-- D_READ of `n` bytes at `a` by a function. -/
def State.dRead (s : State) (engine f tag a n : Nat) : State :=
  if !(s.engineTakes engine) ∨ s.apertureWaits a n then s
  else
    let s1 := s.returnCredits engine 0
    if !(s.apertureReach f a (max n 1)) then s1.dError engine f tag dAccess
    else if !(shapeGood a n (smallSize n)) then s1.dError engine f tag dNarrow
    else if region a = .registers then s1.send ⟨.dData, engine, [tag, f], s1.registerBytes a n⟩
    else if s.poisonedAt a n then s1.dError engine f tag dUnreadable
    else s1.send ⟨.dData, engine, [tag, f], s1.sysRead a n⟩

/-- D_WRITE of bytes at `a` by a function. -/
def State.dWrite (s : State) (engine f tag a : Nat) (payload : List Byte) : State :=
  let n := payload.length
  if !(s.engineTakes engine) ∨ s.apertureWaits a n then s
  else
    let s1 := s.returnCredits engine (ceilDiv n 128)
    if !(s.apertureReach f a (max n 1)) ∨ s.writesBarred f then s1.dError engine f tag dAccess
    else if !(shapeGood a n (smallSize n)) then s1.dError engine f tag dNarrow
    else
      let s2 := if region a = .registers then s1.writeRegister f a n (leNat payload) else s1.sysWrite a payload
      s2.send ⟨.dAck, engine, [tag, f], []⟩

/-- The tile of a tiled object whose payload lies at a pair-local address (06 R153). -/
def State.tileAt (s : State) (pair o : Nat) : Option (Nat × (Object × Nat)) :=
  s.objects.findSome? fun x =>
    if !x.2.tiled ∨ x.2.mode = .free then none
    else
      (x.2.units.findIdx? fun u => u.pair == pair && decide (u.base ≤ o) && decide (o < u.base + unitBytes)).bind fun k =>
        let d := o - ((x.2.units[k]?).map (·.base)).getD 0
        let tile := 32 * k + d / 4096
        if d % 4096 = 0 ∧ tile < x.2.tiles ∧ tileOffset tile = k * unitBytes + d then some (x.1, x.2, tile) else none

/-- The tile that the companion sends passes check (d) of 06 R149. -/
def tileSound (payload : List Byte) (t : Tag) : Bool := tileCrcOf payload t == t.crc && bit t.flags 0

/-- D_WRITE_TILE: a tile with its side tag, published in tier 1 or at its home port in tier 2. -/
def State.dWriteTile (s : State) (engine f tag a : Nat) (payload side : List Byte) : State :=
  if !(s.engineTakes engine) ∨ s.apertureWaits a 4096 then s
  else
    let s1 := s.returnCredits engine 33
    let t := Tag.ofBytes (padTo 16 side)
    let ack (x : State × Nat) : State :=
      if x.2 = stOk then x.1.send ⟨.dAck, engine, [tag, f], []⟩ else s1.dError engine f tag dUnreadable
    if region a = .registers then s1.dError engine f tag (if s.apertureReach f a 1 then dNarrow else dAccess)
    else if !(s.apertureReach f a 4096) ∨ s.writesBarred f then s1.dError engine f tag dAccess
    else if payload.length ≠ 4096 then s1.dError engine f tag dNarrow
    else match region a with
      | .tier1 =>
        if a % 4096 ≠ 0 then s1.dError engine f tag dNarrow
        else if !(tileSound payload t) then s1.dError engine f tag dTile
        else ack (s1.tilePut 0 0 a payload t)
      | .tier2 p o =>
        match s.tileAt p o with
        | none => s1.dError engine f tag dNarrow
        | some (i, _, n) =>
          if !(tileSound payload t) then s1.dError engine f tag dTile
          else ack (s1.tilePut 1 ((tget s.objects i).map (·.handle i) |>.getD 0) (n * 4096) payload t)
      | _ => s1.dError engine f tag dAccess

end Sys2Proof.Machine
end

