-- ==== Sys2Proof/Machine/Downbeat.lean ====
section
/-!
DEFINITION. The downbeat: everything that takes effect when a beat ends and the next one begins (02 R29 to R33, 11 R282).
-/
namespace Sys2Proof.Machine
open Sys2Proof

/-- The beat that ends: GUARD has begun, BUILD has composed what it could, and unselected lists are dropped (02 Table 2-1, R33). -/
def State.endBeat (s : State) : State :=
  let s1 := s.guardStart
  let s2 := if s1.beat.building then s1 else s1.stepBuilderWalk []
  let s3 := s2.selectionDeadline
  s3.clockTo s3.beatEnd

/-- The next beat begins (02 R28). -/
def State.nextBeat (s : State) : State :=
  let b := s.beat
  { s with beat := { b with number := b.number + 1, start := s.now, phase := .work, building := false } }

/-- Accepted settings of memory and partitions apply (07 Table 7-1, R187 (c), 12 R285). -/
def State.applySettings (s : State) : State :=
  let s1 := s.partitionChanges.foldl (fun s x => (s.applyPartition x).completeWhere fun c => c.wait == .partitionSet x.partition)
    { s with partitionChanges := [] }
  let s2 := s1.applyRegions
  let config := s2.commands.filter fun c => c.op == .tier1Config && c.wait == .downbeat
  let s3 := config.foldl (fun s c => (s.applyTier1Config c.packet).complete c stOk 0 0) s2
  let invalid := s3.commands.filterMap fun c => match c.wait with | .roInvalidate k => some (c, k) | _ => none
  let empty (c : Core) : Core := { c with constCache := [], descCache := [] }
  let units (s : State) (k : Nat) : List Nat := ((s.kit k).map fun x => x.units.filterMap fun u =>
    match u with | .core c => some c | _ => none).getD []
  invalid.foldl (fun s x => ((units s x.2).foldl (fun s c => s.modCore c empty) s).complete x.1 stOk 0 0) s3

/-- Kits: units move, placements take effect, policies and weights apply (03 R62, R68, R88, 02 R41, 14 R337). -/
def State.applyKits (s : State) : State :=
  let s1 := s.moveUnits
  let kits := s1.kits.map (·.1)
  let s2 := kits.foldl (fun s k => s.admitKit k) s1
  let s3 := kits.foldl (fun s k => s.switchKit k) s2
  s3.applyPolicies.applyWeights.refillWindow

/-- Power is judged anew: what left by an unload counts no more (18 R416, R417). -/
def State.applyPower (s : State) : State := (({ s with power := { s.power with departing := 0 } }) : State).capState false

/-- Transfers read in GUARD start, in the order in which they were read (02 R32). -/
def State.startDeferred (effectOf : Op → Call → State → Verdict) (s : State) : State :=
  let ids := (s.commands.filter fun c => match c.wait with | .startTransfer _ _ => true | _ => false).map (·.id)
  ids.foldl (fun s i => match s.command i with | some c => s.start effectOf c | none => s) s

/-- The verdict on a held command whose contradiction an earlier master has won: the statuses that R269 ranks before
ST_PREEMPTED_BY_PEER, else that one. A BEAT_SET_PERIOD is judged as if the winning change had not been accepted (02 R52). -/
def State.preempted (effectOf : Op → Call → State → Verdict) (s : State) (c : Command) : Verdict :=
  let base : State := if c.op = .beatSetPeriod then { s with beat := { s.beat with change := none } } else s
  match judge (effectOf c.op) ⟨c, s.queue c.queue⟩ base with
  | .refuse st d r =>
    if [stNotPermitted, stBadOpcode, stBadParam, stNarrowWrite, stContextLost, stStateConflict].contains st then .refuse st d r
    else plain stPreempted
  | _ => plain stPreempted

/-- Held commands take effect as if read at this downbeat (11 R282). -/
def State.startHeld (effectOf : Op → Call → State → Verdict) (s : State) : State :=
  let lost (c : Command) : Bool := (s.contradicted c (s.queue c.queue)).isSome
  let held := s.commands.filter fun c => c.wait == .held
  let s0 : State := { s with namedReads := [] }
  held.foldl (fun s h => match s.command h.id with
    | none => s
    | some c =>
      let c1 := { c with readBeat := s.beat.number, readAt := s.now, beforeBuild := true }
      let s1 : State := { s with commands := s.commands.map fun o => if o.id = c.id then c1 else o }
      if lost h then s1.conclude c1 (s1.preempted effectOf c1) else s1.start effectOf c1) s0

/-- DOWNBEAT. -/
def State.downbeat (effectOf : Op → Call → State → Verdict) (s : State) : State :=
  if !s.beat.running || !s.almanac.due.isEmpty then s
  else
    let m := s.beat.number
    let s1 := s.endBeat.nextBeat
    let s2 := s1.applyPeriod.settleOverruns m
    let s3 := s2.pealDownbeat.failureDownbeat.applySettings.applyKits.functionsDownbeat
    let s4 := s3.applyPower.liveUpdateDownbeat.launchAll
    let s5 := s4.almanacDownbeat s4.beat.number
    ((s5.startDeferred effectOf).startHeld effectOf).slewNext.snapshot

end Sys2Proof.Machine
end

