-- ==== Sys2Proof/Machine/Packets.lean ====
section
/-!
DEFINITION. The packet commands (11): the effect of each opcode, and the reading of its packet at HEAD of a queue.
-/
namespace Sys2Proof.Machine
open Sys2Proof

/-- The effect of each command (11 Table 11-8), whatever carve-outs are about to change. -/
def ownEffectOf : Op → Call → State → Verdict
  | .deviceNop => deviceNopEffect
  | .deviceQuery => deviceQueryEffect
  | .undefinedOpcode _ => fun _ _ => plain stBadOpcode
  | .queueCreate => queueCreateEffect
  | .queueDestroy => queueDestroyEffect
  | .queueStop => queueStopEffect
  | .queueStart => queueStartEffect
  | .queueQuery => queueQueryEffect
  | .cringSet => cringSetEffect
  | .contextCreate => contextCreateEffect
  | .contextDestroy => contextDestroyEffect
  | .contextQuery => contextQueryEffect
  | .coreRetire => coreRetireEffect
  | .dieIntercalate => dieIntercalateEffect
  | .clockRecalibrate => clockRecalibrateEffect
  | .memAlloc => memAllocEffect
  | .memFree => memFreeEffect
  | .memQuery => memQueryEffect
  | .dmaCopy => dmaCopyEffect
  | .tier1RegionSet => tier1RegionSetEffect
  | .tier1Config => tier1ConfigEffect
  | .tier1Pin => tier1PinEffect
  | .tier1Unpin => tier1UnpinEffect
  | .tier1Dead => tier1DeadEffect
  | .tier1Counters => tier1CountersEffect
  | .roInvalidate => roInvalidateEffect
  | .modelBegin => modelBeginEffect
  | .modelDescribe => modelDescribeEffect
  | .modelCommit => modelCommitEffect
  | .modelAbort => modelAbortEffect
  | .modelUnload => modelUnloadEffect
  | .placeQuery => placeQueryEffect
  | .placeReplace => placeReplaceEffect
  | .seqOpen => seqOpenEffect
  | .seqAppend => seqAppendEffect
  | .seqSet => seqSetEffect
  | .seqPause => seqPauseEffect
  | .seqResume => seqResumeEffect
  | .seqTruncate => seqTruncateEffect
  | .seqClose => seqCloseEffect
  | .seqQuery => seqQueryEffect
  | .seqPolicy => seqPolicyEffect
  | .kitCreate => kitCreateEffect
  | .kitDestroy => kitDestroyEffect
  | .kitQuery => kitQueryEffect
  | .kitLaunch => kitLaunchEffect
  | .chimeInit => chimeInitEffect
  | .chimeSignal => chimeSignalEffect
  | .chimeWait => chimeWaitEffect
  | .chimeQuery => chimeQueryEffect
  | .chimeClear => chimeClearEffect
  | .beatSetPeriod => beatSetPeriodEffect
  | .almanacWrite => almanacWriteEffect
  | .almanacRead => almanacReadEffect
  | .almanacArm => almanacArmEffect
  | .almanacDisarm => almanacDisarmEffect
  | .timeSetSource => timeSetSourceEffect
  | .timeQuery => timeQueryEffect
  | .overrunSetPolicy => overrunSetPolicyEffect
  | .pealForm => pealFormEffect
  | .pealJoin => pealJoinEffect
  | .pealLeave => pealLeaveEffect
  | .pealQuery => pealQueryEffect
  | .ringSend => ringSendEffect
  | .partitionSet => partitionSetEffect
  | .partitionQuery => partitionQueryEffect
  | .vfEnable => vfEnableEffect
  | .vfAssign => vfAssignEffect
  | .vfReset => vfResetEffect
  | .vfFreeze => vfFreezeEffect
  | .vfSave => vfSaveEffect
  | .vfRestore => vfRestoreEffect
  | .vfResume => vfResumeEffect
  | .powerSetCap => powerSetCapEffect
  | .powerQuery => powerQueryEffect
  | .thermalSetLimits => thermalSetLimitsEffect
  | .vigilEnter => vigilEnterEffect
  | .vigilWake => vigilWakeEffect
  | .eccDiagMode => eccDiagModeEffect
  | .eccRawWrite => eccRawWriteEffect
  | .eccRawRead => eccRawReadEffect
  | .eccScrubSet => eccScrubSetEffect
  | .eccDieMark => eccDieMarkEffect
  | .eccLogRead => eccLogReadEffect
  | .fwDeliver => fwDeliverEffect
  | .fwLiveUpdate => fwLiveUpdateEffect
  | .identityQuery => identityQueryEffect
  | .attest => attestEffect
  | .stationFwUpdate => stationFwUpdateEffect
  | .edgePrimaryMove => edgePrimaryMoveEffect

/-- The effect of each command, refused where it crosses a PARTITION_SET that is pending (12 R285). -/
def effectOf (op : Op) (c : Call) (s : State) : Verdict := s.heedPartitions (ownEffectOf op c s)

/-- The state after a command that leads from `s` to `t`: everything that this lets go on goes on, and the queue of the commands that
wait to be given to the block stays as it was, since no command acts on it. -/
def State.after (s t : State) : State := { settle effectOf t with pending := s.pending }

/-- Sirmo reads the packet at HEAD of a queue, and everything that this lets go on goes on (11 R278). -/
def packetCommand (op : Op) (q : Nat) (p : Packet) (s : State) : Host.Outcome State Fault Refusal :=
  .next (s.after (s.runCommand effectOf op q p))

/-- An event that changes the state `s` to `t`, and everything that this lets go on. -/
def event (s t : State) : Host.Outcome State Fault Refusal := .next (s.after t)

/-- An event at a unit of the module. -/
def eventAt (good : Bool) (s t : State) : Host.Outcome State Fault Refusal :=
  if good then event s t else .fault .noSuchUnit

/-- A write of an RW register by software: 4 or 8 bytes, naturally aligned, once the engines are lit (21 R477, R479). -/
def State.softWrite (s : State) (a size value : Nat) : State :=
  if !s.boot.lit ∨ s.power.vigil = .vigil ∨ (size ≠ 4 ∧ size ≠ 8) ∨ a % size ≠ 0 then s else s.registerWrite a size value

/-- The scrub of a unit pauses: in Vigil (08 R207), or its station is out. -/
def State.scrubWaits (s : State) (tier unit : Nat) : Bool := s.power.vigil == .vigil || (tier == 1 && s.baseOut unit)

/-- DEVICE_NOP (11 R267): Command that does nothing and completes with ST_OK. -/
def execDeviceNop (q : Nat) (p : Packet) (s : State) : Host.Outcome State Fault Refusal := packetCommand .deviceNop q p s

/-- DEVICE_QUERY (21 R491): Command that copies a range of registers of one register window to a result address or a reply
datagram. -/
def execDeviceQuery (q : Nat) (p : Packet) (s : State) : Host.Outcome State Fault Refusal := packetCommand .deviceQuery q p s

/-- UNDEFINED_OPCODE (11 R267): A packet whose OPCODE is not in Table 11-8 is read and refused with ST_BAD_OPCODE. -/
def execUndefinedOpcode (q code : Nat) (p : Packet) (s : State) : Host.Outcome State Fault Refusal :=
  packetCommand (.undefinedOpcode code) q p s

/-- QUEUE_CREATE (11 R272): Command that creates a command queue in ACTIVE with HEAD and TAIL 0. -/
def execQueueCreate (q : Nat) (p : Packet) (s : State) : Host.Outcome State Fault Refusal := packetCommand .queueCreate q p s

/-- QUEUE_DESTROY (11 R272): Command that frees an unbound queue, or puts it in DRAINING while commands are outstanding. -/
def execQueueDestroy (q : Nat) (p : Packet) (s : State) : Host.Outcome State Fault Refusal := packetCommand .queueDestroy q p s

/-- QUEUE_STOP (11 R272): Command that moves an ACTIVE queue to STOPPED. -/
def execQueueStop (q : Nat) (p : Packet) (s : State) : Host.Outcome State Fault Refusal := packetCommand .queueStop q p s

/-- QUEUE_START (11 R272): Command that restarts a STOPPED or BROKEN queue at a given HEAD. -/
def execQueueStart (q : Nat) (p : Packet) (s : State) : Host.Outcome State Fault Refusal := packetCommand .queueStart q p s

/-- QUEUE_QUERY (11 R267): Command that copies a queue descriptor to a result address. -/
def execQueueQuery (q : Nat) (p : Packet) (s : State) : Host.Outcome State Fault Refusal := packetCommand .queueQuery q p s

/-- CRING_SET (11 R275): Command that configures or unsets one completion ring of a function. -/
def execCringSet (q : Nat) (p : Packet) (s : State) : Host.Outcome State Fault Refusal := packetCommand .cringSet q p s

/-- CONTEXT_CREATE (12 R288): Command that creates a Context in a partition for a function. -/
def execContextCreate (q : Nat) (p : Packet) (s : State) : Host.Outcome State Fault Refusal := packetCommand .contextCreate q p s

/-- CONTEXT_DESTROY (12 R288): Command that destroys a Context, at once or through DESTROYING. -/
def execContextDestroy (q : Nat) (p : Packet) (s : State) : Host.Outcome State Fault Refusal := packetCommand .contextDestroy q p s

/-- CONTEXT_QUERY (12 R287): Command that copies the first 64 bytes of a Context entry. -/
def execContextQuery (q : Nat) (p : Packet) (s : State) : Host.Outcome State Fault Refusal := packetCommand .contextQuery q p s

/-- CORE_RETIRE (19 R439): Command that retires a core at the first downbeat at which it holds no task. -/
def execCoreRetire (q : Nat) (p : Packet) (s : State) : Host.Outcome State Fault Refusal := packetCommand .coreRetire q p s

/-- DIE_INTERCALATE (19 R441): Command that intercalates or releases a compute die, or switches automatic intercalation off or
on. -/
def execDieIntercalate (q : Nat) (p : Packet) (s : State) : Host.Outcome State Fault Refusal := packetCommand .dieIntercalate q p s

/-- CLOCK_RECALIBRATE (19 R445): Command that starts measuring the per-core clock maxima of an intercalary or retired die. -/
def execClockRecalibrate (q : Nat) (p : Packet) (s : State) : Host.Outcome State Fault Refusal :=
  packetCommand .clockRecalibrate q p s

/-- MEM_ALLOC (12 R293): Command that allocates, zeroes and returns a handle to a tier-2 memory object. -/
def execMemAlloc (q : Nat) (p : Packet) (s : State) : Host.Outcome State Fault Refusal := packetCommand .memAlloc q p s

/-- MEM_FREE (12 R295): Command that releases a memory object, or puts it in RETIRING while references remain. -/
def execMemFree (q : Nat) (p : Packet) (s : State) : Host.Outcome State Fault Refusal := packetCommand .memFree q p s

/-- MEM_QUERY (12 R294): Command that copies a memory object table entry. -/
def execMemQuery (q : Nat) (p : Packet) (s : State) : Host.Outcome State Fault Refusal := packetCommand .memQuery q p s

/-- DMA_COPY (11 R283): Command that checks a DMA descriptor and starts the row copy it describes. -/
def execDmaCopy (q : Nat) (p : Packet) (s : State) : Host.Outcome State Fault Refusal := packetCommand .dmaCopy q p s

/-- TIER1_REGION_SET (07 R169): Command that changes the mode or SPREAD marking of tier-1 granules. -/
def execTier1RegionSet (q : Nat) (p : Packet) (s : State) : Host.Outcome State Fault Refusal := packetCommand .tier1RegionSet q p s

/-- TIER1_CONFIG (07 R185): Command that sets YOUNG_BEATS, YOUNG_NOTICE and DEAD_STRICT of a partition from the next downbeat.
-/
def execTier1Config (q : Nat) (p : Packet) (s : State) : Host.Outcome State Fault Refusal := packetCommand .tier1Config q p s

/-- TIER1_PIN (07 R178): Command that pins lines of a memory object, or reports the outcome of a dry run. -/
def execTier1Pin (q : Nat) (p : Packet) (s : State) : Host.Outcome State Fault Refusal := packetCommand .tier1Pin q p s

/-- TIER1_UNPIN (07 R185): Command that clears PIN on lines of a memory object. -/
def execTier1Unpin (q : Nat) (p : Packet) (s : State) : Host.Outcome State Fault Refusal := packetCommand .tier1Unpin q p s

/-- TIER1_DEAD (07 R182): Command that declares cache-mode or scratch-mode lines dead. -/
def execTier1Dead (q : Nat) (p : Packet) (s : State) : Host.Outcome State Fault Refusal := packetCommand .tier1Dead q p s

/-- TIER1_COUNTERS (07 R180): Command that copies tier-1 counter records of a partition. -/
def execTier1Counters (q : Nat) (p : Packet) (s : State) : Host.Outcome State Fault Refusal := packetCommand .tier1Counters q p s

/-- RO_INVALIDATE (07 R187): Command that invalidates the read-only caches of a Kit's cores at the next downbeat. -/
def execRoInvalidate (q : Nat) (p : Packet) (s : State) : Host.Outcome State Fault Refusal := packetCommand .roInvalidate q p s

/-- MODEL_BEGIN (03 R68): Command that opens a model load on a CREATED Kit. -/
def execModelBegin (q : Nat) (p : Packet) (s : State) : Host.Outcome State Fault Refusal := packetCommand .modelBegin q p s

/-- MODEL_DESCRIBE (03 R72): Command that appends description records to an open load, all or none. -/
def execModelDescribe (q : Nat) (p : Packet) (s : State) : Host.Outcome State Fault Refusal := packetCommand .modelDescribe q p s

/-- MODEL_COMMIT (03 R81): Command that asks for admission of the open load. -/
def execModelCommit (q : Nat) (p : Packet) (s : State) : Host.Outcome State Fault Refusal := packetCommand .modelCommit q p s

/-- MODEL_ABORT (03 R68): Command that discards an open load. -/
def execModelAbort (q : Nat) (p : Packet) (s : State) : Host.Outcome State Fault Refusal := packetCommand .modelAbort q p s

/-- MODEL_UNLOAD (03 R68): Command that moves an ADMITTED Kit to UNLOADING with deferred completion. -/
def execModelUnload (q : Nat) (p : Packet) (s : State) : Host.Outcome State Fault Refusal := packetCommand .modelUnload q p s

/-- PLACE_QUERY (03 R71): Command that writes a Kit's placement summary. -/
def execPlaceQuery (q : Nat) (p : Packet) (s : State) : Host.Outcome State Fault Refusal := packetCommand .placeQuery q p s

/-- PLACE_REPLACE (03 R88): Command that re-runs admission of a Kit under new percentile and margin. -/
def execPlaceReplace (q : Nat) (p : Packet) (s : State) : Host.Outcome State Fault Refusal := packetCommand .placeReplace q p s

/-- SEQ_OPEN (10 R240): Command that opens the lowest free Sequence of a Kit's range in WAITING. -/
def execSeqOpen (q : Nat) (p : Packet) (s : State) : Host.Outcome State Fault Refusal := packetCommand .seqOpen q p s

/-- SEQ_APPEND (10 R242): Command that queues an array of input tokens on a Sequence. -/
def execSeqAppend (q : Nat) (p : Packet) (s : State) : Host.Outcome State Fault Refusal := packetCommand .seqAppend q p s

/-- SEQ_SET (10 R241): Command that changes priority, interval, limit and AUTO_DECODE of a Sequence. -/
def execSeqSet (q : Nat) (p : Packet) (s : State) : Host.Outcome State Fault Refusal := packetCommand .seqSet q p s

/-- SEQ_PAUSE (10 R240): Command that moves a Sequence to PAUSED. -/
def execSeqPause (q : Nat) (p : Packet) (s : State) : Host.Outcome State Fault Refusal := packetCommand .seqPause q p s

/-- SEQ_RESUME (10 R240): Command that moves a PAUSED Sequence to PREFILL, DECODE or WAITING. -/
def execSeqResume (q : Nat) (p : Packet) (s : State) : Host.Outcome State Fault Refusal := packetCommand .seqResume q p s

/-- SEQ_TRUNCATE (10 R244): Command that lowers POSITION and frees the pages above it. -/
def execSeqTruncate (q : Nat) (p : Packet) (s : State) : Host.Outcome State Fault Refusal := packetCommand .seqTruncate q p s

/-- SEQ_CLOSE (10 R240): Command that frees a Sequence, or puts it in CLOSING while work is in flight. -/
def execSeqClose (q : Nat) (p : Packet) (s : State) : Host.Outcome State Fault Refusal := packetCommand .seqClose q p s

/-- SEQ_QUERY (10 R241): Command that copies a Sequence table entry. -/
def execSeqQuery (q : Nat) (p : Packet) (s : State) : Host.Outcome State Fault Refusal := packetCommand .seqQuery q p s

/-- SEQ_POLICY (10 R254): Command that sets a Kit's sequence policy, including block-sparse attention. -/
def execSeqPolicy (q : Nat) (p : Packet) (s : State) : Host.Outcome State Fault Refusal := packetCommand .seqPolicy q p s

/-- KIT_CREATE (03 R62): Command that creates a Kit from direct units of a parent, completing at the downbeat at which the units
move. -/
def execKitCreate (q : Nat) (p : Packet) (s : State) : Host.Outcome State Fault Refusal := packetCommand .kitCreate q p s

/-- KIT_DESTROY (03 R68): Command that destroys a Kit, at once or through RETIRING. -/
def execKitDestroy (q : Nat) (p : Packet) (s : State) : Host.Outcome State Fault Refusal := packetCommand .kitDestroy q p s

/-- KIT_QUERY (03 R71): Command that copies a Kit's parameters, state, LEVEL and DEGRADED flag. -/
def execKitQuery (q : Nat) (p : Packet) (s : State) : Host.Outcome State Fault Refusal := packetCommand .kitQuery q p s

/-- KIT_LAUNCH (02 R30): Command that launches an admitted work list of a Kit at a downbeat. -/
def execKitLaunch (q : Nat) (p : Packet) (s : State) : Host.Outcome State Fault Refusal := packetCommand .kitLaunch q p s

/-- CHIME_INIT (12 R302): Command that sets counter, error, low count and owner of consecutive Chimes. -/
def execChimeInit (q : Nat) (p : Packet) (s : State) : Host.Outcome State Fault Refusal := packetCommand .chimeInit q p s

/-- CHIME_SIGNAL (12 R298): Command that signals a Chime with a value under serial-number comparison. -/
def execChimeSignal (q : Nat) (p : Packet) (s : State) : Host.Outcome State Fault Refusal := packetCommand .chimeSignal q p s

/-- CHIME_WAIT (12 R300): Command that holds its queue until a Chime reaches a target or receives error status. -/
def execChimeWait (q : Nat) (p : Packet) (s : State) : Host.Outcome State Fault Refusal := packetCommand .chimeWait q p s

/-- CHIME_QUERY (12 R302): Command that copies a Chime record and its waiter count. -/
def execChimeQuery (q : Nat) (p : Packet) (s : State) : Host.Outcome State Fault Refusal := packetCommand .chimeQuery q p s

/-- CHIME_CLEAR (12 R302): Command that clears ERROR and LOW_COUNT of consecutive Chimes. -/
def execChimeClear (q : Nat) (p : Packet) (s : State) : Host.Outcome State Fault Refusal := packetCommand .chimeClear q p s

/-- BEAT_SET_PERIOD (02 R51): Command that schedules a new beat period and phase shares from an effective beat. -/
def execBeatSetPeriod (q : Nat) (p : Packet) (s : State) : Host.Outcome State Fault Refusal := packetCommand .beatSetPeriod q p s

/-- ALMANAC_WRITE (02 R48): Command that writes 1 to 4,096 Almanac entries, all or nothing. -/
def execAlmanacWrite (q : Nat) (p : Packet) (s : State) : Host.Outcome State Fault Refusal := packetCommand .almanacWrite q p s

/-- ALMANAC_READ (02 R51): Command that copies Almanac entries to tier 1. -/
def execAlmanacRead (q : Nat) (p : Packet) (s : State) : Host.Outcome State Fault Refusal := packetCommand .almanacRead q p s

/-- ALMANAC_ARM (02 R50): Command that checks the Almanac and arms it from an ORIGIN beat. -/
def execAlmanacArm (q : Nat) (p : Packet) (s : State) : Host.Outcome State Fault Refusal := packetCommand .almanacArm q p s

/-- ALMANAC_DISARM (02 R50): Command that disarms the Almanac at the next downbeat. -/
def execAlmanacDisarm (q : Nat) (p : Packet) (s : State) : Host.Outcome State Fault Refusal := packetCommand .almanacDisarm q p s

/-- TIME_SET_SOURCE (02 R51): Command that selects PTP or no time source at the peal leader. -/
def execTimeSetSource (q : Nat) (p : Packet) (s : State) : Host.Outcome State Fault Refusal := packetCommand .timeSetSource q p s

/-- TIME_QUERY (02 R51): Command that reports beat number, TAI time of its downbeat, lock and PTP state. -/
def execTimeQuery (q : Nat) (p : Packet) (s : State) : Host.Outcome State Fault Refusal := packetCommand .timeQuery q p s

/-- OVERRUN_SET_POLICY (02 R51): Command that sets a Kit's overrun policy and limit from the next downbeat. -/
def execOverrunSetPolicy (q : Nat) (p : Packet) (s : State) : Host.Outcome State Fault Refusal :=
  packetCommand .overrunSetPolicy q p s

/-- PEAL_FORM (16 R376): Command that starts forming a peal of a given identifier and shape. -/
def execPealForm (q : Nat) (p : Packet) (s : State) : Host.Outcome State Fault Refusal := packetCommand .pealForm q p s

/-- PEAL_JOIN (16 R377): Command that starts an ALONE module joining an existing peal. -/
def execPealJoin (q : Nat) (p : Packet) (s : State) : Host.Outcome State Fault Refusal := packetCommand .pealJoin q p s

/-- PEAL_LEAVE (16 R388): Command at the leader that schedules a member to leave at beat L. -/
def execPealLeave (q : Nat) (p : Packet) (s : State) : Host.Outcome State Fault Refusal := packetCommand .pealLeave q p s

/-- PEAL_QUERY (16 R391): Command that writes the membership, lock and member map record. -/
def execPealQuery (q : Nat) (p : Packet) (s : State) : Host.Outcome State Fault Refusal := packetCommand .pealQuery q p s

/-- RING_SEND (16 R384): Command that checks a ring-transfer descriptor and starts the transfer to other members. -/
def execRingSend (q : Nat) (p : Packet) (s : State) : Host.Outcome State Fault Refusal := packetCommand .ringSend q p s

/-- PARTITION_SET (12 R285): Command that replaces a partition's carve-out at the next downbeat. -/
def execPartitionSet (q : Nat) (p : Packet) (s : State) : Host.Outcome State Fault Refusal := packetCommand .partitionSet q p s

/-- PARTITION_QUERY (12 R302): Command that writes a partition parameter block. -/
def execPartitionQuery (q : Nat) (p : Packet) (s : State) : Host.Outcome State Fault Refusal := packetCommand .partitionQuery q p s

/-- VF_ENABLE (17 R396): Command that enables or disables a virtual function. -/
def execVfEnable (q : Nat) (p : Packet) (s : State) : Host.Outcome State Fault Refusal := packetCommand .vfEnable q p s

/-- VF_ASSIGN (17 R395): Command that gives a virtual function its partitions and queue range. -/
def execVfAssign (q : Nat) (p : Packet) (s : State) : Host.Outcome State Fault Refusal := packetCommand .vfAssign q p s

/-- VF_RESET (17 R398): Command that squashes, stops and tears down everything of a virtual function. -/
def execVfReset (q : Nat) (p : Packet) (s : State) : Host.Outcome State Fault Refusal := packetCommand .vfReset q p s

/-- VF_FREEZE (17 R400): Command that starts freezing a virtual function at its freeze beat. -/
def execVfFreeze (q : Nat) (p : Packet) (s : State) : Host.Outcome State Fault Refusal := packetCommand .vfFreeze q p s

/-- VF_SAVE (17 R403): Command that writes a frozen function's state as an image. -/
def execVfSave (q : Nat) (p : Packet) (s : State) : Host.Outcome State Fault Refusal := packetCommand .vfSave q p s

/-- VF_RESTORE (17 R406): Command that tests an image and rebuilds a function from it. -/
def execVfRestore (q : Nat) (p : Packet) (s : State) : Host.Outcome State Fault Refusal := packetCommand .vfRestore q p s

/-- VF_RESUME (17 R408): Command that resumes a frozen function at the next downbeat. -/
def execVfResume (q : Nat) (p : Packet) (s : State) : Host.Outcome State Fault Refusal := packetCommand .vfResume q p s

/-- POWER_SET_CAP (18 R411): Command that sets the rack cap, ramp, lease and fallback. -/
def execPowerSetCap (q : Nat) (p : Packet) (s : State) : Host.Outcome State Fault Refusal := packetCommand .powerSetCap q p s

/-- POWER_QUERY (18 R424): Command that writes a full telemetry record and renews a lease from a management queue. -/
def execPowerQuery (q : Nat) (p : Packet) (s : State) : Host.Outcome State Fault Refusal := packetCommand .powerQuery q p s

/-- THERMAL_SET_LIMITS (18 R426): Command that sets T_THROTTLE and INLET_MAX. -/
def execThermalSetLimits (q : Nat) (p : Packet) (s : State) : Host.Outcome State Fault Refusal :=
  packetCommand .thermalSetLimits q p s

/-- VIGIL_ENTER (18 R429): Command that starts entry to Vigil. -/
def execVigilEnter (q : Nat) (p : Packet) (s : State) : Host.Outcome State Fault Refusal := packetCommand .vigilEnter q p s

/-- VIGIL_WAKE (18 R433): Command read at a management queue that cancels an entry to Vigil or completes a wake. -/
def execVigilWake (q : Nat) (p : Packet) (s : State) : Host.Outcome State Fault Refusal := packetCommand .vigilWake q p s

/-- ECC_DIAG_MODE (08 R215): Command that puts a granule into or out of diagnostic mode. -/
def execEccDiagMode (q : Nat) (p : Packet) (s : State) : Host.Outcome State Fault Refusal := packetCommand .eccDiagMode q p s

/-- ECC_RAW_WRITE (08 R215): Command that stores given data and check symbols in a diagnostic granule. -/
def execEccRawWrite (q : Nat) (p : Packet) (s : State) : Host.Outcome State Fault Refusal := packetCommand .eccRawWrite q p s

/-- ECC_RAW_READ (08 R215): Command that reads a code word raw and decoded with its verdict. -/
def execEccRawRead (q : Nat) (p : Packet) (s : State) : Host.Outcome State Fault Refusal := packetCommand .eccRawRead q p s

/-- ECC_SCRUB_SET (08 R207): Command that sets the scrub interval of a tier. -/
def execEccScrubSet (q : Nat) (p : Packet) (s : State) : Host.Outcome State Fault Refusal := packetCommand .eccScrubSet q p s

/-- ECC_DIE_MARK (08 R198): Command that marks or clears a pair die as FAILED. -/
def execEccDieMark (q : Nat) (p : Packet) (s : State) : Host.Outcome State Fault Refusal := packetCommand .eccDieMark q p s

/-- ECC_LOG_READ (08 R215): Command that copies error log records. -/
def execEccLogRead (q : Nat) (p : Packet) (s : State) : Host.Outcome State Fault Refusal := packetCommand .eccLogRead q p s

/-- FW_DELIVER (20 R465): Command that delivers an image chunk, starts verification, or abandons a delivery. -/
def execFwDeliver (q : Nat) (p : Packet) (s : State) : Host.Outcome State Fault Refusal := packetCommand .fwDeliver q p s

/-- FW_LIVE_UPDATE (20 R468): Command that verifies and installs a new command firmware image while running. -/
def execFwLiveUpdate (q : Nat) (p : Packet) (s : State) : Host.Outcome State Fault Refusal := packetCommand .fwLiveUpdate q p s

/-- IDENTITY_QUERY (20 R472): Command that writes serial number, enrolled keys, factory signature and identity digest. -/
def execIdentityQuery (q : Nat) (p : Packet) (s : State) : Host.Outcome State Fault Refusal := packetCommand .identityQuery q p s

/-- ATTEST (20 R472): Command that writes an attestation report signed by the primary's identity key. -/
def execAttest (q : Nat) (p : Packet) (s : State) : Host.Outcome State Fault Refusal := packetCommand .attest q p s

/-- STATION_FW_UPDATE (19 R449): Command that starts updating station firmware station by station. -/
def execStationFwUpdate (q : Nat) (p : Packet) (s : State) : Host.Outcome State Fault Refusal :=
  packetCommand .stationFwUpdate q p s

/-- EDGE_PRIMARY_MOVE (19 R447): Command that moves the primary role to a healthy standby edge die. -/
def execEdgePrimaryMove (q : Nat) (p : Packet) (s : State) : Host.Outcome State Fault Refusal :=
  packetCommand .edgePrimaryMove q p s

end Sys2Proof.Machine
end

