-- ==== Sys2Proof/Machine/BeatEvents.lean ====
section
/-!
DEFINITION. Events: what happens at an instant of the beat, the Almanac and time (02), of work lists and cores (03, 10, 13), and
register writes (21).
-/
namespace Sys2Proof.Machine
open Sys2Proof

/-- WINDOW_SWAP (04 R96): A waiting window group leaves and a ready resident group enters after write-back. -/
def execWindowSwap (core slot : Nat) (s : State) : Host.Outcome State Fault Refusal :=
  eventAt (decide (core < 1728)) s (s.windowSwap core slot)

/-- DOORBELL (11 R273): Write of a new TAIL to a queue doorbell register. -/
def execDoorbell (function queue : Nat) (tail : U64) (s : State) : Host.Outcome State Fault Refusal :=
  eventAt (decide (function < 4096) && decide (queue < 1048576)) s (s.ringQueue function queue tail.toNat)

/-- CRING_DOORBELL (11 R275): Write of CONSUMED to a completion ring doorbell. -/
def execCringDoorbell (function ring : Nat) (consumed : U64) (s : State) : Host.Outcome State Fault Refusal :=
  eventAt (decide (function < 4096) && decide (ring < 32)) s (s.ringConsumed function ring consumed.toNat)

/-- IRQ_DELAY_EXPIRY (11 R276): The oldest unsignalled record has waited IRQ_DELAY and an interrupt is due. -/
def execIrqDelayExpiry (function ring : Nat) (s : State) : Host.Outcome State Fault Refusal :=
  eventAt (decide (function < 4096) && decide (ring < 32)) s (s.irqDelayExpiry function ring)

/-- BOOT_GO (20 R466): Write to BOOT_GO that claims the load area and starts reading the image. -/
def execBootGo (s : State) : Host.Outcome State Fault Refusal :=
  event s s.bootGo

/-- ATTENTION (21 R482): Write-1-to-clear of ATTENTION bits. -/
def execAttention (bits : U64) (s : State) : Host.Outcome State Fault Refusal :=
  event s (s.clearAttention bits)

/-- REGISTER_WRITE (21 R477): Write to an RW register field without behaviour of its own. -/
def execRegisterWrite (address size : Nat) (value : U64) (s : State) : Host.Outcome State Fault Refusal :=
  event s (s.softWrite address size value.toNat)

/-- DOWNBEAT (02 R30): Start of a beat: settles the previous beat and issues the launches of this beat in order. -/
def execDownbeat (s : State) : Host.Outcome State Fault Refusal :=
  event s (s.downbeat effectOf)

/-- STEP_BUILDER_WALK (10 R247): At BUILD, the step builder applies results and composes each Kit's decode steps and prefill
chunks. -/
def execStepBuilderWalk (late : List Nat) (s : State) : Host.Outcome State Fault Refusal :=
  event s ((s.stepBuilderWalk late).settleInbounds)

/-- SELECTION_DEADLINE (10 R257): At D(n) − 1 µs, steps whose selection is not published are removed or the list is incomplete.
-/
def execSelectionDeadline (s : State) : Host.Outcome State Fault Refusal :=
  event s s.selectionDeadline

/-- SELECTION_PUBLISHED (10 R257): Score units finish and the merging unit publishes a selection tile. -/
def execSelectionPublished (kit seq : Nat) (s : State) : Host.Outcome State Fault Refusal :=
  event s (s.selectionPublished kit seq)

/-- GUARD_START (02 R32): GUARD begins; no launch is issued and overrun deadlines are reached. -/
def execGuardStart (s : State) : Host.Outcome State Fault Refusal :=
  event s s.guardStart

/-- TRANSFER_DEADLINE (02 R42): An Almanac-started transfer passes its deadline and a transfer overrun is recorded. -/
def execTransferDeadline (transfer : Nat) (s : State) : Host.Outcome State Fault Refusal :=
  event s (s.transferDeadline transfer)

/-- LAUNCH_WORK_LIST (02 R45): Almanac action that launches an admitted work list at its offset. -/
def execLaunchWorkList (index : Nat) (s : State) : Host.Outcome State Fault Refusal :=
  event s (s.launchAction index)

/-- START_DMA (02 R45): Almanac action that starts a DMA descriptor. -/
def execStartDma (index : Nat) (s : State) : Host.Outcome State Fault Refusal :=
  event s (s.dmaAction index)

/-- START_RING (02 R45): Almanac action that starts a ring transfer. -/
def execStartRing (index : Nat) (s : State) : Host.Outcome State Fault Refusal :=
  event s (s.ringAction index)

/-- SIGNAL_CHIME (02 R45): Almanac action that signals a Chime, optionally with the beat added. -/
def execSignalChime (index : Nat) (s : State) : Host.Outcome State Fault Refusal :=
  event s (s.signalAction index)

/-- SAMPLE_TELEMETRY (02 R46): Almanac action that writes a telemetry record to a ring. -/
def execSampleTelemetry (index : Nat) (s : State) : Host.Outcome State Fault Refusal :=
  event s (s.sampleAction index)

/-- CHIME_SIGNAL_APPLIED (12 R298): A signal arrives at a Chime record and is applied, waking satisfied waiters. -/
def execChimeSignalApplied (position : Nat) (s : State) : Host.Outcome State Fault Refusal :=
  event s (s.signalArrives position)

/-- TASK_START (13 R306): A ready task starts on a free eligible core. -/
def execTaskStart (list task core : Nat) (s : State) : Host.Outcome State Fault Refusal :=
  eventAt (decide (core < 1728)) s (s.taskStart list task core)

/-- TASK_RETIRE (13 R308): A task's last acknowledgement arrives and its core becomes free. -/
def execTaskRetire (core : Nat) (s : State) : Host.Outcome State Fault Refusal :=
  eventAt (decide (core < 1728)) s (s.taskRetire core)

/-- SWITCH_REQUEST (13 R309): A ready task takes an eligible victim and the victim's core stops issuing. -/
def execSwitchRequest (list task core : Nat) (s : State) : Host.Outcome State Fault Refusal :=
  eventAt (decide (core < 1728)) s (s.switchRequest list task core)

/-- DRAIN_COMPLETE (13 R311): A victim core has drained and its save begins. -/
def execDrainComplete (core : Nat) (s : State) : Host.Outcome State Fault Refusal :=
  eventAt (decide (core < 1728)) s (s.drainComplete core)

/-- SAVE_COMPLETE (13 R314): A task's save area writes are acknowledged. -/
def execSaveComplete (core : Nat) (s : State) : Host.Outcome State Fault Refusal :=
  eventAt (decide (core < 1728)) s (s.saveComplete core)

/-- RESTORE_COMPLETE (13 R315): A switched-out task's state is rebuilt and it resumes. -/
def execRestoreComplete (core : Nat) (s : State) : Host.Outcome State Fault Refusal :=
  eventAt (decide (core < 1728)) s (s.restoreComplete core)

/-- TIMING_INPUT_LOST (02 R55): The last timing input is lost and the lock state goes to HOLDOVER. -/
def execTimingInputLost (direction : Nat) (s : State) : Host.Outcome State Fault Refusal :=
  eventAt (decide (direction < 6)) s (s.timingLost direction)

/-- TIMING_INPUT_RESTORED (02 R55): A timing input returns and the module relocks. -/
def execTimingInputRestored (direction : Nat) (s : State) : Host.Outcome State Fault Refusal :=
  eventAt (decide (direction < 6)) s (s.timingRestored direction)

/-- HOLDOVER_TIMEOUT (02 R55): One second in HOLDOVER moves the lock state to FREE. -/
def execHoldoverTimeout (s : State) : Host.Outcome State Fault Refusal :=
  event s s.holdoverTimeout

/-- PTP_MESSAGE (02 R56): A PTP message is received and timestamped at the management port. -/
def execPtpMessage (message : PtpMessage) (s : State) : Host.Outcome State Fault Refusal :=
  event s (s.ptpMessage message)

end Sys2Proof.Machine
end

