-- ==== Sys2Proof/Machine/CoreCheck.lean ====
section
/-!
DEFINITION. LD, with what the code on the registers and the core store of its core finds as it issues (04 R112, R114, 19 R439).
-/
namespace Sys2Proof.Machine
open Sys2Proof

/-- LD (04 R114, R122). `ecc` is what the core's code finds at the issue: 0 no error, 1 a single-bit error, corrected and counted, any
other value an uncorrectable one, which is a failure of the core and not of the Context (04 R112, 19 R439 (a)). -/
def execLd (ecc : Nat) (i : Ins) (s : State) : Host.Outcome State Fault Refusal :=
  if 1728 ≤ i.core then .fault .noSuchUnit
  else if ecc = 0 then loadWords i s
  else if ecc = 1 then loadWords i (s.coreCorrected i.core)
  else .next { s.coreFailure i.core with pending := s.pending }

end Sys2Proof.Machine
end

