-- ==== Sys2Proof/Machine/LinkEvents.lean ====
section
/-!
DEFINITION. Events: messages and timers of the Cijan Link (15) and of the management ports (11, 20).
-/
namespace Sys2Proof.Machine
open Sys2Proof

/-- C_DATA (15 R352): Companion response carrying read data finishes a transaction. -/
def execCData (tag epoch : Nat) (payload : List Byte) (s : State) : Host.Outcome State Fault Refusal :=
  event s (s.cData tag epoch payload)

/-- C_ACK (15 R352): Companion response acknowledging a write finishes a transaction. -/
def execCAck (tag epoch : Nat) (s : State) : Host.Outcome State Fault Refusal :=
  event s (s.cAck tag epoch)

/-- C_NACK (15 R352): Companion response asking for a retry of a transaction. -/
def execCNack (tag epoch : Nat) (s : State) : Host.Outcome State Fault Refusal :=
  event s (s.cNack tag epoch)

/-- CREQ_RESEND (15 R352): The backoff after a C_NACK expires and the request is sent again. -/
def execCreqResend (tag : Nat) (s : State) : Host.Outcome State Fault Refusal :=
  event s (s.creqResend tag)

/-- C_ERR (15 R352): Companion error response that declares the domain down. -/
def execCErr (tag epoch reason : Nat) (s : State) : Host.Outcome State Fault Refusal :=
  event s (s.cErr tag epoch reason)

/-- DOMAIN_DOWN_COMPLETE (15 R347): The steps of FAILING complete and the domain is DOWN. -/
def execDomainDownComplete (s : State) : Host.Outcome State Fault Refusal :=
  event s s.domainDownComplete

/-- TRANSACTION_TIMEOUT (15 R352): No response for 1 ms declares the domain down. -/
def execTransactionTimeout (tag : Nat) (s : State) : Host.Outcome State Fault Refusal :=
  event s (s.transactionTimeout tag)

/-- D_READ (15 R356): Companion read of device memory or a register. -/
def execDRead (engine function tag address size : Nat) (s : State) : Host.Outcome State Fault Refusal :=
  eventAt (decide (engine < 4) && decide (function < 4096)) s (s.dRead engine function tag address size)

/-- D_WRITE (15 R357): Companion write of device memory or a register. -/
def execDWrite (engine function tag address : Nat) (payload : List Byte) (s : State) : Host.Outcome State Fault Refusal :=
  eventAt (decide (engine < 4) && decide (function < 4096)) s (s.dWrite engine function tag address payload)

/-- D_WRITE_TILE (15 R358): Companion tile write that is checked and published. -/
def execDWriteTile (engine function tag address : Nat) (payload side : List Byte) (s : State) : Host.Outcome State Fault Refusal :=
  eventAt (decide (engine < 4) && decide (function < 4096)) s (s.dWriteTile engine function tag address payload side)

/-- LINK_HELLO (15 R348): Companion message that starts an epoch. -/
def execLinkHello (epoch linkBlock : Nat) (s : State) : Host.Outcome State Fault Refusal :=
  event s (s.linkHello epoch linkBlock)

/-- LINK_BLOCK_CHECKED (15 R349): The link block and window table have been read and the epoch accepted or rejected. -/
def execLinkBlockChecked (block table : List Byte) (s : State) : Host.Outcome State Fault Refusal :=
  event s (s.linkBlockChecked block table)

/-- LINK_RESET (15 R362): Companion reset message. -/
def execLinkReset (s : State) : Host.Outcome State Fault Refusal :=
  event s s.linkReset

/-- LINK_RESET_TIMER (15 R347): In DOWN, Sirmo sends LINK_RESET once per ms. -/
def execLinkResetTimer (s : State) : Host.Outcome State Fault Refusal :=
  event s s.linkResetTimer

/-- LINK_CREDIT (15 R346): Credit message for link buffers. -/
def execLinkCredit (engine headers units : Nat) (s : State) : Host.Outcome State Fault Refusal :=
  eventAt (decide (engine < 4)) s (s.linkCredit engine headers units)

/-- ENGINE_STATE (15 R361): Message reporting a Cijan engine's state. -/
def execEngineState (engine : Nat) (up : Bool) (s : State) : Host.Outcome State Fault Refusal :=
  eventAt (decide (engine < 4)) s (s.engineState engine up)

/-- CIJAN_ENGINE_LOSS (15 R361): A Cijan light engine goes down and its traffic moves to the others. -/
def execCijanEngineLoss (engine : Nat) (s : State) : Host.Outcome State Fault Refusal :=
  eventAt (decide (engine < 4)) s (s.cijanEngineLoss engine)

/-- MANAGEMENT_DATAGRAM (11 R277): A UDP datagram of packets for a management queue is received. -/
def execManagementDatagram (edge source port : Nat) (bytes : List Byte) (s : State) : Host.Outcome State Fault Refusal :=
  eventAt (decide (edge < 4)) s (s.managementDatagram edge source port bytes)

/-- STATUS_DATAGRAM (20 R457): A status request datagram is answered by a status datagram. -/
def execStatusDatagram (edge source port : Nat) (bytes : List Byte) (s : State) : Host.Outcome State Fault Refusal :=
  eventAt (decide (edge < 4)) s (s.statusDatagram edge source port bytes)

/-- STATUS_BROADCAST (20 R457): The 1 s timer sends a status datagram to all nodes. -/
def execStatusBroadcast (s : State) : Host.Outcome State Fault Refusal :=
  event s s.statusBroadcast

/-- ICMPV6_MESSAGE (20 R456): An ICMPv6 or neighbour-discovery message at a management port. -/
def execIcmpv6Message (edge source kind : Nat) (bytes : List Byte) (s : State) : Host.Outcome State Fault Refusal :=
  eventAt (decide (edge < 4)) s (s.icmpv6Message edge source kind bytes)

/-- WAKE_DATAGRAM (18 R432): A wake datagram at the listening receiver starts waking from Vigil. -/
def execWakeDatagram (source port : Nat) (bytes : List Byte) (s : State) : Host.Outcome State Fault Refusal :=
  event s (s.wakeDatagram source port bytes)

end Sys2Proof.Machine
end

