-- ==== Sys2Proof/Machine/MemoryEvents.lean ====
section
/-!
DEFINITION. Events: what happens at slices, home ports and arbiters, and on the panel fabric (06, 07, 08, 09, 14).
-/
namespace Sys2Proof.Machine
open Sys2Proof

/-- LOAD_RETURN (04 R97): Data of a memory load or value-returning atomic returns to its group. -/
def execLoadReturn (request : Nat) (s : State) : Host.Outcome State Fault Refusal :=
  event s (if s.onItsWay request then s
    else if (s.request request).any Request.plain then s.loadReturn request else s.tileReturn request)

/-- STORE_ACK (09 R217): A home slice or port acknowledges a store, releasing waiting fences. -/
def execStoreAck (request : Nat) (s : State) : Host.Outcome State Fault Refusal :=
  event s (s.storeAck request)

/-- TILE_PUBLICATION (06 R151): A tile arrives at a tier-1 slice, is checked and published. -/
def execTilePublication (request : Nat) (s : State) : Host.Outcome State Fault Refusal :=
  event s (s.tilePublication request)

/-- TILE_READ (06 R152): A slice serves a tile read of payload and tag together. -/
def execTileRead (request : Nat) (upsets : List Upset) (s : State) : Host.Outcome State Fault Refusal :=
  event s (s.tileRead request upsets)

/-- HOME_PORT_TILE_WRITE (06 R154): A tile write arrives at its home port, is checked and written. -/
def execHomePortTileWrite (tile : Nat) (upsets : List Upset) (s : State) : Host.Outcome State Fault Refusal :=
  event s (s.homePortTileWrite tile upsets)

/-- SLICE_ACCESS (07 R171): A load, store or atomic request arrives at its point of coherence. -/
def execSliceAccess (request station : Nat) (upsets : List Upset) (s : State) : Host.Outcome State Fault Refusal :=
  eventAt (decide (station < 54)) s (if s.baseOut station then s else s.sliceAccess request station upsets)

/-- FILL_COMPLETE (07 R173): A tier-2 fill returns, is checked and installed and multicast to joined requesters. -/
def execFillComplete (station object line : Nat) (upsets : List Upset) (s : State) : Host.Outcome State Fault Refusal :=
  eventAt (decide (station < 54)) s (if s.baseOut station then s else s.fillReturns station object line upsets)

/-- TRANSFER_COMPLETE (09 R227): Every write of a DMA has been performed and its completion Chime is signalled. -/
def execTransferComplete (transfer : Nat) (upsets : List Upset) (s : State) : Host.Outcome State Fault Refusal :=
  event s ((s.observe upsets).transferComplete transfer)

/-- SCRUB_STEP (08 R207): A scrub interval expires and one code word is read, decoded and if needed corrected. -/
def execScrubStep (tier unit : Nat) (symbols : List Nat) (s : State) : Host.Outcome State Fault Refusal :=
  event s (if s.scrubWaits tier unit then s else s.scrubStep tier unit symbols)

/-- MACRO_REBUILT (08 R202): Rebuild into the spare macro completes. -/
def execPartRebuilt (station bank : Nat) (s : State) : Host.Outcome State Fault Refusal :=
  eventAt (decide (station < 54)) s (s.partRebuilt station bank)

/-- REFILL_WINDOW (14 R337): Each 1 µs window start refills the arbiter credit counters. -/
def execRefillWindow (s : State) : Host.Outcome State Fault Refusal :=
  event s s.refillWindow

/-- NEXT_GRANT (14 R338): A resource falls free and the arbiter grants the next slot. -/
def execNextGrant (resource : Nat) (late : List ArrivalList) (s : State) : Host.Outcome State Fault Refusal :=
  eventAt (decide (resource < resourceCount)) s (s.nextGrant resource late)

/-- CARILLON_PAYLOAD (14 R332): A carillon payload reaches a target, which takes or drops it. -/
def execCarillonPayload (carillon target : Nat) (s : State) : Host.Outcome State Fault Refusal :=
  event s (s.carillonPayload carillon target)

/-- CARILLON_ACK (14 R332): A target acknowledges a carillon payload. -/
def execCarillonAck (carillon target : Nat) (s : State) : Host.Outcome State Fault Refusal :=
  event s (s.carillonAck carillon target)

/-- CARILLON_NACK (14 R332): A target with no buffer refuses a carillon payload. -/
def execCarillonNack (carillon target : Nat) (s : State) : Host.Outcome State Fault Refusal :=
  event s (s.carillonNack carillon target)

/-- BUFFER_FREE (14 R332): A laggard reports a free buffer and the carillon is retried. -/
def execBufferFree (carillon target : Nat) (s : State) : Host.Outcome State Fault Refusal :=
  event s (s.bufferFree carillon target)

/-- CARILLON_RETRY_TIMER (14 R332): Two µs after a NACK the laggards are retried. -/
def execCarillonRetryTimer (carillon : Nat) (s : State) : Host.Outcome State Fault Refusal :=
  event s (s.carillonRetryTimer carillon)

/-- LINK_TRAINING_RESULT (14 R325): A die-to-die link training attempt succeeds or fails. -/
def execLinkTrainingResult (link : Nat) (success : Bool) (wires : Nat) (s : State) : Host.Outcome State Fault Refusal :=
  eventAt ((linkEnds link).isSome) s (s.linkTrainingResult link success wires)

/-- FRAME_REPLAY (14 R326): A frame-check mismatch asks the sender to replay frames. -/
def execFrameReplay (link : Nat) (s : State) : Host.Outcome State Fault Refusal :=
  eventAt ((linkEnds link).isSome) s (s.frameReplay link)

/-- LINK_DEGRADED_RETRY (14 R325): A DEGRADED link tries training once every second. -/
def execLinkDegradedRetry (link : Nat) (success : Bool) (wires : Nat) (s : State) : Host.Outcome State Fault Refusal :=
  eventAt ((linkEnds link).isSome) s (s.linkDegradedRetry link success wires)

/-- LINK_HOT_WINDOW (14 R328): At the end of each 1 µs window a link that carried more than 80 % of its payload rate counts in
LINK_HOT. -/
def execLinkHotWindow (link bytes : Nat) (s : State) : Host.Outcome State Fault Refusal :=
  eventAt ((linkEnds link).isSome) s (s.linkHotWindow link bytes)

end Sys2Proof.Machine
end

