-- ==== Sys2Proof/Machine/PealEvents.lean ====
section
/-!
DEFINITION. Events: messages and timers of the peal (03, 10, 16), and the steps of virtual functions (17).
-/
namespace Sys2Proof.Machine
open Sys2Proof

/-- ADMISSION_COMPLETE (03 R73): A run of admission finishes and reserves or refuses. -/
def execAdmissionComplete (kit : Nat) (s : State) : Host.Outcome State Fault Refusal :=
  event s (s.admissionEnds kit)

/-- PREPARE (03 R86): Leader message naming a member's share, which the member admits and reserves. -/
def execPrepare (kit : Nat) (block : List Byte) (s : State) : Host.Outcome State Fault Refusal :=
  event s (s.prepare kit block)

/-- PREPARE_ANSWER (03 R86): A member's FIT or NO_FIT answer reaches the leader. -/
def execPrepareAnswer (kit member status slots : Nat) (report : List Byte) (s : State) : Host.Outcome State Fault Refusal :=
  event s (s.prepareAnswer kit member status slots report)

/-- PREPARE_WAIT_EXPIRY (03 R86): The leader's wait for answers ends and missing members count as failed. -/
def execPrepareWaitExpiry (kit : Nat) (s : State) : Host.Outcome State Fault Refusal :=
  event s (s.prepareWaitExpiry kit)

/-- COMMIT (03 R86): Leader message that names the switch beat of a peal placement. -/
def execCommit (kit beat slots : Nat) (s : State) : Host.Outcome State Fault Refusal :=
  event s (s.commitRound kit beat slots)

/-- RELEASE (03 R86): Leader message that releases PREPARE reservations. -/
def execRelease (kit : Nat) (s : State) : Host.Outcome State Fault Refusal :=
  event s (s.releaseRound kit)

/-- RESERVATION_EXPIRY (03 R86): A member with no COMMIT or RELEASE releases its reservation. -/
def execReservationExpiry (kit : Nat) (s : State) : Host.Outcome State Fault Refusal :=
  event s (s.reservationExpiry kit)

/-- OPEN (16 R385): Ring message that opens a transfer at a target, which checks it. -/
def execOpenTransfer (source transfer : Nat) (fields : OpenFields) (lane channel : Nat) (s : State) :
    Host.Outcome State Fault Refusal :=
  eventAt (decide (lane < 24)) s ((s.openTransfer source transfer fields).returnCredit lane channel)

/-- DATA (16 R384): Ring message whose payload a target writes. -/
def execData (source transfer index : Nat) (missing : List Nat) (payload tags : List Byte) (lane channel : Nat) (s : State) :
    Host.Outcome State Fault Refusal :=
  eventAt (decide (lane < 24)) s (s.ringDataIn source transfer index missing payload tags lane channel)

/-- DONE (16 R384): Ring message that reports a target's transfer complete to the source. -/
def execDoneMessage (target transfer status lane channel : Nat) (s : State) : Host.Outcome State Fault Refusal :=
  eventAt (decide (lane < 24)) s ((s.ringDone target transfer status).returnCredit lane channel)

/-- NACK (16 R385): Ring message by which a target refuses a transfer. -/
def execNack (target transfer reason lane channel : Nat) (s : State) : Host.Outcome State Fault Refusal :=
  eventAt (decide (lane < 24)) s ((s.ringNack target transfer reason).returnCredit lane channel)

/-- OPEN_RETRY (16 R385): The 2 µs retry of a refused single-target OPEN. -/
def execOpenRetry (transfer : Nat) (s : State) : Host.Outcome State Fault Refusal :=
  event s (s.openRetry transfer)

/-- CARILLON_TIMEOUT (14 R333): A carillon with a Chime reaches its TIMEOUT and completes with partial delivery. -/
def execCarillonTimeout (transfer : Nat) (s : State) : Host.Outcome State Fault Refusal :=
  event s (s.carillonTimeout transfer)

/-- SYNC (16 R380): Ring timing message received and timestamped. -/
def execSync (lane : Nat) (fields : SyncFields) (s : State) : Host.Outcome State Fault Refusal :=
  eventAt (decide (lane < 24)) s (s.sync lane fields)

/-- SYNC_EXCHANGE (16 R380): The 16 µs timer sends SYNC on each lane. -/
def execSyncExchange (s : State) : Host.Outcome State Fault Refusal :=
  event s s.syncExchange

/-- CTRL (16 R376): Ring control message carrying formation data between members. -/
def execCtrl (lane : Nat) (fields : CtrlFields) (s : State) : Host.Outcome State Fault Refusal :=
  eventAt (decide (lane < 24)) s (s.ctrl lane fields)

/-- CREDIT (16 R370): Ring message returning buffer credits. -/
def execCredit (lane channel count : Nat) (s : State) : Host.Outcome State Fault Refusal :=
  eventAt (decide (lane < 24)) s (s.laneCredit lane channel count)

/-- RETRY (16 R369): Ring message asking for a message whose CRC failed to be sent again. -/
def execRetry (lane sequence : Nat) (s : State) : Host.Outcome State Fault Refusal :=
  eventAt (decide (lane < 24)) s (s.laneRetry lane sequence)

/-- CUT_THROUGH_FORWARD (16 R373): A message for another member is forwarded by the edge die without entering the mesh. -/
def execCutThroughForward (lane target : Nat) (via : Option Nat) (channel flits : Nat) (s : State) :
    Host.Outcome State Fault Refusal :=
  eventAt (decide (lane < 24)) s (s.cutThrough lane target via channel flits)

/-- STEP_DONE (10 R252): The last member's result records reach the head for application. -/
def execStepDone (kit beat : Nat) (records : List Byte) (s : State) : Host.Outcome State Fault Refusal :=
  event s (s.stepDoneIn kit beat records)

/-- ELECT (16 R378): Election message naming the lowest leader candidate. -/
def execElect (lane candidate : Nat) (s : State) : Host.Outcome State Fault Refusal :=
  eventAt (decide (lane < 24)) s ((s.elect candidate).returnCredit lane 4)

/-- MEMBER_MAP_CHANGE (16 R374): A flooded member map change that rebuilds route tables. -/
def execMemberMapChange (member lanes : Nat) (present : Bool) (s : State) : Host.Outcome State Fault Refusal :=
  event s (s.memberMapChange member lanes present)

/-- PERIOD_CHANGE_PROPAGATE (02 R52): An accepted period change reaches a member over the ring links. -/
def execPeriodChangePropagate (period buildShare guardShare effective : Nat) (s : State) : Host.Outcome State Fault Refusal :=
  event s (s.periodPropagated period buildShare guardShare effective)

/-- PEAL_KIT_CREATE_ROUND (03 R64): A peal KIT_CREATE block reaches a member, which checks and answers the leader. -/
def execPealKitCreateRound (kit : Nat) (block : List Byte) (s : State) : Host.Outcome State Fault Refusal :=
  event s (s.creationRound kit block)

/-- PEAL_KIT_CREATE_ANSWER (03 R64): A member's accept or refuse answer to a peal KIT_CREATE block reaches the leader, which
creates the Kit when all accept or completes with the lowest refusal. -/
def execPealKitCreateAnswer (kit member status : Nat) (s : State) : Host.Outcome State Fault Refusal :=
  event s (s.creationAnswer kit member status)

/-- RING_LINK_DOWN (16 R371): Loss of signal or FEC errors take a ring link down. -/
def execRingLinkDown (lane : Nat) (s : State) : Host.Outcome State Fault Refusal :=
  eventAt (decide (lane < 24)) s (s.ringLinkDown lane)

/-- RING_LINK_RETRAIN (16 R371): A down ring link retrains every 10 ms. -/
def execRingLinkRetrain (lane : Nat) (success : Bool) (s : State) : Host.Outcome State Fault Refusal :=
  eventAt (decide (lane < 24)) s (s.ringLinkRetrain lane success)

/-- MEMBER_LOST (16 R389): No SYNC from a member for 200 µs marks it lost. -/
def execMemberLost (member : Nat) (s : State) : Host.Outcome State Fault Refusal :=
  event s (s.memberLost member)

/-- FORMATION_TIMEOUT (16 R375): A FORMING or JOINING module's TIMEOUT expires. -/
def execFormationTimeout (s : State) : Host.Outcome State Fault Refusal :=
  event s s.formationTimeout

/-- FREEZE_COMPLETE (17 R402): A FREEZING function meets its conditions and becomes FROZEN. -/
def execFreezeComplete (function : Nat) (s : State) : Host.Outcome State Fault Refusal :=
  eventAt (decide (function < 4096)) s (s.freezeComplete function)

/-- IMAGE_WRITTEN (17 R403): A function's image has been written and it becomes SAVED. -/
def execImageWritten (function error : Nat) (s : State) : Host.Outcome State Fault Refusal :=
  eventAt (decide (function < 4096)) s (s.imageWritten function error)

/-- RESTORE_IMAGE_TESTED (17 R406): The read of a VF_RESTORE image ends and its tests either refuse the command or move the
function to RESTORING. -/
def execRestoreImageTested (function : Nat) (s : State) : Host.Outcome State Fault Refusal :=
  eventAt (decide (function < 4096)) s (s.restoreImageTested function)

/-- RESTORE_REBUILT (17 R407): A restore has rebuilt the function and it becomes FROZEN. -/
def execRestoreRebuilt (function : Nat) (s : State) : Host.Outcome State Fault Refusal :=
  eventAt (decide (function < 4096)) s (s.restoreRebuilt function)

/-- VF_RESET_COMPLETE (17 R399): Every step of a function reset is done and it returns to ENABLED. -/
def execVfResetComplete (function : Nat) (s : State) : Host.Outcome State Fault Refusal :=
  eventAt (decide (function < 4096)) s (s.vfResetComplete function)

end Sys2Proof.Machine
end

