-- ==== Sys2Proof/Machine/PowerEvents.lean ====
section
/-!
DEFINITION. Events: power, heat, Vigil and the 48 V input (18, 22), start-up and live update (20), and failures (19).
-/
namespace Sys2Proof.Machine
open Sys2Proof

/-- WAKE_COMPLETE (18 R432): Dies, links and stacks are up, the image digest checks and cores are released. -/
def execWakeComplete (good : Bool) (s : State) : Host.Outcome State Fault Refusal :=
  event s (s.wakeComplete good)

/-- VIGIL_ENTRY (18 R430): At D(E) the module disarms, stops the beat and enters Vigil. -/
def execVigilEntry (s : State) : Host.Outcome State Fault Refusal :=
  event s s.vigilEntry

/-- GOVERNOR_STEP (18 R420): Every 1 µs the governor sets target clock and issue duty. -/
def execGovernorStep (mean : Nat) (s : State) : Host.Outcome State Fault Refusal :=
  event s (s.governorStep mean)

/-- DROOP (18 R422): A compute die's supply droops and its cores drop to 600 MHz. -/
def execDroop (station : Nat) (holds : Bool) (s : State) : Host.Outcome State Fault Refusal :=
  eventAt (decide (station < 54)) s (s.droop station holds)

/-- LEASE_LAPSE (18 R413): A power lease expires and FALLBACK enters the effective cap. -/
def execLeaseLapse (s : State) : Host.Outcome State Fault Refusal :=
  event s s.leaseLapse

/-- THERMAL_CAP_UPDATE (18 R426): The thermal cap is recomputed once per ms. -/
def execThermalCapUpdate (readings : Readings) (s : State) : Host.Outcome State Fault Refusal :=
  event s (s.thermalCapUpdate readings)

/-- TELEMETRY_REWRITE (21 R486): The telemetry record of the power window is rewritten once per ms. -/
def execTelemetryRewrite (s : State) : Host.Outcome State Fault Refusal :=
  event s s.telemetryRewrite

/-- THERMAL_TRIP (18 R428): A die or stack reaches its trip temperature and is taken out. -/
def execThermalTrip (unit : Nat) (s : State) : Host.Outcome State Fault Refusal :=
  eventAt (sensorUnit unit) s (s.thermalTrip unit)

/-- TRIP_RECOVERY (18 R428): A tripped unit has read 20 °C below its trip for 1 s and may return. -/
def execTripRecovery (unit : Nat) (s : State) : Host.Outcome State Fault Refusal :=
  eventAt (sensorUnit unit) s (s.tripRecovery unit)

/-- INPUT_VOLTAGE_FAULT (18 R423): The input falls below 36 V or rises above 63 V and all dies lose power. -/
def execInputVoltageFault (voltage : Nat) (s : State) : Host.Outcome State Fault Refusal :=
  event s (s.inputVoltageFault voltage)

/-- RIDE_THROUGH_EXPIRY (18 R423): The input has been outside 40 to 60 V for 10 ms and power is removed. -/
def execRideThroughExpiry (s : State) : Host.Outcome State Fault Refusal :=
  event s s.rideThroughExpiry

/-- PRECHARGE_MATE (20 R453): The precharge contact mates and input capacitance charges. -/
def execPrechargeMate (voltage : Nat) (s : State) : Host.Outcome State Fault Refusal :=
  event s (s.prechargeMate voltage)

/-- POWER_QUALIFIED (20 R454): The input has stayed in range for 50 ms and power is qualified. -/
def execPowerQualified (s : State) : Host.Outcome State Fault Refusal :=
  event s s.powerQualified

/-- MAIN_CONTACT_MATE (22 R495): The main contact mates and the main switch may close. -/
def execMainContactMate (s : State) : Host.Outcome State Fault Refusal :=
  event s s.mainContactMate

/-- WITHDRAWAL (20 R455): The contacts break in reverse order as the module is withdrawn. -/
def execWithdrawal (s : State) : Host.Outcome State Fault Refusal :=
  event s s.withdrawal

/-- EDGE_SELF_TEST (01 R17): Edge dies complete self-test and position check and the primary is chosen. -/
def execEdgeSelfTest (results : List EdgeResult) (s : State) : Host.Outcome State Fault Refusal :=
  event s (s.edgeSelfTest results)

/-- MGMT_LINK_UP (20 R457): A management port's link comes up. -/
def execMgmtLinkUp (edge : Nat) (s : State) : Host.Outcome State Fault Refusal :=
  eventAt (decide (edge < 4)) s (s.mgmtLinkUp edge)

/-- LOAD_READY (20 R466): The load area has been filled and an image may be received. -/
def execLoadReady (s : State) : Host.Outcome State Fault Refusal :=
  event s s.becomeLoadReady

/-- STACK_TRAINING (20 R460): Stack training with lane repair completes or marks pairs out. -/
def execStackTraining (failed dies lanes : List Nat) (s : State) : Host.Outcome State Fault Refusal :=
  event s (s.stackTraining failed dies lanes)

/-- IMAGE_VERIFIED (20 R464): An image's checks and signature complete, verifying or refusing it. -/
def execImageVerified (s : State) : Host.Outcome State Fault Refusal :=
  event s s.imageVerified

/-- MEMORY_FILL (08 R205): The fill of both tiers completes. -/
def execMemoryFill (micros : Nat) (s : State) : Host.Outcome State Fault Refusal :=
  event s (s.memoryFill micros)

/-- STATION_FW_STARTED (20 R458): Station firmware has been copied and started at every station. -/
def execStationFwStarted (s : State) : Host.Outcome State Fault Refusal :=
  event s s.stationFwStarted

/-- COMPUTE_SELF_TEST (20 R458): In-service compute dies complete self-test at start-up. -/
def execComputeSelfTest (failed : List Nat) (flash : Nat) (s : State) : Host.Outcome State Fault Refusal :=
  event s (s.computeSelfTest failed flash)

/-- CORE_RELEASE (20 R459): Cores are released at the first downbeat at which start-up conditions hold. -/
def execCoreRelease (s : State) : Host.Outcome State Fault Refusal :=
  event s s.coreRelease

/-- LIVE_UPDATE_CHECK (20 R468): 150 µs after restart the new firmware is accepted or rolled back. -/
def execLiveUpdateCheck (running : Bool) (s : State) : Host.Outcome State Fault Refusal :=
  event s (s.liveUpdateCheck running)

/-- STATION_UPDATE_NEXT (19 R449): After GAP, the next station's firmware is written and its controller restarted. -/
def execStationUpdateNext (s : State) : Host.Outcome State Fault Refusal :=
  event s s.stationUpdateNext

/-- STATION_CONTROLLER_RESTART (19 R449): A station controller starts on new firmware or times out after 2 ms. -/
def execStationControllerRestart (success : Bool) (s : State) : Host.Outcome State Fault Refusal :=
  event s (s.stationControllerRestart success)

/-- LAUNCH_ACK_TIMEOUT (19 R439): A core fails to acknowledge a launch, switch or restore within 2 µs and fails. -/
def execLaunchAckTimeout (core : Nat) (s : State) : Host.Outcome State Fault Refusal :=
  eventAt (decide (core < 1728)) s (s.launchAckTimeout core)

/-- REPETITION (19 R435): A cancelled list launches again whole at the first suitable downbeat. -/
def execRepetition (kit : Nat) (s : State) : Host.Outcome State Fault Refusal :=
  event s (s.repetition kit)

/-- COMPUTE_DIE_FAILURE (19 R441): A compute die resets, stops its clock or trips and is FAILED. -/
def execComputeDieFailure (station : Nat) (s : State) : Host.Outcome State Fault Refusal :=
  eventAt (decide (station < 54)) s (s.computeDieFailure station false)

/-- DIE_SELF_TEST_DONE (19 R441): A STARTING die's self-test passes or fails. -/
def execDieSelfTestDone (station : Nat) (pass : Bool) (s : State) : Host.Outcome State Fault Refusal :=
  eventAt (decide (station < 54)) s (s.dieSelfTestDone station pass)

/-- DIE_RESTART_DONE (19 R441): A FAILED die's restart completes or fails. -/
def execDieRestartDone (station : Nat) (pass : Bool) (s : State) : Host.Outcome State Fault Refusal :=
  eventAt (decide (station < 54)) s (s.dieRestartDone station pass)

/-- RECALIBRATION_DONE (19 R445): A die's clock measurement completes and its table is written. -/
def execRecalibrationDone (station : Nat) (steps : List Nat) (s : State) : Host.Outcome State Fault Refusal :=
  eventAt (decide (station < 54)) s (s.recalibrationDone station steps)

/-- STATION_WATCHDOG (19 R442): A station controller's watchdog lapses for 1 ms and its base die resets. -/
def execStationWatchdog (station : Nat) (s : State) : Host.Outcome State Fault Refusal :=
  eventAt (decide (station < 54)) s (s.stationWatchdog station)

/-- BASE_DIE_REJOIN (19 R442): A reset base die has trained, refilled and rejoined the mesh. -/
def execBaseDieRejoin (station : Nat) (s : State) : Host.Outcome State Fault Refusal :=
  eventAt (decide (station < 54)) s (s.baseDieRejoin station)

/-- EDGE_HEARTBEAT_TIMEOUT (19 R446): An edge die's heartbeat is missing for 4 µs and it is lost. -/
def execEdgeHeartbeatTimeout (edge : Nat) (s : State) : Host.Outcome State Fault Refusal :=
  eventAt (decide (edge < 4)) s (s.edgeHeartbeatTimeout edge)

/-- MGMT_LINK_LOSS (19 R447): The primary's management optical link has been down for 1 s. -/
def execMgmtLinkLoss (s : State) : Host.Outcome State Fault Refusal :=
  event s s.mgmtLinkLoss

/-- INPUT_RANGE_EXCURSION (18 R423): The 48 V input leaves 40 V to 60 V but stays between 36 V and 63 V, so ride-through starts
with f held at 600 MHz. -/
def execInputRangeExcursion (voltage : Nat) (s : State) : Host.Outcome State Fault Refusal :=
  event s (s.inputRangeExcursion voltage)

/-- INPUT_RANGE_RETURN (18 R423): The input returns within 40 V to 60 V, ending ride-through or starting the qualification count
after a loss. -/
def execInputRangeReturn (voltage : Nat) (s : State) : Host.Outcome State Fault Refusal :=
  event s (s.inputRangeReturn voltage)

/-- ROUTER_STATE_ERROR (19 R442): An uncorrectable error in router or control-node state resets the base die. -/
def execRouterStateError (station : Nat) (s : State) : Host.Outcome State Fault Refusal :=
  eventAt (decide (station < 54)) s (s.routerStateError station)

end Sys2Proof.Machine
end

