-- ==== Sys2Proof/Machine/Dispatch.lean ====
section
/-!
DEFINITION. The meaning of each command: one arm per constructor of `Instr`.
-/
namespace Sys2Proof.Machine
open Sys2Proof

def exec (i : Instr) (s : State) : Host.Outcome State Fault Refusal :=
  match i with
  | .deviceNop q p => Sys2Proof.Machine.execDeviceNop q p s
  | .deviceQuery q p => Sys2Proof.Machine.execDeviceQuery q p s
  | .undefinedOpcode q code p => Sys2Proof.Machine.execUndefinedOpcode q code p s
  | .queueCreate q p => Sys2Proof.Machine.execQueueCreate q p s
  | .queueDestroy q p => Sys2Proof.Machine.execQueueDestroy q p s
  | .queueStop q p => Sys2Proof.Machine.execQueueStop q p s
  | .queueStart q p => Sys2Proof.Machine.execQueueStart q p s
  | .queueQuery q p => Sys2Proof.Machine.execQueueQuery q p s
  | .cringSet q p => Sys2Proof.Machine.execCringSet q p s
  | .contextCreate q p => Sys2Proof.Machine.execContextCreate q p s
  | .contextDestroy q p => Sys2Proof.Machine.execContextDestroy q p s
  | .contextQuery q p => Sys2Proof.Machine.execContextQuery q p s
  | .coreRetire q p => Sys2Proof.Machine.execCoreRetire q p s
  | .dieIntercalate q p => Sys2Proof.Machine.execDieIntercalate q p s
  | .clockRecalibrate q p => Sys2Proof.Machine.execClockRecalibrate q p s
  | .memAlloc q p => Sys2Proof.Machine.execMemAlloc q p s
  | .memFree q p => Sys2Proof.Machine.execMemFree q p s
  | .memQuery q p => Sys2Proof.Machine.execMemQuery q p s
  | .dmaCopy q p => Sys2Proof.Machine.execDmaCopy q p s
  | .tier1RegionSet q p => Sys2Proof.Machine.execTier1RegionSet q p s
  | .tier1Config q p => Sys2Proof.Machine.execTier1Config q p s
  | .tier1Pin q p => Sys2Proof.Machine.execTier1Pin q p s
  | .tier1Unpin q p => Sys2Proof.Machine.execTier1Unpin q p s
  | .tier1Dead q p => Sys2Proof.Machine.execTier1Dead q p s
  | .tier1Counters q p => Sys2Proof.Machine.execTier1Counters q p s
  | .roInvalidate q p => Sys2Proof.Machine.execRoInvalidate q p s
  | .modelBegin q p => Sys2Proof.Machine.execModelBegin q p s
  | .modelDescribe q p => Sys2Proof.Machine.execModelDescribe q p s
  | .modelCommit q p => Sys2Proof.Machine.execModelCommit q p s
  | .modelAbort q p => Sys2Proof.Machine.execModelAbort q p s
  | .modelUnload q p => Sys2Proof.Machine.execModelUnload q p s
  | .placeQuery q p => Sys2Proof.Machine.execPlaceQuery q p s
  | .placeReplace q p => Sys2Proof.Machine.execPlaceReplace q p s
  | .seqOpen q p => Sys2Proof.Machine.execSeqOpen q p s
  | .seqAppend q p => Sys2Proof.Machine.execSeqAppend q p s
  | .seqSet q p => Sys2Proof.Machine.execSeqSet q p s
  | .seqPause q p => Sys2Proof.Machine.execSeqPause q p s
  | .seqResume q p => Sys2Proof.Machine.execSeqResume q p s
  | .seqTruncate q p => Sys2Proof.Machine.execSeqTruncate q p s
  | .seqClose q p => Sys2Proof.Machine.execSeqClose q p s
  | .seqQuery q p => Sys2Proof.Machine.execSeqQuery q p s
  | .seqPolicy q p => Sys2Proof.Machine.execSeqPolicy q p s
  | .kitCreate q p => Sys2Proof.Machine.execKitCreate q p s
  | .kitDestroy q p => Sys2Proof.Machine.execKitDestroy q p s
  | .kitQuery q p => Sys2Proof.Machine.execKitQuery q p s
  | .kitLaunch q p => Sys2Proof.Machine.execKitLaunch q p s
  | .chimeInit q p => Sys2Proof.Machine.execChimeInit q p s
  | .chimeSignal q p => Sys2Proof.Machine.execChimeSignal q p s
  | .chimeWait q p => Sys2Proof.Machine.execChimeWait q p s
  | .chimeQuery q p => Sys2Proof.Machine.execChimeQuery q p s
  | .chimeClear q p => Sys2Proof.Machine.execChimeClear q p s
  | .beatSetPeriod q p => Sys2Proof.Machine.execBeatSetPeriod q p s
  | .almanacWrite q p => Sys2Proof.Machine.execAlmanacWrite q p s
  | .almanacRead q p => Sys2Proof.Machine.execAlmanacRead q p s
  | .almanacArm q p => Sys2Proof.Machine.execAlmanacArm q p s
  | .almanacDisarm q p => Sys2Proof.Machine.execAlmanacDisarm q p s
  | .timeSetSource q p => Sys2Proof.Machine.execTimeSetSource q p s
  | .timeQuery q p => Sys2Proof.Machine.execTimeQuery q p s
  | .overrunSetPolicy q p => Sys2Proof.Machine.execOverrunSetPolicy q p s
  | .pealForm q p => Sys2Proof.Machine.execPealForm q p s
  | .pealJoin q p => Sys2Proof.Machine.execPealJoin q p s
  | .pealLeave q p => Sys2Proof.Machine.execPealLeave q p s
  | .pealQuery q p => Sys2Proof.Machine.execPealQuery q p s
  | .ringSend q p => Sys2Proof.Machine.execRingSend q p s
  | .partitionSet q p => Sys2Proof.Machine.execPartitionSet q p s
  | .partitionQuery q p => Sys2Proof.Machine.execPartitionQuery q p s
  | .vfEnable q p => Sys2Proof.Machine.execVfEnable q p s
  | .vfAssign q p => Sys2Proof.Machine.execVfAssign q p s
  | .vfReset q p => Sys2Proof.Machine.execVfReset q p s
  | .vfFreeze q p => Sys2Proof.Machine.execVfFreeze q p s
  | .vfSave q p => Sys2Proof.Machine.execVfSave q p s
  | .vfRestore q p => Sys2Proof.Machine.execVfRestore q p s
  | .vfResume q p => Sys2Proof.Machine.execVfResume q p s
  | .powerSetCap q p => Sys2Proof.Machine.execPowerSetCap q p s
  | .powerQuery q p => Sys2Proof.Machine.execPowerQuery q p s
  | .thermalSetLimits q p => Sys2Proof.Machine.execThermalSetLimits q p s
  | .vigilEnter q p => Sys2Proof.Machine.execVigilEnter q p s
  | .vigilWake q p => Sys2Proof.Machine.execVigilWake q p s
  | .eccDiagMode q p => Sys2Proof.Machine.execEccDiagMode q p s
  | .eccRawWrite q p => Sys2Proof.Machine.execEccRawWrite q p s
  | .eccRawRead q p => Sys2Proof.Machine.execEccRawRead q p s
  | .eccScrubSet q p => Sys2Proof.Machine.execEccScrubSet q p s
  | .eccDieMark q p => Sys2Proof.Machine.execEccDieMark q p s
  | .eccLogRead q p => Sys2Proof.Machine.execEccLogRead q p s
  | .fwDeliver q p => Sys2Proof.Machine.execFwDeliver q p s
  | .fwLiveUpdate q p => Sys2Proof.Machine.execFwLiveUpdate q p s
  | .identityQuery q p => Sys2Proof.Machine.execIdentityQuery q p s
  | .attest q p => Sys2Proof.Machine.execAttest q p s
  | .stationFwUpdate q p => Sys2Proof.Machine.execStationFwUpdate q p s
  | .edgePrimaryMove q p => Sys2Proof.Machine.execEdgePrimaryMove q p s
  | .iadd w => Sys2Proof.Machine.execIadd w s
  | .isub w => Sys2Proof.Machine.execIsub w s
  | .imul w => Sys2Proof.Machine.execImul w s
  | .imulhs w => Sys2Proof.Machine.execImulhs w s
  | .imulhu w => Sys2Proof.Machine.execImulhu w s
  | .imac w => Sys2Proof.Machine.execImac w s
  | .shl w => Sys2Proof.Machine.execShl w s
  | .shr w => Sys2Proof.Machine.execShr w s
  | .sar w => Sys2Proof.Machine.execSar w s
  | .andBits w => Sys2Proof.Machine.execAndBits w s
  | .orBits w => Sys2Proof.Machine.execOrBits w s
  | .xorBits w => Sys2Proof.Machine.execXorBits w s
  | .notBits w => Sys2Proof.Machine.execNotBits w s
  | .popc w => Sys2Proof.Machine.execPopc w s
  | .clz w => Sys2Proof.Machine.execClz w s
  | .sel w => Sys2Proof.Machine.execSel w s
  | .icmp rel w => Sys2Proof.Machine.execIcmp rel w s
  | .fadd w => Sys2Proof.Machine.execFadd w s
  | .fsub w => Sys2Proof.Machine.execFsub w s
  | .fmul w => Sys2Proof.Machine.execFmul w s
  | .fmac w => Sys2Proof.Machine.execFmac w s
  | .fmin w => Sys2Proof.Machine.execFmin w s
  | .fmax w => Sys2Proof.Machine.execFmax w s
  | .fminnum w => Sys2Proof.Machine.execFminnum w s
  | .fmaxnum w => Sys2Proof.Machine.execFmaxnum w s
  | .fcmp rel w => Sys2Proof.Machine.execFcmp rel w s
  | .rcp w => Sys2Proof.Machine.execRcp w s
  | .sqrt w => Sys2Proof.Machine.execSqrt w s
  | .rsqrt w => Sys2Proof.Machine.execRsqrt w s
  | .exp2 w => Sys2Proof.Machine.execExp2 w s
  | .log2 w => Sys2Proof.Machine.execLog2 w s
  | .sinpi w => Sys2Proof.Machine.execSinpi w s
  | .cospi w => Sys2Proof.Machine.execCospi w s
  | .tanh w => Sys2Proof.Machine.execTanh w s
  | .mov w => Sys2Proof.Machine.execMov w s
  | .movs w => Sys2Proof.Machine.execMovs w s
  | .lxch w => Sys2Proof.Machine.execLxch w s
  | .cvt w => Sys2Proof.Machine.execCvt w s
  | .pset w => Sys2Proof.Machine.execPset w s
  | .pget w => Sys2Proof.Machine.execPget w s
  | .bra w => Sys2Proof.Machine.execBra w s
  | .brc w => Sys2Proof.Machine.execBrc w s
  | .call w => Sys2Proof.Machine.execCall w s
  | .ret w => Sys2Proof.Machine.execRet w s
  | .endThreads w => Sys2Proof.Machine.execEndThreads w s
  | .cld w => Sys2Proof.Machine.execCld w s
  | .cst w => Sys2Proof.Machine.execCst w s
  | .ld ecc w => Sys2Proof.Machine.execLd ecc w s
  | .ldc w => Sys2Proof.Machine.execLdc w s
  | .st w => Sys2Proof.Machine.execSt w s
  | .aadd noret w => Sys2Proof.Machine.execAadd noret w s
  | .afadd noret w => Sys2Proof.Machine.execAfadd noret w s
  | .amin noret w => Sys2Proof.Machine.execAmin noret w s
  | .amax noret w => Sys2Proof.Machine.execAmax noret w s
  | .aumin noret w => Sys2Proof.Machine.execAumin noret w s
  | .aumax noret w => Sys2Proof.Machine.execAumax noret w s
  | .aand noret w => Sys2Proof.Machine.execAand noret w s
  | .aor noret w => Sys2Proof.Machine.execAor noret w s
  | .axor noret w => Sys2Proof.Machine.execAxor noret w s
  | .axchg noret w => Sys2Proof.Machine.execAxchg noret w s
  | .acas noret w => Sys2Proof.Machine.execAcas noret w s
  | .fence w => Sys2Proof.Machine.execFence w s
  | .bar w => Sys2Proof.Machine.execBar w s
  | .chwait w => Sys2Proof.Machine.execChwait w s
  | .chset w => Sys2Proof.Machine.execChset w s
  | .nop w => Sys2Proof.Machine.execNop w s
  | .mbegin w => Sys2Proof.Machine.execMbegin w s
  | .mma w => Sys2Proof.Machine.execMma w s
  | .mmas w => Sys2Proof.Machine.execMmas w s
  | .mread w => Sys2Proof.Machine.execMread w s
  | .mstore w => Sys2Proof.Machine.execMstore w s
  | .mloadp w => Sys2Proof.Machine.execMloadp w s
  | .mred w => Sys2Proof.Machine.execMred w s
  | .mquant w => Sys2Proof.Machine.execMquant w s
  | .tload w => Sys2Proof.Machine.execTload w s
  | .tstore w => Sys2Proof.Machine.execTstore w s
  | .windowSwap core slot => Sys2Proof.Machine.execWindowSwap core slot s
  | .loadReturn request => Sys2Proof.Machine.execLoadReturn request s
  | .storeAck request => Sys2Proof.Machine.execStoreAck request s
  | .doorbell function queue tail => Sys2Proof.Machine.execDoorbell function queue tail s
  | .cringDoorbell function ring consumed => Sys2Proof.Machine.execCringDoorbell function ring consumed s
  | .irqDelayExpiry function ring => Sys2Proof.Machine.execIrqDelayExpiry function ring s
  | .bootGo => Sys2Proof.Machine.execBootGo s
  | .attention bits => Sys2Proof.Machine.execAttention bits s
  | .registerWrite address size value => Sys2Proof.Machine.execRegisterWrite address size value s
  | .downbeat => Sys2Proof.Machine.execDownbeat s
  | .stepBuilderWalk late => Sys2Proof.Machine.execStepBuilderWalk late s
  | .selectionDeadline => Sys2Proof.Machine.execSelectionDeadline s
  | .selectionPublished kit seq => Sys2Proof.Machine.execSelectionPublished kit seq s
  | .guardStart => Sys2Proof.Machine.execGuardStart s
  | .transferDeadline transfer => Sys2Proof.Machine.execTransferDeadline transfer s
  | .launchWorkList index => Sys2Proof.Machine.execLaunchWorkList index s
  | .startDma index => Sys2Proof.Machine.execStartDma index s
  | .startRing index => Sys2Proof.Machine.execStartRing index s
  | .signalChime index => Sys2Proof.Machine.execSignalChime index s
  | .sampleTelemetry index => Sys2Proof.Machine.execSampleTelemetry index s
  | .chimeSignalApplied position => Sys2Proof.Machine.execChimeSignalApplied position s
  | .taskStart list task core => Sys2Proof.Machine.execTaskStart list task core s
  | .taskRetire core => Sys2Proof.Machine.execTaskRetire core s
  | .switchRequest list task core => Sys2Proof.Machine.execSwitchRequest list task core s
  | .drainComplete core => Sys2Proof.Machine.execDrainComplete core s
  | .saveComplete core => Sys2Proof.Machine.execSaveComplete core s
  | .restoreComplete core => Sys2Proof.Machine.execRestoreComplete core s
  | .tilePublication request => Sys2Proof.Machine.execTilePublication request s
  | .tileRead request upsets => Sys2Proof.Machine.execTileRead request upsets s
  | .homePortTileWrite tile upsets => Sys2Proof.Machine.execHomePortTileWrite tile upsets s
  | .sliceAccess request station upsets => Sys2Proof.Machine.execSliceAccess request station upsets s
  | .fillComplete station object line upsets => Sys2Proof.Machine.execFillComplete station object line upsets s
  | .transferComplete transfer upsets => Sys2Proof.Machine.execTransferComplete transfer upsets s
  | .scrubStep tier unit symbols => Sys2Proof.Machine.execScrubStep tier unit symbols s
  | .partRebuilt station bank => Sys2Proof.Machine.execPartRebuilt station bank s
  | .admissionComplete kit => Sys2Proof.Machine.execAdmissionComplete kit s
  | .prepare kit block => Sys2Proof.Machine.execPrepare kit block s
  | .prepareAnswer kit member status slots report => Sys2Proof.Machine.execPrepareAnswer kit member status slots report s
  | .prepareWaitExpiry kit => Sys2Proof.Machine.execPrepareWaitExpiry kit s
  | .commit kit beat slots => Sys2Proof.Machine.execCommit kit beat slots s
  | .release kit => Sys2Proof.Machine.execRelease kit s
  | .reservationExpiry kit => Sys2Proof.Machine.execReservationExpiry kit s
  | .openTransfer source transfer fields lane channel => Sys2Proof.Machine.execOpenTransfer source transfer fields lane channel s
  | .data source transfer index missing payload tags lane channel => Sys2Proof.Machine.execData source transfer index missing payload tags lane channel s
  | .doneMessage target transfer status lane channel => Sys2Proof.Machine.execDoneMessage target transfer status lane channel s
  | .nack target transfer reason lane channel => Sys2Proof.Machine.execNack target transfer reason lane channel s
  | .openRetry transfer => Sys2Proof.Machine.execOpenRetry transfer s
  | .sync lane fields => Sys2Proof.Machine.execSync lane fields s
  | .syncExchange => Sys2Proof.Machine.execSyncExchange s
  | .ctrl lane fields => Sys2Proof.Machine.execCtrl lane fields s
  | .credit lane channel count => Sys2Proof.Machine.execCredit lane channel count s
  | .retry lane sequence => Sys2Proof.Machine.execRetry lane sequence s
  | .cutThroughForward lane target via channel flits => Sys2Proof.Machine.execCutThroughForward lane target via channel flits s
  | .stepDone kit beat records => Sys2Proof.Machine.execStepDone kit beat records s
  | .elect lane candidate => Sys2Proof.Machine.execElect lane candidate s
  | .memberMapChange member lanes present => Sys2Proof.Machine.execMemberMapChange member lanes present s
  | .periodChangePropagate period buildShare guardShare effective => Sys2Proof.Machine.execPeriodChangePropagate period buildShare guardShare effective s
  | .pealKitCreateRound kit block => Sys2Proof.Machine.execPealKitCreateRound kit block s
  | .ringLinkDown lane => Sys2Proof.Machine.execRingLinkDown lane s
  | .ringLinkRetrain lane success => Sys2Proof.Machine.execRingLinkRetrain lane success s
  | .memberLost member => Sys2Proof.Machine.execMemberLost member s
  | .formationTimeout => Sys2Proof.Machine.execFormationTimeout s
  | .timingInputLost direction => Sys2Proof.Machine.execTimingInputLost direction s
  | .timingInputRestored direction => Sys2Proof.Machine.execTimingInputRestored direction s
  | .holdoverTimeout => Sys2Proof.Machine.execHoldoverTimeout s
  | .ptpMessage message => Sys2Proof.Machine.execPtpMessage message s
  | .cData tag epoch payload => Sys2Proof.Machine.execCData tag epoch payload s
  | .cAck tag epoch => Sys2Proof.Machine.execCAck tag epoch s
  | .cNack tag epoch => Sys2Proof.Machine.execCNack tag epoch s
  | .creqResend tag => Sys2Proof.Machine.execCreqResend tag s
  | .cErr tag epoch reason => Sys2Proof.Machine.execCErr tag epoch reason s
  | .domainDownComplete => Sys2Proof.Machine.execDomainDownComplete s
  | .transactionTimeout tag => Sys2Proof.Machine.execTransactionTimeout tag s
  | .dRead engine function tag address size => Sys2Proof.Machine.execDRead engine function tag address size s
  | .dWrite engine function tag address payload => Sys2Proof.Machine.execDWrite engine function tag address payload s
  | .dWriteTile engine function tag address payload side => Sys2Proof.Machine.execDWriteTile engine function tag address payload side s
  | .linkHello epoch linkBlock => Sys2Proof.Machine.execLinkHello epoch linkBlock s
  | .linkBlockChecked block table => Sys2Proof.Machine.execLinkBlockChecked block table s
  | .linkReset => Sys2Proof.Machine.execLinkReset s
  | .linkResetTimer => Sys2Proof.Machine.execLinkResetTimer s
  | .linkCredit engine headers units => Sys2Proof.Machine.execLinkCredit engine headers units s
  | .engineState engine up => Sys2Proof.Machine.execEngineState engine up s
  | .cijanEngineLoss engine => Sys2Proof.Machine.execCijanEngineLoss engine s
  | .managementDatagram edge source port bytes => Sys2Proof.Machine.execManagementDatagram edge source port bytes s
  | .statusDatagram edge source port bytes => Sys2Proof.Machine.execStatusDatagram edge source port bytes s
  | .statusBroadcast => Sys2Proof.Machine.execStatusBroadcast s
  | .icmpv6Message edge source kind bytes => Sys2Proof.Machine.execIcmpv6Message edge source kind bytes s
  | .wakeDatagram source port bytes => Sys2Proof.Machine.execWakeDatagram source port bytes s
  | .wakeComplete good => Sys2Proof.Machine.execWakeComplete good s
  | .vigilEntry => Sys2Proof.Machine.execVigilEntry s
  | .refillWindow => Sys2Proof.Machine.execRefillWindow s
  | .nextGrant resource late => Sys2Proof.Machine.execNextGrant resource late s
  | .carillonPayload carillon target => Sys2Proof.Machine.execCarillonPayload carillon target s
  | .carillonAck carillon target => Sys2Proof.Machine.execCarillonAck carillon target s
  | .carillonNack carillon target => Sys2Proof.Machine.execCarillonNack carillon target s
  | .bufferFree carillon target => Sys2Proof.Machine.execBufferFree carillon target s
  | .carillonRetryTimer carillon => Sys2Proof.Machine.execCarillonRetryTimer carillon s
  | .carillonTimeout transfer => Sys2Proof.Machine.execCarillonTimeout transfer s
  | .linkTrainingResult link success wires => Sys2Proof.Machine.execLinkTrainingResult link success wires s
  | .frameReplay link => Sys2Proof.Machine.execFrameReplay link s
  | .linkDegradedRetry link success wires => Sys2Proof.Machine.execLinkDegradedRetry link success wires s
  | .governorStep mean => Sys2Proof.Machine.execGovernorStep mean s
  | .droop station holds => Sys2Proof.Machine.execDroop station holds s
  | .leaseLapse => Sys2Proof.Machine.execLeaseLapse s
  | .thermalCapUpdate readings => Sys2Proof.Machine.execThermalCapUpdate readings s
  | .telemetryRewrite => Sys2Proof.Machine.execTelemetryRewrite s
  | .thermalTrip unit => Sys2Proof.Machine.execThermalTrip unit s
  | .tripRecovery unit => Sys2Proof.Machine.execTripRecovery unit s
  | .inputVoltageFault voltage => Sys2Proof.Machine.execInputVoltageFault voltage s
  | .rideThroughExpiry => Sys2Proof.Machine.execRideThroughExpiry s
  | .prechargeMate voltage => Sys2Proof.Machine.execPrechargeMate voltage s
  | .powerQualified => Sys2Proof.Machine.execPowerQualified s
  | .mainContactMate => Sys2Proof.Machine.execMainContactMate s
  | .withdrawal => Sys2Proof.Machine.execWithdrawal s
  | .edgeSelfTest results => Sys2Proof.Machine.execEdgeSelfTest results s
  | .mgmtLinkUp edge => Sys2Proof.Machine.execMgmtLinkUp edge s
  | .loadReady => Sys2Proof.Machine.execLoadReady s
  | .stackTraining failed dies lanes => Sys2Proof.Machine.execStackTraining failed dies lanes s
  | .imageVerified => Sys2Proof.Machine.execImageVerified s
  | .memoryFill micros => Sys2Proof.Machine.execMemoryFill micros s
  | .stationFwStarted => Sys2Proof.Machine.execStationFwStarted s
  | .computeSelfTest failed flash => Sys2Proof.Machine.execComputeSelfTest failed flash s
  | .coreRelease => Sys2Proof.Machine.execCoreRelease s
  | .liveUpdateCheck running => Sys2Proof.Machine.execLiveUpdateCheck running s
  | .stationUpdateNext => Sys2Proof.Machine.execStationUpdateNext s
  | .stationControllerRestart success => Sys2Proof.Machine.execStationControllerRestart success s
  | .launchAckTimeout core => Sys2Proof.Machine.execLaunchAckTimeout core s
  | .repetition kit => Sys2Proof.Machine.execRepetition kit s
  | .computeDieFailure station => Sys2Proof.Machine.execComputeDieFailure station s
  | .dieSelfTestDone station pass => Sys2Proof.Machine.execDieSelfTestDone station pass s
  | .dieRestartDone station pass => Sys2Proof.Machine.execDieRestartDone station pass s
  | .recalibrationDone station steps => Sys2Proof.Machine.execRecalibrationDone station steps s
  | .stationWatchdog station => Sys2Proof.Machine.execStationWatchdog station s
  | .baseDieRejoin station => Sys2Proof.Machine.execBaseDieRejoin station s
  | .edgeHeartbeatTimeout edge => Sys2Proof.Machine.execEdgeHeartbeatTimeout edge s
  | .mgmtLinkLoss => Sys2Proof.Machine.execMgmtLinkLoss s
  | .freezeComplete function => Sys2Proof.Machine.execFreezeComplete function s
  | .imageWritten function error => Sys2Proof.Machine.execImageWritten function error s
  | .restoreRebuilt function => Sys2Proof.Machine.execRestoreRebuilt function s
  | .vfResetComplete function => Sys2Proof.Machine.execVfResetComplete function s
  | .inputRangeExcursion voltage => Sys2Proof.Machine.execInputRangeExcursion voltage s
  | .inputRangeReturn voltage => Sys2Proof.Machine.execInputRangeReturn voltage s
  | .pealKitCreateAnswer kit member status => Sys2Proof.Machine.execPealKitCreateAnswer kit member status s
  | .restoreImageTested function => Sys2Proof.Machine.execRestoreImageTested function s
  | .linkHotWindow link bytes => Sys2Proof.Machine.execLinkHotWindow link bytes s
  | .routerStateError station => Sys2Proof.Machine.execRouterStateError station s

end Sys2Proof.Machine
end

