-- ==== Sys2Proof/Machine/Views.lean ====
section
/-!
DEFINITION. The views of the machine in which statements about it are made: a command as it is read at HEAD of its queue and the
state it leads to (11 R259, R262, R278), and a group as it issues an instruction (04 R95).
-/
namespace Sys2Proof.Machine
open Sys2Proof

/-! ### Packet commands -/

/-- The command that Sirmo reads at HEAD of queue `q`. -/
def State.atHead (s : State) (op : Op) (q : Nat) (p : Packet) : Command :=
  { id := s.nextId, queue := q, index := (s.queue q).head, op, packet := p, wait := .barrier,
    readBeat := s.beat.number, readAt := s.now, beforeBuild := !s.beat.building, result := 0, context := (s.queue q).context }

/-- The state once the packet has been read: HEAD has moved on, and the command is outstanding. -/
def State.onRead (s : State) (op : Op) (q : Nat) (p : Packet) : State :=
  let s1 := s.modQueue q fun k => { k with head := k.head + 1, leaf := decide (k.head + 1 < k.tail) }
  ({ s1 with nextId := s.nextId + 1, commands := s1.commands ++ [s.atHead op q p] }).page (s.queue q).function 1 0 0

/-- The command with its queue, as its effect sees them. -/
def State.callOf (s : State) (op : Op) (q : Nat) (p : Packet) : Call := ⟨s.atHead op q p, (s.onRead op q p).queue q⟩

/-- The packet at HEAD of the queue is read now, and its command neither waits for an earlier one nor is held; an image is verified and the
cores are released, unless the command is one of group Bh, which needs neither (11 R278, R282, 20 R459). -/
def State.reads (s : State) (op : Op) (q : Nat) (p : Packet) : Bool :=
  let c := s.callOf op q p
  let on := s.onRead op q p
  s.readable (s.queue q) q && (s.unreadable (s.queue q)).isNone && ((s.boot.verified && s.boot.released) || opGroup op == 0xB) &&
    !(p.barrier && s.commands.any fun o => o.queue == q) && !(on.mustHold c.cmd c.queue) && !(on.heldBehind c.cmd c.queue)

/-- The packet is read, well formed, permitted and of no lost Context, and no PARTITION_SET is pending: what is left to test is what the
command itself asks for (11 R259, R268 to R270, 12 R285). -/
def State.takes (s : State) (op : Op) (q : Nat) (p : Packet) : Bool :=
  let c := s.callOf op q p
  s.reads op q p && permitted op c.function && (malformed c.cmd).isNone && !((s.onRead op q p).lostContext c.context) &&
    s.partitionChanges.isEmpty

/-- The row of each opcode: the command that reads its packet at HEAD of a queue. -/
def Op.row : Op → Nat → Packet → Instr
  | .deviceNop => .deviceNop
  | .deviceQuery => .deviceQuery
  | .undefinedOpcode code => fun q p => .undefinedOpcode q code p
  | .queueCreate => .queueCreate
  | .queueDestroy => .queueDestroy
  | .queueStop => .queueStop
  | .queueStart => .queueStart
  | .queueQuery => .queueQuery
  | .cringSet => .cringSet
  | .contextCreate => .contextCreate
  | .contextDestroy => .contextDestroy
  | .contextQuery => .contextQuery
  | .coreRetire => .coreRetire
  | .dieIntercalate => .dieIntercalate
  | .clockRecalibrate => .clockRecalibrate
  | .memAlloc => .memAlloc
  | .memFree => .memFree
  | .memQuery => .memQuery
  | .dmaCopy => .dmaCopy
  | .tier1RegionSet => .tier1RegionSet
  | .tier1Config => .tier1Config
  | .tier1Pin => .tier1Pin
  | .tier1Unpin => .tier1Unpin
  | .tier1Dead => .tier1Dead
  | .tier1Counters => .tier1Counters
  | .roInvalidate => .roInvalidate
  | .modelBegin => .modelBegin
  | .modelDescribe => .modelDescribe
  | .modelCommit => .modelCommit
  | .modelAbort => .modelAbort
  | .modelUnload => .modelUnload
  | .placeQuery => .placeQuery
  | .placeReplace => .placeReplace
  | .seqOpen => .seqOpen
  | .seqAppend => .seqAppend
  | .seqSet => .seqSet
  | .seqPause => .seqPause
  | .seqResume => .seqResume
  | .seqTruncate => .seqTruncate
  | .seqClose => .seqClose
  | .seqQuery => .seqQuery
  | .seqPolicy => .seqPolicy
  | .kitCreate => .kitCreate
  | .kitDestroy => .kitDestroy
  | .kitQuery => .kitQuery
  | .kitLaunch => .kitLaunch
  | .chimeInit => .chimeInit
  | .chimeSignal => .chimeSignal
  | .chimeWait => .chimeWait
  | .chimeQuery => .chimeQuery
  | .chimeClear => .chimeClear
  | .beatSetPeriod => .beatSetPeriod
  | .almanacWrite => .almanacWrite
  | .almanacRead => .almanacRead
  | .almanacArm => .almanacArm
  | .almanacDisarm => .almanacDisarm
  | .timeSetSource => .timeSetSource
  | .timeQuery => .timeQuery
  | .overrunSetPolicy => .overrunSetPolicy
  | .pealForm => .pealForm
  | .pealJoin => .pealJoin
  | .pealLeave => .pealLeave
  | .pealQuery => .pealQuery
  | .ringSend => .ringSend
  | .partitionSet => .partitionSet
  | .partitionQuery => .partitionQuery
  | .vfEnable => .vfEnable
  | .vfAssign => .vfAssign
  | .vfReset => .vfReset
  | .vfFreeze => .vfFreeze
  | .vfSave => .vfSave
  | .vfRestore => .vfRestore
  | .vfResume => .vfResume
  | .powerSetCap => .powerSetCap
  | .powerQuery => .powerQuery
  | .thermalSetLimits => .thermalSetLimits
  | .vigilEnter => .vigilEnter
  | .vigilWake => .vigilWake
  | .eccDiagMode => .eccDiagMode
  | .eccRawWrite => .eccRawWrite
  | .eccRawRead => .eccRawRead
  | .eccScrubSet => .eccScrubSet
  | .eccDieMark => .eccDieMark
  | .eccLogRead => .eccLogRead
  | .fwDeliver => .fwDeliver
  | .fwLiveUpdate => .fwLiveUpdate
  | .identityQuery => .identityQuery
  | .attest => .attest
  | .stationFwUpdate => .stationFwUpdate
  | .edgePrimaryMove => .edgePrimaryMove

/-- The state to which a verdict on the command at HEAD leads. -/
def State.concluded (s : State) (op : Op) (q : Nat) (p : Packet) (v : Verdict) : State :=
  let c := s.callOf op q p
  let on := s.onRead op q p
  let t := on.conclude c.cmd v
  { t with namedReads := t.namedReads ++ on.noted c.cmd c.queue v }

/-- The command at HEAD of a queue that is read now, once `good` holds of it and of the state after the read, completes with ST_OK:
its own effect is `t`, and RESULT is `r`; the commands and records that this lets go on go on (11 R262, R278). -/
def Completes (op : Op) (row : Nat → Packet → Instr) (good : Call → State → Prop) (t : Call → State → State)
    (r : Call → State → Nat) : Prop :=
  ∀ (q : Nat) (p : Packet) (s : State), s.takes op q p = true → good (s.callOf op q p) (s.onRead op q p) →
    exec (row q p) s =
      .next (s.after (s.concluded op q p (.done (t (s.callOf op q p) (s.onRead op q p)) (r (s.callOf op q p) (s.onRead op q p)))))

/-- The same for a command that stays outstanding once its own effect `t` has happened: `w` says what it waits for, and `r` is the RESULT
that it will return (11 R278). -/
def Waits (op : Op) (row : Nat → Packet → Instr) (good : Call → State → Prop) (t : Call → State → State) (w : Call → State → Wait)
    (r : Call → State → Nat) : Prop :=
  ∀ (q : Nat) (p : Packet) (s : State), s.takes op q p = true → good (s.callOf op q p) (s.onRead op q p) →
    exec (row q p) s =
      .next (s.after (s.concluded op q p (.defer (t (s.callOf op q p) (s.onRead op q p)) (w (s.callOf op q p) (s.onRead op q p))
        (r (s.callOf op q p) (s.onRead op q p)))))

/-- The same for a query of a management queue with result address 0: the status record goes first, then the result `b` in a reply
datagram of its own (20 R472, 21 R491). -/
def Replies (op : Op) (row : Nat → Packet → Instr) (good : Call → State → Prop) (t : Call → State → State) (b : Call → State → List Byte) :
    Prop :=
  ∀ (q : Nat) (p : Packet) (s : State), s.takes op q p = true → good (s.callOf op q p) (s.onRead op q p) →
    exec (row q p) s =
      .next (s.after (s.concluded op q p (.defer
        (((t (s.callOf op q p) (s.onRead op q p)).complete (s.atHead op q p) stOk 0 0).resultDatagram q
          (b (s.callOf op q p) (s.onRead op q p))) .downbeat 0)))

/-- None of a list of refusals applies. -/
def noneApplies (l : List (Bool × Verdict)) : Prop := ∀ x ∈ l, x.1 = false

/-- The result address in parameter `k` of a query takes `n` bytes: it keeps to 11 R261 and, if it lies among coherent windows, the
coherent domain is up (11 R281). -/
def Call.takesResult (c : Call) (s : State) (k n : Nat) : Prop :=
  c.blockBad s k ((n + 127) / 128 * 128) 128 = false ∧ c.domainDown s k = false

/-- An FW_DELIVER may be taken: from a management queue, after LOAD_READY, the load area not claimed by the companion, and no live update
under way (20 R465, R466). -/
def Call.takesDelivery (c : Call) (s : State) : Prop :=
  c.queue.management = true ∧ s.boot.loadReady = true ∧ (s.boot.verified = false → s.boot.claim ≠ .companion) ∧
    (s.boot.verified = true → s.boot.liveUpdate = none)

/-- A live update may begin: the cores are released, and neither another update nor an entry to Vigil is under way (20 R468). -/
def State.updateIdle (s : State) : Prop :=
  s.boot.released = true ∧ s.boot.liveUpdate = none ∧ s.fail.stationUpdate = none ∧ s.power.vigil ≠ .entering

/-- The registers that a DEVICE_QUERY names are those of a window that has them, and the function may read them (21 R491). -/
def Call.mayReadWindow (c : Call) (s : State) : Prop :=
  s.mayQuery c.function (c.arg 0) (c.arg 1) (c.arg 2) = true ∧ c.arg 0 ≠ 1 ∧ windowSize (c.arg 0) ≠ 0 ∧ 1 ≤ c.arg 2 ∧ c.arg 2 ≤ 8192 ∧
    8 * (c.arg 1 + c.arg 2) ≤ windowSize (c.arg 0)

/-- Their contents, eight bytes each. -/
def Call.windowBytes (c : Call) (s : State) : List Byte :=
  (List.range (c.arg 2)).flatMap fun i => leBytes 8 (s.register (c.arg 0) (8 * (c.arg 1 + i)))

/-! ### Pipeline instructions -/

/-- Group `g` of the block on a core. -/
def State.groupAt (s : State) (core g : Nat) : Option Group := (s.core core).block.bind fun b => b.groups[g]?

/-- Group `g` of block `b`, as it stands when it fetches, may issue instruction `i`, which names registers `regs`, and its fetch succeeds
(04 R95). -/
def State.issues (s : State) (i : Ins) (regs : List Nat) (b : Block) (g : Group) : Bool :=
  decide (i.core < 1728) && decide (i.group < 16) && (s.core i.core).phase == .running && (s.core i.core).block == some b &&
    (s.core i.core).window.contains (some i.group) &&
    (match b.groups[i.group]? with
      | some g0 => !g0.finished && g0.wait == .none && g == g0.reconverge
      | none => false) &&
    !(s.awaits i.core i.group regs) && (s.fetch i.core b.partition g.pc).2.isNone

/-- The state once the instruction has been fetched (07 R186). -/
def State.fetched (s : State) (i : Ins) (b : Block) (g : Group) : State := (s.fetch i.core b.partition g.pc).1

/-- The state that issue leaves when an instruction has done `t` to the machine and `g` to its group. -/
def State.issuedTo (s : State) (i : Ins) (sources dests : List Nat) (t : State) (g : Group) : State :=
  { (t.modGroup i.core i.group fun _ => g.touch sources dests).modCore i.core fun c =>
      { c with lastSlot := ((s.core i.core).window.findIdx? (· == some i.group)).getD 0 } with pending := s.pending }

/-- Group `h` is group `g` after an instruction that writes `f` to register `r` of every thread in which it executes: other threads,
other registers and the predicates stay, and the group goes on with the next instruction. -/
def Group.wrote (g h : Group) (i : Ins) (r : Nat) (f : Nat → Word) : Prop :=
  (∀ t, t < 64 → h.read r t = if (g.exec i).getLsbD t then f t else g.read r t) ∧
    (∀ x t, t < 64 → x ≠ r → h.read x t = g.read x t) ∧ h.preds = g.preds ∧ h.active = g.active ∧ h.stack = g.stack ∧
    h.pc = (g.pc + 8) % 2 ^ 64

/-- Group `h` is group `g` after an instruction that writes `f` to predicate `p` of every thread in which it executes: other threads,
other predicates and the registers stay, and the group goes on with the next instruction. -/
def Group.wrotePred (g h : Group) (i : Ins) (p : Nat) (f : Nat → Bool) : Prop :=
  (∀ t, t < 64 → (h.predMask p).getLsbD t = if (g.exec i).getLsbD t then f t else (g.predMask p).getLsbD t) ∧
    (∀ x, x ≠ p → h.predMask x = g.predMask x) ∧ h.regs = g.regs ∧ h.active = g.active ∧ h.stack = g.stack ∧
    h.pc = (g.pc + 8) % 2 ^ 64

/-- FP_STATUS of `h` is that of `g` with the flags that the threads in which the instruction executes raise: none is cleared (04 R107). -/
def Group.raised (g h : Group) (i : Ins) (flags : Nat → Nat) : Prop :=
  ∀ n, n < 32 → (h.fpStatus.getLsbD n = true ↔
    g.fpStatus.getLsbD n = true ∨ ∃ t, t < 64 ∧ (g.exec i).getLsbD t = true ∧ (flags t).testBit n = true)

/-- State `t` is `s` but for group `g` of the block on a core, for the core's instruction cache and window, and for the count of reads of
dead lines: the other groups and cores, and every byte of memory, stay. -/
def State.onlyGroup (s t : State) (core g : Nat) : Prop :=
  t = { s with cores := t.cores, mem := { s.mem with counters := t.mem.counters } } ∧ (∀ c, c ≠ core → t.core c = s.core c) ∧
    (∀ k, k ≠ g → t.groupAt core k = s.groupAt core k) ∧
    ((t.core core).block.map fun b => { b with groups := [] }) = (s.core core).block.map fun b => { b with groups := [] }

/-- An instruction of `row`, which names registers `regs`, completes where it may issue and `good` holds: register DST takes the first part
of `f` in the threads in which it executes, FP_STATUS gathers the second, and nothing else of the machine changes (04 R102, R104, R107). -/
def WritesRegister (row : Ins → Instr) (regs : Ins → List Nat) (good : Ins → Block → Group → Prop)
    (f : Ins → Block → Group → Nat → Word × Nat) : Prop :=
  ∀ (w : Ins) (s : State) (b : Block) (g : Group), s.issues w (regs w) b g = true → good w b g →
    ∃ t h, exec (row w) s = .next t ∧ t.groupAt w.core w.group = some h ∧ g.wrote h w w.d (fun k => (f w b g k).1) ∧
      g.raised h w (fun k => (f w b g k).2) ∧ s.onlyGroup t w.core w.group

/-- The same for an instruction that writes the predicate that DST names, one of P0 to P6. -/
def WritesPredicate (row : Ins → Instr) (regs : Ins → List Nat) (good : Ins → Block → Group → Prop)
    (f : Ins → Block → Group → Nat → Bool × Nat) : Prop :=
  ∀ (w : Ins) (s : State) (b : Block) (g : Group), s.issues w (regs w) b g = true → w.d < 7 → g.preds.length = 7 → good w b g →
    ∃ t h, exec (row w) s = .next t ∧ t.groupAt w.core w.group = some h ∧ g.wrotePred h w w.d (fun k => (f w b g k).1) ∧
      g.raised h w (fun k => (f w b g k).2) ∧ s.onlyGroup t w.core w.group

/-- An instruction of `row`, which reads registers `sources` and writes `dests`, completes where it may issue and `good` holds once it has
been fetched: it does `t` to the machine and `h` to its group. -/
def IssuesAs (row : Ins → Instr) (sources dests : Ins → List Nat) (good : Ins → State → Block → Group → Prop)
    (t : Ins → State → Block → Group → State) (h : Ins → State → Block → Group → Group) : Prop :=
  ∀ (w : Ins) (s : State) (b : Block) (g : Group), s.issues w (sources w ++ dests w) b g = true → good w (s.fetched w b g) b g →
    exec (row w) s =
      .next (s.issuedTo w (sources w) (dests w) (t w (s.fetched w b g) b g) (h w (s.fetched w b g) b g))

/-- An instruction of `row` faults where it may issue and `bad` holds of it: the core's task ends with the status, for the group as a whole
(04 R103, R122). -/
def FaultsAs (row : Ins → Instr) (regs : Ins → List Nat) (bad : Ins → State → Block → Group → Prop) (status : Nat) : Prop :=
  ∀ (w : Ins) (s : State) (b : Block) (g : Group), s.issues w (regs w) b g = true → bad w (s.fetched w b g) b g →
    exec (row w) s = .next { (s.fetched w b g).taskFault w.core w.group none status 0 g.pc g.active with pending := s.pending }

/-- An INT instruction over SRC0, and SRC1 or the immediate, writes `f` of them (04 R104). -/
def IntTwo (row : Ins → Instr) (f : Word → Word → Word) : Prop :=
  WritesRegister row (fun w => w.withSrc1 [w.a] [] ++ [w.d]) (fun _ _ _ => True) fun w _ g t =>
    (f (g.read w.a t) (w.src1Value g t), 0)

/-- An INT instruction over SRC0, SRC1 or the immediate, and SRC2. -/
def IntThree (row : Ins → Instr) (f : Word → Word → Word → Word) : Prop :=
  WritesRegister row (fun w => w.withSrc1 [w.a] [w.c] ++ [w.d]) (fun _ _ _ => True) fun w _ g t =>
    (f (g.read w.a t) (w.src1Value g t) (g.read w.c t), 0)

/-- An INT instruction over SRC0. -/
def IntOne (row : Ins → Instr) (f : Word → Word) : Prop :=
  WritesRegister row (fun w => [w.a] ++ [w.d]) (fun _ _ _ => True) fun w _ g t => (f (g.read w.a t), 0)

/-- An FP instruction over SRC0 and SRC1 in a defined format: the format and the rounding of the word (04 Table 4-5), the sources' upper
bits ignored and the result zero-extended (04 R104 (a)), its flags raised (04 R107). -/
def FpTwo (row : Ins → Instr) (op : FpFormat → Rm → Nat → Nat → Nat × FpFlags) : Prop :=
  ∀ (f : FpFormat) (rm : Rm),
    WritesRegister row (fun w => [w.a, w.b] ++ [w.d]) (fun w _ _ => w.fp = some (f, rm)) fun w _ g t =>
      let r := op f rm (f.of (g.read w.a t)) (f.of (g.read w.b t))
      (BitVec.ofNat 32 r.1, r.2.bits)

/-- An SFU instruction, whose SRC1, SRC2 and IMM20 are 0 (04 R103, R106). -/
def SfuOne (row : Ins → Instr) (op : Nat → Nat × FpFlags) : Prop :=
  WritesRegister row (fun w => [w.a] ++ [w.d]) (fun w _ _ => w.b = 0 ∧ w.c = 0 ∧ w.imm = 0) fun w _ g t =>
    let r := op (g.read w.a t).toNat
    (BitVec.ofNat 32 r.1, r.2.bits)

/-- The accesses of WIDTH `n` of the threads in which an instruction executes meet no fault and no coherent domain that is down, there is
one at least, and tags are free for the granules they need: its request can be sent (04 R114 to R118, 09 R220, 15 R351). -/
def State.mayRequest (s : State) (w : Ins) (b : Block) (g : Group) (n : Nat) (read write : Bool) (lane : Nat × Place → Lane) : Prop :=
  let p := s.mapThreads w b g n read write
  p.faults = [] ∧ p.down = false ∧ p.places ≠ [] ∧ p.s.tagsFree (p.places.map lane) = true

/-- The state once that request has been sent, with the transactions that its coherent lanes need. -/
def State.sentFor (s : State) (w : Ins) (b : Block) (g : Group) (n : Nat) (read write : Bool) (lane : Nat × Place → Lane)
    (kind : RequestKind) (txn : TxnKind) : State :=
  let p := s.mapThreads w b g n read write
  (p.s.sendRequest w g kind n (p.places.map lane) b.partition).addTxns p.s.nextId (s.coreContext w.core) txn (p.places.map lane)

/-- The threads in which an instruction executes access aligned addresses within the core store, and no unfinished tile instruction uses
them (04 R111, 06 R159). -/
def State.mayStore (s : State) (w : Ins) (g : Group) (n : Nat) : Prop :=
  ∀ t ∈ threadsOf (g.exec w), w.storeAddress g n t % n = 0 ∧ w.storeAddress g n t < coreStoreSize ∧
    s.storeHeld w.core (w.storeAddress g n t) n = false

/-- The threads of the condition of a BRC, and those of the active ones that do not branch (04 R108, R110). -/
def Group.taken (g : Group) (w : Ins) : U64 := g.active &&& (if w.pneg then ~~~(g.predMask w.pred.toNat) else g.predMask w.pred.toNat)
def Group.falls (g : Group) (w : Ins) : U64 := g.active &&& ~~~(if w.pneg then ~~~(g.predMask w.pred.toNat) else g.predMask w.pred.toNat)

/-- The four register fields of a BRANCH instruction are 0. -/
def Ins.noFields (w : Ins) : Prop := w.d = 0 ∧ w.a = 0 ∧ w.b = 0 ∧ w.c = 0

/-! ### Events -/

/-- The event `c` occurs in `s`: what it does itself leads to `t`, and everything that this lets go on goes on. -/
def Leads (c : Instr) (s t : State) : Prop := exec c s = .next (s.after t)

end Sys2Proof.Machine
end

