-- ==== Sys2Proof/Safety.lean ====
section
/-!
DEFINITION. What counts as a safe step and a safe run: no command is refused and none names a unit that the module does not have.
-/
namespace Sys2Proof
open Sys2Proof.Machine

/-- The step answers a next state. -/
def safeStep (s : State) : Bool :=
  match step s with
  | .next _ => true
  | .fault _ => false
  | .refused _ => false

/-- Every one of the first `n` steps from `s` answers a next state. -/
def safeRun : Nat → State → Bool
  | 0, _ => true
  | n + 1, s =>
    match step s with
    | .next t => safeRun n t
    | .fault _ => false
    | .refused _ => false

/-- Every waiting command is well formed. -/
def queueWellFormed (s : State) : Bool := s.pending.all wellFormed

end Sys2Proof
end

