-- ==== Sys2Proof/Certificates/Slice0/Obligations.lean ====
section
/-!
DEFINITION. The statements for the provers. Statements about packets say what a command that nothing refuses does to the state; those about
pipeline instructions what an instruction does that its group has fetched; those about events what an event does that occurs. Each names
the whole next state, so that everything that its equation does not mention is unchanged.
-/
open Sys2Proof Sys2Proof.Machine

/-- A step takes the command at the front of the queue and runs it on the machine with the rest of the queue. -/
def Obligations.StepRunsTheFrontCommand : Prop :=
  ∀ (c : Instr) (rest : List Instr) (s : State), s.pending = c :: rest → step s = exec c { s with pending := rest }

/-- With no command waiting a step lets 10 ns pass and changes nothing else. The model's choice (log entry 1): the spec gives the block a
clock of 10 ns and no step of its own. -/
def Obligations.StepWithoutACommandLetsTimePass : Prop :=
  ∀ s : State, s.pending = [] → step s = .next { s with now := s.now + 1 }

/-- No command touches the queue of the commands that wait behind it, so that commands run first in, first out: after a step the queue is
what stood behind its front. -/
def Obligations.CommandsRunInOrder : Prop :=
  (∀ (c : Instr) (s t : State), exec c s = .next t → t.pending = s.pending) ∧
    ∀ (c : Instr) (rest : List Instr) (s t : State), s.pending = c :: rest → step s = .next t → t.pending = rest

/-- The machine stops nowhere but at a command that names a unit which the module does not have: no command is refused, a fault is that of
such a unit, and the command that meets it is not well formed. -/
def Obligations.OnlyMissingUnitsStop : Prop :=
  ∀ (c : Instr) (s : State), (∀ r, exec c s ≠ .refused r) ∧
    ∀ f, exec c s = .fault f → f = .noSuchUnit ∧ wellFormed c = false

/-- A machine whose waiting commands are all well formed takes any number of steps without a stop, and those that still wait stay well
formed: from every state, not only from reset. -/
def Obligations.WellFormedCommandsNeverStop : Prop :=
  (∀ s : State, queueWellFormed s = true → ∃ t, step s = .next t ∧ queueWellFormed t = true) ∧
    ∀ (n : Nat) (s : State), queueWellFormed s = true → safeRun n s = true

/-- What reset leaves: nothing has run and nothing waits, no memory lists a byte and each is in its canonical form, queue 1 is the only
queue and the device Context the only Context, no Kit, object, Sequence, core or command is there, the beat does not run, the input is not
mated, and no stage of start-up has ended. What the spec gives no value for at power-up is the model's choice (log entry 7). -/
def Obligations.ResetHoldsNoWork : Prop :=
  State.reset.pending = [] ∧ State.reset.now = 0 ∧ queueWellFormed State.reset = true ∧
    State.reset.mem.t1 = [] ∧ State.reset.mem.t2 = [] ∧ State.reset.mem.companion = [] ∧
    Memory.wf zeroByte State.reset.mem.t1 = true ∧ Memory.wf zeroByte State.reset.mem.t2 = true ∧
    State.reset.queues.map (·.1) = [1] ∧ State.reset.contexts.map (·.1) = [65535] ∧ State.reset.kits = [] ∧
    State.reset.objects = [] ∧ State.reset.sequences = [] ∧ State.reset.commands = [] ∧ State.reset.lists = [] ∧
    State.reset.cores = [] ∧ State.reset.beat.running = false ∧ State.reset.beat.period = 25000 ∧
    State.reset.power.input = InputState.reset ∧ State.reset.boot.stage1 = false ∧ State.reset.boot.released = false

/-- Every multi-byte field of a packet, a record or a register window is little-endian and its offset counts bytes from the first byte (00
R4): a field reads as the sum of its bytes, each by its weight, and what is written as a field of n bytes reads as the same number modulo
256^n wherever it stands. -/
def Obligations.FieldsAreLittleEndian : Prop :=
  (∀ (bytes : List Byte) (offset n : Nat),
    field bytes offset n = ((List.range n).map fun i => (bytes.getD (offset + i) 0).toNat * 256 ^ i).sum) ∧
  ∀ (before after : List Byte) (n v : Nat), field (before ++ leBytes n v ++ after) before.length n = v % 256 ^ n

/-- Words written out bit by bit from the instruction layout of 04 Table 4-3, with CLASS, OP, PNEG and PRED, DST, SRC0, SRC1, SRC2 and
IMM20 in that order, and the instructions that they stand for: one of each class (04 Tables 4-4, 4-7 and 4-10; 05 Table 5-7; 06 Table
6-3). A reserved class stands for none. -/
def Obligations.WordsStandForInstructions : Prop :=
  pipelineInstr 5 2 0b0000_00000000_0_111_0000001_0000010_0000011_0000000_00000000000000000000#64 =
      some (.iadd { core := 5, group := 2, pneg := false, pred := 7, dst := 1, src0 := 2, src1 := 3, src2 := 0, imm := 0 }) ∧
    pipelineInstr 5 2 0b0000_00010100_1_011_0000101_0000010_0000011_0000000_00000000000000000000#64 =
      some (.icmp 4 { core := 5, group := 2, pneg := true, pred := 3, dst := 5, src0 := 2, src1 := 3, src2 := 0, imm := 0 }) ∧
    pipelineInstr 5 2 0b0001_00000011_0_111_0001000_0001001_0001010_0001011_00000000000000000000#64 =
      some (.fmac { core := 5, group := 2, pneg := false, pred := 7, dst := 8, src0 := 9, src1 := 10, src2 := 11, imm := 0 }) ∧
    pipelineInstr 5 2 0b0010_00000010_0_111_0000001_0000010_0000000_0000000_00000000000000000000#64 =
      some (.rsqrt { core := 5, group := 2, pneg := false, pred := 7, dst := 1, src0 := 2, src1 := 0, src2 := 0, imm := 0 }) ∧
    pipelineInstr 5 2 0b0011_00000001_0_111_1111111_0000000_0000000_0000000_00000000000000010111#64 =
      some (.movs { core := 5, group := 2, pneg := false, pred := 7, dst := 127, src0 := 0, src1 := 0, src2 := 0, imm := 0x17 }) ∧
    pipelineInstr 5 2 0b0100_00000100_0_111_0000000_0000000_0000000_0000000_00000000000000000000#64 =
      some (.endThreads { core := 5, group := 2, pneg := false, pred := 7, dst := 0, src0 := 0, src1 := 0, src2 := 0, imm := 0 }) ∧
    pipelineInstr 5 2 0b0101_00000001_0_111_0000000_0000010_0000000_0000100_10000000000000000001#64 =
      some (.cst { core := 5, group := 2, pneg := false, pred := 7, dst := 0, src0 := 2, src1 := 0, src2 := 4, imm := 0x80001 }) ∧
    pipelineInstr 5 2 0b0110_00000010_0_111_0000000_0000010_0000011_0000100_11000000000000000000#64 =
      some (.st { core := 5, group := 2, pneg := false, pred := 7, dst := 0, src0 := 2, src1 := 3, src2 := 4, imm := 0xC0000 }) ∧
    pipelineInstr 5 2 0b0111_00010101_0_111_0000000_0000010_0000011_0000100_00000000000000000000#64 =
      some (.acas true { core := 5, group := 2, pneg := false, pred := 7, dst := 0, src0 := 2, src1 := 3, src2 := 4, imm := 0 }) ∧
    pipelineInstr 5 2 0b1000_00000100_0_111_0000000_0000000_0000000_0000000_00000000000000000000#64 =
      some (.nop { core := 5, group := 2, pneg := false, pred := 7, dst := 0, src0 := 0, src1 := 0, src2 := 0, imm := 0 }) ∧
    pipelineInstr 5 2 0b1001_00000001_0_111_0000000_0001000_0010000_0011000_00000000010110000100#64 =
      some (.mma { core := 5, group := 2, pneg := false, pred := 7, dst := 0, src0 := 8, src1 := 16, src2 := 24, imm := 0x00584 }) ∧
    pipelineInstr 5 2 0b1010_00000000_0_111_0000010_0000100_0000110_0001000_00000000000000000000#64 =
      some (.tload { core := 5, group := 2, pneg := false, pred := 7, dst := 2, src0 := 4, src1 := 6, src2 := 8, imm := 0 }) ∧
    pipelineInstr 5 2 0b1111_00000000_0_111_0000000_0000000_0000000_0000000_00000000000000000000#64 = none

/-- A pipeline instruction that is well formed has a word, and the group that fetches that word issues that very instruction, with every
field at every value (04 R102, Tables 4-3, 4-7, 4-10; 05 Table 5-7; 06 Table 6-3). What an LD's core code finds is no part of its word. -/
def Obligations.PipelineWordsRoundTrip : Prop :=
  ∀ (x : Instr) (cls op : Nat) (i : Ins), opcodeWord x = some (cls, op, i) → wellFormed x = true → (∀ e j, x = .ld e j → e = 0) →
    ∃ w, pipelineWord x = some w ∧ pipelineInstr i.core i.group w = some x

/-- A word that stands for an instruction is the word of that instruction and of no other: decoding drops no bit (04 R102, R103). -/
def Obligations.PipelineWordsHaveOneMeaning : Prop :=
  ∀ (core group : Nat) (w : BitVec 64) (x : Instr), pipelineInstr core group w = some x → pipelineWord x = some w

/-- A packet whose OPCODE Table 11-8 does not have is read and refused with ST_BAD_OPCODE, whatever else it holds (11 R267, R269). A
command that a virtual function may not issue is refused with ST_NOT_PERMITTED, whatever its parameters are (11 R268, R269, Table 11-9).
-/
def Obligations.PacketsAreRefusedByOpcode : Prop :=
  (∀ (q code : Nat) (p : Packet) (s : State), s.reads (.undefinedOpcode code) q p = true →
    exec (.undefinedOpcode q code p) s = .next (s.after (s.concluded (.undefinedOpcode code) q p (.refuse stBadOpcode 0 0)))) ∧
  (∀ (op : Op) (q : Nat) (p : Packet) (s : State), (∀ n, op ≠ .undefinedOpcode n) → s.reads op q p = true →
    permitted op (s.queue q).function = false →
    exec (op.row q p) s = .next (s.after (s.concluded op q p (.refuse stNotPermitted 0 0))))

/-- A permitted packet with a reserved field that is not zero is refused with ST_BAD_PARAM, and DETAIL names that field, where nothing
else refuses the command (11 R259, R260, R269). A well-formed, permitted command in a queue of a lost Context is refused with
ST_CONTEXT_LOST where it names nothing wrong, unless it is one that a lost Context still takes (11 R270). -/
def Obligations.PacketsAreRefusedAfterTheirParameters : Prop :=
  (∀ (op : Op) (q : Nat) (p : Packet) (s : State) (o : Nat), (∀ n, op ≠ .undefinedOpcode n) → s.reads op q p = true →
    permitted op (s.queue q).function = true → malformed (s.atHead op q p) = some o →
    (∀ st d r, effectOf op (s.callOf op q p) (s.onRead op q p) ≠ .refuse st d r) →
    exec (op.row q p) s = .next (s.after (s.concluded op q p (.refuse stBadParam o 0)))) ∧
  (∀ (op : Op) (q : Nat) (p : Packet) (s : State), (∀ n, op ≠ .undefinedOpcode n) → s.reads op q p = true →
    permitted op (s.queue q).function = true → malformed (s.atHead op q p) = none →
    (s.onRead op q p).lostContext (s.queue q).context = true → (s.onRead op q p).lossExempt (s.atHead op q p) = false →
    (∀ st d r, effectOf op (s.callOf op q p) (s.onRead op q p) ≠ .refuse st d r) →
    exec (op.row q p) s = .next (s.after (s.concluded op q p (.refuse stContextLost 0 0))))

/-- DEVICE_NOP, QUEUE_STOP, QUEUE_START and QUEUE_QUERY (11 R267, R272, Tables 11-10 and 11-11), QUEUE_CREATE of a FREE queue named or
chosen (11 R271, R272), and QUEUE_DESTROY, which waits for the commands of its queue (11 Table 11-11): read at HEAD under the conditions
that the tables state, each has its own effect. -/
def Obligations.QueueCommandsComplete : Prop :=
  Completes .deviceNop .deviceNop (fun _ _ => True) (fun _ s => s) (fun _ _ => 0) ∧
  Completes .queueStop .queueStop
    (fun c s => c.queueDenied s (c.arg 0) = false ∧ c.arg 0 < 1048576 ∧ (s.queue (c.arg 0)).mode = .active ∧
      s.lostContext (s.queue (c.arg 0)).context = false)
    (fun c s => s.modQueue (c.arg 0) fun k => { k with mode := .stopped, leaf := false }) (fun _ _ => 0) ∧
  Completes .queueStart .queueStart
    (fun c s => c.queueDenied s (c.arg 0) = false ∧ c.arg 0 < 1048576 ∧
      ((s.queue (c.arg 0)).mode = .stopped ∨ (s.queue (c.arg 0)).mode = .broken) ∧
      s.lostContext (s.queue (c.arg 0)).context = false)
    (fun c s => s.modQueue (c.arg 0) fun k => { k with mode := .active, head := c.arg 1, tail := c.arg 1 }) (fun _ _ => 0) ∧
  Completes .queueCreate .queueCreate
    (fun c s =>
      (c.physical = true ∨ (c.arg 7 = c.function ∧ (c.arg 0 = 0xFFFFFFFF ∨ s.inRange c.function (c.arg 0) = true))) ∧
      ((c.arg 0 = 0xFFFFFFFF ∧ (s.lowestFreeQueue (c.arg 7)).isSome = true) ∨
        (c.arg 0 < 1048576 ∧ s.inRange (c.arg 7) (c.arg 0) = true ∧ tget s.queues (c.arg 0) = none)) ∧
      4 ≤ c.arg 1 ∧ c.arg 1 ≤ 16 ∧ (c.arg 2 = 1 → c.arg 1 ≤ 10 ∧ c.arg 7 = 0 ∧ c.arg 5 = 0 ∧
        (s.queues.filter (·.2.management)).length < 256) ∧
      c.arg 2 ≤ 1 ∧ 1 ≤ c.arg 3 ∧ c.arg 3 ≤ 64 ∧ c.arg 4 ≤ 31 ∧
      (c.arg 2 ≠ 1 → c.arg 5 % 4096 = 0 ∧ s.nameable false (s.context (c.arg 6)).partition (c.arg 5) (64 * 2 ^ c.arg 1) = true) ∧
      (s.context (c.arg 6)).mode = .active ∧ ((s.context (c.arg 6)).function = c.arg 7 ∨ c.arg 6 = 65535) ∧ c.arg 7 ≤ 4095 ∧
      (c.physical = true ∨ (s.context (c.arg 6)).function = c.function) ∧
      s.chimesInside (s.context (c.arg 6)).partition (c.arg 8) (c.arg 9) = true ∧ 1 ≤ c.arg 9 ∧ c.arg 9 ≤ 4194304 ∧
      s.lostContext (c.arg 6) = false)
    (fun c s =>
      let e : Queue :=
        { ringBase := c.arg 5, head := 0, tail := 0, kit := 0xFFFFFFFF, context := c.arg 6,
          partition := (s.context (c.arg 6)).partition, log2Size := c.arg 1, function := c.arg 7, completionRing := c.arg 4,
          mode := .active, chimeBase := c.arg 8, chimeCount := c.arg 9, ownChimeBase := c.arg 8, ownChimeCount := c.arg 9,
          weight := c.arg 3, management := c.arg 2 == 1, leaf := false, returned := 0, recent := [], peer := c.queue.peer }
      { s with queues := tset s.queues (if c.arg 0 = 0xFFFFFFFF then (s.lowestFreeQueue (c.arg 7)).getD 0 else c.arg 0) e })
    (fun c s => if c.arg 0 = 0xFFFFFFFF then (s.lowestFreeQueue (c.arg 7)).getD 0 else c.arg 0) ∧
  Waits .queueDestroy .queueDestroy
    (fun c s => c.queueDenied s (c.arg 0) = false ∧ c.arg 0 < 1048576 ∧ (s.queue (c.arg 0)).mode ≠ .free ∧
      (s.queue (c.arg 0)).mode ≠ .draining ∧ (s.queue (c.arg 0)).bound = false)
    (fun c s => if s.outstanding (c.arg 0) c.cmd.id = 0 then s
      else s.modQueue (c.arg 0) fun k => { k with mode := .draining, leaf := false })
    (fun c _ => .queueDestroy (c.arg 0)) (fun _ _ => 0) ∧
  Completes .queueQuery .queueQuery
    (fun c s => c.queueDenied s (c.arg 0) = false ∧ c.arg 0 < 1048576 ∧ c.takesResult s 1 128 ∧
      ((s.queue (c.arg 0)).mode = .free ∨ s.lostContext (s.queue (c.arg 0)).context = false))
    (fun c s => s.writeResult (c.arg 1) (s.queueBytes (c.arg 0))) (fun _ _ => 0)

/-- QUEUE FFFFFFFFh stands for the lowest FREE queue of the function's range (11 R271, 17 R394). -/
def Obligations.LowestFreeQueueIsTheLowest : Prop :=
  ∀ (s : State) (f n : Nat), s.lowestFreeQueue f = some n →
    tget s.queues n = none ∧ s.inRange f n = true ∧
      ∀ m, (if f = 0 then 0 else (s.function f).firstQueue) ≤ m → m < n →
        ¬(tget s.queues m = none ∧ s.inRange f m = true)

/-- CRING_SET (11 R275), CONTEXT_CREATE, CONTEXT_DESTROY and CONTEXT_QUERY (12 R286 to R288, Tables 12-2 and 12-3). -/
def Obligations.ContextCommandsComplete : Prop :=
  Completes .cringSet .cringSet
    (fun c s =>
      (c.physical = true ∨ c.arg 0 = c.function) ∧ c.arg 0 ≤ 4095 ∧ c.arg 1 ≤ 31 ∧ 6 ≤ c.arg 2 ∧ c.arg 2 ≤ 16 ∧
      (c.arg 6 = 0 ∨ (c.arg 6 % 128 = 0 ∧
        ∃ p, p < 64 ∧ s.usable (c.arg 0) p = true ∧ s.nameable false p (c.arg 6) (32 * 2 ^ c.arg 2) = true)) ∧
      ((s.cring (c.arg 0) (c.arg 1)).produced ≤ (s.cring (c.arg 0) (c.arg 1)).consumed ∨
        s.ringNamer (c.arg 0) (c.arg 1) = none))
    (fun c s =>
      let r := s.cring (c.arg 0) (c.arg 1)
      let r1 : CRing := { r with base := c.arg 6, produced := 0, consumed := 0, log2Size := c.arg 2, irqCount := c.arg 3,
                                 irqDelay := c.arg 4, vector := c.arg 5, unsignalled := 0, unit := [] }
      (s.setCring (c.arg 0) (c.arg 1) r1).flushRing (c.arg 0) (c.arg 1) (r.waiting.length + 1))
    (fun _ _ => 0) ∧
  Completes .contextCreate .contextCreate
    (fun c s =>
      (c.physical = true ∨ c.arg 0 = c.function) ∧ c.arg 0 ≤ 4095 ∧ c.arg 1 ≤ 63 ∧ s.usable (c.arg 0) (c.arg 1) = true ∧
      c.arg 2 ≤ 31 ∧ (c.queue.management = true ∨ (s.cring (c.arg 0) (c.arg 2)).base ≠ 0) ∧
      s.functionMode (c.arg 0) = .enabled ∧
      (∀ x ∈ s.partitionChanges, x.partition = c.arg 1 → s.contextCount (c.arg 1) < x.contextLimit) ∧
      tfree s.contexts 0 < 65535 ∧ (c.arg 1 = 0 ∨ s.contextCount (c.arg 1) < (s.partition (c.arg 1)).contextLimit))
    (fun c s =>
      let k : Context :=
        { mode := .active, partition := c.arg 1, function := c.arg 0, noticeRing := c.arg 2, lossStatus := 0, lossBeat := 0,
          lossOffset := 0, viaQueue := if c.queue.management then some c.cmd.queue else none }
      { s with contexts := tset s.contexts (tfree s.contexts 0) k })
    (fun _ s => tfree s.contexts 0) ∧
  Waits .contextDestroy .contextDestroy
    (fun c s =>
      c.contextDenied s (c.arg 0) = false ∧ c.arg 0 ≠ 65535 ∧ c.queue.context ≠ c.arg 0 ∧
      ((s.context (c.arg 0)).mode = .lost ∨ ((s.context (c.arg 0)).mode = .active ∧
        s.kitsOf (c.arg 0) = [] ∧ s.queuesOf (c.arg 0) = [] ∧ s.seqsOf (c.arg 0) = [])))
    (fun c s => (s.disown (c.arg 0)).modContext (c.arg 0) fun k => { k with mode := .destroying })
    (fun c _ => .contextDestroy (c.arg 0)) (fun _ _ => 0) ∧
  Completes .contextQuery .contextQuery
    (fun c s => c.contextDenied s (c.arg 0) = false ∧ c.takesResult s 1 64)
    (fun c s => s.writeResult (c.arg 1) (s.contextBytes (c.arg 0))) (fun _ _ => 0)

/-- CHIME_INIT, CHIME_SIGNAL, CHIME_WAIT, CHIME_QUERY and CHIME_CLEAR (12 R300, R302, Table 12-7); a CHIME_WAIT on a Chime that has
reached its target completes, and one on a Chime that has not holds its queue. -/
def Obligations.ChimeCommandsComplete : Prop :=
  Completes .chimeInit .chimeInit
    (fun c s =>
      c.arg 0 + c.arg 1 ≤ c.queue.chimeCount ∧ 1 ≤ c.arg 1 ∧ c.arg 1 ≤ 65536 ∧
      (c.arg 3 = 65535 ∨ ((s.context (c.arg 3)).mode ≠ .free ∧ (s.context (c.arg 3)).partition = c.partition ∧
        s.lostContext (c.arg 3) = false ∧ ∀ h ∈ c.chimes (c.arg 0) (c.arg 1), s.chimeMoves h = false)) ∧
      ∀ h ∈ c.chimes (c.arg 0) (c.arg 1), ∀ w ∈ s.waiters, w.chime ≠ h)
    (fun c s => (c.chimes (c.arg 0) (c.arg 1)).foldl (fun t h => t.setChime h
      { counter := BitVec.ofNat 64 (c.arg 2), error := 0, lowCount := 0, context := c.arg 3,
        partition := if c.arg 3 = 65535 then 0 else (s.context (c.arg 3)).partition }) s)
    (fun _ _ => 0) ∧
  Completes .chimeSignal .chimeSignal
    (fun c _ => c.arg 0 < c.queue.chimeCount)
    (fun c s => s.signalChime (c.queue.deviceChime (c.arg 0)) (BitVec.ofNat 64 (c.arg 1)))
    (fun c s =>
      ((s.signalChime (c.queue.deviceChime (c.arg 0)) (BitVec.ofNat 64 (c.arg 1))).chime
        (c.queue.deviceChime (c.arg 0))).counter.toNat) ∧
  Completes .chimeWait .chimeWait
    (fun c s => c.arg 0 < c.queue.chimeCount ∧ (s.chime (c.queue.deviceChime (c.arg 0))).error = 0 ∧
      reached (s.chime (c.queue.deviceChime (c.arg 0))).counter (BitVec.ofNat 64 (c.arg 1)) = true)
    (fun _ s => s) (fun _ _ => 0) ∧
  Waits .chimeWait .chimeWait
    (fun c s => c.arg 0 < c.queue.chimeCount ∧ (s.chime (c.queue.deviceChime (c.arg 0))).error = 0 ∧
      reached (s.chime (c.queue.deviceChime (c.arg 0))).counter (BitVec.ofNat 64 (c.arg 1)) = false)
    (fun c s => { s with waiters := s.waiters ++
      [{ chime := c.queue.deviceChime (c.arg 0), target := BitVec.ofNat 64 (c.arg 1), waiter := .command c.cmd.id }] })
    (fun c _ => .chime (c.queue.deviceChime (c.arg 0)) (c.arg 1)) (fun _ _ => 0) ∧
  Completes .chimeQuery .chimeQuery
    (fun c s => c.arg 0 < c.queue.chimeCount ∧ c.takesResult s 1 20)
    (fun c s => s.writeResult (c.arg 1) (s.chimeBytes (c.queue.deviceChime (c.arg 0)))) (fun _ _ => 0) ∧
  Completes .chimeClear .chimeClear
    (fun c _ => c.arg 0 + c.arg 1 ≤ c.queue.chimeCount ∧ 1 ≤ c.arg 1 ∧ c.arg 1 ≤ 65536)
    (fun c s => (c.chimes (c.arg 0) (c.arg 1)).foldl (fun t h => t.setChime h { t.chime h with error := 0, lowCount := 0 }) s)
    (fun _ _ => 0)

/-- MEM_ALLOC of a plain or tiled object that finds room, MEM_FREE of an object that nothing refers to and of one that is still referred
to, and MEM_QUERY (12 R292 to R296, Tables 12-4 and 12-5). -/
def Obligations.MemoryObjectCommandsComplete : Prop :=
  Completes .memAlloc .memAlloc
    (fun c s =>
      (s.context (c.arg 0)).mode = .active ∧ (s.context (c.arg 0)).function = c.function ∧ s.lostContext (c.arg 0) = false ∧
      ((c.arg 1 = 0 ∧ c.arg 2 % 4096 = 0 ∧ 4096 ≤ c.arg 2 ∧ c.arg 2 ≤ 1099511623680 ∧
          (s.layout2 (s.context (c.arg 0)).partition (c.arg 2)).isSome = true) ∨
        (c.arg 1 = 1 ∧ 1 ≤ c.arg 2 ∧ c.arg 2 ≤ 2 ^ 28 - 1 ∧
          (s.layout2 (s.context (c.arg 0)).partition (tiledFootprint (c.arg 2))).isSome = true)) ∧
      s.freeObject < 1048576)
    (fun c s =>
      let footprint := if c.arg 1 = 1 then tiledFootprint (c.arg 2) else c.arg 2
      let x := (s.layout2 (s.context (c.arg 0)).partition footprint).getD (0, [])
      let o : Object :=
        { generation := nextGeneration (s.lastGeneration s.freeObject), footprint,
          tiles := if c.arg 1 = 1 then c.arg 2 else 0, mode := .live, tiled := c.arg 1 == 1, pool := false, summary := false,
          unreadable := false, context := c.arg 0, partition := (s.context (c.arg 0)).partition, firstPair := x.1,
          pairs := (x.2.map (·.pair)).foldl addOnce [], bindings := 0, marked := false, units := x.2, granules := [] }
      State.zeroUnits { s with objects := tset s.objects s.freeObject o } x.2)
    (fun c s => s.freeObject + nextGeneration (s.lastGeneration s.freeObject) * 2 ^ 20 +
      (s.context (c.arg 0)).partition * 2 ^ 48) ∧
  Completes .memFree .memFree
    (fun c s => ∃ i o, s.objectOf (c.arg 0) = some (i, o) ∧ noneApplies (c.handleGuards s 0 ++ c.objectGuards s 0) ∧
      o.mode ≠ .bound ∧ s.refs (c.arg 0) c.cmd.id = 0)
    (fun c s => match s.objectOf (c.arg 0) with
      | some (i, _) => s.releaseObject i
      | none => s)
    (fun _ _ => 0) ∧
  Waits .memFree .memFree
    (fun c s => ∃ i o, s.objectOf (c.arg 0) = some (i, o) ∧ noneApplies (c.handleGuards s 0 ++ c.objectGuards s 0) ∧
      o.mode ≠ .bound ∧ s.refs (c.arg 0) c.cmd.id ≠ 0)
    (fun c s => match s.objectOf (c.arg 0) with
      | some (i, _) => s.modObject i fun o => { o with mode := .retiring }
      | none => s)
    (fun c _ => .memFree (c.arg 0)) (fun _ _ => 0) ∧
  Completes .memQuery .memQuery
    (fun c s => ∃ i o, s.objectOf (c.arg 0) = some (i, o) ∧ noneApplies (c.handleGuards s 0 ++ c.objectGuards s 0) ∧
      c.takesResult s 1 128)
    (fun c s => match s.objectOf (c.arg 0) with
      | some (i, o) => s.writeResult (c.arg 1) (s.objectBytes i o 0)
      | none => s)
    (fun _ _ => 0)

/-- TIER1_REGION_SET, TIER1_CONFIG and RO_INVALIDATE, which wait for a downbeat; TIER1_PIN as a dry run, on lines that tier 1 holds, and
on lines that are to be filled; TIER1_UNPIN, TIER1_DEAD of scratch lines and of an object's lines, and TIER1_COUNTERS (07 R169, R178 to
R187, Tables 7-1 and 7-4). -/
def Obligations.Tier1CommandsComplete : Prop :=
  Waits .tier1RegionSet .tier1RegionSet
    (fun c s => noneApplies (tier1RegionSetRefusals c s))
    (fun c s =>
      let t := c.regionFlush s
      { t with mem := { t.mem with regions := t.mem.regions ++ [c.regionChange] } })
    (fun c _ => .region c.cmd.id) (fun _ _ => 0) ∧
  Waits .tier1Config .tier1Config
    (fun c s => noneApplies (c.partitionGuards s 0) ∧ 1 ≤ c.arg 1 ∧ c.arg 3 ≤ 1)
    (fun _ s => s) (fun _ _ => .downbeat) (fun _ _ => 0) ∧
  Completes .tier1Pin .tier1Pin
    (fun c s => ∃ i o, s.objectOf (c.arg 0) = some (i, o) ∧ noneApplies (c.pinRefusals s i o) ∧ c.arg 3 = 1)
    (fun c s => match s.objectOf (c.arg 0) with
      | some (i, o) => c.pinReport s i o s
      | none => s)
    (fun _ _ => 0) ∧
  Completes .tier1Pin .tier1Pin
    (fun c s => ∃ i o, s.objectOf (c.arg 0) = some (i, o) ∧ noneApplies (c.pinRefusals s i o) ∧ c.arg 3 = 0 ∧
      s.cacheStations o.partition ≠ [] ∧ c.pinFailing s i o = none ∧ c.pinMissing s i o = [])
    (fun c s => match s.objectOf (c.arg 0) with
      | some (i, o) => c.pinReport s i o (c.pinResident s i o)
      | none => s)
    (fun _ _ => 0) ∧
  Waits .tier1Pin .tier1Pin
    (fun c s => ∃ i o, s.objectOf (c.arg 0) = some (i, o) ∧ noneApplies (c.pinRefusals s i o) ∧ c.arg 3 = 0 ∧
      s.cacheStations o.partition ≠ [] ∧ c.pinFailing s i o = none ∧ c.pinMissing s i o ≠ [])
    (fun c s => match s.objectOf (c.arg 0) with
      | some (i, o) =>
        let t := c.pinReport s i o (c.pinResident s i o)
        { t with mem := { t.mem with pinnings := t.mem.pinnings ++
          [{ id := c.cmd.id, object := i, lines := c.pinMissing s i o, command := c.cmd.id }] } }
      | none => s)
    (fun c _ => .pin c.cmd.id) (fun _ _ => 0) ∧
  Completes .tier1Unpin .tier1Unpin
    (fun c s => ∃ i o, s.objectOf (c.arg 0) = some (i, o) ∧
      noneApplies (c.handleGuards s 0 ++ c.lineGuards o ++ c.objectGuards s 0))
    (fun c s => match s.objectOf (c.arg 0) with
      | some (i, o) => (c.lineRun o).foldl (fun t l =>
          match t.findLine i l with
          | some (slot, _) => t.unpinLine slot
          | none => t) s
      | none => s)
    (fun _ _ => 0) ∧
  Completes .tier1Dead .tier1Dead
    (fun c s => c.arg 0 = 0 ∧
      (c.physical = true ∨ s.usable c.function (s.granule (c.arg 1 / 2 ^ 23)).partition = true) ∧
      c.arg 1 % 4096 = 0 ∧ c.arg 2 ≠ 0 ∧ c.arg 2 % 4096 = 0 ∧
      s.inScratch (if c.physical then (s.granule (c.arg 1 / 2 ^ 23)).partition else c.partition) (c.arg 1) (c.arg 2) = true)
    (fun c s => (linePieces (c.arg 1) (c.arg 2)).foldl (fun t x => t.deadSlot (t.spreadMap x.1 / 4096)) s)
    (fun _ _ => 0) ∧
  Completes .tier1Dead .tier1Dead
    (fun c s => c.arg 0 ≠ 0 ∧ ∃ i o, s.objectOf (c.arg 0) = some (i, o) ∧
      noneApplies (c.handleGuards s 0 ++ c.lineGuards o ++ c.objectGuards s 0))
    (fun c s => match s.objectOf (c.arg 0) with
      | some (i, o) => ((c.lineRun o).foldl (fun (x : State × Nat) l =>
          let y := x.1.deadLine i l
          (y.1, x.2 + y.2)) (s, 0)).1
      | none => s)
    (fun c s => match s.objectOf (c.arg 0) with
      | some (i, o) => ((c.lineRun o).foldl (fun (x : State × Nat) l =>
          let y := x.1.deadLine i l
          (y.1, x.2 + y.2)) (s, 0)).2
      | none => 0) ∧
  Completes .tier1Counters .tier1Counters
    (fun c s => noneApplies (c.partitionGuards s 0) ∧ c.arg 1 ≤ 53 ∧ 1 ≤ c.arg 2 ∧ c.arg 1 + c.arg 2 ≤ 54 ∧
      c.takesResult s 3 (64 * c.arg 2))
    (fun c s => s.writeResult (c.arg 3)
      ((List.range (c.arg 2)).flatMap fun i => s.counterBytes (c.arg 1 + i) (c.arg 0)))
    (fun _ _ => 0) ∧
  Waits .roInvalidate .roInvalidate
    (fun c s => ∃ k, s.kit (c.arg 0) = some k ∧ noneApplies (c.kitGuards s 0) ∧ s.lostContext k.context = false)
    (fun _ s => s) (fun c _ => .roInvalidate (c.arg 0)) (fun _ _ => 0)

/-- PARTITION_SET, whose carve-out takes effect at the next downbeat, and PARTITION_QUERY (12 R284, R285, R302, Table 12-1). -/
def Obligations.PartitionCommandsComplete : Prop :=
  Waits .partitionSet .partitionSet
    (fun c s => noneApplies (partitionSetRefusals c s))
    (fun c s => { s with partitionChanges := s.partitionChanges ++ [c.partitionChange s] })
    (fun c _ => .partitionSet (c.arg 0)) (fun _ _ => 0) ∧
  Completes .partitionQuery .partitionQuery
    (fun c s => c.arg 0 ≤ 63 ∧ c.takesResult s 1 512)
    (fun c s => s.writeResult (c.arg 1) (s.partitionBytes (c.arg 0))) (fun _ _ => 0)

/-- KIT_CREATE of a Kit of this module's cores and of a peal Kit, KIT_DESTROY of an idle Kit, of a Kit that other commands name and of a
lost Kit, KIT_QUERY and KIT_LAUNCH (03 R59 to R71, Table 3-2, 02 R30). -/
def Obligations.KitCommandsComplete : Prop :=
  Waits .kitCreate .kitCreate
    (fun c s => noneApplies (kitCreateRefusals c s) ∧ isPealKit (field (c.kitBlock s) 0 4) = false)
    (fun c s => { s with creations := s.creations ++ [{ kit := c.newKit s, command := c.cmd.id }] })
    (fun c s => .kitCreate (c.newKit s).id) (fun c s => (c.newKit s).id) ∧
  Waits .kitCreate .kitCreate
    (fun c s => noneApplies (kitCreateRefusals c s) ∧ isPealKit (field (c.kitBlock s) 0 4) = true)
    (fun c s => c.awaitUnits (c.askMembers s))
    (fun c s => .kitCreate (c.newKit s).id) (fun c s => (c.newKit s).id) ∧
  Completes .kitDestroy .kitDestroy
    (fun c s => ∃ k, s.kit (c.arg 0) = some k ∧ noneApplies (c.kitNamed s true) ∧ c.arg 0 ≠ 0 ∧ c.arg 0 ≠ 2 ^ 27 ∧
      k.mode = .created ∧ s.hasChild (c.arg 0) = false ∧ s.heldParent (c.arg 0) = false ∧ s.heldUnit (.kit (c.arg 0)) = false ∧
      s.kitNamers (c.arg 0) c.cmd.id = [])
    (fun c s => s.removeKit (c.arg 0)) (fun _ _ => 0) ∧
  Waits .kitDestroy .kitDestroy
    (fun c s => ∃ k, s.kit (c.arg 0) = some k ∧ noneApplies (c.kitNamed s true) ∧ c.arg 0 ≠ 0 ∧ c.arg 0 ≠ 2 ^ 27 ∧
      k.mode = .created ∧ s.hasChild (c.arg 0) = false ∧ s.heldParent (c.arg 0) = false ∧ s.heldUnit (.kit (c.arg 0)) = false ∧
      s.kitNamers (c.arg 0) c.cmd.id ≠ [])
    (fun c s => s.modKit (c.arg 0) fun x => { x with mode := .retiring })
    (fun c _ => .kitDestroy (c.arg 0)) (fun _ _ => 0) ∧
  Waits .kitDestroy .kitDestroy
    (fun c s => ∃ k, s.kit (c.arg 0) = some k ∧ noneApplies (c.kitNamed s true) ∧ c.arg 0 ≠ 0 ∧ c.arg 0 ≠ 2 ^ 27 ∧
      k.mode = .lost ∧ s.hasChild (c.arg 0) = false ∧ s.heldParent (c.arg 0) = false ∧ s.heldUnit (.kit (c.arg 0)) = false)
    (fun _ s => s) (fun c _ => .kitDestroy (c.arg 0)) (fun _ _ => 0) ∧
  Completes .kitQuery .kitQuery
    (fun c s => ∃ k, s.kit (c.arg 0) = some k ∧ noneApplies (c.kitNamed s false ++ c.kitLost s) ∧ c.takesResult s 1 128)
    (fun c s => match s.kit (c.arg 0) with
      | some k => s.writeResult (c.arg 1)
          ((s.withParent k).block ++ leBytes 1 k.mode.code ++ leBytes 1 (s.level (c.arg 0)) ++ leBytes 1 (b2n k.degraded))
      | none => s)
    (fun _ _ => 0) ∧
  Waits .kitLaunch .kitLaunch
    (fun c s => ∃ k p, s.kit (c.arg 0) = some k ∧ noneApplies (c.kitNamed s false ++ c.wrongQueue s ++ c.kitLost s) ∧
      c.arg 0 ≠ 0 ∧ k.mode = .admitted ∧ k.placement = some p ∧
      (∃ l ∈ p.lists, l.address = c.arg 1 ∧ l.bytes = 64 * c.arg 2) ∧ s.listGood k (c.arg 1) (c.arg 2) [] = true)
    (fun _ s => s) (fun c _ => .kitLaunch (c.arg 0) (c.arg 1) (c.arg 2)) (fun _ _ => 0)

/-- MODEL_BEGIN, MODEL_DESCRIBE, MODEL_COMMIT, MODEL_ABORT and MODEL_UNLOAD, PLACE_QUERY and PLACE_REPLACE (03 R68 to R72, R81, R82, R88,
Tables 3-2 and 3-3). -/
def Obligations.LoadingCommandsComplete : Prop :=
  Completes .modelBegin .modelBegin
    (fun c s => ∃ k, s.kit (c.arg 0) = some k ∧ noneApplies (c.kitNamed s true ++ c.wrongQueue s ++ c.kitLost s) ∧ c.arg 1 ≤ 2 ∧
      c.arg 0 ≠ 0 ∧ c.arg 0 ≠ 2 ^ 27 ∧ k.mode = .created)
    (fun c s => s.modKit (c.arg 0) fun x => { x with mode := .loading, load := some { replica := c.arg 1, records := [] } })
    (fun _ _ => 0) ∧
  Completes .modelDescribe .modelDescribe
    (fun c s => ∃ k l, s.kit (c.arg 0) = some k ∧ k.load = some l ∧ k.mode = .loading ∧
      noneApplies (c.kitNamed s true ++ c.wrongQueue s ++ c.kitLost s) ∧
      1 ≤ c.arg 1 ∧ c.arg 1 ≤ 1024 ∧ l.records.length + c.arg 1 ≤ 65536 ∧
      c.blockBad s 2 (64 * c.arg 1) 64 = false ∧ c.domainDown s 2 = false ∧
      (∀ i, i < c.arg 1 → s.recordBad k.partition (s.sysRead (c.arg 2 + 64 * i) 64) = none) ∧ s.admitting (c.arg 0) = false)
    (fun c s => (s.modKit (c.arg 0) fun x => { x with load := x.load.map fun l =>
      { l with records := l.records ++
          (List.range (c.arg 1)).map fun i => DescRecord.ofBytes (s.sysRead (c.arg 2 + 64 * i) 64) } }).rebind)
    (fun _ _ => 0) ∧
  Waits .modelCommit .modelCommit
    (fun c s => ∃ k l, s.kit (c.arg 0) = some k ∧ k.load = some l ∧ k.mode = .loading ∧
      noneApplies (c.kitNamed s true ++ c.wrongQueue s ++ c.reportGuards s 1 ++ c.kitLost s) ∧ s.loadListsGood k l = true ∧
      s.admitting (c.arg 0) = false ∧ (k.policy = 2 → l.batch = none) ∧ s.reserved (c.arg 0) = false)
    (fun c s => s.modKit (c.arg 0) fun x => { x with report := c.arg 1 })
    (fun c _ => .commit (c.arg 0) (c.arg 1)) (fun _ _ => 0) ∧
  Completes .modelAbort .modelAbort
    (fun c s => ∃ k, s.kit (c.arg 0) = some k ∧ k.mode = .loading ∧
      noneApplies (c.kitNamed s true ++ c.wrongQueue s ++ c.kitLost s) ∧ s.admitting (c.arg 0) = false)
    (fun c s => (s.modKit (c.arg 0) fun x => { x with mode := .created, load := none }).rebind) (fun _ _ => 0) ∧
  Waits .modelUnload .modelUnload
    (fun c s => ∃ k, s.kit (c.arg 0) = some k ∧ k.mode = .admitted ∧
      noneApplies (c.kitNamed s true ++ c.wrongQueue s ++ c.kitLost s))
    (fun c s => (s.closeSequences (c.arg 0)).modKit (c.arg 0) fun x =>
      { x with mode := .unloading, composed := none, queued := [], next := none })
    (fun c _ => .unload (c.arg 0)) (fun _ _ => 0) ∧
  Completes .placeQuery .placeQuery
    (fun c s => ∃ k p, s.kit (c.arg 0) = some k ∧ k.placement = some p ∧ noneApplies (c.kitNamed s true ++ c.kitLost s) ∧
      c.takesResult s 1 384)
    (fun c s => match (s.kit (c.arg 0)).bind (·.placement) with
      | some p => s.writeResult (c.arg 1) (s.reportBytes (c.arg 0) 0xFFFFFFFF none p p.uses ++
          p.uses.flatMap fun u => leBytes 16 (Config.utilisation u.code u.demand u.capacity).toNat)
      | none => s)
    (fun _ _ => 0) ∧
  Waits .placeReplace .placeReplace
    (fun c s => ∃ k, s.kit (c.arg 0) = some k ∧ k.mode = .admitted ∧ k.next = none ∧
      noneApplies (c.kitNamed s true ++ c.reportGuards s 3 ++ c.kitLost s) ∧ c.arg 1 ≤ 2 ∧ c.arg 2 ≤ 250 ∧
      s.admitting (c.arg 0) = false ∧ s.reserved (c.arg 0) = false)
    (fun c s => s.modKit (c.arg 0) fun x => { x with report := c.arg 3 })
    (fun c _ => .replace (c.arg 0) (c.arg 3) (c.arg 1) (c.arg 2)) (fun _ _ => 0)

/-- SEQ_OPEN, SEQ_APPEND, which waits for its last chunk, SEQ_SET, SEQ_PAUSE, SEQ_RESUME, SEQ_TRUNCATE, SEQ_CLOSE of an idle and of a busy
Sequence, SEQ_QUERY and SEQ_POLICY (10 R240 to R244, R254, Tables 10-1 to 10-3). -/
def Obligations.SequenceCommandsComplete : Prop :=
  Completes .seqOpen .seqOpen
    (fun c s => noneApplies (seqOpenRefusals c s))
    (fun c s => (State.writeMap { s with sequences := tset s.sequences ((c.freeSequence s).getD 0) (c.newSequence s) }
      ((c.freeSequence s).getD 0)).forwarded (c.arg 0) c)
    (fun c s => (c.freeSequence s).getD 0) ∧
  Waits .seqAppend .seqAppend
    (fun c s => ∃ k x, s.rangeKit (c.arg 0) = some k ∧ s.seq (c.arg 0) = some x ∧
      noneApplies (c.seqNamed s ++ c.seqHeld s false) ∧ c.arg 1 % 4 = 0 ∧ 1 ≤ c.arg 2 ∧ c.arg 2 ≤ 1048576 ∧
      s.inScratch k.partition (c.arg 1) (4 * c.arg 2) = true ∧
      (x.mode = .waiting ∨ x.mode = .prefill ∨ x.mode = .decode) ∧ x.appends.length < 4 ∧
      x.position + x.pending + c.arg 2 ≤ k.seqPolicy.limit)
    (fun c s => (s.modSeq (c.arg 0) fun x =>
      { x with
        appends := x.appends ++ [{ address := c.arg 1, count := c.arg 2, done := 0, beat := s.beat.number, command := c.cmd.id }]
        pending := x.pending + c.arg 2
        generated := 0
        epoch := x.epoch + 1
        endReason := if x.mode = .decode then 4 else x.endReason
        mode := .prefill }).forwardedSeq c)
    (fun c _ => .append (c.arg 0)) (fun _ _ => 0) ∧
  Completes .seqSet .seqSet
    (fun c s => ∃ x, s.seq (c.arg 0) = some x ∧ noneApplies (c.seqNamed s ++ c.seqHeld s false) ∧ x.isOpen = true ∧
      c.arg 1 ≤ 7 ∧ c.arg 2 ≠ 0 ∧ c.arg 4 ≤ 1)
    (fun c s => (s.modSeq (c.arg 0) fun x =>
      { x with priority := c.arg 1, stepInterval := c.arg 2, genLimit := c.arg 3, autoDecode := c.arg 4 == 1 }).forwardedSeq c)
    (fun _ _ => 0) ∧
  Completes .seqPause .seqPause
    (fun c s => ∃ x, s.seq (c.arg 0) = some x ∧ noneApplies (c.seqNamed s ++ c.seqHeld s false) ∧
      (x.mode = .waiting ∨ x.mode = .prefill ∨ x.mode = .decode))
    (fun c s => (s.modSeq (c.arg 0) fun x => { x with mode := .paused }).forwardedSeq c) (fun _ _ => 0) ∧
  Completes .seqResume .seqResume
    (fun c s => ∃ x, s.seq (c.arg 0) = some x ∧ noneApplies (c.seqNamed s ++ c.seqHeld s false) ∧ x.mode = .paused)
    (fun c s => (s.modSeq (c.arg 0) fun x =>
      { x with mode := if 0 < x.pending then .prefill else if x.autoDecode ∧ x.endReason = 0 then .decode else .waiting }).forwardedSeq c)
    (fun _ _ => 0) ∧
  Completes .seqTruncate .seqTruncate
    (fun c s => ∃ x, s.seq (c.arg 0) = some x ∧ noneApplies (c.seqNamed s ++ c.seqHeld s false) ∧ c.arg 1 < x.position ∧
      (x.mode = .waiting ∨ x.mode = .paused) ∧ s.seqBusy (c.arg 0) = false ∧ x.pending = 0)
    (fun c s => ((s.freePages (c.arg 0) ((c.arg 1 + 63) / 64)).modSeq (c.arg 0) fun x => { x with position := c.arg 1 }).forwardedSeq c)
    (fun _ _ => 0) ∧
  Completes .seqClose .seqClose
    (fun c s => ∃ x, s.seq (c.arg 0) = some x ∧ noneApplies (c.seqNamed s ++ c.seqHeld s true) ∧
      ((x.isOpen = true ∧ s.seqBusy (c.arg 0) = false) ∨ x.mode = .lost))
    (fun c s => (s.forwardedSeq c).freeSeq (c.arg 0)) (fun _ _ => 0) ∧
  Waits .seqClose .seqClose
    (fun c s => ∃ x, s.seq (c.arg 0) = some x ∧ noneApplies (c.seqNamed s ++ c.seqHeld s true) ∧ x.isOpen = true ∧
      s.seqBusy (c.arg 0) = true)
    (fun c s => (s.forwardedSeq c).modSeq (c.arg 0) fun x => { x with mode := .closing })
    (fun c _ => .seqClose (c.arg 0)) (fun _ _ => 0) ∧
  Completes .seqQuery .seqQuery
    (fun c s => noneApplies (c.seqNamed s ++ c.seqHeld s false) ∧ c.takesResult s 1 512)
    (fun c s => s.writeResult (c.arg 1) (match s.seq (c.arg 0) with
      | some x => x.bytes
      | none => zeros 512))
    (fun _ _ => 0) ∧
  Completes .seqPolicy .seqPolicy
    (fun c s => noneApplies (seqPolicyRefusals c s))
    (fun c s =>
      let t := s.modKit (c.arg 0) fun x => { x with seqPolicy := c.seqPolicy }
      ((if c.arg 4 = 0 then t.dropSummaries (c.arg 0) else t.raiseSummaries (c.arg 0)).rewriteArea (c.arg 0)).forwarded (c.arg 0) c)
    (fun _ _ => 0)

/-- ALMANAC_WRITE, ALMANAC_READ, ALMANAC_ARM and ALMANAC_DISARM (02 R43, R45, R48 to R51, Table 2-5). BEAT_SET_PERIOD, TIME_SET_SOURCE,
TIME_QUERY and OVERRUN_SET_POLICY (02 R26, R29, R39, R51, R52, R56). -/
def Obligations.AlmanacAndBeatCommandsComplete : Prop :=
  (Completes .almanacWrite .almanacWrite
    (fun c s => noneApplies (almanacWriteRefusals c s))
    (fun c s => { s with almanac := { s.almanac with staged := s.almanac.staged ++ c.newEntries s } }) (fun _ _ => 0) ∧
  Completes .almanacRead .almanacRead
    (fun c s => c.arg 0 < 65536 ∧ 1 ≤ c.arg 1 ∧ c.arg 0 + c.arg 1 ≤ 65536 ∧
      (c.physical = true ∨ ∀ i, i < c.arg 1 → s.entryOwner (c.arg 0 + i) = c.partition) ∧ c.takesResult s 2 (32 * c.arg 1))
    (fun c s => s.writeResult (c.arg 2)
      ((List.range (c.arg 1)).flatMap fun i => (tgetD s.almanac.view (c.arg 0 + i) AlmanacEntry.zero).bytes))
    (fun _ _ => 0) ∧
  Completes .almanacArm .almanacArm
    (fun c s => noneApplies (almanacArmRefusals c s))
    (fun c s => { s with almanac :=
      { s.almanac with mode := .arming, cycleLength := c.arg 0, origin := c.arg 1, samples := [] } }) (fun _ _ => 0) ∧
  Completes .almanacDisarm .almanacDisarm
    (fun _ s => s.almanac.mode ≠ .disarmed)
    (fun _ s => { s with almanac := { s.almanac with disarmAtDownbeat := true } }) (fun _ _ => 0)) ∧
  (Completes .beatSetPeriod .beatSetPeriod
    (fun c s => noneApplies (beatSetPeriodRefusals c s))
    (fun c s => State.propagate { s with beat := { s.beat with change := some c.periodChange } } c.periodChange)
    (fun _ _ => 0) ∧
  Completes .timeSetSource .timeSetSource
    (fun c s => c.arg 0 ≤ 1 ∧ c.arg 1 ≤ 127 ∧ c.arg 2 ≤ 1 ∧ s.notLeader = none)
    (fun c s =>
      if s.beat.ptp.source = c.arg 0 ∧ s.beat.ptp.domain = c.arg 1 ∧ s.beat.ptp.enabled = (c.arg 2 == 1) then s
      else { s with beat := { s.beat with ptp :=
        { PtpState.reset with source := c.arg 0, domain := c.arg 1, enabled := c.arg 2 == 1 } } })
    (fun _ _ => 0) ∧
  Completes .timeQuery .timeQuery
    (fun c s => c.takesResult s 0 32)
    (fun c s => s.writeResult (c.arg 0) s.timeBytes) (fun _ _ => 0) ∧
  Completes .overrunSetPolicy .overrunSetPolicy
    (fun c s => ∃ k, s.kit (c.arg 0) = some k ∧ noneApplies (c.kitNamed s false ++ c.kitLost s) ∧ c.arg 1 ≤ 2 ∧ c.arg 2 ≠ 0 ∧
      (c.arg 1 = 2 → (∀ p, k.placement = some p → p.batch = none) ∧ ∀ p, k.next = some p → p.batch = none))
    (fun c s => s.modKit (c.arg 0) fun x => { x with stagedPolicy := some (c.arg 1, c.arg 2) }) (fun _ _ => 0))

/-- DMA_COPY and RING_SEND: read in GUARD they start at the next downbeat, read at another time they start now, the descriptor checked (11
R283, 16 R383, 02 R32). -/
def Obligations.TransferCommandsComplete : Prop :=
  Waits .dmaCopy .dmaCopy
    (fun c s => c.blockBad s 0 64 64 = false ∧ c.domainDown s 0 = false ∧ s.beat.phase = .guard)
    (fun _ s => s) (fun c _ => .startTransfer false (c.arg 0)) (fun _ _ => 0) ∧
  Waits .dmaCopy .dmaCopy
    (fun c s => c.blockBad s 0 64 64 = false ∧ c.domainDown s 0 = false ∧ s.beat.phase ≠ .guard ∧
      s.dmaCheck c.physical c.partition (s.sysRead (c.arg 0) 64) = none ∧ s.dmaDomainDown (s.sysRead (c.arg 0) 64) = false ∧
      ∀ h, h = (descriptor (s.sysRead (c.arg 0) 64)).srcHandle ∨ h = (descriptor (s.sysRead (c.arg 0) 64)).dstHandle →
        ∀ i o, s.objectOf h = some (i, o) → s.lostContext o.context = false ∧ o.mode ≠ .retiring)
    (fun c s =>
      let t := descriptor (s.sysRead (c.arg 0) 64)
      s.beginTransfer { t with command := some c.cmd.id, context := c.context, partition := c.partition, function := c.function })
    (fun _ s => .transfer s.nextId) (fun _ _ => 0) ∧
  Waits .ringSend .ringSend
    (fun c s => c.blockBad s 0 128 128 = false ∧ c.domainDown s 0 = false ∧ s.beat.phase = .guard)
    (fun _ s => s) (fun c _ => .startTransfer true (c.arg 0)) (fun _ _ => 0) ∧
  Waits .ringSend .ringSend
    (fun c s => c.blockBad s 0 128 128 = false ∧ c.domainDown s 0 = false ∧ s.beat.phase ≠ .guard ∧
      s.ringCheck c.physical c.partition (s.sysRead (c.arg 0) 128) = none ∧
      ((sideCoherent (s.ringTransfer (s.sysRead (c.arg 0) 128)).srcSpace 1
        (s.ringTransfer (s.sysRead (c.arg 0) 128)).srcRow = true) → s.cijan.mode = .up) ∧
      ((s.ringTransfer (s.sysRead (c.arg 0) 128)).srcSpace = 1 →
        ∀ i o, s.objectOf (s.ringTransfer (s.sysRead (c.arg 0) 128)).srcHandle = some (i, o) →
          s.lostContext o.context = false ∧ o.mode ≠ .retiring) ∧
      s.beat.lock ≠ .free ∧ s.ringBlocked (s.ringTransfer (s.sysRead (c.arg 0) 128)) = none)
    (fun c s =>
      let t := s.ringTransfer (s.sysRead (c.arg 0) 128)
      s.beginRing { t with command := some c.cmd.id, context := c.context, partition := c.partition, function := c.function })
    (fun _ s => .transfer s.nextId) (fun _ _ => 0)

/-- PEAL_FORM, PEAL_JOIN and PEAL_LEAVE, which wait for the peal, and PEAL_QUERY (16 R376, R377, R388, R391, Table 16-7). VF_ENABLE on and
off, VF_ASSIGN, VF_RESET, VF_FREEZE, VF_SAVE of an image and of CAPACITY 0, VF_RESTORE and VF_RESUME (17 R393 to R408, Tables 17-1 to
17-4). -/
def Obligations.PealAndFunctionCommandsComplete : Prop :=
  (Waits .pealForm .pealForm
    (fun c s => c.arg 0 ≠ 0 ∧ c.arg 1 < 4096 ∧ c.arg 2 ≤ 1 ∧ s.peal.mode = .alone ∧ s.anyAdmitted = false)
    (fun c s =>
      let t : State := { s with peal := { s.peal with
        mode := .forming, pealId := c.arg 0, sizes := shapeSizes (c.arg 1), founder := c.arg 2 == 1, coordinate := 0
        reached := if c.arg 2 = 1 then [0] else [], neighbours := [], locked := [], admitBeat := none
        timeout := if c.arg 3 = 0 then 10000 else c.arg 3, since := s.now } }
      t.announce.reportLocked.nameFormation)
    (fun _ _ => .pealForm) (fun _ _ => 0) ∧
  Waits .pealJoin .pealJoin
    (fun c s => c.arg 0 ≠ 0 ∧ s.peal.mode = .alone ∧ s.anyAdmitted = false ∧ ∀ k ∈ s.kits, s.level k.1 < 14)
    (fun c s =>
      let t : State := { s with peal := { s.peal with
        mode := .joining, pealId := c.arg 0, reached := [], neighbours := [], locked := [], admitBeat := none, leader := none
        timeout := if c.arg 1 = 0 then 10000 else c.arg 1, since := s.now } }
      t.announce)
    (fun _ _ => .pealJoin) (fun _ _ => 0) ∧
  Waits .pealLeave .pealLeave
    (fun c s => c.arg 0 < 4096 ∧ c.arg 1 ≤ 1 ∧ s.notLeader = none ∧ s.peal.inPeal = true ∧ c.arg 0 ∈ s.peal.members ∧
      (∀ l ∈ s.peal.leaving, l.1 ≠ c.arg 0) ∧ (c.arg 1 = 1 ∨ s.sharing (c.arg 0) = []))
    (fun c s =>
      let t : State := { s with peal := { s.peal with
        leaving := s.peal.leaving ++ [(c.arg 0, (c.arg 1, s.beat.number + 64))]
        mode := if c.arg 0 = s.peal.coordinate then .leaving else s.peal.mode } }
      t.announce)
    (fun c _ => .pealLeave (c.arg 0)) (fun _ _ => 0) ∧
  Completes .pealQuery .pealQuery
    (fun c s => c.takesResult s 0 640)
    (fun c s => s.writeResult (c.arg 0) s.pealBytes) (fun _ _ => 0)) ∧
  (Completes .vfEnable .vfEnable
    (fun c s => 1 ≤ c.arg 0 ∧ c.arg 0 ≤ 4095 ∧ c.arg 1 = 1 ∧ (s.function (c.arg 0)).mode = .disabled)
    (fun c s => s.modFunction (c.arg 0) fun _ => { VFunction.initial with mode := .enabled }) (fun _ _ => 0) ∧
  Completes .vfEnable .vfEnable
    (fun c s => 1 ≤ c.arg 0 ∧ c.arg 0 ≤ 4095 ∧ c.arg 1 = 0 ∧ (s.function (c.arg 0)).mode = .enabled ∧ s.vfEmpty (c.arg 0) = true)
    (fun c s => { s with functions := terase s.functions (c.arg 0), crings := s.crings.filter fun r => r.1 / 32 != c.arg 0 })
    (fun _ _ => 0) ∧
  Completes .vfAssign .vfAssign
    (fun c s =>
      1 ≤ c.arg 0 ∧ c.arg 0 ≤ 4095 ∧ (s.function (c.arg 0)).mode = .enabled ∧ s.vfEmpty (c.arg 0) = true ∧
      c.blockBad s 1 64 64 = false ∧ c.domainDown s 1 = false ∧
      bit (field (s.sysRead (c.arg 1) 64) 0 8) 0 = false ∧ field (s.sysRead (c.arg 1) 64) 8 4 < 2 ^ 20 ∧
      field (s.sysRead (c.arg 1) 64) 12 4 ≤ 1048320 ∧
      (field (s.sysRead (c.arg 1) 64) 12 4 = 0 ∨ (256 ≤ field (s.sysRead (c.arg 1) 64) 8 4 ∧
        field (s.sysRead (c.arg 1) 64) 8 4 + field (s.sysRead (c.arg 1) 64) 12 4 ≤ 1048576)) ∧
      s.rangeTaken (c.arg 0) (field (s.sysRead (c.arg 1) 64) 8 4) (field (s.sysRead (c.arg 1) 64) 12 4) = false ∧
      ∀ b ∈ slice (s.sysRead (c.arg 1) 64) 16 48, b = 0)
    (fun c s => s.modFunction (c.arg 0) fun v =>
      { v with partitions := maskParts (field (s.sysRead (c.arg 1) 64) 0 8), firstQueue := field (s.sysRead (c.arg 1) 64) 8 4,
               queueCount := field (s.sysRead (c.arg 1) 64) 12 4 })
    (fun _ _ => 0) ∧
  Waits .vfReset .vfReset
    (fun c s => 1 ≤ c.arg 0 ∧ c.arg 0 ≤ 4095 ∧ ((s.function (c.arg 0)).mode = .enabled ∨ (s.function (c.arg 0)).mode = .freezing ∨
      (s.function (c.arg 0)).mode = .frozen ∨ (s.function (c.arg 0)).mode = .saved))
    (fun c s => ((s.commands.filter fun o => o.wait == .vfFreeze (c.arg 0)).foldl (fun t o => t.complete o stSquashed 0 0)
      s).resetFunction (c.arg 0))
    (fun c _ => .vfReset (c.arg 0)) (fun _ _ => 0) ∧
  Waits .vfFreeze .vfFreeze
    (fun c s => 1 ≤ c.arg 0 ∧ c.arg 0 ≤ 4095 ∧ (s.function (c.arg 0)).mode = .enabled ∧
      (∀ w ∈ s.functions, w.1 ≠ c.arg 0 → ∀ p ∈ w.2.partitions, p ∉ (s.function (c.arg 0)).partitions) ∧
      (∀ k ∈ s.functionKits (c.arg 0), isPealKit k.1 = false) ∧
      ∀ q ∈ s.sequences, q.2.mode = .free ∨ isPealKit q.2.kit = false ∨ q.2.partition ∉ (s.function (c.arg 0)).partitions)
    (fun c s => s.modFunction (c.arg 0) fun v =>
      { v with mode := .freezing, freezeBeat := s.beat.number + if s.beat.building then 2 else 1 })
    (fun c _ => .vfFreeze (c.arg 0)) (fun _ _ => 0) ∧
  Waits .vfSave .vfSave
    (fun c s => 1 ≤ c.arg 0 ∧ c.arg 0 ≤ 4095 ∧ c.arg 1 ≤ 1 ∧
      ((s.function (c.arg 0)).mode = .frozen ∨ (s.function (c.arg 0)).mode = .saved) ∧
      imageSize (s.sections (c.arg 0)) ≤ c.arg 3 ∧ c.arg 3 ≠ 0 ∧ c.imagePlace s (imageSize (s.sections (c.arg 0))) = true ∧
      noneApplies (c.imageObject s) ∧ (c.arg 1 = 0 → isCoherent (c.arg 2) = true → s.cijan.mode = .up))
    (fun c s => s.modFunction (c.arg 0) fun v =>
      { v with mode := .saving, imageSpace := c.arg 1, imageAt := c.arg 2, imageLength := imageSize (s.sections (c.arg 0)) })
    (fun c _ => .vfSave (c.arg 0)) (fun _ _ => 0) ∧
  Completes .vfSave .vfSave
    (fun c s => 1 ≤ c.arg 0 ∧ c.arg 0 ≤ 4095 ∧ c.arg 1 ≤ 1 ∧
      ((s.function (c.arg 0)).mode = .frozen ∨ (s.function (c.arg 0)).mode = .saved) ∧ c.arg 3 = 0)
    (fun _ s => s) (fun c s => imageSize (s.sections (c.arg 0))) ∧
  Waits .vfRestore .vfRestore
    (fun c s => 1 ≤ c.arg 0 ∧ c.arg 0 ≤ 4095 ∧ c.arg 1 ≤ 1 ∧ c.arg 3 ≠ 0 ∧ c.imagePlace s (c.arg 3) = true ∧
      noneApplies (c.reportGuards s 4 ++ c.imageObject s) ∧
      (c.arg 1 = 0 → isCoherent (c.arg 2) = true → s.cijan.mode = .up))
    (fun c s => s.modFunction (c.arg 0) fun v =>
      { v with imageSpace := c.arg 1, imageAt := c.arg 2, imageLength := c.arg 3, imageReport := c.arg 4 })
    (fun c _ => .vfRestore (c.arg 0)) (fun _ _ => 0) ∧
  Completes .vfResume .vfResume
    (fun c s => 1 ≤ c.arg 0 ∧ c.arg 0 ≤ 4095 ∧ ((s.function (c.arg 0)).mode = .frozen ∨ (s.function (c.arg 0)).mode = .saved))
    (fun c s => s.modFunction (c.arg 0) fun v => { v with resuming := true }) (fun _ _ => 0))

/-- POWER_SET_CAP, whose RESULT is the power committed, POWER_QUERY, THERMAL_SET_LIMITS, VIGIL_ENTER and VIGIL_WAKE (18 R411, R413, R424,
R426, R429, R433). -/
def Obligations.PowerCommandsComplete : Prop :=
  Completes .powerSetCap .powerSetCap
    (fun c _ => 1200000 ≤ c.arg 0 ∧ c.arg 0 ≤ 4000000 ∧ c.arg 1 ≤ 4000 ∧ 1200000 ≤ c.arg 3 ∧ c.arg 3 ≤ 4000000)
    (fun c s =>
      let t : State := { s with power := { s.power with
        rackCap := c.arg 0, rampUp := if c.arg 1 = 0 then 100 else c.arg 1, lapsed := false, fallback := c.arg 3
        lease := if c.arg 2 = 0 then none else some { length := c.arg 2 * 100000, renewedAt := s.now }
        capsAccepted := s.power.capsAccepted + 1 } }
      t.capState true)
    (fun _ s => s.commitment) ∧
  Completes .powerQuery .powerQuery
    (fun c s => c.takesResult s 0 128)
    (fun c s =>
      let t : State := if c.queue.management then
          { s with power := { s.power with lease := s.power.lease.map fun l => { l with renewedAt := s.now } } }
        else s
      t.writeResult (c.arg 0) (s.telemetryBytes 15 none 0))
    (fun _ _ => 0) ∧
  Completes .thermalSetLimits .thermalSetLimits
    (fun c _ => 70 ≤ c.arg 0 ∧ c.arg 0 ≤ 100 ∧ 20 ≤ c.arg 1 ∧ c.arg 1 ≤ 45)
    (fun c s => { s with power := { s.power with tThrottle := c.arg 0, inletMax := c.arg 1 } }) (fun _ _ => 0) ∧
  Waits .vigilEnter .vigilEnter
    (fun _ s => s.power.vigil = .awake ∧ s.vigilBarred = false)
    (fun _ s => { s with power := { s.power with vigil := .entering } }) (fun _ _ => .vigil) (fun _ _ => 0) ∧
  Completes .vigilWake .vigilWake
    (fun c s => c.queue.management = true ∧ s.power.vigil = .entering)
    (fun c s =>
      let t : State := { s with power := { s.power with vigil := .awake } }
      match s.commands.find? fun o => o.wait == .vigil with
      | none => t
      | some o =>
        if (s.queue o.queue).management then t.complete o stStateConflict (0xFFF * 2 ^ 20) s.beat.number
        else t.complete o stPreempted 0 0)
    (fun _ _ => 0)

/-- ECC_DIAG_MODE on and off, ECC_RAW_WRITE, ECC_RAW_READ, ECC_SCRUB_SET, ECC_DIE_MARK set and cleared, and ECC_LOG_READ (08 R198, R205,
R211 to R214, Tables 8-4, 8-6 and 8-7). -/
def Obligations.ProtectionCommandsComplete : Prop :=
  Completes .eccDiagMode .eccDiagMode
    (fun c s => ((c.arg 0 = 1 ∧ c.arg 1 < 2048) ∨ (c.arg 0 = 2 ∧ c.arg 1 < 1024)) ∧ c.arg 2 = 1 ∧ s.diagFit (c.arg 0) (c.arg 1) = true)
    (fun c s => s.setDiag (c.arg 0) (c.arg 1) true) (fun _ _ => 0) ∧
  Completes .eccDiagMode .eccDiagMode
    (fun c _ => ((c.arg 0 = 1 ∧ c.arg 1 < 2048) ∨ (c.arg 0 = 2 ∧ c.arg 1 < 1024)) ∧ c.arg 2 = 0)
    (fun c s =>
      if (if c.arg 0 = 1 then (s.granule (c.arg 1)).diag else (s.granule2 (c.arg 1)).diag) = true then
        (s.setDiag (c.arg 0) (c.arg 1) false).refillGranule (c.arg 0) (c.arg 1)
      else s)
    (fun _ _ => 0) ∧
  Completes .eccRawWrite .eccRawWrite
    (fun c s => ∃ w, rawPlace (c.arg 0) = some w ∧ c.blockBad s 1 ((codeOf w.tier).symbols * (codeOf w.tier).size) 64 = false ∧
      c.domainDown s 1 = false ∧ s.diagnostic w = true)
    (fun c s => match rawPlace (c.arg 0) with
      | some w => s.setRaw w (s.sysRead (c.arg 1) ((codeOf w.tier).symbols * (codeOf w.tier).size))
      | none => s)
    (fun _ _ => 0) ∧
  Completes .eccRawRead .eccRawRead
    (fun c s => (rawPlace (c.arg 0)).isSome = true ∧ c.takesResult s 1 1280)
    (fun c s => match rawPlace (c.arg 0) with
      | some w => State.writeResult { s with freeCount := s.freeCount + 640 } (c.arg 1) (s.rawRecord w)
      | none => s)
    (fun _ _ => 0) ∧
  Completes .eccScrubSet .eccScrubSet
    (fun c _ => (c.arg 0 = 1 ∧ 1 ≤ c.arg 1 ∧ c.arg 1 ≤ 256) ∨ (c.arg 0 = 2 ∧ 16 ≤ c.arg 1 ∧ c.arg 1 ≤ 1024))
    (fun c s =>
      if c.arg 0 = 2 then { s with mem := { s.mem with scrubInterval2 := c.arg 1 * 100 } }
      else { s with mem := { s.mem with scrubInterval1 := c.arg 1 * 25 } })
    (fun _ _ => 0) ∧
  Completes .eccDieMark .eccDieMark
    (fun c _ => c.arg 0 < 10 ∧ c.arg 1 < 32 ∧ c.arg 2 = 1)
    (fun c s => (s.markDie (c.arg 0) (c.arg 1) 3).redecode) (fun _ _ => 0) ∧
  Completes .eccDieMark .eccDieMark
    (fun c _ => c.arg 0 < 10 ∧ c.arg 1 < 32 ∧ c.arg 2 = 0)
    (fun c s =>
      let t : State := { s with mem := { s.mem with pairs := lmod s.mem.pairs (c.arg 0) fun p =>
        { p with failedDies := p.failedDies.filter (· != c.arg 1) } } }
      t.redecode)
    (fun _ _ => 0) ∧
  Completes .eccLogRead .eccLogRead
    (fun c s => c.arg 0 < 65536 ∧ 1 ≤ c.arg 1 ∧ c.arg 0 + c.arg 1 ≤ 65536 ∧ c.takesResult s 2 (32 * c.arg 1))
    (fun c s => s.writeResult (c.arg 2) ((List.range (c.arg 1)).flatMap fun i => s.logRecordBytes (c.arg 0 + i)))
    (fun _ _ => 0)

/-- FW_DELIVER of a chunk, of a whole image and as a withdrawal, FW_LIVE_UPDATE from the staging area and from an address,
STATION_FW_UPDATE and EDGE_PRIMARY_MOVE to a named and to the next edge die (19 R446, R449, 20 R465, R466, R468). -/
def Obligations.FirmwareCommandsComplete : Prop :=
  Completes .fwDeliver .fwDeliver
    (fun c s => c.takesDelivery s ∧ c.arg 0 = 0 ∧ c.arg 1 % 1024 = 0 ∧ c.arg 1 + c.arg 2 ≤ imageLimit ∧ c.arg 2 % 128 = 0 ∧
      128 ≤ c.arg 2 ∧ c.arg 2 ≤ 1024 ∧ ∃ b, s.chunkOf c.cmd.queue c.cmd.index = some b ∧ b.length = c.arg 2)
    (fun c s => (s.dropChunk c.cmd.queue c.cmd.index).putChunk (c.arg 1) ((s.chunkOf c.cmd.queue c.cmd.index).getD []))
    (fun _ _ => 0) ∧
  Waits .fwDeliver .fwDeliver
    (fun c s => c.takesDelivery s ∧ c.arg 0 = 1 ∧ c.arg 2 = 0 ∧
      ((if s.boot.verified then s.boot.staging else s.boot.load).whole (c.arg 1) = true ∨ imageLimit < c.arg 1))
    (fun c s => (s.dropChunk c.cmd.queue c.cmd.index).modBoot fun b =>
      if b.verified then { b with staging := { b.staging with length := c.arg 1, verifying := true } }
      else { b with load := { b.load with length := c.arg 1, verifying := true } })
    (fun _ _ => .image) (fun _ _ => 0) ∧
  Completes .fwDeliver .fwDeliver
    (fun c s => c.takesDelivery s ∧ c.arg 0 = 2)
    (fun c s => (s.dropChunk c.cmd.queue c.cmd.index).abandonImage) (fun _ _ => 0) ∧
  Waits .fwLiveUpdate .fwLiveUpdate
    (fun c s => s.updateIdle ∧ c.arg 0 = 0 ∧ s.boot.staging.whole s.boot.staging.length = true)
    (fun c s => s.modBoot fun b =>
      { b with
        liveUpdate := some { command := c.cmd.id, source := 0, length := s.boot.staging.length, verified := false, restartedAt := none }
        staging := { s.boot.staging with verifying := true } })
    (fun _ _ => .liveUpdate) (fun _ _ => 0) ∧
  Waits .fwLiveUpdate .fwLiveUpdate
    (fun c s => s.updateIdle ∧ c.arg 0 ≠ 0 ∧ c.arg 1 ≤ imageLimit ∧ c.blockBad s 0 (c.arg 1) 128 = false ∧
      c.domainDown s 0 = false ∧ (isCoherent (c.arg 0) = true ∨ s.poisonedAt (c.arg 0) (c.arg 1) = false))
    (fun c s => s.modBoot fun b =>
      { b with
        liveUpdate := some { command := c.cmd.id, source := c.arg 0, length := c.arg 1, verified := false, restartedAt := none }
        staging := { Delivery.empty.put 0 (s.sysRead (c.arg 0) (c.arg 1)) with length := c.arg 1, verifying := true } })
    (fun _ _ => .liveUpdate) (fun _ _ => 0) ∧
  Waits .stationFwUpdate .stationFwUpdate
    (fun _ s => (∃ b ∈ s.fail.bases, b.2.firmware < s.newestImage) ∧ s.fail.stationUpdate = none ∧ s.power.vigil ≠ .entering)
    (fun c s => { s with fail := { s.fail with
      stationUpdate := some { command := c.cmd.id, gap := if c.arg 0 = 0 then 1000 else c.arg 0, image := s.newestImage, next := 0,
                              restarting := none, again := [] }
      stationImage := s.newestImage } })
    (fun _ _ => .stationUpdate) (fun _ _ => 0) ∧
  Completes .edgePrimaryMove .edgePrimaryMove
    (fun c s => c.arg 0 ≤ 3 ∧ s.primaryAble (c.arg 0) = true ∧ c.arg 0 ≠ s.fail.primary)
    (fun c s => s.movePrimary (c.arg 0)) (fun _ _ => 0) ∧
  Completes .edgePrimaryMove .edgePrimaryMove
    (fun c s => c.arg 0 = 0xFF ∧ (s.nextEdge s.fail.primary).isSome = true)
    (fun _ s => s.movePrimary ((s.nextEdge s.fail.primary).getD 0)) (fun _ _ => 0)

/-- DEVICE_QUERY, IDENTITY_QUERY and ATTEST, each with its result at an address and in a reply datagram (20 R472, 21 R491). CORE_RETIRE,
DIE_INTERCALATE of a named die, of the lowest intercalary one, as a release and as the automatic switch, and CLOCK_RECALIBRATE (19 R439,
R441, R445, Tables 19-2 and 19-3). -/
def Obligations.IdentityAndDieCommandsComplete : Prop :=
  (Completes .deviceQuery .deviceQuery
    (fun c s => c.mayReadWindow s ∧ (c.queue.management = true → c.arg 3 ≠ 0) ∧ c.takesResult s 3 (8 * c.arg 2))
    (fun c s => s.writeResult (c.arg 3) (c.windowBytes s)) (fun _ _ => 0) ∧
  Replies .deviceQuery .deviceQuery
    (fun c s => c.mayReadWindow s ∧ c.queue.management = true ∧ c.arg 3 = 0 ∧ c.arg 2 ≤ 128)
    (fun _ s => s) (fun c s => c.windowBytes s) ∧
  Completes .identityQuery .identityQuery
    (fun c s => (c.queue.management = true → c.arg 0 ≠ 0) ∧ c.takesResult s 0 512)
    (fun c s => s.writeResult (c.arg 0) s.identityBytes) (fun _ _ => 0) ∧
  Replies .identityQuery .identityQuery
    (fun c _ => c.queue.management = true ∧ c.arg 0 = 0) (fun _ s => s) (fun _ s => s.identityBytes) ∧
  Completes .attest .attest
    (fun c s => c.blockBad s 0 32 64 = false ∧ c.domainDown s 0 = false ∧ (c.queue.management = true → c.arg 1 ≠ 0) ∧
      c.takesResult s 1 384)
    (fun c s => State.writeResult { s with freeCount := s.freeCount + 4 } (c.arg 1) (c.signedReport s)) (fun _ _ => 0) ∧
  Replies .attest .attest
    (fun c s => c.blockBad s 0 32 64 = false ∧ c.domainDown s 0 = false ∧ c.queue.management = true ∧ c.arg 1 = 0)
    (fun _ s => { s with freeCount := s.freeCount + 4 }) (fun c s => c.signedReport s)) ∧
  (Waits .coreRetire .coreRetire
    (fun c s => c.arg 0 < 1728 ∧ s.coreInService (c.arg 0) = true)
    (fun c s => s.modCore (c.arg 0) fun x => { x with retiring := true }) (fun c _ => .coreRetire (c.arg 0)) (fun _ _ => 0) ∧
  Waits .dieIntercalate .dieIntercalate
    (fun c s => c.arg 1 = 0 ∧ c.arg 0 < 54 ∧ (s.die (c.arg 0)).mode = .intercalary ∧ s.diesServing < 48)
    (fun c s => s.startDie (c.arg 0)) (fun c _ => .die (c.arg 0)) (fun _ _ => 0) ∧
  Waits .dieIntercalate .dieIntercalate
    (fun c s => c.arg 1 = 0 ∧ c.arg 0 = 0xFF ∧ (∃ st, s.nextIntercalary [] = some st ∧ (s.die st).mode = .intercalary) ∧
      s.diesServing < 48)
    (fun _ s => s.startDie ((s.nextIntercalary []).getD 0)) (fun _ s => .die ((s.nextIntercalary []).getD 0)) (fun _ _ => 0) ∧
  Waits .dieIntercalate .dieIntercalate
    (fun c s => c.arg 1 = 1 ∧ c.arg 0 < 54 ∧ (s.die (c.arg 0)).mode = .inService ∧ (s.die (c.arg 0)).releasing = false)
    (fun c s => s.modDie (c.arg 0) fun d => { d with releasing := true }) (fun c _ => .die (c.arg 0)) (fun _ _ => 0) ∧
  Completes .dieIntercalate .dieIntercalate
    (fun c _ => c.arg 0 = 0xFF ∧ (c.arg 1 = 2 ∨ c.arg 1 = 3))
    (fun c s => { s with fail := { s.fail with autoIntercalate := c.arg 1 == 3 } }) (fun _ _ => 0) ∧
  Waits .clockRecalibrate .clockRecalibrate
    (fun c s => c.arg 0 < 54 ∧ ((s.die (c.arg 0)).mode = .intercalary ∨ (s.die (c.arg 0)).mode = .retired) ∧ c.takesResult s 1 64)
    (fun c s =>
      let t := s.modDie (c.arg 0) fun d => { d with mode := .measuring }
      { t with fail := { t.fail with passedOver := t.fail.passedOver.filter (· != c.arg 0) } })
    (fun c _ => .recalibrate (c.arg 0)) (fun _ _ => 0))

/-- The INT instructions but ICMP (04 R104, Table 4-10): each writes its result to DST of the threads in which it executes. A product's
upper half is that of the 64-bit product of the sign-extended or zero-extended sources, a shift takes the low five bits of SRC1, and CLZ
of x is the number of zero bits above its highest set bit. ICMP, FCMP and PSET (04 R104 (c), Table 4-10): each writes the predicate that
DST names, and FCMP raises the flags of its comparison (04 R107). -/
def Obligations.IntegerAndPredicateInstructionsWrite : Prop :=
  (IntTwo .iadd (fun a b => a + b) ∧ IntTwo .isub (fun a b => a - b) ∧ IntTwo .imul (fun a b => a * b) ∧
  IntTwo .imulhs (fun a b => (a.signExtend 64 * b.signExtend 64).extractLsb' 32 32) ∧
  IntTwo .imulhu (fun a b => (a.zeroExtend 64 * b.zeroExtend 64).extractLsb' 32 32) ∧
  IntThree .imac (fun a b c => a * b + c) ∧
  IntTwo .shl (fun a b => a <<< (b.toNat % 32)) ∧ IntTwo .shr (fun a b => a >>> (b.toNat % 32)) ∧
  IntTwo .sar (fun a b => a.sshiftRight (b.toNat % 32)) ∧
  IntTwo .andBits (fun a b => a &&& b) ∧ IntTwo .orBits (fun a b => a ||| b) ∧ IntTwo .xorBits (fun a b => a ^^^ b) ∧
  IntOne .notBits (fun a => ~~~a) ∧ IntOne .popc (fun a => BitVec.ofNat 32 ((List.range 32).countP fun k => a.getLsbD k)) ∧
  IntOne .clz (fun a => BitVec.ofNat 32 (leadingZeros a)) ∧
  (∀ a : Word, leadingZeros a ≤ 32 ∧ (∀ k, k < leadingZeros a → a.getLsbD (31 - k) = false) ∧
    (leadingZeros a < 32 → a.getLsbD (31 - leadingZeros a) = true)) ∧
  IntThree .sel (fun a b c => if c = 0 then b else a)) ∧
  ((∀ (rel : Nat) (r : Word → Word → Bool),
    (rel, r) ∈ ([(0, fun a b => decide (a = b)), (1, fun a b => decide (a ≠ b)), (2, fun a b => decide (a.toInt < b.toInt)),
      (3, fun a b => decide (a.toInt ≤ b.toInt)), (4, fun a b => decide (b.toInt < a.toInt)),
      (5, fun a b => decide (b.toInt ≤ a.toInt)), (6, fun a b => decide (a.toNat < b.toNat)),
      (7, fun a b => decide (a.toNat ≤ b.toNat)), (8, fun a b => decide (b.toNat < a.toNat)),
      (9, fun a b => decide (b.toNat ≤ a.toNat))] : List (Nat × (Word → Word → Bool))) →
    WritesPredicate (.icmp rel) (fun w => w.withSrc1 [w.a] [] ++ []) (fun _ _ _ => True) fun w _ g t =>
      (r (g.read w.a t) (w.src1Value g t), 0)) ∧
  (∀ (rel : Nat) (r : FpRel) (f : FpFormat) (rm : Rm),
    (rel, r) ∈ [(0, FpRel.eq), (1, .ne), (2, .lt), (3, .le), (4, .gt), (5, .ge), (6, .un), (7, .ord)] →
    WritesPredicate (.fcmp rel) (fun w => [w.a, w.b] ++ []) (fun w _ _ => w.fp = some (f, rm)) fun w _ g t =>
      let c := fpCompare f r (f.of (g.read w.a t)) (f.of (g.read w.b t))
      (c.1, c.2.bits)) ∧
  WritesPredicate .pset (fun w => w.withSrc1 [] [] ++ []) (fun w _ _ => w.c = 0) fun w _ g t => (decide (w.src1Value g t ≠ 0), 0))

/-- The FP instructions but FCMP (04 R105, Table 4-10), in each format and rounding of Table 4-5. -/
def Obligations.FloatInstructionsWrite : Prop :=
  FpTwo .fadd fpAdd ∧ FpTwo .fsub fpSub ∧ FpTwo .fmul fpMul ∧ FpTwo .fmin (fun f _ a b => fpMinMax f false a b) ∧
  FpTwo .fmax (fun f _ a b => fpMinMax f true a b) ∧ FpTwo .fminnum (fun f _ a b => fpMinMaxNum f false a b) ∧
  FpTwo .fmaxnum (fun f _ a b => fpMinMaxNum f true a b) ∧
  ∀ (f : FpFormat) (rm : Rm),
    WritesRegister .fmac (fun w => [w.a, w.b, w.c] ++ [w.d]) (fun w _ _ => w.fp = some (f, rm)) fun w _ g t =>
      let r := fpMac f rm (f.of (g.read w.a t)) (f.of (g.read w.b t)) (f.of (g.read w.c t))
      (BitVec.ofNat 32 r.1, r.2.bits)

/-- The SFU instructions (04 R106, Table 4-10). -/
def Obligations.FunctionUnitInstructionsWrite : Prop :=
  SfuOne .rcp sfuRcp ∧ SfuOne .sqrt sfuSqrt ∧ SfuOne .rsqrt sfuRsqrt ∧ SfuOne .exp2 sfuExp2 ∧ SfuOne .log2 sfuLog2 ∧
  SfuOne .sinpi sfuSinpi ∧ SfuOne .cospi sfuCospi ∧ SfuOne .tanh sfuTanh

/-- MOV, MOVS of each special register (04 Table 4-1), LXCH, CVT and PGET (04 R94, R104, 05 R143): with SRC2 0 each writes DST. -/
def Obligations.MoveInstructionsWrite : Prop :=
  WritesRegister .mov (fun w => w.withSrc1 [] [] ++ [w.d]) (fun w _ _ => w.c = 0) (fun w _ g t => (w.src1Value g t, 0)) ∧
  (∀ (n : Nat) (f : Ins → Block → Group → Nat → Word),
    (n, f) ∈ ([(0, fun _ _ _ t => BitVec.ofNat 32 t), (1, fun w _ _ _ => BitVec.ofNat 32 w.group),
      (2, fun _ b _ _ => BitVec.ofNat 32 b.groups.length), (3, fun _ _ g _ => g.active.extractLsb' 0 32),
      (4, fun _ _ g _ => g.active.extractLsb' 32 32), (5, fun _ _ g _ => g.fpStatus)] ++
      (List.range 8).map fun k => (16 + k, fun _ b _ _ => b.args.getD k 0) :
        List (Nat × (Ins → Block → Group → Nat → Word))) →
    WritesRegister .movs (fun w => [] ++ [w.d]) (fun w _ _ => w.c = 0 ∧ w.imm.toNat % 256 = n) fun w b g t => (f w b g t, 0)) ∧
  WritesRegister .lxch (fun w => w.withSrc1 [w.a] [] ++ [w.d]) (fun w _ _ => w.c = 0)
    (fun w _ g t => (g.read w.a ((w.src1Value g t).toNat % 64), 0)) ∧
  (∀ src dst : Nat, 1 ≤ src → src ≤ 7 → 1 ≤ dst → dst ≤ 7 →
    WritesRegister .cvt (fun w => [w.a] ++ [w.d]) (fun w _ _ => w.c = 0 ∧ w.imm.toNat % 16 = src ∧ w.imm.toNat / 16 % 16 = dst)
      fun w _ g t =>
        let r := convert src dst (g.read w.a t).toNat
        (BitVec.ofNat 32 r.1, r.2.bits)) ∧
  WritesRegister .pget (fun w => [] ++ [w.d]) (fun w _ _ => w.c = 0) fun _ _ g t =>
    (BitVec.ofNat 32 ((List.range 8).foldl (fun a p => a + if (g.predMask p).getLsbD t then 2 ^ p else 0) 0), 0)

/-- The BRANCH instructions (04 R108 to R110). BRA goes to the target. BRC goes there, or on, when the active threads agree; when they do
not, a JOIN entry and a PATH entry are pushed and the part with the lowest thread runs first. CALL pushes a RETURN entry, RET goes back to
the innermost one. END ends the active threads: the group goes on with the innermost entry that has threads left, and has finished when
none has, which counts at the barriers. -/
def Obligations.BranchInstructionsGo : Prop :=
  IssuesAs .bra (fun _ => []) (fun _ => []) (fun w _ _ _ => w.noFields) (fun _ s _ _ => s)
    (fun w _ _ g => { g with pc := (((g.pc : Int) + 8 * w.imm.toInt) % 2 ^ 64).toNat }) ∧
  IssuesAs .brc (fun _ => []) (fun _ => []) (fun w _ _ g => w.d = 0 ∧ w.a = 0 ∧ w.join ≠ 0 ∧ g.falls w = 0) (fun _ s _ _ => s)
    (fun w _ _ g => { g with pc := w.target g.pc }) ∧
  IssuesAs .brc (fun _ => []) (fun _ => [])
    (fun w _ _ g => w.d = 0 ∧ w.a = 0 ∧ w.join ≠ 0 ∧ g.falls w ≠ 0 ∧ g.taken w = 0) (fun _ s _ _ => s)
    (fun _ _ _ g => { g with pc := g.next }) ∧
  IssuesAs .brc (fun _ => []) (fun _ => [])
    (fun w _ _ g => w.d = 0 ∧ w.a = 0 ∧ w.join ≠ 0 ∧ g.falls w ≠ 0 ∧ g.taken w ≠ 0 ∧ g.stack.length ≤ 30)
    (fun _ s _ _ => s)
    (fun w _ _ g =>
      let join : StackEntry := ⟨.join, (g.pc + 8 * w.join) % 2 ^ 64, g.active⟩
      if (lowestThread (g.taken w)).getD 64 < (lowestThread (g.falls w)).getD 64 then
        { g with active := g.taken w, pc := w.target g.pc, stack := ⟨.path, g.next, g.falls w⟩ :: join :: g.stack }
      else { g with active := g.falls w, pc := g.next, stack := ⟨.path, w.target g.pc, g.taken w⟩ :: join :: g.stack }) ∧
  IssuesAs .call (fun _ => []) (fun _ => []) (fun w _ _ g => w.noFields ∧ g.stack.length < 32) (fun _ s _ _ => s)
    (fun w _ _ g => { g with pc := w.target g.pc, stack := ⟨.ret, g.next, g.active⟩ :: g.stack }) ∧
  (∀ (back : StackEntry) (inner outer : List StackEntry), back.kind = .ret → (∀ e ∈ inner, e.kind ≠ .ret) →
    IssuesAs .ret (fun _ => []) (fun _ => []) (fun w _ _ g => w.noFields ∧ w.imm = 0 ∧ g.stack = inner ++ back :: outer)
      (fun _ s _ _ => s) (fun _ _ _ g => { g with pc := back.pc, stack := inner ++ outer })) ∧
  (∀ (left : StackEntry) (inner outer : List StackEntry),
    IssuesAs .endThreads (fun _ => []) (fun _ => [])
      (fun w _ _ g => w.noFields ∧ w.imm = 0 ∧ g.finished = false ∧ g.stack = inner ++ left :: outer ∧
        (∀ e ∈ inner, e.mask &&& ~~~g.active = 0) ∧ left.mask &&& ~~~g.active ≠ 0)
      (fun _ s _ _ => s)
      (fun _ _ _ g => { g with active := left.mask &&& ~~~g.active, pc := left.pc,
                               stack := outer.map fun e => { e with mask := e.mask &&& ~~~g.active } })) ∧
  IssuesAs .endThreads (fun _ => []) (fun _ => [])
    (fun w _ _ g => w.noFields ∧ w.imm = 0 ∧ ∀ e ∈ g.stack, e.mask &&& ~~~g.active = 0)
    (fun w s b g => s.modBlock w.core fun _ =>
      (b.putGroup w.group { g with active := 0, stack := [], finished := true }).releaseBarriers s.now)
    (fun _ _ _ g => { g with active := 0, stack := [], finished := true })

/-- CLD and CST (04 R111 to R113): a CLD takes the words at the address of each thread, a CST writes the words of SRC2 there, in ascending
order of the threads, so that the highest thread's bytes land where two threads write the same ones. -/
def Obligations.CoreStoreInstructionsMove : Prop :=
  (∀ n : Nat,
    IssuesAs .cld (fun w => [w.a]) (fun w => widthRegs w.d (w.width.getD 4))
      (fun w s _ g => w.width = some n ∧ w.b = 0 ∧ w.imm.toNat / 4096 % 64 = 0 ∧ groupAligned w.d n = true ∧ s.mayStore w g n)
      (fun _ s _ _ => s)
      (fun w _ b g => (g.writeMany w.d (n / 4) (g.exec w) fun t => wordsOf (n / 4) (b.storeRead (w.storeAddress g n t) n)).step)) ∧
  (∀ n : Nat,
    IssuesAs .cst (fun w => w.a :: widthRegs w.c (w.width.getD 4)) (fun _ => [])
      (fun w s _ g => w.width = some n ∧ w.b = 0 ∧ w.imm.toNat / 4096 % 64 = 0 ∧ groupAligned w.c n = true ∧ s.mayStore w g n)
      (fun w s b g => s.modBlock w.core fun _ =>
        (threadsOf (g.exec w)).foldl (fun b t => b.storeWrite (w.storeAddress g n t) (g.bytes w.c n t)) b)
      (fun _ _ _ g => g.step))

/-- Where threads of one CST write the same bytes, the value of the thread with the higher index lands, and a load afterwards sees it,
byte by byte and at any width; bytes that no thread writes stay (04 R113). CoreStoreInstructionsMove says that a CST's effect on the core
store is this fold and that a CLD reads it. The core store keeps its canonical form. -/
def Obligations.HigherThreadsBytesLand : Prop :=
  ∀ (b out : Block) (mask : U64) (n : Nat) (address : Nat → Nat) (value : Nat → List Byte), Memory.wf zeroByte b.cstore = true →
    (∀ t, (value t).length = n) → out = (threadsOf mask).foldl (fun b t => b.storeWrite (address t) (value t)) b →
    Memory.wf zeroByte out.cstore = true ∧
    (∀ t a, t < 64 → mask.getLsbD t = true → address t ≤ a → a < address t + n →
      (∀ u, t < u → u < 64 → mask.getLsbD u = true → ¬(address u ≤ a ∧ a < address u + n)) →
      out.storeRead a 1 = [(value t).getD (a - address t) 0]) ∧
    (∀ a, (∀ u, u < 64 → mask.getLsbD u = true → ¬(address u ≤ a ∧ a < address u + n)) → out.storeRead a 1 = b.storeRead a 1) ∧
    ∀ a k, out.storeRead a k = ((List.range k).map fun i => out.storeRead (a + i) 1).flatten

/-- The SYNC instructions (04 R119 to R121; 09 R217, R221, R223, R224; 12 R298, R300). A FENCE goes on when what it orders has come to
pass; a release at device or system scope waits for the group's writes. BAR arrives at its barrier, which opens when its count is reached.
CHWAIT of a Chime that is ready takes the Chime's error, and waits for one that is not. CHSET sends a signal. -/
def Obligations.SyncInstructionsComplete : Prop :=
  IssuesAs .nop (fun _ => []) (fun _ => []) (fun w _ _ _ => w.c = 0 ∧ w.imm = 0) (fun _ s _ _ => s) (fun _ _ _ g => g.step) ∧
  IssuesAs .fence (fun _ => []) (fun _ => [])
    (fun w s _ g => w.c = 0 ∧ w.imm.toNat < 16 ∧ w.kind ≠ 0 ∧ g.exec w ≠ 0 ∧
      (w.kind % 2 = 1 → 1 ≤ w.scope → s.inFlight w.core w.group Request.returns = false) ∧ ¬(2 ≤ w.kind ∧ 2 ≤ w.scope))
    (fun w s _ _ => if w.kind % 2 = 1 ∧ 2 ≤ w.scope then s.modCore w.core Core.dropCaches else s) (fun _ _ _ g => g.step) ∧
  IssuesAs .fence (fun _ => []) (fun _ => [])
    (fun w s _ g => w.c = 0 ∧ w.imm.toNat < 16 ∧ g.exec w ≠ 0 ∧ 2 ≤ w.kind ∧ 2 ≤ w.scope ∧
      (w.kind % 2 = 1 → s.inFlight w.core w.group Request.returns = false) ∧ s.inFlight w.core w.group Request.stores = true)
    (fun _ s _ _ => s) (fun w _ _ g => { g with fences := g.fences + 1, wait := .fence w.scope w.kind }) ∧
  IssuesAs .fence (fun _ => []) (fun _ => [])
    (fun w s _ g => w.c = 0 ∧ w.imm.toNat < 16 ∧ g.exec w ≠ 0 ∧ 2 ≤ w.kind ∧ 2 ≤ w.scope ∧
      s.inFlight w.core w.group (fun r => Request.returns r || r.stores) = false)
    (fun w s _ _ => if w.kind % 2 = 1 then s.modCore w.core Core.dropCaches else s)
    (fun _ _ _ g => { g with fences := g.fences + 1, pc := (g.pc + 8) % 2 ^ 64 }) ∧
  IssuesAs .bar (fun _ => []) (fun _ => [])
    (fun w s _ g => w.c = 0 ∧ w.imm.toNat < 512 ∧ g.exec w ≠ 0 ∧ s.inFlight w.core w.group Request.returns = false)
    (fun w s b g =>
      let k := w.imm.toNat / 32
      let b1 := b.putGroup w.group { g with wait := .bar k (w.imm.toNat % 32) }
      s.modBlock w.core fun _ => ({ b1 with barriers := tset b1.barriers k (tgetD b1.barriers k [] ++ [w.group]) }).releaseBarrier s.now k)
    (fun w s b g =>
      let k := w.imm.toNat / 32
      let b1 := b.putGroup w.group { g with wait := .bar k (w.imm.toNat % 32) }
      (({ b1 with barriers := tset b1.barriers k (tgetD b1.barriers k [] ++ [w.group]) }).releaseBarrier s.now k).groups.getD w.group g) ∧
  (∀ t : Nat,
    IssuesAs .chwait (fun w => [w.a] ++ pairRegs w.b) (fun w => [w.d])
      (fun w s b g => w.c = 0 ∧ w.imm = 0 ∧ evenReg w.b = true ∧ lowestThread (g.exec w) = some t ∧
        (g.read w.a t).toNat < (s.kitChimes b.kit).2 ∧
        s.chimeReady ((s.kitChimes b.kit).1 + (g.read w.a t).toNat) (BitVec.ofNat 64 (g.readPair w.b t)) = true)
      (fun _ s _ _ => s)
      (fun w s b g => (g.write w.d (g.exec w) fun _ =>
        BitVec.ofNat 32 (s.chime ((s.kitChimes b.kit).1 + (g.read w.a t).toNat)).error).step)) ∧
  (∀ t : Nat,
    IssuesAs .chwait (fun w => [w.a] ++ pairRegs w.b) (fun w => [w.d])
      (fun w s b g => w.c = 0 ∧ w.imm = 0 ∧ evenReg w.b = true ∧ lowestThread (g.exec w) = some t ∧
        (g.read w.a t).toNat < (s.kitChimes b.kit).2 ∧
        s.chimeReady ((s.kitChimes b.kit).1 + (g.read w.a t).toNat) (BitVec.ofNat 64 (g.readPair w.b t)) = false)
      (fun w s b g => { s with waiters := s.waiters ++ [{ chime := (s.kitChimes b.kit).1 + (g.read w.a t).toNat,
                                                          target := BitVec.ofNat 64 (g.readPair w.b t),
                                                          waiter := .group w.core w.group }] })
      (fun w _ _ g => { g with wait := .chime (g.read w.a t).toNat (BitVec.ofNat 64 (g.readPair w.b t)) w.d (g.exec w) })) ∧
  (∀ t : Nat,
    IssuesAs .chset (fun w => [w.a] ++ pairRegs w.b) (fun _ => [])
      (fun w s b g => w.c = 0 ∧ w.imm = 0 ∧ evenReg w.b = true ∧ lowestThread (g.exec w) = some t ∧
        (g.read w.a t).toNat < (s.kitChimes b.kit).2)
      (fun w s b g => s.issueSignal ((s.kitChimes b.kit).1 + (g.read w.a t).toNat) (BitVec.ofNat 64 (g.readPair w.b t))
        (16 * w.core + w.group + 1))
      (fun _ _ _ g => g.step))

/-- A task that starts on a core (04 R93): every register of every thread of every group reads zero, P0 to P6 read 0 and P7 reads 1, every
thread is active, the program counter is the task's entry, and the divergence stack is empty. -/
def Obligations.TasksStartClean : Prop :=
  ∀ (list task core : Nat) (l : WorkList) (t : Task) (s : State), s.list list = some l → l.tasks[task]? = some t →
    ∃ b, ((s.startFresh list task core).core core).block = some b ∧ b.groups.length = t.record.groups ∧
      ∀ g ∈ b.groups, (∀ r i, g.read r i = 0) ∧ (∀ n, n < 7 → g.predMask n = 0) ∧ g.predMask 7 = BitVec.allOnes 64 ∧
        g.active = BitVec.allOnes 64 ∧ g.pc = t.record.entry ∧ g.stack = []

/-- LD, LDC and ST (04 R114 to R116). A request for the accesses of the threads in which the instruction executes goes on its way, and the
group goes on; an LDC of tier 1 without VOL takes its lines through the constant cache and has its words at once. A single-bit error that
an LD's core corrects is counted before (04 R112), an uncorrectable one is a failure of the core (19 R439). -/
def Obligations.MemoryInstructionsRequest : Prop :=
  (∀ n : Nat,
    IssuesAs (.ld 0) (fun w => w.addressRegs) (fun w => widthRegs w.d (w.width.getD 4))
      (fun w s b g => w.width = some n ∧ w.loadGood n = true ∧ s.mayRequest w b g n true false loadLane)
      (fun w s b g => s.sentFor w b g n true false loadLane .load .read) (fun _ _ _ g => g.step)) ∧
  (∀ (w : Ins) (s : State), w.core < 1728 → exec (.ld 1 w) s = exec (.ld 0 w) (s.coreCorrected w.core)) ∧
  (∀ (ecc : Nat) (w : Ins) (s : State), w.core < 1728 → 2 ≤ ecc → exec (.ld ecc w) s = .next { s.coreFailure w.core with pending := s.pending }) ∧
  (∀ n : Nat,
    IssuesAs .ldc (fun w => w.addressRegs) (fun w => widthRegs w.d (w.width.getD 4))
      (fun w s b g => w.width = some n ∧ w.loadGood n = true ∧ (w.vol = true ∨ w.seg = 2) ∧
        s.mayRequest w b g n true false loadLane)
      (fun w s b g => s.sentFor w b g n true false loadLane .load .read) (fun _ _ _ g => g.step)) ∧
  (∀ n : Nat,
    IssuesAs .ldc (fun w => w.addressRegs) (fun w => widthRegs w.d (w.width.getD 4))
      (fun w s b g => w.width = some n ∧ w.loadGood n = true ∧ w.vol = false ∧ w.seg ≠ 2 ∧
        (s.mapThreads w b g n true false).faults = [] ∧
        ((s.mapThreads w b g n true false).s.constReads w b g n (s.mapThreads w b g n true false).places).faults = [])
      (fun w s b g => ((s.mapThreads w b g n true false).s.constReads w b g n (s.mapThreads w b g n true false).places).s)
      (fun w s b g => (g.writeMany w.d (n / 4) (g.exec w) fun t =>
        tgetD ((s.mapThreads w b g n true false).s.constReads w b g n (s.mapThreads w b g n true false).places).words t []).step)) ∧
  (∀ n : Nat,
    IssuesAs .st (fun w => w.addressRegs ++ widthRegs w.c (w.width.getD 4)) (fun _ => [])
      (fun w s b g => w.width = some n ∧ w.stGood n = true ∧ s.mayRequest w b g n false true (w.storeLane g n) ∧
        narrowStore (s.mapThreads w b g n false true).places n = false)
      (fun w s b g => s.sentFor w b g n false true (w.storeLane g n) .store .write) (fun _ _ _ g => g.step))

/-- The atomics (04 R117, R118), in both forms: a request goes on its way that reads and writes exclusively, with the words of SRC2, and
of SRC1 for ACAS; without NORET it returns the values from before. -/
def Obligations.AtomicInstructionsRequest : Prop :=
  ∀ (row : Bool → Ins → Instr) (op : AtomicOp),
    (row, op) ∈ [(Instr.aadd, AtomicOp.add), (.afadd, .fadd), (.amin, .min), (.amax, .max), (.aumin, .umin), (.aumax, .umax),
      (.aand, .and), (.aor, .or), (.axor, .xor), (.axchg, .xchg), (.acas, .cas)] →
    ∀ (noret : Bool) (n : Nat),
      IssuesAs (row noret) (fun w => w.atomicSources op) (fun w => w.atomicDests noret)
        (fun w s b g => w.width = some n ∧ w.atomicGood op noret = true ∧ s.mayRequest w b g n true true (w.atomicLane g op n))
        (fun w s b g => s.sentFor w b g n true true (w.atomicLane g op n) (.atomic op (!noret)) .readExcl) (fun _ _ _ g => g.step)

/-- The MATRIX instructions (05 R126 to R143). MBEGIN empties its accumulator and gives it BASE. MMA appends one chunk, MMAS two of a
sparse panel. MREAD copies collapsed values to four registers. MSTORE writes a partial record or the final results, MLOADP takes a record
as the single entry of the stacks, MRED merges two records into a third, and MQUANT converts 16 rows. -/
def Obligations.MatrixInstructionsComplete : Prop :=
  IssuesAs .mbegin (fun w => [w.a]) (fun _ => [])
    (fun w _ _ g => g.exec w ≠ 0 ∧ w.d = 0 ∧ w.b = 0 ∧ w.c = 0 ∧ w.onlyBits [10] = true ∧ g.uniform w w.a < 2 ^ 20)
    (fun w s _ g => s.modBlock w.core fun b => b.setAccumulator w.acc { Accumulator.initial with base := g.uniform w w.a })
    (fun _ _ _ g => g.step) ∧
  (∀ sparse : Bool,
    IssuesAs (if sparse then .mmas else .mma) (fun w => w.stepSources sparse) (fun _ => [])
      (fun w s b g => g.exec w ≠ 0 ∧ w.stepGood sparse = true ∧ b.stepFaults w g sparse = [] ∧
        s.storeHeld w.core (g.uniform w w.c) (panelBytes w.bfmt sparse) = false)
      (fun w s _ g => s.useFree.modBlock w.core fun b => b.setAccumulator w.acc (b.stepped w g sparse s.free.toNat))
      (fun w _ _ g => (g.relaxed w).step)) ∧
  (∀ (b : Block) (w : Ins) (g : Group) (sparse : Bool) (free : Nat),
    (b.stepped w g sparse free).count = (b.accumulator w.acc).count + (if sparse then 2 else 1) ∧
      (b.stepped w g sparse free).base = (b.accumulator w.acc).base) ∧
  IssuesAs .mread (fun _ => []) (fun w => widthRegs w.d 16)
    (fun w _ _ g => g.exec w ≠ 0 ∧ w.readGood = true ∧ (g.diverged w = true → w.relax = true)) (fun _ s _ _ => s)
    (fun w _ b g => ((g.writeMany w.d 4 (g.exec w) fun t =>
      ((b.accumulator w.acc).collapse.drop (256 * (t / 4) + 16 * w.bits 11 4 + 4 * (t % 4))).take 4).relaxed w).step) ∧
  IssuesAs .mstore (fun w => [w.a, w.b, w.c]) (fun _ => [])
    (fun w s b g => g.exec w ≠ 0 ∧ w.mstoreGood = true ∧ b.mstoreFaults w g = [] ∧ s.mstoreHeld w g = false)
    (fun w s _ g => s.modBlock w.core fun b => b.storeWrite (g.uniform w w.a) (b.mstoreBytes w g)) (fun _ _ _ g => g.step) ∧
  IssuesAs .mloadp (fun w => [w.a]) (fun _ => [])
    (fun w s b g => g.exec w ≠ 0 ∧ w.d = 0 ∧ w.b = 0 ∧ w.c = 0 ∧ w.onlyBits [10] = true ∧
      g.uniform w w.a % 128 = 0 ∧ g.uniform w w.a + recordSize ≤ coreStoreSize ∧ (b.partialAt w g w.a).broken = false ∧
      s.storeHeld w.core (g.uniform w w.a) recordSize = false)
    (fun w s b g =>
      let p := b.partialAt w g w.a
      s.modBlock w.core fun b => b.setAccumulator w.acc
        { base := p.base, count := p.count, levels := [(Nat.log2 p.count, p.values)], afmt := p.afmt, bfmt := p.bfmt })
    (fun _ _ _ g => g.step) ∧
  IssuesAs .mred (fun w => [w.a, w.b, w.c]) (fun _ => [])
    (fun w s b g => g.exec w ≠ 0 ∧ w.d = 0 ∧ w.onlyBits [] = true ∧ b.mredFaults w g = [] ∧
      s.storeHeld w.core (g.uniform w w.a) recordSize = false ∧ s.storeHeld w.core (g.uniform w w.b) recordSize = false ∧
      s.storeHeld w.core (g.uniform w w.c) recordSize = false)
    (fun w s _ g => s.useFree.modBlock w.core fun b => b.storeWrite (g.uniform w w.c) (b.mredBytes w g s.free.toNat))
    (fun _ _ _ g => g.step) ∧
  IssuesAs .mquant (fun w => [w.a, w.b]) (fun _ => [])
    (fun w s b g => g.exec w ≠ 0 ∧ w.quantGood = true ∧
      panelFaults (g.first w) (g.uniform w w.a) 16384 128 = [] ∧
      panelFaults (g.first w) (g.uniform w w.b) (b.quantBytes w g).length 128 = [] ∧
      s.storeHeld w.core (g.uniform w w.a) 16384 = false ∧ s.storeHeld w.core (g.uniform w w.b) (b.quantBytes w g).length = false)
    (fun w s _ g => s.modBlock w.core fun b => b.storeWrite (g.uniform w w.b) (b.quantBytes w g)) (fun _ _ _ g => g.step)

/-- TLOAD and TSTORE (06 R158, R159): a request for the tile at the place of its address goes on its way, at most eight of each kind from
one core; a TSTORE takes its 4,096 bytes with it, and the tag that it publishes them with. -/
def Obligations.TileInstructionsRequest : Prop :=
  (∀ p : Place,
    IssuesAs .tload (fun w => w.tileRegs) (fun w => pairRegs w.d)
      (fun w s b g => g.exec w ≠ 0 ∧ w.tileGood [0, 1, 2, 3, 4, 8, 16, 17] = true ∧ evenReg w.d = true ∧
        (s.tileAccess w b g false).faults = [] ∧ (s.tileAccess w b g false).place = some p ∧ s.tilesInFlight w.core true < 8 ∧
        s.storeHeld w.core (s.tileAccess w b g false).cstore 4096 = false)
      (fun w s b g => (s.tileAccess w b g false).s.tileRequest w b g
        (.tileLoad (s.tileAccess w b g false).cstore (w.imm.getLsbD 8) (w.bits 0 5)) p)
      (fun _ _ _ g => g.step)) ∧
  (∀ p : Place,
    IssuesAs .tstore (fun w => w.tileRegs) (fun _ => [])
      (fun w s b g => g.exec w ≠ 0 ∧ w.tileGood [0, 1, 2, 3, 4, 16, 17] = true ∧ w.d = 0 ∧
        (s.tileAccess w b g true).faults = [] ∧ (s.tileAccess w b g true).place = some p ∧ s.tilesInFlight w.core false < 8 ∧
        s.storeHeld w.core (s.tileAccess w b g true).cstore 4096 = false)
      (fun w s b g =>
        let c := (s.tileAccess w b g true).cstore
        (s.tileAccess w b g true).s.tileRequest w b g
          (.tileStore c (b.storeRead c 4096) (tagFor (b.storeRead c 4096) (w.bits 0 5) (s.producer 1 w.core)).bytes) p)
      (fun _ _ _ g => g.step))

/-- What an encoding outside the tables does (04 R103, R104 (c), R110; 05 R139): the task ends with ST_ILLEGAL_INSTRUCTION. A BRC or a
CALL that the divergence stack has no room for ends it with ST_DIVERGENCE (04 R108). -/
def Obligations.UndefinedEncodingsFault : Prop :=
  (∀ rel, FaultsAs (.icmp rel) (fun w => w.withSrc1 [w.a] [] ++ []) (fun w _ _ _ => 10 ≤ rel ∨ 7 ≤ w.d) stIllegal) ∧
  (∀ rel, FaultsAs (.fcmp rel) (fun w => [w.a, w.b] ++ []) (fun w _ _ _ => 8 ≤ rel ∨ 7 ≤ w.d ∨ 12 ≤ w.imm.toNat) stIllegal) ∧
  (∀ row ∈ [Instr.fadd, .fsub, .fmul, .fmin, .fmax, .fminnum, .fmaxnum],
    FaultsAs row (fun w => [w.a, w.b] ++ [w.d]) (fun w _ _ _ => 12 ≤ w.imm.toNat) stIllegal) ∧
  (∀ row ∈ [Instr.rcp, .sqrt, .rsqrt, .exp2, .log2, .sinpi, .cospi, .tanh],
    FaultsAs row (fun w => [w.a] ++ [w.d]) (fun w _ _ _ => w.b ≠ 0 ∨ w.c ≠ 0 ∨ w.imm ≠ 0) stIllegal) ∧
  FaultsAs .mov (fun w => w.withSrc1 [] [] ++ [w.d]) (fun w _ _ _ => w.c ≠ 0) stIllegal ∧
  FaultsAs .movs (fun w => [] ++ [w.d])
    (fun w _ _ _ => 24 ≤ w.imm.toNat % 256 ∨ (6 ≤ w.imm.toNat % 256 ∧ w.imm.toNat % 256 < 16)) stIllegal ∧
  FaultsAs .fence (fun _ => [] ++ []) (fun w _ _ _ => 16 ≤ w.imm.toNat ∨ w.kind = 0) stIllegal ∧
  FaultsAs .bra (fun _ => [] ++ []) (fun w _ _ _ => ¬w.noFields) stIllegal ∧
  FaultsAs .brc (fun _ => [] ++ []) (fun w _ _ _ => w.d ≠ 0 ∨ w.a ≠ 0 ∨ w.join = 0) stIllegal ∧
  FaultsAs .brc (fun _ => [] ++ [])
    (fun w _ _ g => w.d = 0 ∧ w.a = 0 ∧ w.join ≠ 0 ∧ g.falls w ≠ 0 ∧ g.taken w ≠ 0 ∧ 31 ≤ g.stack.length) stDivergence ∧
  FaultsAs .call (fun _ => [] ++ []) (fun w _ _ g => w.noFields ∧ 32 ≤ g.stack.length) stDivergence ∧
  FaultsAs .ldc (fun w => w.addressRegs ++ widthRegs w.d (w.width.getD 4)) (fun w _ _ _ => w.width = none) stIllegal ∧
  FaultsAs .mbegin (fun w => [w.a] ++ []) (fun w _ _ g => g.exec w ≠ 0 ∧ 2 ^ 20 ≤ g.uniform w w.a) stIllegal

/-- A zero-filled tile in place of a dead one (06 R157): its payload is zeros, its FLAGS are 03h, FORMAT and VERSION are those of the
location's tag, PRODUCER is 0, its CRC is the one of R147, and so it passes the check of a tile. A transfer that reads a dead tile of a
partition that is not strict is given it. -/
def Obligations.DeadTilesReadAsZeros : Prop :=
  (∀ t : Tag, (zeroTile t).flags = 3 ∧ (zeroTile t).format = t.format ∧ (zeroTile t).version = t.version ∧ (zeroTile t).producer = 0 ∧
    (zeroTile t).crc = tileCrcOf (zeros 4096) (zeroTile t) ∧ tileSound (zeros 4096) (zeroTile t) = true) ∧
  ∀ (a handle slot space : Nat) (s : State), space ≠ 1 → region a = .tier1 → slot = s.spreadMap a / 4096 →
    s.mem.deadBits.contains slot = true → (s.partition (s.granule (a / 2 ^ 23)).partition).deadStrict = false →
    (s.tileGet space handle a).status = stOk ∧ (s.tileGet space handle a).payload = zeros 4096 ∧
      (s.tileGet space handle a).tag = zeroTile (s.tag slot)

/-- The instants of a beat (02 R30 to R43, R53 to R56; 10 R247, R257). A downbeat, with no Almanac action of the beat left, ends the beat
and settles it, then does what takes effect at a downbeat, launches, and starts what was held, in that order. BUILD composes every Kit's
steps. Up to 1 µs before the downbeat a selection may be published. GUARD begins once a beat and marks what has finished in time. An
Almanac transfer is late once. A lost last timing input leads to HOLDOVER, 1 s of it to FREE, and a restored one back once the offset is
within 8 ns. A Sync of the chosen domain asks for the delay. -/
def Obligations.BeatEventsHappen : Prop :=
  (∀ s : State, s.beat.running = true → s.almanac.due = [] →
    Leads .downbeat s
      (let settled := s.endBeat.nextBeat.applyPeriod.settleOverruns s.beat.number
       let changed := settled.pealDownbeat.failureDownbeat.applySettings.applyKits.functionsDownbeat
       let launched := changed.applyPower.liveUpdateDownbeat.launchAll
       (((launched.almanacDownbeat launched.beat.number).startDeferred effectOf).startHeld effectOf).slewNext.snapshot)) ∧
  (∀ (late : List Nat) (s : State), s.beat.running = true → s.beat.building = false →
    ∃ walked : State, Leads (.stepBuilderWalk late) s walked.settleInbounds ∧
      walked = (s.kits.map (·.1)).foldl (fun u k => u.walkKit (s.beat.number + 1) (late.contains k) k)
        (s.clockTo (max s.beat.start (s.nextDownbeat - s.nextBuildLen))).beginBuild) ∧
  (∀ s : State, s.beat.building = true →
    Leads .selectionDeadline s
      ((s.kits.map (·.1)).foldl (fun s k => s.dropUnselected k) (s.clockTo (s.nextDownbeat - 100)))) ∧
  (∀ (kit q : Nat) (k : Kit) (c : Composed) (p : Placement) (d : StepDesc) (s : State),
    s.kit kit = some k → k.composed = some c → k.placement = some p →
    c.steps.find? (fun d => d.seq == q && d.sparse && !d.selected) = some d →
    Leads (.selectionPublished kit q) s
      (((s.publishSelection k p d).modKit kit fun k =>
        { k with composed := some { c with steps := c.steps.map fun x => if x.seq = q then { x with selected := true } else x } }).finalise
        kit)) ∧
  (∀ s : State, s.beat.running = true → s.beat.phase = .work →
    ∃ t : State, Leads .guardStart s t ∧ t.beat.phase = .guard ∧ t.now = max s.now (s.beat.start + s.beat.period - s.guardLen) ∧
      t.lists = s.lists.map fun l => if l.finished then { l with finishedAtGuard := true } else l) ∧
  (∀ (id : Nat) (x : Transfer) (s : State), s.transfer id = some x → x.almanac ≠ none → x.late = false → x.kit = none →
    Leads (.transferDeadline id) s
      (let t := s.modTransfer id fun t => { t with late := true }
       { t with beat := { t.beat with transferOverrun := t.beat.transferOverrun + 1 } })) ∧
  (∀ s : State, s.beat.lock = .holdover →
    ∃ t : State, Leads .holdoverTimeout s (t.notice .companion 0x000C stOk 65535 0 0 0) ∧ t.beat.lock = .free ∧
      t.now = max s.now (s.beat.holdoverSince + 100000000)) ∧
  (∀ (direction : Nat) (s : State), direction < 6 → s.beat.timingInputs = [direction] → s.beat.lock = .locked → 1 < s.pealSize →
    Leads (.timingInputLost direction) s
      { s with beat := { s.beat with timingInputs := [], lock := .holdover, holdoverSince := s.now } }) ∧
  (∀ (direction : Nat) (s : State), direction < 6 → s.beat.lock ≠ .locked → s.beat.offset.natAbs ≤ 8 →
    Leads (.timingInputRestored direction) s
      { s with beat := { s.beat with timingInputs := addOnce s.beat.timingInputs direction, lock := .locked } }) ∧
  (∀ (m : PtpMessage) (s : State), s.beat.ptp.enabled = true → s.beat.ptp.source = 1 → m.domain = s.beat.ptp.domain → m.kind = 0 →
    m.twoStep = true →
    Leads (.ptpMessage m) s
      (let p := s.beat.ptp
       { s with beat := { s.beat with ptp := { p with
          syncSeq := m.sequence, syncRx := m.received, awaitFollowUp := true,
          port := if p.port = PtpPort.listening then .uncalibrated else p.port } } }))

/-- The Almanac's actions (02 R42, R45 to R47, R54). The next action that is due, of its own kind and target in service, not late, happens
at its slot of the beat and leaves the list of those that are due; START_DMA and START_RING start their transfer as their descriptor says,
SIGNAL_CHIME sends its value, with the beat's number added where the entry says so, and SAMPLE_TELEMETRY writes its sample to the next
slot of its ring. -/
def Obligations.AlmanacActionsHappen : Prop :=
  (∀ (i : Nat) (u : Turn) (k : Kit) (s : State), s.turn i = some u → u.entry.action = 1 → u.s.actionOff u.entry = false →
    u.late = false → u.s.targetKit u.entry = some k → k.mode = .admitted → k.heldFrom = none →
    u.s.lists.any (fun l => l.kit == k.id && l.repeat_ && l.cancelled) = false → u.s.repeating k.id = false → u.s.frozenKit k.id = false →
    u.s.listGood k u.entry.arg0 (u.entry.arg1 % 65536) [] = true →
    Leads (.launchWorkList i) s
      (u.s.launch k.id k.context u.entry.arg0 ((u.s.listRecords u.entry.arg0 (u.entry.arg1 % 65536)).map TaskRecord.ofBytes) (.almanac i)
        [] 0 [])) ∧
  (∀ (i st : Nat) (r : List Byte) (u : Turn) (d : Nat) (s : State), s.turn i = some u → u.entry.action = 2 → u.s.actionOff u.entry = false →
    u.late = false → u.s.descriptorPlace u.entry.partition u.entry.arg0 64 64 = true → isCoherent u.entry.arg0 = false →
    r = u.s.sysRead u.entry.arg0 64 →
    u.s.dmaCheck ((u.s.context u.entry.context).function == 0) u.entry.partition r = some (st, d) →
    Leads (.startDma i) s (u.s.setError u.entry.arg1 st)) ∧
  (∀ (i : Nat) (u : Turn) (s : State), s.turn i = some u → u.entry.action = 2 → u.s.actionOff u.entry = false →
    u.late = false → u.s.descriptorPlace u.entry.partition u.entry.arg0 64 64 = true → isCoherent u.entry.arg0 = false →
    u.s.dmaCheck ((u.s.context u.entry.context).function == 0) u.entry.partition (u.s.sysRead u.entry.arg0 64) = none →
    u.s.dmaDomainDown (u.s.sysRead u.entry.arg0 64) = false →
    (∀ h o, h = (descriptor (u.s.sysRead u.entry.arg0 64)).srcHandle ∨ h = (descriptor (u.s.sysRead u.entry.arg0 64)).dstHandle →
      u.s.objectOf h = some o → u.s.lostContext o.2.context = false ∧ o.2.mode ≠ .retiring) →
    Leads (.startDma i) s
      (let e := u.entry
       let b := u.s.sysRead e.arg0 64
       let v := field b 56 8 + if bit (field b 0 1) 1 then u.s.beat.number else 0
       let t := descriptor b
       let t1 := { t with almanac := some i, context := e.context, partition := e.partition, function := (u.s.context e.context).function }
       u.s.beginTransfer { t1 with kit := some e.target, chime := some (e.arg1, BitVec.ofNat 64 v), span := e.span })) ∧
  (∀ (i : Nat) (u : Turn) (s : State), s.turn i = some u → u.entry.action = 3 → u.s.actionOff u.entry = false →
    u.late = false →
    u.s.ringActionFault u.entry ((u.s.context u.entry.context).function == 0) (u.s.sysRead u.entry.arg0 128) = none →
    Leads (.startRing i) s
      (let e := u.entry
       let b := u.s.sysRead e.arg0 128
       let v := field b 56 8 + if bit (field b 0 1) 1 then u.s.beat.number else 0
       let t := u.s.ringTransfer b
       let t1 := { t with almanac := some i, context := e.context, partition := e.partition, function := (u.s.context e.context).function }
       u.s.beginRing { t1 with kit := some e.target, chime := some (e.arg1, BitVec.ofNat 64 v), span := e.span })) ∧
  (∀ (i : Nat) (u : Turn) (s : State), s.turn i = some u → u.entry.action = 4 → u.s.actionOff u.entry = false → u.late = false →
    Leads (.signalChime i) s
      (u.s.issueSignal u.entry.target (BitVec.ofNat 64 (u.entry.arg0 + if bit u.entry.arg1 0 then u.s.beat.number else 0)) 0)) ∧
  (∀ (i n : Nat) (u : Turn) (s : State), s.turn i = some u → u.entry.action = 5 → u.s.actionOff u.entry = false → u.late = false →
    n = tgetD u.s.almanac.samples i 0 →
    Leads (.sampleTelemetry i) s
      (let bytes := u.s.telemetryBytes (u.entry.arg1 % 16) (if u.entry.targetKind = 0 then some u.entry.target else none) n
       let t := u.s.sysWrite (u.entry.arg0 + 128 * (n % (u.entry.arg1 / 65536))) bytes
       { t with almanac := { t.almanac with samples := tset t.almanac.samples i (n + 1) } })) ∧
  (∀ (i : Nat) (x : AlmanacIssue) (rest : List AlmanacIssue) (s : State), s.almanac.due = x :: rest → x.index = i →
    ∃ u : Turn, s.turn i = some u ∧ u.entry = s.almanac.entry i ∧ u.s.almanac.due = rest ∧ u.s.now = max s.now (s.beat.start + x.slot)) ∧
  (∀ (position : Nat) (g : Signal) (s : State), s.signals[position]? = some g →
    (g.source ≠ 0 → ∀ h ∈ s.signals.take position, h.source = g.source → h.chime ≠ g.chime) →
    Leads (.chimeSignalApplied position) s (({ s with signals := s.signals.eraseIdx position }).applySignal g))

/-- Dispatch and switching (04 R96; 13 R306 to R315; 19 R435, R439). A task starts on the core that dispatch gives it, and retires when
its groups have ended and its last acknowledgement is in. A request takes its victim, which drains, saves and gives way; a saved task is
restored from its area and waits again for what it waited for. A group in the window that waits gives its slot to the group that became
ready first. A core that does not acknowledge a launch fails, and a cancelled list launches again whole at a downbeat. -/
def Obligations.CoreEventsHappen : Prop :=
  (∀ (core slot n k : Nat) (b : Block) (g : Group) (s : State), core < 1728 → (s.core core).block = some b →
    (s.core core).phase = .running → (s.core core).window[slot]? = some (some n) → b.groups[n]? = some g →
    (g.finished = true ∨ g.wait ≠ .none ∨ s.inFlight core n Request.returns = true) →
    firstReady (s.readyOutside core b) = some k →
    Leads (.windowSwap core slot) s
      (((s.modGroup core n fun g => { g with regCache := [] }).modGroup core k fun g => { g with regCache := [] }).modCore core fun c =>
        { c with window := lmod c.window slot fun _ => some k })) ∧
  (∀ (l : List (Nat × Nat)) (k : Nat), firstReady l = some k → ∃ r, (r, k) ∈ l ∧ ∀ e ∈ l, r ≤ e.1) ∧
  (∀ (list task core : Nat) (a : ReadyTask × Nat) (s : State), core < 1728 → a ∈ s.assignments → a.1.list = list → a.1.task = task →
    a.2 = core →
    Leads (.taskStart list task core) s ((s.modCore core fun c => { c with switchAt := c.freeSince }).takeCore list task core)) ∧
  (∀ (core : Nat) (b : Block) (s : State), core < 1728 → (s.core core).block = some b → (s.core core).phase = .running →
    b.groups.all (·.finished) = true → s.drained core = true →
    Leads (.taskRetire core) s
      (((s.modTask b.list b.task fun t => { t with mode := .retired }).freeCore core).finishList b.list)) ∧
  (∀ (list task core : Nat) (r : Request13) (s : State), core < 1728 →
    s.switchRequests.find? (fun r => r.ready.list == list && r.ready.task == task) = some r → r.victim = some core → r.passed = none →
    Leads (.switchRequest list task core) s
      (s.modCore core fun c => { c with phase := .draining list task, switchAt := s.now })) ∧
  (∀ (core list task : Nat) (s : State), core < 1728 → (s.core core).phase = .draining list task → s.drained core = true →
    Leads (.drainComplete core) s
      ((s.modCore core fun c => { c with phase := .saving list task }).modBlock core fun b =>
        { b with groups := b.groups.map fun g => { g with regCache := [] } })) ∧
  (∀ (core list task : Nat) (b : Block) (out : Task) (l : WorkList) (s : State), core < 1728 →
    (s.core core).phase = .saving list task → (s.core core).block = some b → s.task b.list b.task = some out → s.list b.list = some l →
    Leads (.saveComplete core) s
      (let n := min (out.switches + 1) 0xFFFF
       let header := saveHeader b.task b.kit l.address n s.beat.number s.offset b
       let free := (((s.writeSave out.record.saveArea (b.saveParts header)).modTask b.list b.task fun x =>
         { x with mode := .saved, switches := n, waits := b.groups.map (·.wait) }).dropRequests core).freeCore core
       let taken := (free.takeCore list task core).countSwitch b.kit 1 0 0
       if (free.readyTasks.any fun r => r.list == list && r.task == task) = false then free
       else if (s.task list task).any (·.mode == .waiting) then taken.countSwitch b.kit 0 0 (s.now - (s.core core).switchAt) else taken)) ∧
  (∀ (core list task : Nat) (l : WorkList) (x : Task) (k : Kit) (s : State), core < 1728 →
    (s.core core).phase = .restoring list task → s.list list = some l → s.task list task = some x → s.kit l.kit = some k →
    s.saveBad x = false →
    Leads (.restoreComplete core) s
      (let b := s.readSave x.record.saveArea list task l.kit k.partition x
       let t := s.useFree.runBlock core l.context b
       let h := t.readT1 x.record.saveArea 128
       ((t.writeT1 x.record.saveArea (h.take 17 ++ [0] ++ h.drop 18)).resumeWaits core k.chimeBase b.groups).countSwitch l.kit 0 0
         (s.now - (s.core core).switchAt))) ∧
  (∀ (core : Nat) (s : State), core < 1728 → (s.core core).phase ≠ .idle → Leads (.launchAckTimeout core) s (s.coreFailure core)) ∧
  (∀ (kit : Nat) (k : Kit) (s : State), s.beat.running = true → s.now = s.beat.start → s.kit kit = some k → k.mode = .admitted →
    (s.lists.filter fun l => l.kit == kit && l.repeat_ && l.cancelled) ≠ [] → s.frozenKit kit = false → s.stationsIn kit = true →
    Leads (.repetition kit) s
      ((s.lists.filter fun l => l.kit == kit && l.repeat_ && l.cancelled).foldl (fun t l =>
        (t.modList l.id fun l => { l with tasks := l.tasks.map t.repeatTask }).relaunch l.id) s))

/-- Registers and doorbells (11 R273 to R276; 21 R477 to R482). The doorbell of an open ring of the writing function takes a TAIL that the
ring has room for, one beyond that breaks the queue, and any other doorbell is dropped and counted. CONSUMED frees ring slots, and an
interrupt is due IRQ_DELAY after the oldest record that has none. A 1 written to ATTENTION clears its bit. A 4- or 8-byte aligned write of
an RW register merges with what the register holds. -/
def Obligations.RegisterEventsHappen : Prop :=
  (∀ (f q : Nat) (tail : U64) (s : State), f < 4096 → q < 1048576 → s.power.vigil ≠ .vigil →
    ((s.queue q).mode = .active ∨ (s.queue q).mode = .stopped) → (s.queue q).function = f → (s.queue q).management = false →
    (f = 0 ∨ (s.function f).mode ≠ .resetting) → (s.queue q).tail ≤ tail.toNat →
    tail.toNat ≤ (s.queue q).head + 2 ^ (s.queue q).log2Size →
    Leads (.doorbell f q tail) s (s.modQueue q fun k =>
      { k with tail := tail.toNat, leaf := k.leaf || (k.mode == .active && decide (k.head < tail.toNat)) })) ∧
  (∀ (f q : Nat) (tail : U64) (s : State), f < 4096 → q < 1048576 → s.power.vigil ≠ .vigil →
    ((s.queue q).mode = .active ∨ (s.queue q).mode = .stopped) → (s.queue q).function = f → (s.queue q).management = false →
    (f = 0 ∨ (s.function f).mode ≠ .resetting) →
    (tail.toNat < (s.queue q).tail ∨ (s.queue q).head + 2 ^ (s.queue q).log2Size < tail.toNat) →
    Leads (.doorbell f q tail) s (s.breakQueue q 1 tail.toNat)) ∧
  (∀ (f q : Nat) (tail : U64) (s : State), f < 4096 → q < 1048576 → s.power.vigil ≠ .vigil →
    ((s.queue q).function ≠ f ∨ (s.queue q).management = true ∨ (s.queue q).mode = .free) →
    Leads (.doorbell f q tail) s (s.dropDoorbell (s.doorbellFunction q))) ∧
  (∀ (f ring : Nat) (consumed : U64) (s : State), f < 4096 → ring < 32 → s.power.vigil ≠ .vigil → (s.cring f ring).base ≠ 0 →
    (s.cring f ring).consumed ≤ consumed.toNat → consumed.toNat ≤ (s.cring f ring).produced →
    (f = 0 ∨ (s.function f).mode ≠ .resetting) →
    Leads (.cringDoorbell f ring consumed) s
      ((s.setCring f ring { s.cring f ring with consumed := consumed.toNat }).flushRing f ring ((s.cring f ring).waiting.length + 1))) ∧
  (∀ (f ring : Nat) (s : State), f < 4096 → ring < 32 → (s.cring f ring).unsignalled ≠ 0 → (s.cring f ring).irqCount ≠ 0 →
    Leads (.irqDelayExpiry f ring) s
      (((s.clockTo ((s.cring f ring).oldestUnsignalled + 100 * (s.cring f ring).irqDelay)).setCring f ring
        { s.cring f ring with unsignalled := 0 }).interrupt f (s.cring f ring).vector)) ∧
  (∀ s : State, s.reading = true → s.boot.loadReady = true → s.boot.verified = false → s.boot.claim ≠ .management →
    s.boot.startFault = 0 → s.boot.imageBytes ≤ imageLimit → s.boot.imageBytes ≠ 0 → s.boot.imageAddress % 4096 = 0 →
    isCoherent s.boot.imageAddress = true → s.cijan.mode = .up →
    (s.window 0 s.boot.imageAddress s.boot.imageBytes).any (·.read) = true →
    Leads .bootGo s (s.modBoot fun b =>
      let d := Delivery.empty.put 0 (s.companionRead s.boot.imageAddress s.boot.imageBytes)
      { b with claim := .companion, load := { d with length := s.boot.imageBytes, verifying := true } })) ∧
  (∀ (bits : U64) (s : State), Leads (.attention bits) s { s with win := { s.win with attention := s.win.attention &&& ~~~bits } }) ∧
  (∀ (a size : Nat) (v : U64) (s : State), s.boot.lit = true → s.power.vigil ≠ .vigil → (size = 4 ∨ size = 8) → a % size = 0 →
    registerAt a = .window 2 16 →
    Leads (.registerWrite a size v) s
      (let bits := mergeRegister (s.readRegister (.window 2 16)) a size v.toNat % (attentionBits + 1)
       { s with win := { s.win with attentionEnable := BitVec.ofNat 64 bits } }))

/-- What happens at slices and home ports (04 R97, R122; 06 R151 to R154; 07 R171 to R173; 08 R202, R207; 09 R217, R227). A value that has
been performed returns to its registers in the threads that asked for it, and a store that every home has acknowledged lets a fence go on.
A tile of tier 1 is published with its tag as one operation, and a read of one takes both. A request is performed at the station that
serves it once nothing stands before it there. A fill that was asked for is installed, serves those that joined it and is sent to them. A
transfer ends when all of it has moved. A scrub reads the next code word and goes on behind it. -/
def Obligations.MemoryEventsHappen : Prop :=
  (∀ (id : Nat) (r : Request) (s : State), s.onItsWay id = false → s.request id = some r → r.kind = .load → r.lanes = [] → r.error = 0 →
    Leads (.loadReturn id) s
      ((((s.dropRequest id).modGroup r.core r.group fun g =>
        g.writeMany r.dst (r.width / 4) (BitVec.ofNat 64 (maskOf (r.returned.map (·.1)))) fun t =>
          ((r.returned.find? fun w => w.1 == t).map (·.2)).getD []).gotValue r.core r.group).endFence r.core r.group)) ∧
  (∀ (id : Nat) (r : Request) (s : State), s.request id = some r → r.kind = .store → r.lanes = [] → r.error = 0 →
    Leads (.storeAck id) s ((s.dropRequest id).endFence r.core r.group)) ∧
  (∀ (id : Nat) (r : Request) (s : State), s.request id = some r → r.kind = .store → r.lanes = [] → r.error ≠ 0 →
    Leads (.storeAck id) s ((s.dropRequest id).accessFault r.core r.group (some r.errorThread) r.error r.errorAddress r.pc r.active
      r.errorLine)) ∧
  (∀ (id c a : Nat) (payload tag : List Byte) (l : Lane) (rest : List Lane) (r : Request) (s : State), s.request id = some r →
    r.kind = .tileStore c payload tag → r.lanes = l :: rest → l.place = .tier1 a → s.barred r (s.tileStation r) = false →
    Leads (.tilePublication id) s
      (({ s with mem := s.mem.publish (a / 4096) payload (Tag.ofBytes tag),
                 fail := { s.fail with written := addOnce s.fail.written (a / 2 ^ 23) } }).doneLanes id [l] [])) ∧
  (∀ (id c f a : Nat) (soft : Bool) (upsets : List Upset) (l : Lane) (rest : List Lane) (r : Request) (s : State),
    s.request id = some r → r.kind = .tileLoad c soft f → r.lanes = l :: rest → l.place = .tier1 a →
    s.barred r (s.tileStation r) = false → s.waitsFill r l = false → (s.observe upsets).mem.deadBits.contains (a / 4096) = false →
    Leads (.tileRead id upsets) s
      ((s.observe upsets).performTile r [l] (a / 4096) ((s.observe upsets).lineData (a / 4096)) ((s.observe upsets).tag (a / 4096)) none)) ∧
  (∀ (id c f : Nat) (soft : Bool) (words : List Word) (l : Nat) (r : Request) (s : State), s.onItsWay id = false → s.request id = some r →
    r.kind = .tileLoad c soft f → r.lanes = [] → r.error = 0 → r.returned = [(l, words)] →
    Leads (.loadReturn id) s
      (let stored := (s.dropRequest id).modBlock r.core fun b =>
         b.storeWrite c ((words.take 1024).flatMap fun w => leBytes 4 w.toNat)
       ((stored.modGroup r.core r.group fun g =>
         (g.write r.dst r.mask fun _ => words.getD 1024 0).write (r.dst + 1) r.mask fun _ => 0).gotValue r.core r.group).endFence
         r.core r.group)) ∧
  (∀ (id : Nat) (upsets : List Upset) (e : PendingTile) (x : Object) (r : Request) (w : State × Nat) (s : State), id ≠ 0 →
    s.mem.pendingTiles.find? (fun e => e.id == id) = some e → tget (s.observe upsets).objects e.object = some x →
    w = (let t := s.observe upsets
         { t with mem := { t.mem with pendingTiles := t.mem.pendingTiles.filter (·.id != id) } }).writeTile e.object x e.tile e.payload
           e.tag →
    w.1.request id = some r → w.2 = stOk → Leads (.homePortTileWrite id upsets) s (w.1.doneLanes id r.lanes [])) ∧
  (∀ (id station : Nat) (upsets : List Upset) (r : Request) (s : State), station < 54 → s.baseOut station = false →
    s.request id = some r → r.plain = true → s.barred r station = false →
    Leads (.sliceAccess id station upsets) s ((s.observe upsets).serveAt r station)) ∧
  (∀ (station object line : Nat) (slot : Nat × Line) (upsets : List Upset) (f : Fill) (s : State), station < 54 → s.baseOut station = false →
    s.mem.fills.find? (fun f => f.station == station && f.object == object && f.line == line) = some f →
    (s.fillComplete station object line upsets).findLine object line = some slot →
    (s.fillComplete station object line upsets).mem.fills.any (fun g => g.object == object && g.line == line) = false →
    Leads (.fillComplete station object line upsets) s ((s.fillComplete station object line upsets).sendFill station f.requesters)) ∧
  (∀ (id : Nat) (upsets : List Upset) (x : Transfer) (s : State), (s.observe upsets).transfer id = some x → x.ring = false →
    Leads (.transferComplete id upsets) s (((s.observe upsets).moveAll x).1.endTransfer x ((s.observe upsets).moveAll x).2)) ∧
  (∀ (tier unit : Nat) (symbols : List Nat) (s : State), s.scrubWaits tier unit = false →
    s.diagnostic (scrubPlace tier unit (s.scrubNext tier unit)) = false → s.isPoisoned (scrubPlace tier unit (s.scrubNext tier unit)) = false →
    (s.seeWord (scrubPlace tier unit (s.scrubNext tier unit)) symbols 1).isPoisoned (scrubPlace tier unit (s.scrubNext tier unit)) = false →
    Leads (.scrubStep tier unit symbols) s
      ((s.seeWord (scrubPlace tier unit (s.scrubNext tier unit)) symbols 1).scrubTo tier unit (s.scrubNext tier unit + 1))) ∧
  (∀ (station bank m : Nat) (s : State), station < 54 → (s.bank station bank).rebuilding = some m →
    Leads (.partRebuilt station bank) s
      ((s.modBank station bank fun b => { b with rebuilding := none }).logEvent 0x07 5 station 0xFF 0 (bank * 2 ^ 23) 0xFF m))

/-- Arbiters, carillons and links of the panel fabric (14 R325 to R328, R332, R333, R337, R338; 16 R386). Each window every slot's counter
rises by its WEIGHT, to at most twice that. A resource that falls free and is up grants, every eighth time to the slot that has waited
longest. A target with a buffer takes a carillon's payload and says so, and one without refuses, and is asked again when a buffer falls
free or 2 µs have passed. A link that trains with at most 128 wires mapped out is in service, at the third failure it is DEGRADED, and 16
frame errors within 1 ms send it back to training. -/
def Obligations.FabricEventsHappen : Prop :=
  (∀ s : State, ∃ t : State, Leads .refillWindow s t ∧ t.fabric.refills = min 2 (s.fabric.refills + 1) ∧
    t.fabric.arbiters = tmapv s.fabric.arbiters fun _ arb => { arb with slots := tmapv arb.slots fun _ k =>
      let c : Int := min (k.counter + (k.weight : Nat)) ((2 * k.weight : Nat) : Int)
      { k with counter := c, shown := c } }) ∧
  (∀ (a i : Nat) (k : ArbSlot) (late : List ArrivalList) (arb : Arbiter) (s : State), a < resourceCount →
    arb = (late.headD []).foldl (s.arrive a) (s.arbiter a) → arb.waiting ≠ [] → s.resourceUp a = true →
    (if (arb.grants + 1) % 8 = 0 then longestWait arb.waiting else fullestSlot arb.waiting) = some (i, k) →
    Leads (.nextGrant a late) s
      (let long := (arb.grants + 1) % 8 == 0
       let run := s.runGrant a i (!long) (min (if long then 8 else 128) k.remaining) late.tail { arb with grants := arb.grants + 1 }
       { s with fabric := { s.fabric with arbiters := tset s.fabric.arbiters a run } })) ∧
  (∀ (id target : Nat) (c : Carillon) (s : State), s.carillon id = some c → target ∈ c.asked → s.baseOut target = false →
    (s.receiving target).length < receiveBuffers →
    Leads (.carillonPayload id target) s
      (let t := s.modCarillon id fun c => { c with asked := c.asked.filter (· != target), answers := c.answers ++ [(target, true)] }
       { t with fabric := { t.fabric with receive := tset t.fabric.receive target (t.receiving target ++ [id]) } })) ∧
  (∀ (id target : Nat) (c : Carillon) (s : State), s.carillon id = some c → target ∈ c.asked → s.baseOut target = false →
    receiveBuffers ≤ (s.receiving target).length →
    Leads (.carillonPayload id target) s
      (s.modCarillon id fun c => { c with asked := c.asked.filter (· != target), answers := c.answers ++ [(target, false)] })) ∧
  (∀ (id target : Nat) (c : Carillon) (s : State), s.carillon id = some c → (target, true) ∈ c.answers →
    Leads (.carillonAck id target) s
      (let t := s.modCarillon id fun c =>
         { c with answers := c.answers.filter (· != (target, true)), delivered := addOnce c.delivered target }
       let left := (t.receiving target).filter (· != id)
       let table := if left.isEmpty then terase t.fabric.receive target else tset t.fabric.receive target left
       ({ t with fabric := { t.fabric with receive := table } }).endCarillon id)) ∧
  (∀ (id target : Nat) (c : Carillon) (s : State), s.carillon id = some c → (target, false) ∈ c.answers →
    Leads (.carillonNack id target) s
      (s.modCarillon id fun c =>
        { c with answers := c.answers.filter (· != (target, false)), laggards := addOnce c.laggards target, nackAt := s.now })) ∧
  (∀ (id target : Nat) (c : Carillon) (s : State), s.carillon id = some c → target ∈ c.laggards →
    (s.receiving target).length < receiveBuffers → Leads (.bufferFree id target) s (s.retryCarillon id)) ∧
  (∀ (id : Nat) (c : Carillon) (s : State), s.carillon id = some c → c.laggards ≠ [] →
    Leads (.carillonRetryTimer id) s ((s.clockTo (c.nackAt + 200)).retryCarillon id)) ∧
  (∀ (id : Nat) (x : Transfer) (s : State), s.transfer id = some x → x.ring = true → x.multi = true → x.error = 0 →
    Leads (.carillonTimeout id) s ((s.clockTo (x.startedAt + 100 * x.timeout)).finishRing x stPartial)) ∧
  (∀ (link wires : Nat) (l : Link) (s : State), (linkEnds link).isSome = true → tget s.fabric.links link = some l →
    (l.mode = .bringup ∨ l.mode = .retraining) → wires ≤ 128 →
    Leads (.linkTrainingResult link true wires) s
      (s.modLink link fun l => { l with mode := .inService, mapped := wires, failures := 0, frameErrors := [] })) ∧
  (∀ (link wires : Nat) (l : Link) (s : State), (linkEnds link).isSome = true → tget s.fabric.links link = some l →
    l.mode = .bringup → 2 ≤ l.failures →
    Leads (.linkTrainingResult link false wires) s (s.modLink link fun l => { l with mode := .degraded, failures := 0, frameErrors := [] })) ∧
  (∀ (link : Nat) (l : Link) (s : State), (linkEnds link).isSome = true → tget s.fabric.links link = some l → l.mode = .inService →
    (recent l.frameErrors s.now 100000).length < 15 →
    Leads (.frameReplay link) s
      (s.modLink link fun k => { k with replays := k.replays + 1, frameErrors := recent l.frameErrors s.now 100000 ++ [s.now] })) ∧
  (∀ (link wires : Nat) (l : Link) (s : State), (linkEnds link).isSome = true → tget s.fabric.links link = some l → l.mode = .degraded →
    wires ≤ 128 →
    Leads (.linkDegradedRetry link true wires) s
      (s.modLink link fun l => { l with mode := .inService, mapped := wires, failures := 0, frameErrors := [] })) ∧
  (∀ (link bytes : Nat) (l : Link) (s : State), (linkEnds link).isSome = true → tget s.fabric.links link = some l → l.mode = .inService →
    l.rate * 4 < bytes * 5 → Leads (.linkHotWindow link bytes) s (s.modLink link fun l => { l with hot := l.hot + 1 }))

/-- The Cijan Link (15 R346 to R362). An answer to an outstanding transaction finishes it: C_DATA gives a load its bytes and an atomic the
bytes on which it writes back, C_ACK performs a write, C_NACK asks for it again after a backoff, C_ERR and 1 ms without an answer declare
the domain down. The aperture serves reads and writes of what a function may reach, of a shape that is allowed, and publishes tiles. A
HELLO in DOWN begins an epoch, which goes UP when its link block checks; a reset ends it. Engines come and go, and an engine that goes has
its requests sent again by the others. -/
def Obligations.LinkEventsHappen : Prop :=
  (∀ (tag epoch : Nat) (payload : List Byte) (x : Txn) (r : Request) (s : State), s.stale epoch = false → s.txn tag = some x →
    x.sent = true → x.kind = .read → s.request x.request = some r → (s.companionWrite x.granule (padTo 128 payload)).request x.request = some r →
    Leads (.cData tag epoch payload) s
      (((s.companionWrite x.granule (padTo 128 payload)).modRequest r.id fun r' =>
        { r' with
          returned := r'.returned ++ (r.lanes.filter fun l => l.inGranule x.granule).map fun l =>
            (l.thread, wordsOf (r.width / 4) (slice (padTo 128 payload) ((l.coherent.getD 0) % 128) r.width))
          lanes := r'.lanes.filter fun l => !(l.inGranule x.granule) }).finishTxn tag)) ∧
  (∀ (tag epoch : Nat) (x : Txn) (s : State), s.stale epoch = false → s.txn tag = some x → x.sent = true → x.kind.carries = true →
    Leads (.cAck tag epoch) s
      (((s.companionWrite x.granule x.data).modRequest x.request fun r =>
        { r with lanes := r.lanes.filter fun l => !(l.inGranule x.granule) }).finishTxn tag)) ∧
  (∀ (tag epoch : Nat) (s : State), s.stale epoch = true →
    Leads (.cAck tag epoch) s s.countStale ∧ Leads (.cNack tag epoch) s s.countStale ∧
      ∀ payload, Leads (.cData tag epoch payload) s s.countStale) ∧
  (∀ (tag epoch : Nat) (x : Txn) (s : State), s.stale epoch = false → s.txn tag = some x → x.sent = true → x.nacks < 256 →
    s.now - x.firstSend ≤ 100000 →
    Leads (.cNack tag epoch) s
      (({ s with cijan := { s.cijan with nackTotal := s.cijan.nackTotal + 1 } }).modTxn tag fun t =>
        { t with nacks := x.nacks + 1, sent := false, backoff := true, retry := true,
                 resendAt := s.now + ceilDiv (64 * 2 ^ min x.nacks 6) 10 })) ∧
  (∀ (tag : Nat) (x : Txn) (s : State), s.txn tag = some x → x.backoff = true →
    Leads (.creqResend tag) s (((s.clockTo x.resendAt).modTxn tag fun t => { t with backoff := false }).pump)) ∧
  (∀ (tag epoch reason : Nat) (x : Txn) (s : State), s.cijan.mode ≠ .establishing → s.stale epoch = false → s.txn tag = some x →
    x.sent = true →
    Leads (.cErr tag epoch reason) s ((s.logEvent Config.agentErrorKind.toNat 0 0xFF 0xFF 0 0 0xFF reason).declareDown 1 x.engine)) ∧
  (∀ s : State, s.cijan.mode = .failing → s.cijan.heldHello = none →
    Leads .domainDownComplete s { s with cijan := { s.cijan with mode := .down, windows := [], heldHello := none } }) ∧
  (∀ (tag : Nat) (x : Txn) (s : State), s.txn tag = some x → x.sent = true →
    Leads (.transactionTimeout tag) s ((s.clockTo (x.lastSend + 100000)).declareDown 3 x.engine)) ∧
  (∀ (engine f tag a n : Nat) (s t : State), engine < 4 → f < 4096 → s.engineTakes engine = true → s.apertureWaits a n = false →
    t = s.returnCredits engine 0 → s.apertureReach f a (max n 1) = true → shapeGood a n (smallSize n) = true → region a ≠ .registers →
    s.poisonedAt a n = false → Leads (.dRead engine f tag a n) s (t.send ⟨.dData, engine, [tag, f], t.sysRead a n⟩)) ∧
  (∀ (engine f tag a : Nat) (payload : List Byte) (s : State), engine < 4 → f < 4096 → s.engineTakes engine = true →
    s.apertureWaits a payload.length = false → s.apertureReach f a (max payload.length 1) = true → s.writesBarred f = false →
    shapeGood a payload.length (smallSize payload.length) = true → region a ≠ .registers →
    Leads (.dWrite engine f tag a payload) s
      (((s.returnCredits engine (ceilDiv payload.length 128)).sysWrite a payload).send ⟨.dAck, engine, [tag, f], []⟩)) ∧
  (∀ (engine f tag a : Nat) (payload side : List Byte) (s : State), engine < 4 → f < 4096 → s.engineTakes engine = true →
    s.apertureWaits a 4096 = false → s.apertureReach f a 4096 = true → s.writesBarred f = false → payload.length = 4096 →
    region a = .tier1 → a % 4096 = 0 → tileSound payload (Tag.ofBytes (padTo 16 side)) = true →
    ((s.returnCredits engine 33).tilePut 0 0 a payload (Tag.ofBytes (padTo 16 side))).2 = stOk →
    Leads (.dWriteTile engine f tag a payload side) s
      (((s.returnCredits engine 33).tilePut 0 0 a payload (Tag.ofBytes (padTo 16 side))).1.send ⟨.dAck, engine, [tag, f], []⟩)) ∧
  (∀ (epoch block : Nat) (s : State), s.cijan.mode = .down → s.cijan.ups ≠ [] → Leads (.linkHello epoch block) s (s.takeHello epoch block)) ∧
  (∀ (epoch block : Nat) (s : State), s.cijan.mode = .failing →
    Leads (.linkHello epoch block) s { s with cijan := { s.cijan with heldHello := some (epoch, block) } }) ∧
  (∀ (block table : List Byte) (reason : Nat) (s : State), s.cijan.mode = .establishing →
    helloReason s.cijan.epoch s.cijan.linkBlock (padTo 128 block)
      ((List.range (min (field (padTo 128 block) 2 2) 256)).map fun i => slice table (64 * i) 64) = some reason →
    Leads (.linkBlockChecked block table) s (s.linkReject reason)) ∧
  (∀ (block table : List Byte) (entries : List (List Byte)) (s : State), s.cijan.mode = .establishing → s.cijan.latencies = [] →
    entries = (List.range (min (field (padTo 128 block) 2 2) 256)).map (fun i => slice table (64 * i) 64) →
    helloReason s.cijan.epoch s.cijan.linkBlock (padTo 128 block) entries = none →
    ∃ t : State, Leads (.linkBlockChecked block table) s (s.cijan.ups.foldl (fun s e => s.send ⟨.linkHelloDone, e, [2, 0], []⟩) t) ∧
      t.cijan.mode = .up ∧ t.cijan.epoch = field (padTo 128 block) 4 4 ∧ t.cijan.aperture = field (padTo 128 block) 8 8 ∧
      t.cijan.windows = entries.map Window.ofBytes ∧ t.cijan.creqCredits = field (padTo 128 block) 26 2) ∧
  (∀ s : State, Leads .linkReset s (s.declareDown 6 0xF)) ∧
  (∀ s : State, s.cijan.mode = .down →
    Leads .linkResetTimer s (s.cijan.ups.foldl (fun s e => s.send ⟨.linkReset, e, [], []⟩) s)) ∧
  (∀ (engine headers units : Nat) (s : State), engine < 4 →
    ∃ t : State, Leads (.linkCredit engine headers units) s t.pump ∧ t.cijan.engines = lmod s.cijan.engines engine fun e =>
      { e with headerCredits := e.headerCredits + headers, dataCredits := e.dataCredits + units }) ∧
  (∀ (engine : Nat) (e : CijanEngine) (s : State), engine < 4 → s.cijan.engines[engine]? = some e → e.up = false →
    ∃ t : State, Leads (.engineState engine true) s
        ((t.cijan.ups.foldl (fun s x => s.send ⟨.engineState, x, [engine, 1], []⟩) t).pump.retestAll) ∧
      t.cijan.engines = lmod s.cijan.engines engine fun e =>
        { e with up := true, headerCredits := s.cijan.creqCredits, dataCredits := if s.cijan.mode = .up then 1024 else 0 }) ∧
  (∀ (engine : Nat) (e : CijanEngine) (s t u : State), engine < 4 → s.cijan.engines[engine]? = some e → e.up = true →
    t = { s with cijan := { s.cijan with engines := lmod s.cijan.engines engine fun e =>
            { e with up := false, headerCredits := 0, dataCredits := 0 } } } → t.cijan.ups ≠ [] →
    u = t.cijan.ups.foldl (fun s x => s.send ⟨.engineState, x, [engine, 0], []⟩) (t.logFailure 0x17 0xFF (32 + engine)) →
    Leads (.cijanEngineLoss engine) s
      (({ u with cijan := { u.cijan with txns := u.cijan.txns.map fun (x : Txn) =>
            if x.sent ∧ x.engine = engine then { x with sent := false, retry := true } else x } }).pump.retestAll))

/-- The management ports (11 R277; 18 R432; 19 R447; 20 R456, R457). A datagram at the primary for a management queue that is open is
taken, one for any other queue is dropped with as many packets as it says. A status request is answered, and status is sent to all nodes
once per second until queue 1 has read a packet. Echo, neighbour and listener messages are answered as RFC 4443, 4861 and 3810 ask. A wake
datagram begins the wake. A port's link comes up on a healthy edge die, and a primary whose link is lost hands over. -/
def Obligations.ManagementEventsHappen : Prop :=
  (∀ (edge source port : Nat) (b : List Byte) (s : State), edge < 4 → s.portUp edge = true → s.portAwake = true → s.boot.stage1 = true →
    edge = s.fail.primary → headerGood b = true → (s.queue (field b 4 4)).management = true → (s.queue (field b 4 4)).mode = .active →
    Leads (.managementDatagram edge source port b) s (s.takePackets source port b)) ∧
  (∀ (edge source port : Nat) (b : List Byte) (s : State), edge < 4 → s.portUp edge = true → s.portAwake = true → s.boot.stage1 = true →
    edge = s.fail.primary → headerGood b = true → (s.queue (field b 4 4)).management = false →
    Leads (.managementDatagram edge source port b) s (s.dropDatagram (field b 2 2))) ∧
  (∀ (edge source port : Nat) (b : List Byte) (s : State), edge < 4 → s.portUp edge = true → s.portAwake = true → field b 0 2 = 0x8001 →
    field b 2 1 = 1 → b.length = 64 →
    Leads (.statusDatagram edge source port b) s (s.send ⟨.statusDatagram, source, [edge, port], s.statusBytes edge⟩)) ∧
  (∀ s : State, s.boot.stage1 = true → s.portUp s.fail.primary = true → s.portAwake = true →
    ((s.queue 1).head = 0 ∨ s.boot.startFault ≠ 0) →
    Leads .statusBroadcast s (s.send ⟨.statusDatagram, allNodes, [s.fail.primary, 47100], s.statusBytes s.fail.primary⟩)) ∧
  (∀ (edge source : Nat) (b : List Byte) (s : State), edge < 4 → s.portUp edge = true → s.portAwake = true →
    Leads (.icmpv6Message edge source 128 b) s (s.send ⟨.icmpv6, source, [edge, 129], b⟩) ∧
      Leads (.icmpv6Message edge source 135 b) s (s.send ⟨.neighbourAdvertisement, edge, [ownDigest, source], []⟩) ∧
      Leads (.icmpv6Message edge source 130 b) s (s.send ⟨.icmpv6, source, [edge, 143], []⟩)) ∧
  (∀ (source port : Nat) (b : List Byte) (s : State), s.power.vigil = .vigil → headerGood b = true → field b 4 4 = 1 →
    field b 8 8 = (s.queue 1).tail → field b 16 2 = 0x9011 → (s.queue 1).tail < (s.queue 1).head + 2 ^ (s.queue 1).log2Size →
    ∃ t : State, Leads (.wakeDatagram source port b) s t ∧ t.power.vigil = .waking ∧
      ∃ c : Command, t.commands = (s.takePackets source port b).commands ++ [c] ∧ c.op = .vigilWake ∧ c.queue = 1 ∧
        c.index = (s.queue 1).tail) ∧
  (∀ (edge : Nat) (s : State), edge < 4 → s.boot.lit = true → s.healthyEdge edge = true →
    Leads (.mgmtLinkUp edge) s (s.modEdge edge fun x => { x with mgmtUp := true, mgmtDownSince := none })) ∧
  (∀ (n : Nat) (s : State), s.healthyEdge s.fail.primary = true →
    (s.modEdge s.fail.primary fun x => { x with mgmtUp := false }).nextEdge s.fail.primary = some n →
    Leads .mgmtLinkLoss s ((s.modEdge s.fail.primary fun x => { x with mgmtUp := false }).movePrimary n))

/-- Admission, the placement of a peal and the rounds of the ring (03 R64, R73, R86, R88). A commit whose search fits reserves and goes on
to load, a re-placement that fits waits for its downbeat, and a search that does not fit writes its report and ends NO_FIT. A member
answers a PREPARE it can read and keeps what it reserves, takes the switch beat a COMMIT names, gives the reservation up on RELEASE, and
on its own 1 s after no word of its leader came and 256 beats went by. The leader collects the answers and closes the round when its wait
ends. -/
def Obligations.RoundEventsHappen : Prop :=
  (∀ (kit report : Nat) (c : Command) (k : Kit) (l : Load) (f : Finding) (s t : State), isPealKit kit = false → s.nextAdmission = some c →
    s.kit kit = some k → c.wait = .commit kit report → k.load = some l → k.mode = .loading →
    f = s.placeKit k l l.whole k.percentile k.marginShare none → f.failing = [] →
    t = ((s.noteAdmission (s.reportBytes kit 0xFFFFFFFF none f.placement f.uses)).reserve kit f).setWait c.id (.list 0) →
    s.crossing t = none → Leads (.admissionComplete kit) s t) ∧
  (∀ (kit report : Nat) (c : Command) (k : Kit) (l : Load) (f : Finding) (s : State), isPealKit kit = false → s.nextAdmission = some c →
    s.kit kit = some k → c.wait = .commit kit report → k.load = some l → k.mode = .loading →
    f = s.placeKit k l l.whole k.percentile k.marginShare none → f.failing ≠ [] →
    Leads (.admissionComplete kit) s (s.refuseCommit kit c report f)) ∧
  (∀ (kit report pct share : Nat) (c : Command) (k : Kit) (l : Load) (f : Finding) (s t : State), isPealKit kit = false →
    s.nextAdmission = some c → s.kit kit = some k → c.wait = .replace kit report pct share → k.load = some l → k.mode = .admitted →
    f = s.placeKit k l (k.share l) pct share k.placement → f.failing = [] →
    t = (s.placeTiles f.placement).modKit kit (fun x =>
      { x with next := some { f.placement with tilesInPlace := true }, percentile := pct, marginShare := share }) →
    s.crossing t = none → Leads (.admissionComplete kit) s (t.setWait c.id (.list 0))) ∧
  (∀ (kit report : Nat) (c : Command) (k : Kit) (s : State), isPealKit kit = true → s.nextAdmission = some c → s.kit kit = some k →
    c.wait = .commit kit report →
    Leads (.admissionComplete kit) s (s.startRound kit c false k.percentile k.marginShare report)) ∧
  (∀ (kit leader : Nat) (block : List Byte) (a : Answer) (s : State), s.reservation kit = none →
    a = s.prepareShare kit (PrepareBlock.ofBytes block) → a.answers = true → s.peal.leader = some leader →
    Leads (.prepare kit block) s (a.s.roundMessage leader 4 kit [a.status, a.slots] a.report)) ∧
  (∀ (kit member status slots : Nat) (report : List Byte) (s : State), (s.round kit).any (·.creation) = false →
    Leads (.prepareAnswer kit member status slots report) s ((s.takeAnswer kit member status slots report).settleRound kit)) ∧
  (∀ (kit : Nat) (r : Round) (s : State), s.round kit = some r → r.command ≠ 0 → r.sinceBeat + 32 ≤ s.beat.number →
    Leads (.prepareWaitExpiry kit) s
      (if r.creation then (s.clockTo (r.since + 12800000)).endCreationRound r
       else (s.clockTo (r.since + 12800000)).endPlacementRound r)) ∧
  (∀ (kit beat slots : Nat) (s : State), (s.round kit).any (·.creation) = false →
    Leads (.commit kit beat slots) s
      (State.modKit { s with peal := { s.peal with reservations := s.peal.reservations.map fun r =>
        if r.kit = kit then { r with switchBeat := some beat } else r } } kit fun k => { k with pealSlots := slots })) ∧
  (∀ (kit beat slots : Nat) (s : State), (s.round kit).any (·.creation) = true →
    Leads (.commit kit beat slots) s (s.dropRound kit) ∧ Leads (.release kit) s (s.dropCreation kit)) ∧
  (∀ (kit : Nat) (s : State), (s.round kit).any (·.creation) = false → Leads (.release kit) s (s.releaseReservation kit)) ∧
  (∀ (kit : Nat) (r : Reservation) (s : State), s.reservation kit = some r → r.switchBeat = none → r.sinceBeat + 256 ≤ s.beat.number →
    Leads (.reservationExpiry kit) s ((s.clockTo (r.since + 100000000)).releaseReservation kit)) ∧
  (∀ (kit leader : Nat) (block : List Byte) (n : Nat) (x d : Nat) (s : State), s.round kit = none → s.peal.leader = some leader →
    s.creationVerdict kit (padTo 64 (block.take 64))
      ((List.range ((block.length - 64) / 4)).map fun i => field block (64 + 4 * i) 4) = .refuse n x d →
    Leads (.pealKitCreateRound kit block) s (s.roundMessage leader 7 kit [n] [])) ∧
  (∀ (kit member status : Nat) (s : State), (s.round kit).any (·.creation) = true →
    Leads (.pealKitCreateAnswer kit member status) s ((s.takeAnswer kit member status 0 []).settleRound kit))

/-- Functions between their states (17 R397 to R399, R402 to R407). A freeze ends when its conditions hold, with the function's tier-1
lines written home and its waiting command complete. A saved image is the function's, at the place the command named, and the command's
RESULT is its length. A restore that has been tested is rebuilt from its image and leaves the function FROZEN; one whose image cannot be
read ends with that status. A reset whose Contexts are gone frees the function's queues and clears the partitions it alone holds. -/
def Obligations.VirtualFunctionEventsHappen : Prop :=
  (∀ (f : Nat) (s : State), f < 4096 → (s.function f).mode = .freezing → s.canFreeze f = true →
    Leads (.freezeComplete f) s
      (((s.cleanLines (s.function f).partitions).modFunction f fun v => { v with mode := .frozen }).completeWhere fun c =>
        c.wait == .vfFreeze f)) ∧
  (∀ (f : Nat) (s t : State), f < 4096 → (s.function f).mode = .saving →
    s.writeImage (s.function f).imageSpace (s.function f).imageAt (s.image f) = (t, stOk) →
    Leads (.imageWritten f 0) s
      ((((t.modFunction f fun v => { v with mode := .saved, imageBytes := (s.image f).length }).commands.filter fun c =>
          c.wait == .vfSave f)).foldl (fun u c => u.complete c stOk 0 (s.image f).length)
        (t.modFunction f fun v => { v with mode := .saved, imageBytes := (s.image f).length }))) ∧
  (∀ (f error : Nat) (s : State), f < 4096 → (s.function f).mode = .saving → error ≠ 0 →
    Leads (.imageWritten f error) s
      ((((s.modFunction f fun v => { v with mode := .frozen }).commands.filter fun c => c.wait == .vfSave f)).foldl
        (fun u c => u.complete c error 0 0) (s.modFunction f fun v => { v with mode := .frozen }))) ∧
  (∀ (f : Nat) (c : Command) (s : State), f < 4096 → (s.commands.find? fun c => c.wait == .vfRestore f) = some c →
    (s.function f).mode ≠ .restoring →
    (s.readImage (s.function f).imageSpace (s.function f).imageAt (s.function f).imageLength).status ≠ stOk →
    Leads (.restoreImageTested f) s
      ((s.readImage (s.function f).imageSpace (s.function f).imageAt (s.function f).imageLength).s.conclude c
        (plain (s.readImage (s.function f).imageSpace (s.function f).imageAt (s.function f).imageLength).status))) ∧
  (∀ (f n : Nat) (c : Command) (g : Got) (s t : State), f < 4096 → (s.commands.find? fun c => c.wait == .vfRestore f) = some c →
    (s.function f).mode ≠ .restoring →
    g = s.readImage (s.function f).imageSpace (s.function f).imageAt (s.function f).imageLength → g.status = stOk →
    g.s.imageVerdict f g.bytes (s.function f).imageLength = .done t n → (t.rebuild f g.bytes).room = true →
    (t.rebuild f g.bytes).misfit = none →
    Leads (.restoreImageTested f) s (t.modFunction f fun v => { v with mode := .restoring })) ∧
  (∀ (f : Nat) (g : Got) (s : State), f < 4096 → (s.function f).mode = .restoring →
    g = s.readImage (s.function f).imageSpace (s.function f).imageAt (s.function f).imageLength →
    Leads (.restoreRebuilt f) s
      (((g.s.rebuild f g.bytes).s.modFunction f fun v => { v with mode := .frozen }).completeWhere fun c => c.wait == .vfRestore f)) ∧
  (∀ (f : Nat) (s t : State), f < 4096 → (s.function f).mode = .resetting → t = s.destroyContexts f (s.kits.length + 2) →
    t.contextsOf f ≠ [] → Leads (.vfResetComplete f) s t) ∧
  (∀ (f : Nat) (s t u : State), f < 4096 → (s.function f).mode = .resetting → t = s.destroyContexts f (s.kits.length + 2) →
    t.contextsOf f = [] →
    u = (((s.function f).partitions.filter fun p => !(s.functions.any fun w => w.1 != f && w.2.partitions.contains p)).foldl
      State.clearPartition
      { t with queues := t.queues.filter fun q => !((t.functionQueues f).contains q.1)
               crings := t.crings.filter fun r => r.1 / 32 != f }).modFunction f (fun v => { v with mode := .enabled, wasSaved := false }) →
    Leads (.vfResetComplete f) s
      ((u.commands.filter fun c => c.wait == .vfReset f).foldl (fun s' c => s'.complete c stOk 0 (s.function f).squashed) u))

/-- Ring transfers (16 R369, R370, R372, R374, R384 to R386; 10 R251, R252). A target takes an OPEN it can serve and refuses one it cannot
with NACK, and every message on a lane returns its buffer's credit. A DATA message that the target holds is not written again. The source
records who is done and who refused, and 2 µs later sends the transfer again to those that could not take it. CREDIT gives buffers back
and lets what waits leave, RETRY sends a discarded message again, and a message for another member goes on at the next engine. The head
applies the records of STEP_DONE to the batch that they report. -/
def Obligations.RingTransferEventsHappen : Prop :=
  (∀ (source transfer lane channel : Nat) (f : OpenFields) (s : State), lane < 24 → s.inbound source transfer = none →
    (s.peal.finished.contains (source, transfer)) = false →
    (s.functions.any fun v => v.2.mode == .resetting && v.2.partitions.contains f.partition) = false →
    s.peal.inbound.length < 1024 → s.frozenPartition f.partition = false → s.openFault f = none →
    Leads (.openTransfer source transfer f lane channel) s
      (State.returnCredit
        { s with peal := { s.peal with inbound := s.peal.inbound ++
          [{ source, transfer, partition := f.partition, tile := f.tile, space := f.space, dst := f.dst, handle := f.handle,
             length := f.length, taken := [], chime := f.chime, error := 0, batchKit := f.handoff, batch := [] }] } } lane channel)) ∧
  (∀ (source transfer lane channel : Nat) (f : OpenFields) (s : State), lane < 24 → s.inbound source transfer = none →
    (s.peal.finished.contains (source, transfer)) = false →
    (s.functions.any fun v => v.2.mode == .resetting && v.2.partitions.contains f.partition) = false →
    (1024 ≤ s.peal.inbound.length ∨ s.frozenPartition f.partition = true) →
    Leads (.openTransfer source transfer f lane channel) s ((s.toMember source 0 .ringNack [transfer, 0] []).returnCredit lane channel)) ∧
  (∀ (source transfer lane channel status : Nat) (f : OpenFields) (s : State), lane < 24 → s.inbound source transfer = none →
    (s.peal.finished.contains (source, transfer)) = false →
    (s.functions.any fun v => v.2.mode == .resetting && v.2.partitions.contains f.partition) = false →
    s.peal.inbound.length < 1024 → s.frozenPartition f.partition = false → s.openFault f = some status →
    Leads (.openTransfer source transfer f lane channel) s
      ((s.toMember source 0 .ringNack [transfer, status] []).returnCredit lane channel)) ∧
  (∀ (source transfer index lane channel error : Nat) (missing : List Nat) (payload tags : List Byte) (x : Inbound) (s t : State),
    lane < 24 → (s.returnCredit lane channel).inbound source transfer = some x → x.taken.contains index = false →
    index < x.messages → x.batchKit = none →
    (s.returnCredit lane channel).takeUnits x lane index missing payload tags = (t, error) →
    Leads (.data source transfer index missing payload tags lane channel) s
      ((t.modInbound source transfer fun _ => { x with taken := x.taken ++ [index], error := error, batch := [] }).settleInbound
        { x with taken := x.taken ++ [index], error := error, batch := [] })) ∧
  (∀ (source transfer index lane channel : Nat) (missing : List Nat) (payload tags : List Byte) (x : Inbound) (s : State),
    lane < 24 → (s.returnCredit lane channel).inbound source transfer = some x → x.taken.contains index = true →
    Leads (.data source transfer index missing payload tags lane channel) s (s.returnCredit lane channel)) ∧
  (∀ (target transfer status lane channel : Nat) (s : State), lane < 24 →
    Leads (.doneMessage target transfer status lane channel) s ((s.ringDone target transfer status).returnCredit lane channel)) ∧
  (∀ (target transfer reason lane channel : Nat) (s : State), lane < 24 →
    Leads (.nack target transfer reason lane channel) s ((s.ringNack target transfer reason).returnCredit lane channel)) ∧
  (∀ (transfer : Nat) (x : Transfer) (s : State), s.transfer transfer = some x → x.ring = true → x.nacked ≠ [] →
    Leads (.openRetry transfer) s (s.sendRing transfer x.nacked)) ∧
  (∀ (lane channel count : Nat) (l out : Lane16) (s : State), lane < 24 → s.peal.lanes[lane]? = some l →
    out = (List.range (min count ((l.kept.filter (·.1 == channel)).length))).foldl
      (fun (l : Lane16) _ => { l.give channel with kept := dropKept channel l.kept }) l →
    Leads (.credit lane channel count) s ((s.setLane lane out).flushLane lane out.waiting.length)) ∧
  (∀ (lane sequence channel : Nat) (l : Lane16) (m : Msg) (s : State), lane < 24 → s.peal.lanes[lane]? = some l →
    l.kept[sequence]? = some (channel, m) →
    Leads (.retry lane sequence) s ((s.setLane lane { l with retries := l.retries + 1 }).send m)) ∧
  (∀ (lane target channel flits d : Nat) (rest : List Nat) (s : State), lane < 24 → channel < 4 →
    torusPath s.peal.sizes s.peal.coordinate target = d :: rest →
    Leads (.cutThroughForward lane target none channel flits) s
      ((State.onLane { s with peal := { s.peal with forwarded := s.peal.forwarded + 1 } } (6 * (lane / 6) + d)
        (nextChannel s.peal.sizes s.peal.coordinate (opposite (lane % 6)) d channel)
        ⟨.ringForward, target,
          [6 * (lane / 6) + d, nextChannel s.peal.sizes s.peal.coordinate (opposite (lane % 6)) d channel, flits], []⟩).returnCredit
        lane channel)) ∧
  (∀ (lane channel flits d : Nat) (target : Nat) (rest : List Nat) (s : State), lane < 24 → channel < 2 →
    torusPath s.peal.sizes s.peal.coordinate target = d :: rest →
    Leads (.cutThroughForward lane target (some s.peal.coordinate) channel flits) s
      ((State.onLane { s with peal := { s.peal with forwarded := s.peal.forwarded + 1 } } (6 * (lane / 6) + d) 2
        ⟨.ringForward, target, [6 * (lane / 6) + d, 2, flits], []⟩).returnCredit lane channel)) ∧
  (∀ (kit beat : Nat) (records : List Byte) (k : Kit) (b : Batch) (live : List (Nat × StepDesc)) (s : State), s.kit kit = some k →
    k.batches.find? (·.beat == beat) = some b → isPealKit kit = true → s.isHead k = true →
    live = ((List.range b.steps.length).zip b.steps).filter (fun e => (s.seq e.2.seq).any fun x => x.mode != .lost) →
    Leads (.stepDone kit beat records) s
      (live.foldl (fun u e => u.stepDone e.2.seq)
        (s.modKit kit fun k =>
          { k with results := k.results ++ (live.filter fun e => e.2.produces).map fun e =>
                    ({ step := e.2, bytes := padTo 128 (slice records (128 * e.1) 128) } : PendingResult)
                   batches := k.batches.filter (·.beat != beat) })))

/-- The members of a peal (02 R52; 16 R371, R374 to R381, R388, R389). A SYNC records the neighbour's beat, estimate and offset. A CTRL is
read by the state the module is in. A lower candidate of an election is taken and passed on. A change of the map is kept and flooded, a
lost member is noted for the next downbeat, and an accepted period is taken. A link that goes down loses what it holds and is logged; it
comes up again when its retraining succeeds. A module that does not come to a peal in time stands alone. -/
def Obligations.MembershipEventsHappen : Prop :=
  (∀ (lane : Nat) (f : SyncFields) (l : Lane16) (s : State), lane < 24 → s.peal.lanes[lane]? = some l → l.up = true →
    s.peal.inPeal = false →
    Leads (.sync lane f) s
      ((s.returnCredit lane 4).setLane lane { l with
        syncAt := s.now, beatDifference := (f.beat : Int) - s.beat.number, neighbourEstimate := f.estimate,
        offsets := (f.offset :: l.offsets).take 64 }).steer.reportLocked) ∧
  (∀ s : State, Leads .syncExchange s
    ((List.range 24).foldl (fun u i => u.onLane i 4 ⟨.ringSync, i, [u.beat.number, ofSigned 8 u.peal.estimate], []⟩) s)) ∧
  (∀ (lane : Nat) (f : CtrlFields) (s : State), lane < 24 →
    (s.peal.mode = .forming → Leads (.ctrl lane f) s ((s.returnCredit lane 4).ctrlForming lane f)) ∧
    (s.peal.mode = .joining → Leads (.ctrl lane f) s ((s.returnCredit lane 4).ctrlJoining lane f)) ∧
    (s.peal.mode = .member ∨ s.peal.mode = .leaving → Leads (.ctrl lane f) s ((s.returnCredit lane 4).ctrlMember f)) ∧
    (s.peal.mode = .alone ∨ s.peal.mode = .asleep → Leads (.ctrl lane f) s (s.returnCredit lane 4))) ∧
  (∀ (lane candidate beat : Nat) (s : State), lane < 24 → s.peal.inPeal = true → s.peal.officeBeat = some beat →
    s.peal.members.contains candidate = true → s.peal.candidate.any (· ≤ candidate) = false →
    Leads (.elect lane candidate) s
      ((State.floodElect { s with peal := { s.peal with candidate := some candidate } } candidate).returnCredit lane 4)) ∧
  (∀ (lane candidate : Nat) (s : State), lane < 24 → s.peal.inPeal = true → s.peal.candidate.any (· ≤ candidate) = true →
    Leads (.elect lane candidate) s (s.returnCredit lane 4)) ∧
  (∀ (m lanes : Nat) (down : List (Nat × Nat)) (s : State), s.peal.inPeal = true → m ≠ s.peal.coordinate →
    s.peal.members.contains m = true →
    down = s.peal.lanesDown.filter (·.1 != m) ++ ((List.range 24).filter fun i => !(bit lanes i)).map (fun i => (m, i)) →
    down ≠ s.peal.lanesDown →
    Leads (.memberMapChange m lanes true) s
      ((State.rerouted { s with peal := { s.peal with lanesDown := down } } s).floodMap m lanes true)) ∧
  (∀ (m : Nat) (s : State), s.peal.inPeal = true → m ≠ s.peal.coordinate → s.peal.members.contains m = true →
    (∀ lanes, Leads (.memberMapChange m lanes false) s (s.memberLost m)) ∧
    Leads (.memberLost m) s
      ((State.memberOut { s with peal := { s.peal with lost := addOnce s.peal.lost m } } m).floodMap m 0 false)) ∧
  (∀ (period build guard_ beat : Nat) (s : State), s.peal.inPeal = true →
    Leads (.periodChangePropagate period build guard_ beat) s (s.takePeriod 0 period build guard_ beat)) ∧
  (∀ (lane : Nat) (l : Lane16) (t s : State), lane < 24 → s.peal.lanes[lane]? = some l → l.up = true →
    t = (s.setLane lane { l.fresh with up := false, offsets := [] }).logFailure 0x17 0xFF lane →
    Leads (.ringLinkDown lane) s
      (if s.peal.inPeal then ((t.rerouted s).floodMap s.peal.coordinate t.laneMask true) else t)) ∧
  (∀ (lane : Nat) (l : Lane16) (e : EdgeDie) (t s : State), lane < 24 → s.peal.lanes[lane]? = some l →
    tget s.fail.edges (lane / 6) = some e → l.up = false → e.up = true →
    ¬(dimSize s.peal.sizes (lane % 6 / 2) ≤ 1 ∧ s.peal.inPeal = true) → t = s.setLane lane { l.fresh with up := true } →
    Leads (.ringLinkRetrain lane true) s
      (if s.peal.inPeal then ((t.rerouted s).floodMap s.peal.coordinate t.laneMask true) else t)) ∧
  (∀ s : State, s.peal.mode = .forming ∨ s.peal.mode = .joining → s.peal.admitBeat = none →
    Leads .formationTimeout s ((s.clockTo (s.peal.since + 100000 * s.peal.timeout)).standAlone none stUnreachable))

/-- Power, heat and Vigil (18 R411 to R422, R426 to R433; 21 R486). The governor's step ramps the cap, sets clock and duty by the meter's
mean and counts a throttled microsecond, and keeps f at or below 600 MHz in ride-through. A droop of a die in service is counted and holds
its cores, or fails the die. A lease that lapses leaves FALLBACK in force. The thermal cap falls when a sensor is at its threshold, rises
when every one has been 2 °C below for 1 s, and follows the inlet. A trip takes its unit out once, and recovery brings a stack pair back.
Vigil entry at D(E) disarms, stops the beat and brings the companion domain down; a wake that fails leaves the module held. -/
def Obligations.PowerEventsHappen : Prop :=
  (∀ (mean : Nat) (g : Nat × Nat) (t s : State), s.power.vigil ≠ .vigil → s.power.input.powered = true →
    t = { s with power := { s.power with rampedCap := s.power.ramped } } →
    g = governed s.power.riding t.effectiveCap mean s.power.clock s.power.duty →
    Leads (.governorStep mean) s
      (State.capState { t with power := { t.power with
        clock := g.1, duty := g.2, meanUs := mean, energy := s.power.energy + mean
        throttleUs := s.power.throttleUs + (if g.2 < 64 then 1 else 0)
        droops := s.power.droops.filter fun x => decide (s.now < x.2 + 100) } } false)) ∧
  (∀ (st : Nat) (holds : Bool) (t s : State), st < 54 → (s.die st).mode = .inService →
    t = { s with power := { s.power with
      droopEvents := s.power.droopEvents + 1, droops := s.power.droops ++ [(st, s.now)] } } →
    Leads (.droop st holds) s (if holds then t else t.computeDieFailure st false)) ∧
  (∀ (l : Lease) (t s : State), s.power.lease = some l → t = s.clockTo (l.renewedAt + l.length) →
    Leads .leaseLapse s
      ((State.attend { t with power := { t.power with
        lease := none, lapsed := true, leaseLapsed := t.power.leaseLapsed + 1 } } 14).capState false)) ∧
  (∀ (r : Readings) (temps : List (Nat × Int)) (s : State), s.power.vigil ≠ .vigil → s.power.input.powered = true →
    temps = r.temps.foldl (fun t x => tset t x.1 x.2) s.power.temps →
    (temps.any fun x => decide (s.power.threshold x.1 ≤ x.2)) = true →
    ∃ t, Leads (.thermalCapUpdate r) s (State.capState t false) ∧ t.power.temps = temps ∧ t.power.inlet = r.inlet ∧
      t.power.outlet = r.outlet ∧ t.power.meanMs = r.mean ∧ t.power.input.voltage = r.voltage ∧
      t.power.thermalCap =
        min (min s.power.thermalCap (max 1200000 (r.mean - 50000))) (inletCap s.power.inletMax r.inlet)) ∧
  (∀ (r : Readings) (temps : List (Nat × Int)) (since : Option Nat) (s : State), s.power.vigil ≠ .vigil →
    s.power.input.powered = true → temps = r.temps.foldl (fun t x => tset t x.1 x.2) s.power.temps →
    (temps.any fun x => decide (s.power.threshold x.1 ≤ x.2)) = false →
    since = (if temps.all fun x => decide (x.2 ≤ s.power.threshold x.1 - 20) then some (s.power.coolSince.getD s.now) else none) →
    ∃ t, Leads (.thermalCapUpdate r) s (State.capState t false) ∧ t.power.temps = temps ∧ t.power.coolSince = since ∧
      t.power.thermalCap =
        min (if since.any (fun t => decide (t + 100000 ≤ s.now)) then min 4000000 (s.power.thermalCap + 50000)
          else s.power.thermalCap) (inletCap s.power.inletMax r.inlet)) ∧
  (∀ s : State, s.power.vigil ≠ .vigil → s.power.input.powered = true →
    Leads .telemetryRewrite s { s with power := { s.power with telemetry := s.telemetryBytes 15 none 0 } }) ∧
  (∀ (unit : Nat) (t s : State), sensorUnit unit = true → s.power.tripped.contains unit = false →
    t = State.attend { s with power := { s.power with
      tripped := addOnce s.power.tripped unit, trips := s.power.trips + 1 } } 15 →
    (unit < 54 → (t.die unit).mode = .inService → Leads (.thermalTrip unit) s (t.computeDieFailure unit true)) ∧
    (54 ≤ unit → unit < 58 → Leads (.thermalTrip unit) s (t.edgeLost (unit - 54))) ∧
    (64 ≤ unit → unit < 84 → Leads (.thermalTrip unit) s (t.setPairOut (stackPair (unit - 64)) true)) ∧
    (128 ≤ unit → Leads (.thermalTrip unit) s (t.baseDieReset (unit - 128) 1))) ∧
  (∀ (unit : Nat) (s : State), sensorUnit unit = true → s.power.tripped.contains unit = true →
    (unit < 64 ∨ 84 ≤ unit →
      Leads (.tripRecovery unit) s { s with power := { s.power with tripped := s.power.tripped.filter (· != unit) } }) ∧
    (64 ≤ unit → unit < 84 →
      ((s.power.tripped.filter (· != unit)).any fun u => 64 ≤ u && u < 84 && stackPair (u - 64) == stackPair (unit - 64)) = false →
      Leads (.tripRecovery unit) s
        (State.setPairOut { s with power := { s.power with tripped := s.power.tripped.filter (· != unit) } }
          (stackPair (unit - 64)) false))) ∧
  (∀ (others : List Command) (s t u : State), s.power.vigil = .entering → s.beat.running = true → s.now = s.beat.start →
    others = s.commands.filter (fun c => c.wait != .vigil) → others = [] →
    t = s.completeWhere (fun c => c.wait == .vigil) →
    u = t.signals.foldl (fun v g => v.applySignal g) { t with signals := [] } →
    Leads .vigilEntry s
      (let v := State.gateDies (State.declareDown
          { u with almanac := { u.almanac with mode := .disarmed, due := [], disarmAtDownbeat := false }
                   beat := { u.beat with running := false } } 7 0xFF)
       { v with peal := { v.peal with mode := if v.peal.mode = .member then .asleep else v.peal.mode }
                power := { v.power with vigil := .vigil, listener := v.fail.primary } })) ∧
  (∀ (s t : State), s.power.vigil = .waking →
    t = s.powerUpDies.modBoot (fun b =>
      { b with verified := false, released := false, running := none, claim := .none, load := Delivery.empty }) →
    Leads (.wakeComplete false) s
      ((t.commands.filter fun c => c.wait == .wake).foldl (fun u c => u.complete c stImageRejected 0 0) t)) ∧
  (∀ (s t : State), s.power.vigil = .waking → s.powerUpDies.peal.mode ≠ .asleep → t = s.powerUpDies.startBeat 0 →
    Leads (.wakeComplete true) s ((t.commands.filter fun c => c.wait == .wake).foldl (fun u c => u.complete c stOk 0 0) t))

/-- The 48 V input (18 R423; 20 R453 to R455; 22 R495). Precharge starts the sensing. 50 ms in range qualify the power, and the main
switch closes once power is qualified and the main contact is mated. An input below 36 V or above 63 V takes the dies' power at once.
Between those and 40 V to 60 V a powered module rides through with f at 600 MHz at most, ends its ride when the input returns, and loses
power when it has lasted 10 ms. A withdrawal leaves no contact mated. -/
def Obligations.InputEventsHappen : Prop :=
  (∀ (v : Nat) (s : State), s.power.input.prechargeMated = false →
    Leads (.prechargeMate v) s
      (s.setInput (({ s.power.input with returnMated := true, prechargeMated := true, mode := .absent } : InputState).sensed v s.now))) ∧
  (∀ (t s : State), s.power.input.prechargeMated = true → s.power.input.qualifiedAt = none → s.power.input.mode = .inRange →
    t = s.clockTo (s.power.input.inRangeSince + 5000000) →
    Leads .powerQualified s (t.setInput { s.power.input with qualifiedAt := some t.now }).closeSwitch) ∧
  (∀ s : State, s.power.input.prechargeMated = true → s.power.input.mainMated = false →
    Leads .mainContactMate s (s.setInput { s.power.input with mainMated := true }).closeSwitch) ∧
  (∀ s : State, s.power.input.prechargeMated = true → s.power.input.mainMated = false → s.power.input.qualifiedAt.isSome = true →
    s.power.input.switchClosed = none →
    ∃ t, Leads .mainContactMate s t ∧ t.power.input.switchClosed = some s.now ∧ t.power.input.powered = true) ∧
  (∀ s : State, Leads .withdrawal s ((s.powerOff).setInput InputState.reset)) ∧
  (∀ (v : Nat) (s : State), v < 3600 ∨ 6300 < v → s.power.input.prechargeMated = true →
    Leads (.inputVoltageFault v) s (s.powerOff.setInput { s.powerOff.power.input with voltage := v })) ∧
  (∀ (since : Nat) (s : State), s.power.input.mode = .riding since →
    Leads .rideThroughExpiry s ((s.clockTo (since + 1000000)).powerOff)) ∧
  (∀ (v : Nat) (s : State), 3600 ≤ v → v ≤ 6300 → (v < 4000 ∨ 6000 < v) → s.power.input.prechargeMated = true →
    s.power.input.powered = true → (s.power.input.switchClosed.any fun t => decide (s.now < t + 2000000)) = false →
    s.power.riding = false →
    Leads (.inputRangeExcursion v) s
      { s with power := { s.power with
        input := { s.power.input with mode := .riding s.now, voltage := v }, clock := min s.power.clock 600 } }) ∧
  (∀ (v : Nat) (s : State), 4000 ≤ v → v ≤ 6000 → s.power.input.prechargeMated = true → s.power.riding = true →
    Leads (.inputRangeReturn v) s (s.setInput { s.power.input with mode := .inRange, voltage := v })) ∧
  (∀ (v : Nat) (s : State), 4000 ≤ v → v ≤ 6000 → s.power.input.prechargeMated = true → s.power.riding = false →
    Leads (.inputRangeReturn v) s (s.setInput (s.power.input.sensed v s.now)))

/-- Start-up and firmware (01 R17 to R19; 08 R205; 19 R449; 20 R457 to R470). Stage 1 takes the edge dies' results and names the lowest
one that may be primary, or faults. The load area's fill lets an image be received. Training takes out the pairs of stacks that failed,
the check of an image starts what it decides, the fill leaves both tiers zero and unmarked, station firmware runs at every station in the
mesh, and the compute dies that fail their tests are lost. At a downbeat at which the conditions hold the cores are released, with the
device Kit and queue 0. A live update that runs keeps its image, and one that does not is rejected with reason 9. A rolling station update
writes one station after another and ends IMAGE_REJECTED when a controller does not start. -/
def Obligations.StartUpEventsHappen : Prop :=
  (∀ (results : List EdgeResult) (e : Nat) (t u s : State), s.power.input.qualifiedAt.isSome = true → s.boot.lit = false →
    s.boot.startFault = 0 → t = (List.range 4).foldl (fun v e => v.takeEdge results e) s → (List.range 4).any t.healthyEdge = true →
    u = State.startLinks (t.modBoot fun b => { b with lit := true }) (List.range 54) →
    (List.range 4).find? u.primaryAble = some e →
    Leads (.edgeSelfTest results) s
      (State.modBoot { u with fail := { u.fail with primary := e } } fun b => { b with stage1 := true })) ∧
  (∀ (results : List EdgeResult) (t s : State), s.power.input.qualifiedAt.isSome = true → s.boot.lit = false →
    s.boot.startFault = 0 → t = (List.range 4).foldl (fun v e => v.takeEdge results e) s → (List.range 4).any t.healthyEdge = false →
    Leads (.edgeSelfTest results) s (t.startFault 1)) ∧
  (∀ s : State, s.boot.stage1 = true → s.boot.loadReady = false →
    (s.baseOut 5 = true → s.baseOut 53 = true → Leads .loadReady s (s.startFault 2)) ∧
    (¬(s.baseOut 5 = true ∧ s.baseOut 53 = true) → Leads .loadReady s (s.modBoot fun b => { b with loadReady := true }))) ∧
  (∀ (failed dies lanes : List Nat) (t s : State), s.boot.stage1 = true → s.boot.trained = false →
    t = (failed.foldl (fun u x => u.losePair (stackPair x)) (dies.foldl (fun u x => u.markDie (x / 32) (x % 32) 4)
      (lanes.foldl (fun u p => u.laneRepaired p) s))).modBoot (fun b => { b with trained := true }) →
    Leads (.stackTraining failed dies lanes) s (if t.pairsOut = 2 ^ 10 - 1 then t.startFault 3 else t)) ∧
  (∀ s : State, s.boot.verified = false → s.boot.load.verifying = true → Leads .imageVerified s s.checkLoad) ∧
  (∀ s : State, s.boot.verified = true → s.boot.staging.verifying = true → Leads .imageVerified s s.checkStaging) ∧
  (∀ (micros : Nat) (s : State), s.boot.trained = true → s.boot.fillDone = false →
    ∃ t, Leads (.memoryFill micros) s t ∧ t.mem.t1 = [] ∧ t.mem.t2 = [] ∧ t.mem.tags = [] ∧ t.mem.deadBits = [] ∧
      t.mem.poison1 = [] ∧ t.mem.pairs = s.mem.pairs.map (fun p => { p with errors := [], poison := [] }) ∧
      t.boot.fillDone = true ∧ t.boot.fillTime = micros) ∧
  (∀ s : State, s.boot.verified = true → s.boot.fillDone = true → s.boot.stationsStarted = false →
    ∃ t, Leads .stationFwStarted s t ∧ t.boot.stationsStarted = true ∧ t.fail.stationImage = s.newestImage ∧
      t.fail.bases = tmapv s.fail.bases fun st b => if s.baseOut st then b else { b with firmware := s.newestImage }) ∧
  (∀ (failed : List Nat) (flash : Nat) (t s : State), s.boot.stationsStarted = true → s.boot.diesTested = false →
    t = ((failed.filter fun st => (s.die st).mode == .inService).foldl (fun u st => u.dieLost st false) s).modBoot (fun b =>
      { b with diesTested := true, flashRead := flash != 3, fellBack := flash == 1, floorMissing := flash == 2,
               floor := if flash = 2 then 0 else b.floor }) →
    Leads (.computeSelfTest failed flash) s (if flash = 3 then t.startFault 4 else t)) ∧
  (∀ (i : Image) (t s : State), s.boot.released = false → s.releasable = true → s.beat.running = true → s.now = s.beat.start →
    s.boot.running = some i → s.peal.mode ≠ .asleep →
    t = s.modBoot (fun b =>
      { b with released := true, floor := i.raise s.boot.floor, floorMissing := b.floorMissing && !i.raiseFloor }) →
    Leads .coreRelease s t.createDeviceKit.createQueue0) ∧
  (∀ (u : LiveUpdate) (at_ : Nat) (i : Image) (t s : State), s.boot.liveUpdate = some u → u.restartedAt = some at_ →
    s.boot.staged = some i → t = (s.clockTo (at_ + 15000)).modBoot (fun b => { b with liveUpdate := none }) →
    Leads (.liveUpdateCheck true) s
      ((t.modBoot fun b =>
        { b with running := some i, load := b.staging, floor := i.raise s.boot.floor
                 floorMissing := b.floorMissing && !i.raiseFloor }).completeId u.command stOk 0 0)) ∧
  (∀ (u : LiveUpdate) (at_ : Nat) (t s : State), s.boot.liveUpdate = some u → u.restartedAt = some at_ →
    t = (s.clockTo (at_ + 15000)).modBoot (fun b => { b with liveUpdate := none }) →
    Leads (.liveUpdateCheck false) s ((t.rejectImage 9).completeId u.command stImageRejected 0 0)) ∧
  (∀ (u : StationUpdate) (st : Nat) (rest : List Nat) (s : State), s.fail.stationUpdate = some u → u.restarting = none →
    s.updateRest u = st :: rest →
    Leads .stationUpdateNext s
      { s with fail := { s.fail with
        stationUpdate := some { u with restarting := some (st, s.now), again := u.again.filter (· != st) } } }) ∧
  (∀ (u : StationUpdate) (s : State), s.fail.stationUpdate = some u → u.restarting = none → s.updateRest u = [] →
    Leads .stationUpdateNext s s.endUpdate) ∧
  (∀ (u : StationUpdate) (st at_ : Nat) (b : BaseDie) (s : State), s.fail.stationUpdate = some u → u.restarting = some (st, at_) →
    tget s.fail.bases st = some b →
    Leads (.stationControllerRestart false) s
      (State.completeId { s with fail := { s.fail with stationUpdate := none, stationImage := b.firmware } }
        u.command stImageRejected 0 0)) ∧
  (∀ (u v : StationUpdate) (st at_ : Nat) (t w s : State), s.fail.stationUpdate = some u → u.restarting = some (st, at_) →
    v = { u with restarting := none, next := max u.next (st + 1) } →
    t = (s.modBase st fun b => { b with firmware := u.image }).logFailure 0x19 st 0xFF →
    w = { t with fail := { t.fail with stationUpdate := some v } } →
    Leads (.stationControllerRestart true) s (if (w.updateRest v).isEmpty then w.endUpdate else w))

/-- Failed dies and their return (19 R436 to R449). A compute die in service that fails has the steps that touch it cancelled and is lost,
and what waits on units is looked at again. A STARTING die that passes joins, unless its clock table is stale, and one that fails is
retired. A FAILED die that passes its restart is intercalary. A measured die is intercalary with 28 or more cores that reach 608 MHz, and
is retired with fewer. A watchdog or a router error resets the base die, with what is reached through it, and a base die that rejoins runs
the module's station firmware. An edge die whose heartbeat is missing is lost. -/
def Obligations.FailureEventsHappen : Prop :=
  (∀ (st : Nat) (s : State), st < 54 → (s.die st).mode = .inService →
    Leads (.computeDieFailure st) s ((s.cancelTouched (stationCores st) [] st 0xFF).dieLost st false).retestAll) ∧
  (∀ (st : Nat) (s : State), st < 54 → (s.die st).mode ≠ .inService → Leads (.computeDieFailure st) s s) ∧
  (∀ (st : Nat) (s : State), st < 54 → (s.die st).mode = .starting → (s.die st).joining = false →
    Leads (.dieSelfTestDone st true) s (if (s.die st).staleTable then s else s.modDie st fun d => { d with joining := true }) ∧
    Leads (.dieSelfTestDone st false) s ((s.retireDie st).failDieCommands st).autoIntercalate) ∧
  (∀ (st : Nat) (s : State), st < 54 → (s.die st).mode = .failed → s.baseOut st = false → s.untripped st = true →
    Leads (.dieRestartDone st true) s (s.modDie st fun d => { d with mode := .intercalary, byTrip := false }) ∧
    Leads (.dieRestartDone st false) s (s.retireDie st)) ∧
  (∀ (st passing : Nat) (steps : List Nat) (t s : State), st < 54 → (s.die st).mode = .measuring →
    passing = ((List.range 32).filter fun i => 608 ≤ steps.getD i 0).length →
    t = (if 28 ≤ passing then
        ((s.takeTable st steps).logFailure 0x1A st passing).modDie st fun d => { d with mode := .intercalary, staleTable := false }
      else ((s.takeTable st steps).logFailure 0x1A st passing).retireDie st) →
    (∀ c, (t.commands.find? fun c => c.wait == .recalibrate st) = some c →
      Leads (.recalibrationDone st steps) s
        ((t.writeResult (param c.op c.packet 1) (tableRecord steps)).complete c stOk 0 c.result)) ∧
    ((t.commands.find? fun c => c.wait == .recalibrate st) = none → Leads (.recalibrationDone st steps) s t)) ∧
  (∀ (st : Nat) (steps : List Nat) (s : State), st < 54 → (s.die st).mode = .starting → (s.die st).staleTable = true →
    Leads (.recalibrationDone st steps) s
      (((s.takeTable st steps).logFailure 0x1A st ((List.range 32).filter fun i => 608 ≤ steps.getD i 0).length).modDie st fun d =>
        { d with staleTable := false, joining := true })) ∧
  (∀ (st : Nat) (t s : State), st < 54 → s.baseOut st = false → t = s.resetBase st 0 →
    Leads (.stationWatchdog st) s
      ((((List.range 54).filter fun x => !(t.baseOut x) && !(t.reachable x)).foldl
        (fun u x => u.resetBase x 3) t).loadAreaLost).retestAll) ∧
  (∀ (st : Nat) (t s : State), st < 54 → s.baseOut st = false → t = s.resetBase st 2 →
    Leads (.routerStateError st) s
      ((((List.range 54).filter fun x => !(t.baseOut x) && !(t.reachable x)).foldl
        (fun u x => u.resetBase x 3) t).loadAreaLost).retestAll) ∧
  (∀ (st : Nat) (back s : State), st < 54 → s.baseOut st = true → s.untripped (128 + st) = true →
    back = s.modBase st (fun b => { b with out := false, cause := 0 }) → back.reachable st = true →
    s.fail.stationUpdate = none → s.boot.startFault ≠ 2 →
    Leads (.baseDieRejoin st) s
      ((((back.modBase st fun b => { b with firmware := s.fail.stationImage }).startLinks [st]).refillPins st).retestAll)) ∧
  (∀ (e : Nat) (s : State), e < 4 → Leads (.edgeHeartbeatTimeout e) s (s.edgeLost e))
end

