-- ==== Sys2Proof/Laws/Commands.lean ====
section
/-!
SUPPORT. What reading a packet at HEAD of a queue does, once for all commands.
-/
namespace Sys2Proof.Machine
open Sys2Proof

/-- With no PARTITION_SET pending, no command crosses one. -/
theorem State.crossing_none {s : State} (h : s.partitionChanges = []) (t : State) : s.crossing t = none := by
  simp [State.crossing, h]

/-- With no PARTITION_SET pending, a verdict stands. -/
theorem State.heedPartitions_of_none {s : State} (h : s.partitionChanges = []) (v : Verdict) : s.heedPartitions v = v := by
  cases v <;> simp [State.heedPartitions, State.crossing_none h]

/-- A command that is permitted, well formed and of no lost Context meets the verdict of its effect, unless that is a refusal. -/
theorem judge_of_good {effect : Call → State → Verdict} {k : Call} {s : State} {v : Verdict}
    (hop : ∀ n, k.cmd.op ≠ .undefinedOpcode n) (hp : permitted k.cmd.op k.function = true) (hm : malformed k.cmd = none)
    (hl : s.lostContext k.context = false) (hv : effect k s = v) (hr : ∀ st d r, v ≠ .refuse st d r) : judge effect k s = v := by
  unfold judge
  split
  · rename_i n h; exact absurd h (hop n)
  · cases v with
    | refuse st d r => exact absurd rfl (hr st d r)
    | done | fail | defer => simp [hp, hm, hl, hv]

/-- A command that is read now is judged, and its verdict leads to the state in which it is concluded. -/
theorem State.runCommand_reads {s : State} {op : Op} {q : Nat} {p : Packet} (h : s.reads op q p = true) :
    s.runCommand effectOf op q p = s.concluded op q p (judge (effectOf op) (s.callOf op q p) (s.onRead op q p)) := by
  simp only [State.reads, Bool.and_eq_true, Bool.not_eq_true', Option.isNone_iff_eq_none] at h
  obtain ⟨⟨⟨⟨⟨h1, h2⟩, h3⟩, h5⟩, h6⟩, h7⟩ := h
  have h3' : (!s.boot.verified && opGroup op != 0xB) = false := by
    cases hv : s.boot.verified <;> simp_all
  have h4 : (!s.boot.released && opGroup op != 0xB) = false := by
    cases hv : s.boot.released <;> simp_all
  have hboot : (s.onRead op q p).boot = s.boot := rfl
  have hadm : (s.onRead op q p).admitCommand effectOf (s.atHead op q p) =
      s.concluded op q p (judge (effectOf op) (s.callOf op q p) (s.onRead op q p)) := by
    unfold State.admitCommand
    have hg : opGroup (s.atHead op q p).op = opGroup op := rfl
    rw [hboot, hg, h4]
    have hq : (s.onRead op q p).queue (s.atHead op q p).queue = (s.callOf op q p).queue := rfl
    have hc : (s.callOf op q p).cmd = s.atHead op q p := rfl
    simp only [hq, Bool.false_eq_true, if_false]
    rw [← hc, h6, h7]
    simp only [Bool.or_self, Bool.false_eq_true, if_false]
    rfl
  unfold State.runCommand
  simp only [h1, h2, h3', Bool.not_true, Bool.false_eq_true, if_false]
  have h5' : (p.barrier && s.commands.any fun o => o.queue == q) = false := h5
  simp only [h5', Bool.false_eq_true, if_false]
  exact hadm

/-- A command that is read now runs: its verdict leads to the state in which it is concluded. -/
theorem State.runCommand_takes {s : State} {op : Op} {q : Nat} {p : Packet} {v : Verdict} (h : s.takes op q p = true)
    (hop : ∀ n, op ≠ .undefinedOpcode n) (hv : ownEffectOf op (s.callOf op q p) (s.onRead op q p) = v)
    (hr : ∀ st d r, v ≠ .refuse st d r) : s.runCommand effectOf op q p = s.concluded op q p v := by
  simp only [State.takes, Bool.and_eq_true, Bool.not_eq_true', Option.isNone_iff_eq_none, List.isEmpty_iff] at h
  obtain ⟨⟨⟨⟨h1, h8⟩, h9⟩, h10⟩, h11⟩ := h
  have hon : (s.onRead op q p).partitionChanges = [] := h11
  have heff : effectOf op (s.callOf op q p) (s.onRead op q p) = v := by
    rw [effectOf, hv, State.heedPartitions_of_none hon]
  rw [State.runCommand_reads h1, judge_of_good (k := s.callOf op q p) (v := v) hop h8 h9 h10 heff hr]
end Sys2Proof.Machine
end

