-- ==== Sys2Proof/Laws/Complete.lean ====
section
/-!
SUPPORT. How statements of completion are proved: from a command's own effect for packets, from the event's own function for events.
-/
namespace Sys2Proof.Machine
open Sys2Proof

/-- A packet command completes where its own effect is done. -/
theorem completes_of {op : Op} {row : Nat → Packet → Instr} {good : Call → State → Prop} {t : Call → State → State}
    {r : Call → State → Nat} (hrow : ∀ q p s, exec (row q p) s = packetCommand op q p s) (hop : ∀ n, op ≠ .undefinedOpcode n)
    (h : ∀ c s, good c s → ownEffectOf op c s = .done (t c s) (r c s)) : Completes op row good t r := by
  intro q p s ht hg
  rw [hrow, packetCommand, State.runCommand_takes ht hop (h _ _ hg) (by simp)]

/-- A packet command waits where its own effect is deferred. -/
theorem waits_of {op : Op} {row : Nat → Packet → Instr} {good : Call → State → Prop} {t : Call → State → State}
    {w : Call → State → Wait} {r : Call → State → Nat} (hrow : ∀ q p s, exec (row q p) s = packetCommand op q p s)
    (hop : ∀ n, op ≠ .undefinedOpcode n) (h : ∀ c s, good c s → ownEffectOf op c s = .defer (t c s) (w c s) (r c s)) :
    Waits op row good t w r := by
  intro q p s ht hg
  rw [hrow, packetCommand, State.runCommand_takes ht hop (h _ _ hg) (by simp)]

/-- A query replies in a datagram where its own effect does so. -/
theorem replies_of {op : Op} {row : Nat → Packet → Instr} {good : Call → State → Prop} {t : Call → State → State}
    {b : Call → State → List Byte} (hrow : ∀ q p s, exec (row q p) s = packetCommand op q p s)
    (hop : ∀ n, op ≠ .undefinedOpcode n)
    (h : ∀ c s, good c s →
      ownEffectOf op c s = .defer (((t c s).complete c.cmd stOk 0 0).resultDatagram c.cmd.queue (b c s)) .downbeat 0) :
    Replies op row good t b := by
  intro q p s ht hg
  rw [hrow, packetCommand, State.runCommand_takes ht hop (h _ _ hg) (by simp)]
  rfl

/-- The first refusal that applies decides. -/
theorem guards_cons {a : Bool × Verdict} {l : List (Bool × Verdict)} {v : Verdict} :
    guards (a :: l) v = if a.1 then a.2 else guards l v := by
  cases a; rfl

theorem guards_nil {v : Verdict} : guards [] v = v := rfl

/-- Where no refusal applies, what follows them decides. -/
theorem guards_of_none {l : List (Bool × Verdict)} {v : Verdict} (h : noneApplies l) : guards l v = v := by
  induction l with
  | nil => rfl
  | cons a l ih =>
    have := h a (by simp)
    rw [guards_cons]; simp [this]; exact ih fun x hx => h x (by simp [hx])

theorem noneApplies_append {l m : List (Bool × Verdict)} : noneApplies (l ++ m) ↔ noneApplies l ∧ noneApplies m := by
  simp only [noneApplies, List.mem_append]
  exact ⟨fun h => ⟨fun x hx => h x (.inl hx), fun x hx => h x (.inr hx)⟩, fun h x hx => hx.elim (h.1 x) (h.2 x)⟩

theorem noneApplies_cons {a : Bool × Verdict} {l : List (Bool × Verdict)} :
    noneApplies (a :: l) ↔ a.1 = false ∧ noneApplies l := by
  simp only [noneApplies, List.mem_cons, forall_eq_or_imp]

theorem noneApplies_nil : noneApplies [] := by simp [noneApplies]

/-- An event leads where its own function does. -/
theorem leads_of {c : Instr} {s t u : State} (h : exec c s = event s u) (e : u = t) : Leads c s t := by rw [Leads, h, e]; rfl

/-- The same for an event at a unit that the module has. -/
theorem leads_at {c : Instr} {s t u : State} {b : Bool} (h : exec c s = eventAt b s u) (hb : b = true) (e : u = t) :
    Leads c s t := by rw [Leads, h, hb, e]; rfl

end Sys2Proof.Machine
end

