-- ==== Sys2Proof/Laws/Exec.lean ====
section
/-!
SUPPORT. What any command can do, once for all 312: it answers a next state and leaves the waiting commands, or names a missing unit.
-/
namespace Sys2Proof.Machine
open Sys2Proof

set_option maxHeartbeats 2000000 in
/-- What `exec` can do: it answers a next state, with the waiting commands as they were, or it stops at a unit that the module does not
have, and then the command is not well formed. -/
theorem exec_cases (c : Instr) (s : State) :
    (∃ t : State, exec c s = .next { t with pending := s.pending }) ∨ (exec c s = .fault .noSuchUnit ∧ wellFormed c = false) := by
  have hpacket : ∀ op q p (good : Bool), (∃ t : State, packetCommand op q p s = .next { t with pending := s.pending }) ∨
      (packetCommand op q p s = .fault .noSuchUnit ∧ good = false) := fun _ _ _ _ => Or.inl ⟨_, rfl⟩
  have hevent : ∀ (t : State) (good : Bool), (∃ u : State, event s t = .next { u with pending := s.pending }) ∨
      (event s t = .fault .noSuchUnit ∧ good = false) := fun _ _ => Or.inl ⟨_, rfl⟩
  have hat : ∀ (b : Bool) (t : State) (good : Bool), (good = true → b = true) →
      (∃ u : State, eventAt b s t = .next { u with pending := s.pending }) ∨ (eventAt b s t = .fault .noSuchUnit ∧ good = false) := by
    intro b t good h
    cases b with
    | true => exact Or.inl ⟨_, rfl⟩
    | false => exact Or.inr ⟨rfl, by cases good <;> simp_all⟩
  have hpipe : ∀ i (s' : State) a d f (good : Bool), s'.pending = s.pending → (good = true → insGood i = true) →
      (∃ u : State, pipeline i s' a d f = .next { u with pending := s.pending }) ∨
        (pipeline i s' a d f = .fault .noSuchUnit ∧ good = false) := by
    intro i s' a d f good hp h
    unfold pipeline
    split
    · refine Or.inr ⟨rfl, ?_⟩
      cases good
      · rfl
      · have := h rfl; simp only [insGood, coreGood, groupGood, Bool.and_eq_true, decide_eq_true_eq] at this; omega
    · exact Or.inl ⟨_, by rw [hp]⟩
  have hld : ∀ e i, (∃ u : State, execLd e i s = .next { u with pending := s.pending }) ∨
      (execLd e i s = .fault .noSuchUnit ∧ (eccGood e && insGood i) = false) := by
    intro e i
    unfold execLd
    split
    · refine Or.inr ⟨rfl, ?_⟩
      have : coreGood i.core = false := by simp [coreGood]; omega
      simp [insGood, this]
    · split
      · exact hpipe _ _ _ _ _ _ rfl (by simp)
      · split
        · exact hpipe _ _ _ _ _ _ rfl (by simp)
        · exact Or.inl ⟨_, rfl⟩
  cases c with
  | deviceNop | deviceQuery | undefinedOpcode | queueCreate | queueDestroy | queueStop | queueStart | queueQuery | cringSet |
  contextCreate | contextDestroy | contextQuery | coreRetire | dieIntercalate | clockRecalibrate | memAlloc | memFree | memQuery |
  dmaCopy | tier1RegionSet | tier1Config | tier1Pin | tier1Unpin | tier1Dead | tier1Counters | roInvalidate | modelBegin |
  modelDescribe | modelCommit | modelAbort | modelUnload | placeQuery | placeReplace | seqOpen | seqAppend | seqSet | seqPause |
  seqResume | seqTruncate | seqClose | seqQuery | seqPolicy | kitCreate | kitDestroy | kitQuery | kitLaunch | chimeInit |
  chimeSignal | chimeWait | chimeQuery | chimeClear | beatSetPeriod | almanacWrite | almanacRead | almanacArm | almanacDisarm |
  timeSetSource | timeQuery | overrunSetPolicy | pealForm | pealJoin | pealLeave | pealQuery | ringSend | partitionSet |
  partitionQuery | vfEnable | vfAssign | vfReset | vfFreeze | vfSave | vfRestore | vfResume | powerSetCap | powerQuery |
  thermalSetLimits | vigilEnter | vigilWake | eccDiagMode | eccRawWrite | eccRawRead | eccScrubSet | eccDieMark | eccLogRead |
  fwDeliver | fwLiveUpdate | identityQuery | attest | stationFwUpdate | edgePrimaryMove =>
    exact hpacket _ _ _ _
  | loadReturn | storeAck | bootGo | attention | registerWrite | downbeat | stepBuilderWalk | selectionDeadline | selectionPublished
  | guardStart | transferDeadline | launchWorkList | startDma | startRing | signalChime | sampleTelemetry | chimeSignalApplied |
  tilePublication | tileRead | homePortTileWrite | transferComplete | scrubStep | admissionComplete | prepare | prepareAnswer |
  prepareWaitExpiry | commit | release | reservationExpiry | openRetry | syncExchange | stepDone | memberMapChange |
  periodChangePropagate | pealKitCreateRound | memberLost | formationTimeout | holdoverTimeout | ptpMessage | cData | cAck | cNack |
  creqResend | cErr | domainDownComplete | transactionTimeout | linkHello | linkBlockChecked | linkReset | linkResetTimer |
  statusBroadcast | wakeDatagram | wakeComplete | vigilEntry | refillWindow | carillonPayload | carillonAck | carillonNack |
  bufferFree | carillonRetryTimer | carillonTimeout | governorStep | leaseLapse | thermalCapUpdate | telemetryRewrite |
  inputVoltageFault | rideThroughExpiry | prechargeMate | powerQualified | mainContactMate | withdrawal | edgeSelfTest | loadReady |
  stackTraining | imageVerified | memoryFill | stationFwStarted | computeSelfTest | coreRelease | liveUpdateCheck |
  stationUpdateNext | stationControllerRestart | repetition | mgmtLinkLoss | inputRangeExcursion | inputRangeReturn |
  pealKitCreateAnswer =>
    exact hevent _ _
  | iadd | isub | imul | imulhs | imulhu | imac | shl | shr | sar | andBits | orBits | xorBits | notBits | popc | clz | sel | fadd |
  fsub | fmul | fmac | fmin | fmax | fminnum | fmaxnum | rcp | sqrt | rsqrt | exp2 | log2 | sinpi | cospi | tanh | mov | movs | lxch
  | cvt | pset | pget | bra | brc | call | ret | endThreads | cld | cst | ldc | st | aadd | afadd | amin | amax | aumin | aumax |
  aand | aor | axor | axchg | acas | fence | bar | chwait | chset | nop | mbegin | mma | mmas | mread | mstore | mloadp | mred |
  mquant | tload | tstore =>
    exact hpipe _ _ _ _ _ _ rfl (fun h => h)
  | icmp =>
    exact hpipe _ _ _ _ _ _ rfl (fun h => (Bool.and_eq_true_iff.1 h).2)
  | fcmp =>
    exact hpipe _ _ _ _ _ _ rfl (fun h => (Bool.and_eq_true_iff.1 h).2)
  | ld =>
    exact hld _ _
  | windowSwap | doorbell | cringDoorbell | irqDelayExpiry | taskStart | taskRetire | switchRequest | drainComplete | saveComplete |
  restoreComplete | sliceAccess | fillComplete | partRebuilt | openTransfer | data | doneMessage | nack | sync | ctrl | credit |
  retry | cutThroughForward | elect | ringLinkDown | ringLinkRetrain | timingInputLost | timingInputRestored | linkCredit |
  engineState | cijanEngineLoss | managementDatagram | statusDatagram | icmpv6Message | nextGrant | linkTrainingResult | frameReplay
  | linkDegradedRetry | droop | thermalTrip | tripRecovery | mgmtLinkUp | launchAckTimeout | computeDieFailure | dieSelfTestDone |
  dieRestartDone | recalibrationDone | stationWatchdog | baseDieRejoin | edgeHeartbeatTimeout | freezeComplete | imageWritten |
  restoreRebuilt | vfResetComplete | restoreImageTested | linkHotWindow | routerStateError =>
    exact hat _ _ _ (fun h => h)
  | dRead | dWrite | dWriteTile =>
    exact hat _ _ _ (fun h => (Bool.and_eq_true_iff.1 h).1)

end Sys2Proof.Machine
end

