-- ==== Sys2Proof/Laws/Memory.lean ====
section
/-!
SUPPORT. Memories and tables: what each operation changes, and that every operation on a memory keeps its canonical form.
-/
namespace Sys2Proof.Machine
open Sys2Proof

/-! ### The canonical form -/

/-- The canonical form, without recursion: addresses strictly rising, and no entry that its address would read as unlisted. -/
theorem Memory.wf_iff {d : Nat → Byte} {m : Memory} :
    Memory.wf d m = true ↔ m.Pairwise (fun x y => x.1 < y.1) ∧ ∀ c ∈ m, c.2 ≠ d c.1 := by
  induction m with
  | nil => simp [Memory.wf]
  | cons x r ih =>
    obtain ⟨a, b⟩ := x
    cases r with
    | nil => simp [Memory.wf]
    | cons y r =>
      obtain ⟨a', b'⟩ := y
      simp only [Memory.wf, Bool.and_eq_true, bne_iff_ne, decide_eq_true_eq, ih, List.pairwise_cons, List.mem_cons,
        forall_eq_or_imp]
      constructor
      · rintro ⟨⟨h1, h2⟩, h3, h4, h5⟩
        exact ⟨⟨⟨h2, fun z hz => Nat.lt_trans h2 (h3.1 z hz)⟩, h3⟩, h1, h4, h5⟩
      · rintro ⟨⟨h1, h2⟩, h3, h4, h5⟩
        exact ⟨⟨h3, h1.1⟩, h2, h4, h5⟩

/-- What is left of a memory keeps the form. -/
theorem Memory.wf_filter {d : Nat → Byte} {m : Memory} (h : Memory.wf d m = true) (p : Host.Cell → Bool) :
    Memory.wf d (m.filter p) = true := by
  rw [Memory.wf_iff] at h ⊢
  exact ⟨h.1.filter p, fun c hc => h.2 c (List.mem_filter.1 hc).1⟩

/-- A write adds no address but its own. -/
theorem memSet_mem {d : Nat → Byte} {m : Memory} {a : Nat} {b : Byte} {c : Host.Cell} (h : c ∈ memSet d m a b) :
    (c = (a, b) ∧ b ≠ d a) ∨ (c ∈ m ∧ (Memory.wf d m = true → c.1 ≠ a)) := by
  induction m with
  | nil =>
    simp only [memSet] at h
    split at h <;> simp_all
  | cons x r ih =>
    obtain ⟨j, e⟩ := x
    have tail : Memory.wf d ((j, e) :: r) = true → Memory.wf d r = true ∧ ∀ z ∈ r, j < z.1 := by
      intro hw
      have := Memory.wf_iff.1 hw
      exact ⟨Memory.wf_iff.2 ⟨(List.pairwise_cons.1 this.1).2, fun z hz => this.2 z (by simp [hz])⟩,
        (List.pairwise_cons.1 this.1).1⟩
    simp only [memSet] at h
    split at h
    · rename_i hj
      rcases List.mem_cons.1 h with h | h
      · exact .inr ⟨by simp [h], fun _ => by rw [h]; simp; omega⟩
      · rcases ih h with h | h
        · exact .inl h
        · exact .inr ⟨by simp [h.1], fun hw => h.2 (tail hw).1⟩
    · rename_i hj
      split at h
      · rename_i hja
        split at h
        · exact .inr ⟨by simp [h], fun hw => by have := (tail hw).2 c h; omega⟩
        · rename_i hb
          rcases List.mem_cons.1 h with h | h
          · exact .inl ⟨h, hb⟩
          · exact .inr ⟨by simp [h], fun hw => by have := (tail hw).2 c h; omega⟩
      · rename_i hja
        have up : c ∈ (j, e) :: r → Memory.wf d ((j, e) :: r) = true → c.1 ≠ a := by
          intro hc hw
          rcases List.mem_cons.1 hc with hc | hc
          · rw [hc]; simp; omega
          · have := (tail hw).2 c hc; omega
        split at h
        · exact .inr ⟨h, up h⟩
        · rename_i hb
          rcases List.mem_cons.1 h with h | h
          · exact .inl ⟨h, hb⟩
          · exact .inr ⟨h, up h⟩

/-- A write of one byte keeps the form. -/
theorem memSet_wf {d : Nat → Byte} {m : Memory} (a : Nat) (b : Byte) (h : Memory.wf d m = true) :
    Memory.wf d (memSet d m a b) = true := by
  rw [Memory.wf_iff]
  constructor
  · induction m with
    | nil => simp only [memSet]; split <;> simp
    | cons x r ih =>
      obtain ⟨j, e⟩ := x
      have hw := Memory.wf_iff.1 h
      have hp := List.pairwise_cons.1 hw.1
      have hr : Memory.wf d r = true := Memory.wf_iff.2 ⟨hp.2, fun z hz => hw.2 z (by simp [hz])⟩
      simp only [memSet]
      split
      · rename_i hj
        refine List.pairwise_cons.2 ⟨fun z hz => ?_, ih hr⟩
        rcases memSet_mem hz with h | h
        · rw [h.1]; exact hj
        · exact hp.1 z h.1
      · rename_i hj
        split
        · rename_i hja
          split
          · exact hp.2
          · exact List.pairwise_cons.2 ⟨fun z hz => by have := hp.1 z hz; simp at this ⊢; omega, hp.2⟩
        · rename_i hja
          split
          · exact hw.1
          · refine List.pairwise_cons.2 ⟨fun z hz => ?_, hw.1⟩
            rcases List.mem_cons.1 hz with hz | hz
            · rw [hz]; simp; omega
            · have := hp.1 z hz; simp at this ⊢; omega
  · intro c hc
    rcases memSet_mem hc with h' | h'
    · rw [h'.1]; exact h'.2
    · exact (Memory.wf_iff.1 h).2 c h'.1

/-- A write of bytes keeps the form. -/
theorem memWrite_wf {d : Nat → Byte} (bytes : List Byte) : ∀ {m : Memory} (a : Nat), Memory.wf d m = true →
    Memory.wf d (memWrite d m a bytes) = true := by
  induction bytes with
  | nil => intro m a h; exact h
  | cons b r ih => intro m a h; exact ih (a + 1) (memSet_wf a b h)

/-- Clearing bytes keeps the form. -/
theorem memZero_wf {d : Nat → Byte} {m : Memory} (a n : Nat) (h : Memory.wf d m = true) : Memory.wf d (memZero m a n) = true :=
  Memory.wf_filter h _

/-- The listed bytes of a part keep the form, at their offsets. -/
theorem memSlice_wf {m : Memory} (a n : Nat) (h : Memory.wf zeroByte m = true) : Memory.wf zeroByte (memSlice m a n) = true := by
  rw [Memory.wf_iff] at h ⊢
  constructor
  · rw [memSlice, List.pairwise_map]
    refine (h.1.filter _).imp_of_mem ?_
    intro x y hx hy hxy
    have h1 := List.mem_filter.1 hx
    have h2 := List.mem_filter.1 hy
    simp at h1 h2
    simp; omega
  · intro c hc
    rw [memSlice, List.mem_map] at hc
    obtain ⟨x, hx, rfl⟩ := hc
    exact h.2 x (List.mem_filter.1 hx).1

/-- A part put in keeps the form. -/
theorem memPaste_wf {m src : Memory} (a n : Nat) (h : Memory.wf zeroByte m = true) (hs : Memory.wf zeroByte src = true) :
    Memory.wf zeroByte (memPaste m a n src) = true := by
  rw [Memory.wf_iff] at h hs ⊢
  rw [memPaste]
  constructor
  · rw [List.pairwise_append, List.pairwise_append, List.pairwise_map]
    refine ⟨⟨h.1.filter _, (hs.1.filter _).imp fun hxy => by simp; exact hxy, ?_⟩, h.1.filter _, ?_⟩
    · intro x hx y hy
      have h1 := List.mem_filter.1 hx
      obtain ⟨z, _, rfl⟩ := List.mem_map.1 hy
      simp at h1 ⊢; omega
    · intro x hx y hy
      have h2 := List.mem_filter.1 hy
      simp at h2
      rcases List.mem_append.1 hx with hx | hx
      · have h1 := List.mem_filter.1 hx
        simp at h1; omega
      · obtain ⟨z, hz, rfl⟩ := List.mem_map.1 hx
        have h1 := List.mem_filter.1 hz
        simp at h1 ⊢; omega
  · intro c hc
    rcases List.mem_append.1 hc with hc | hc
    · rcases List.mem_append.1 hc with hc | hc
      · exact h.2 c (List.mem_filter.1 hc).1
      · obtain ⟨z, hz, rfl⟩ := List.mem_map.1 hc
        exact hs.2 z (List.mem_filter.1 hz).1
    · exact h.2 c (List.mem_filter.1 hc).1

/-! ### Reading after writing -/

/-- A byte written reads as it was written, every other byte as before. -/
theorem memGet_memSet (d : Nat → Byte) (m : Memory) (a x : Nat) (b : Byte) (h : Memory.wf d m = true) :
    memGet d (memSet d m a b) x = if x = a then b else memGet d m x := by
  induction m with
  | nil =>
    simp only [memSet, memGet]
    split <;> simp_all [memGet] <;> grind
  | cons y r ih =>
    obtain ⟨j, e⟩ := y
    have hw := Memory.wf_iff.1 h
    have hp := List.pairwise_cons.1 hw.1
    have hr : Memory.wf d r = true := Memory.wf_iff.2 ⟨hp.2, fun z hz => hw.2 z (by simp [hz])⟩
    have low : ∀ z, z ≤ j → memGet d r z = d z := by
      intro z hz
      cases r with
      | nil => rfl
      | cons w r =>
        obtain ⟨k, f⟩ := w
        have := hp.1 (k, f) (by simp)
        simp only [memGet]
        rw [if_neg (by simp at this; omega), if_pos (by simp at this; omega)]
    simp only [memSet]
    split
    · simp only [memGet, ih hr]
      grind
    · rename_i hj
      split
      · rename_i hja
        split
        · rename_i hb
          simp only [memGet]
          by_cases hx : x = a
          · rw [if_pos hx, hb, hx]; exact low a (by omega)
          · rw [if_neg hx, if_neg (by omega)]
            split
            · rename_i hlt; exact low x (by omega)
            · rfl
        · simp only [memGet]; grind
      · rename_i hja
        split
        · rename_i hb
          simp only [memGet]
          grind
        · simp only [memGet]
          grind

/-- Bytes written read as they were written, every other byte as before. -/
theorem memGet_memWrite (d : Nat → Byte) (bytes : List Byte) : ∀ (m : Memory) (a x : Nat), Memory.wf d m = true →
    memGet d (memWrite d m a bytes) x =
      if a ≤ x ∧ x < a + bytes.length then bytes.getD (x - a) 0 else memGet d m x := by
  induction bytes with
  | nil => intro m a x _; simp [memWrite] <;> omega
  | cons b r ih =>
    intro m a x h
    rw [memWrite, ih _ _ _ (memSet_wf a b h), memGet_memSet d m a x b h]
    by_cases h1 : x = a
    · subst h1; simp <;> omega
    · by_cases h2 : a + 1 ≤ x ∧ x < a + 1 + r.length
      · rw [if_pos h2, if_pos (by simp; omega)]
        have : x - a = (x - (a + 1)) + 1 := by omega
        rw [this]; simp
      · rw [if_neg h2, if_neg h1, if_neg (by simp; omega)]

/-- Bytes read are as many as were asked for. -/
@[simp] theorem memRead_length (d : Nat → Byte) (m : Memory) (a n : Nat) : (memRead d m a n).length = n := by simp [memRead]

/-- What was written is read back. -/
theorem memRead_memWrite (d : Nat → Byte) (m : Memory) (a : Nat) (bytes : List Byte) (h : Memory.wf d m = true) :
    memRead d (memWrite d m a bytes) a bytes.length = bytes := by
  apply List.ext_getElem
  · simp
  · intro i h1 h2
    simp [memRead, memGet_memWrite d bytes m a (a + i) h, h2]

/-! ### Tables -/

/-- The entry put reads as put, every other as before. -/
theorem tget_tset {α : Type} (t : List (Nat × α)) (k j : Nat) (v : α) :
    tget (tset t k v) j = if j = k then some v else tget t j := by
  induction t with
  | nil => simp only [tset, tget]; grind
  | cons x r ih =>
    obtain ⟨i, a⟩ := x
    simp only [tset]
    split
    · simp only [tget, ih]; grind
    · split <;> (simp only [tget]; grind)

/-- An entry removed is gone, every other is as before. -/
theorem tget_terase {α : Type} (t : List (Nat × α)) (k j : Nat) :
    tget (terase t k) j = if j = k then none else tget t j := by
  induction t with
  | nil => simp [terase, tget]
  | cons x r ih =>
    obtain ⟨i, a⟩ := x
    simp only [terase]
    split
    · simp only [tget, ih]; grind
    · simp only [tget, ih]; grind

/-- Changing an entry changes what is read of it alone. -/
theorem tget_tmod {α : Type} (t : List (Nat × α)) (k j : Nat) (f : α → α) :
    tget (tmod t k f) j = if j = k then (tget t k).map f else tget t j := by
  induction t with
  | nil => simp [tmod, tget]
  | cons x r ih =>
    obtain ⟨i, a⟩ := x
    simp only [tmod]
    split
    · simp only [tget]; grind
    · simp only [tget, ih]; grind

/-! ### Bytes -/

@[simp] theorem leBytes_length (n v : Nat) : (leBytes n v).length = n := by
  induction n generalizing v with
  | zero => rfl
  | succ n ih => simp [leBytes, ih]

@[simp] theorem slice_length (b : List Byte) (o n : Nat) : (slice b o n).length = n := by
  simp [slice] <;> omega

@[simp] theorem padTo_length (b : List Byte) (n : Nat) : (padTo n b).length = n := slice_length b 0 n

@[simp] theorem zeros_length (n : Nat) : (zeros n).length = n := by simp [zeros]

/-- A number is read back from as many bytes as it takes. -/
theorem leNat_leBytes (n v : Nat) : leNat (leBytes n v) = v % 256 ^ n := by
  induction n generalizing v with
  | zero => simp [leBytes, leNat, Nat.mod_one]
  | succ n ih =>
    simp only [leBytes, leNat, ih, BitVec.toNat_ofNat]
    have h256 : (2 : Nat) ^ 8 = 256 := rfl
    rw [h256, Nat.pow_succ, Nat.mul_comm (256 ^ n) 256, Nat.mod_mul]

end Sys2Proof.Machine
end

