-- ==== Sys2Proof/Laws/Pipeline.lean ====
section
/-!
SUPPORT. What a group's registers and predicates hold after a write, and what issuing an instruction does, once for all instructions.
-/
namespace Sys2Proof.Machine
open Sys2Proof

/-- A register written reads as written in the threads of the mask, and every other register as before (04 R93, R102). -/
theorem Group.read_write (g : Group) (r x t : Nat) (m : U64) (f : Nat → Word) (ht : t < 64) :
    (g.write r m f).read x t = if x = r ∧ m.getLsbD t = true then f t else g.read x t := by
  have hreg : (g.write r m f).reg x = if x = r then
      (List.range 64).map fun t => if m.getLsbD t then f t else (g.reg r).getD t 0 else g.reg x := by
    have hw : (g.write r m f).regs =
        if ((List.range 64).map fun t => if m.getLsbD t then f t else (g.reg r).getD t 0).all (· == 0) then terase g.regs r
        else tset g.regs r ((List.range 64).map fun t => if m.getLsbD t then f t else (g.reg r).getD t 0) := rfl
    rw [Group.reg, tgetD, hw]
    generalize hn : ((List.range 64).map fun t => if m.getLsbD t then f t else (g.reg r).getD t 0) = new
    have hl : new.length = 64 := by rw [← hn]; simp
    split
    · rename_i hall
      rw [tget_terase]
      split
      · apply List.ext_getElem
        · simp [hl]
        · intro i h1 h2
          simp only [List.all_eq_true, beq_iff_eq] at hall
          simp only [Option.getD_none, List.getElem_replicate]
          exact (hall _ (List.getElem_mem h2)).symm
      · rfl
    · rw [tget_tset]
      split <;> rfl
  simp only [Group.read, hreg]
  by_cases hx : x = r
  · subst hx
    simp [List.getD_eq_getElem?_getD, ht]
  · simp [hx]

/-- A register write leaves the rest of the group. -/
@[simp] theorem Group.write_preds (g : Group) (r : Nat) (m : U64) (f : Nat → Word) : (g.write r m f).preds = g.preds := rfl
@[simp] theorem Group.write_active (g : Group) (r : Nat) (m : U64) (f : Nat → Word) : (g.write r m f).active = g.active := rfl
@[simp] theorem Group.write_stack (g : Group) (r : Nat) (m : U64) (f : Nat → Word) : (g.write r m f).stack = g.stack := rfl
@[simp] theorem Group.write_pc (g : Group) (r : Nat) (m : U64) (f : Nat → Word) : (g.write r m f).pc = g.pc := rfl
@[simp] theorem Group.write_fpStatus (g : Group) (r : Nat) (m : U64) (f : Nat → Word) : (g.write r m f).fpStatus = g.fpStatus := rfl
@[simp] theorem Group.raise_read (g : Group) (n r t : Nat) : (g.raise n).read r t = g.read r t := rfl
@[simp] theorem Group.step_read (g : Group) (r t : Nat) : g.step.read r t = g.read r t := rfl
@[simp] theorem Group.touch_read (g : Group) (l m : List Nat) (r t : Nat) : (g.touch l m).read r t = g.read r t := rfl
@[simp] theorem Group.touch_preds (g : Group) (l m : List Nat) : (g.touch l m).preds = g.preds := rfl
@[simp] theorem Group.touch_active (g : Group) (l m : List Nat) : (g.touch l m).active = g.active := rfl
@[simp] theorem Group.touch_stack (g : Group) (l m : List Nat) : (g.touch l m).stack = g.stack := rfl
@[simp] theorem Group.touch_pc (g : Group) (l m : List Nat) : (g.touch l m).pc = g.pc := rfl
@[simp] theorem Group.touch_fpStatus (g : Group) (l m : List Nat) : (g.touch l m).fpStatus = g.fpStatus := rfl

/-- An instruction that may issue and that its class's rule carries out has that effect. -/
theorem pipeline_of_issues {i : Ins} {s t : State} {src dst : List Nat} {f : State → Block → Group → Issued} {b : Block} {g h : Group}
    (hi : s.issues i (src ++ dst) b g = true) (hf : f (s.fetched i b g) b g = .done t h) :
    pipeline i s src dst f = .next (s.issuedTo i src dst t h) := by
  simp only [State.issues, Bool.and_eq_true, decide_eq_true_eq, Option.isNone_iff_eq_none, Bool.not_eq_true', beq_iff_eq] at hi
  obtain ⟨⟨⟨⟨⟨⟨⟨h1, h2⟩, h3⟩, h4⟩, h5⟩, h6⟩, h7⟩, h8⟩ := hi
  have hslot : ∃ slot, (s.core i.core).window.findIdx? (· == some i.group) = some slot := by
    rw [← Option.isSome_iff_exists, List.findIdx?_isSome]
    simpa [List.any_eq_true] using List.contains_iff_mem.1 h5
  obtain ⟨slot, hslot⟩ := hslot
  cases hg : b.groups[i.group]? with
  | none => simp [hg] at h6
  | some g0 =>
    simp only [hg, Bool.and_eq_true, Bool.not_eq_true', beq_iff_eq] at h6
    obtain ⟨⟨hfin, hwait⟩, hrec⟩ := h6
    have hfe : (s.fetch i.core b.partition g0.reconverge.pc).2 = none := by rw [← hrec]; exact h8
    simp only [State.fetched] at hf
    rw [pipeline, if_neg (by omega)]
    simp only [State.issueIns, h4, hslot, hg, h3, hfin, hwait, h7, hfe]
    simp only [State.issuedTo, hslot, hrec] at *
    simp [hf]

/-! ### What issue leaves of the machine -/

theorem lmod_get {α : Type} (f : α → α) : ∀ (l : List α) (n k : Nat), (lmod l n f)[k]? = if k = n then l[k]?.map f else l[k]?
  | [], n, k => by simp [lmod]
  | a :: r, 0, k => by cases k <;> simp [lmod]
  | a :: r, n + 1, k => by
    cases k with
    | zero => simp [lmod]
    | succ k => simp [lmod, lmod_get f r n k]

theorem State.core_modCore (s : State) (c k : Nat) (f : Core → Core) :
    (s.modCore c f).core k = if k = c then f (s.core c) else s.core k := by
  simp only [State.core, State.modCore, tupd, tgetD, tget_tset]
  split <;> simp_all

/-- A change of a group changes no other group and no other part of a core. -/
theorem State.core_modGroup (s : State) (c g k : Nat) (f : Group → Group) :
    (s.modGroup c g f).core k =
      if k = c then { s.core c with block := (s.core c).block.map fun b => { b with groups := lmod b.groups g f } } else s.core k := by
  rw [State.modGroup, State.core_modCore]

/-- A fetch changes the instruction cache of its core and the count of reads of dead lines. -/
theorem State.fetch_frame (s : State) (core p pc : Nat) :
    (s.fetch core p pc).1 = { s with cores := (s.fetch core p pc).1.cores,
                                     mem := { s.mem with counters := (s.fetch core p pc).1.mem.counters } } ∧
      ∀ k, ((s.fetch core p pc).1.core k) = { s.core k with instrCache := ((s.fetch core p pc).1.core k).instrCache } ∧
        (k ≠ core → (s.fetch core p pc).1.core k = s.core k) := by
  have hread : s.inScratch p (pc / 128 * 128) 128 = true →
      (s.unitRead 0 0 (pc / 128 * 128) 128).s =
        { s with mem := { s.mem with counters := (s.unitRead 0 0 (pc / 128 * 128) 128).s.mem.counters } } := by
    intro h
    simp only [State.inScratch, Bool.and_eq_true, decide_eq_true_eq] at h
    have hr : region (pc / 128 * 128) = .tier1 := by rw [region, if_pos (by omega)]
    simp only [State.unitRead, hr, Nat.zero_ne_one, if_false, State.count]
    split <;> first | rfl | (split <;> first | rfl | (split <;> rfl))
  simp only [State.fetch]
  split
  · refine ⟨rfl, fun k => ?_⟩
    rw [State.core_modCore]
    split
    · rename_i h; subst h; exact ⟨rfl, fun h => absurd rfl h⟩
    · exact ⟨rfl, fun _ => rfl⟩
  · split
    · exact ⟨rfl, fun k => ⟨rfl, fun _ => rfl⟩⟩
    · rename_i h
      have hr := hread (by simpa using h)
      have hc : ∀ k, (s.unitRead 0 0 (pc / 128 * 128) 128).s.core k = s.core k := by
        intro k; rw [hr]; rfl
      split
      · refine ⟨?_, fun k => ?_⟩
        · show (s.unitRead 0 0 (pc / 128 * 128) 128).s = _
          rw [hr]
        · show (s.unitRead 0 0 (pc / 128 * 128) 128).s.core k = _ ∧ _
          rw [hc]; exact ⟨rfl, fun _ => rfl⟩
      · refine ⟨?_, fun k => ?_⟩
        · rw [State.modCore, hr]
        · rw [State.core_modCore]
          split
          · rename_i h; subst h; rw [hc]; exact ⟨rfl, fun h => absurd rfl h⟩
          · rw [hc]; exact ⟨rfl, fun _ => rfl⟩

/-- A group that may issue is a group of the block of its core. -/
theorem State.issues_group {s : State} {i : Ins} {regs : List Nat} {b : Block} {g : Group} (hi : s.issues i regs b g = true) :
    (s.core i.core).block = some b ∧ ∃ g0, b.groups[i.group]? = some g0 := by
  simp only [State.issues, Bool.and_eq_true, beq_iff_eq] at hi
  obtain ⟨⟨⟨⟨⟨-, h4⟩, -⟩, h6⟩, -⟩, -⟩ := hi
  refine ⟨h4, ?_⟩
  cases hg : b.groups[i.group]? with
  | none => simp [hg] at h6
  | some g0 => exact ⟨g0, rfl⟩

/-- An instruction that changes its group alone leaves that group, and nothing else is changed. -/
theorem State.issuedTo_fetched {s : State} {i : Ins} {regs src dst : List Nat} {b : Block} {g : Group}
    (hi : s.issues i regs b g = true) (g1 : Group) :
    (s.issuedTo i src dst (s.fetched i b g) g1).groupAt i.core i.group = some (g1.touch src dst) ∧
      s.onlyGroup (s.issuedTo i src dst (s.fetched i b g) g1) i.core i.group := by
  obtain ⟨hb, g0, hg0⟩ := State.issues_group hi
  obtain ⟨hf, hk⟩ := State.fetch_frame s i.core b.partition g.pc
  rw [← State.fetched] at hf hk
  have hbf : ((s.fetched i b g).core i.core).block = some b := by rw [(hk i.core).1]; exact hb
  have hcore : ∀ c, (s.issuedTo i src dst (s.fetched i b g) g1).core c =
      if c = i.core then { ((s.fetched i b g).modGroup i.core i.group fun _ => g1.touch src dst).core i.core with
        lastSlot := ((s.core i.core).window.findIdx? (· == some i.group)).getD 0 } else (s.fetched i b g).core c := by
    intro c
    have e : (s.issuedTo i src dst (s.fetched i b g) g1).core c =
        (((s.fetched i b g).modGroup i.core i.group fun _ => g1.touch src dst).modCore i.core fun c =>
          { c with lastSlot := ((s.core i.core).window.findIdx? (· == some i.group)).getD 0 }).core c := rfl
    rw [e, State.core_modCore]
    split
    · rfl
    · rename_i h; rw [State.core_modGroup, if_neg h]
  have hblock : ((s.issuedTo i src dst (s.fetched i b g) g1).core i.core).block =
      some { b with groups := lmod b.groups i.group fun _ => g1.touch src dst } := by
    rw [hcore, if_pos rfl]
    simp only [State.core_modGroup, if_true, hbf, Option.map_some]
  refine ⟨?_, ?_, ?_, ?_, ?_⟩
  · simp only [State.groupAt, hblock, Option.bind_some, lmod_get, if_true, hg0, Option.map_some]
  · simp only [State.issuedTo, State.modGroup, State.modCore]
    rw [hf]
  · intro c hc
    rw [hcore, if_neg hc, (hk c).2 hc]
  · intro k hkk
    simp only [State.groupAt, hblock, hb, Option.bind_some, lmod_get, if_neg hkk]
  · simp only [hblock, hb, Option.map_some]

theorem Group.compute_fpStatus (g : Group) (i : Ins) (f : Nat → Word × Nat) (n : Nat) (hn : n < 32) :
    ((g.compute i f).fpStatus.getLsbD n = true ↔
      g.fpStatus.getLsbD n = true ∨ ∃ t, t < 64 ∧ (g.exec i).getLsbD t = true ∧ ((f t).2).testBit n = true) := by
  have key : ∀ (l : List Nat) (a : Nat), ((l.foldl (fun a t => a ||| (f t).2) a).testBit n = true ↔
      a.testBit n = true ∨ ∃ t ∈ l, ((f t).2).testBit n = true) := by
    intro l
    induction l with
    | nil => simp
    | cons x l ih => intro a; rw [List.foldl_cons, ih]; simp [or_assoc]
  show ((g.fpStatus ||| BitVec.ofNat 32 _).getLsbD n = true) ↔ _
  rw [BitVec.getLsbD_or, BitVec.getLsbD_ofNat, Bool.or_eq_true]
  simp only [hn, decide_true, Bool.true_and, key, threadsOf, List.mem_filter, List.mem_range]
  simp [and_assoc]

/-- Writing a register group by group of an instruction's threads. -/
theorem Group.compute_wrote (g : Group) (i : Ins) (f : Nat → Word × Nat) (src dst : List Nat) :
    g.wrote ((g.compute i f).touch src dst) i i.d (fun t => (f t).1) ∧ g.raised ((g.compute i f).touch src dst) i (fun t => (f t).2) := by
  refine ⟨⟨fun t ht => ?_, fun x t ht hx => ?_, rfl, rfl, rfl, rfl⟩, fun n hn => Group.compute_fpStatus g i f n hn⟩
  · show ((g.write i.d (g.exec i) fun t => (f t).1)).read i.d t = _
    rw [Group.read_write _ _ _ _ _ _ ht]; simp
  · show ((g.write i.d (g.exec i) fun t => (f t).1)).read x t = _
    rw [Group.read_write _ _ _ _ _ _ ht, if_neg (fun h => hx h.1)]

/-- An instruction that computes a register completes as `WritesRegister` says. -/
theorem writesRegister_of {row : Ins → Instr} {src dst : Ins → List Nat} {good : Ins → Block → Group → Prop}
    {f : Ins → Block → Group → Nat → Word × Nat} {e : Ins → State → Block → Group → Issued}
    (hrow : ∀ i s, exec (row i) s = pipeline i s (src i) (dst i) (e i))
    (he : ∀ i s b g, good i b g → e i s b g = .done s (g.compute i (f i b g))) :
    WritesRegister row (fun i => src i ++ dst i) good f := by
  intro i s b g hi hg
  have := Group.compute_wrote g i (f i b g) (src i) (dst i)
  have h2 := State.issuedTo_fetched (src := src i) (dst := dst i) hi (g.compute i (f i b g))
  exact ⟨_, _, by rw [hrow, pipeline_of_issues hi (he i _ b g hg)], h2.1, this.1, this.2, h2.2⟩

theorem Group.predMask_writePred (g : Group) (p x : Nat) (m : U64) (f : Nat → Bool) (hp : p < 7) (hl : g.preds.length = 7) :
    (g.writePred p m f).predMask x = if x = p then
      BitVec.ofNat 64 (maskOf ((List.range 64).filter fun t => if m.getLsbD t then f t else (g.predMask p).getLsbD t))
      else g.predMask x := by
  by_cases h7 : x = 7
  · subst h7
    rw [if_neg (by omega)]
    rfl
  · simp only [Group.predMask, if_neg h7]
    show (lmod g.preds p _).getD x 0 = _
    rw [List.getD_eq_getElem?_getD, lmod_get]
    split
    · rename_i h
      subst h
      rw [List.getElem?_eq_getElem (by omega)]
      rfl
    · rw [List.getD_eq_getElem?_getD]

/-- The bits of a mask are the numbers listed, below 64. -/
theorem maskOf_testBit (l : List Nat) (n : Nat) (hn : n < 64) : (maskOf l).testBit n = l.contains n := by
  have key : ∀ k, k ≤ 64 → (List.range k).foldl (fun a i => if l.contains i then a + 2 ^ i else a) 0 < 2 ^ k ∧
      ∀ j, ((List.range k).foldl (fun a i => if l.contains i then a + 2 ^ i else a) 0).testBit j = (decide (j < k) && l.contains j) := by
    intro k
    induction k with
    | zero => intro _; simp
    | succ k ih =>
      intro hk
      obtain ⟨h1, h2⟩ := ih (by omega)
      rw [List.range_succ, List.foldl_append, List.foldl_cons, List.foldl_nil]
      generalize (List.range k).foldl (fun a i => if l.contains i then a + 2 ^ i else a) 0 = a at h1 h2
      split
      · rename_i hc
        refine ⟨by rw [Nat.pow_succ]; omega, fun j => ?_⟩
        have e : a + 2 ^ k = 2 ^ k * 1 ||| a := by rw [← Nat.two_pow_add_eq_or_of_lt h1]; omega
        rw [e, Nat.testBit_or, h2, Nat.mul_one, Nat.testBit_two_pow]
        by_cases hj : j = k
        · subst hj; simp only [decide_true, Bool.true_or, hc, Bool.and_true]; simp
        · have h3 : (decide (j < k + 1)) = decide (j < k) := by rw [decide_eq_decide]; omega
          rw [h3, decide_eq_false (fun h => hj h.symm), Bool.false_or]
      · rename_i hc
        refine ⟨by rw [Nat.pow_succ]; omega, fun j => ?_⟩
        rw [h2]
        by_cases hj : j = k
        · subst hj; simp at hc; simp [hc]
        · congr 1; rw [decide_eq_decide]; omega
  have := (key 64 (Nat.le_refl _)).2 n
  rw [maskOf, this]; simp [hn]

/-- A predicate written reads as written in the threads of the mask. -/
theorem Group.writePred_bit (g : Group) (p t : Nat) (m : U64) (f : Nat → Bool) (hp : p < 7) (hl : g.preds.length = 7) (ht : t < 64) :
    ((g.writePred p m f).predMask p).getLsbD t = if m.getLsbD t then f t else (g.predMask p).getLsbD t := by
  rw [Group.predMask_writePred g p p m f hp hl, if_pos rfl, BitVec.getLsbD_ofNat, maskOf_testBit _ _ ht]
  rw [decide_eq_true ht, Bool.true_and, List.contains_eq_mem, Bool.eq_iff_iff, decide_eq_true_eq]
  simp only [List.mem_filter, List.mem_range, ht, true_and]

/-- Setting a predicate and gathering flags is what `Group.wrotePred` and `Group.raised` say. -/
theorem Group.setPred_wrote (g : Group) (i : Ins) (p : Nat) (f : Nat → Bool × Nat) (src dst : List Nat) (hp : p < 7)
    (hl : g.preds.length = 7) :
    let h := (((g.raise ((threadsOf (g.exec i)).foldl (fun a t => a ||| (f t).2) 0)).setPred i p fun t => (f t).1)).touch src dst
    g.wrotePred h i p (fun t => (f t).1) ∧ g.raised h i (fun t => (f t).2) := by
  refine ⟨⟨fun t ht => ?_, fun x hx => ?_, rfl, rfl, rfl, rfl⟩, fun n hn => ?_⟩
  · exact Group.writePred_bit (g.raise _) p t _ _ hp hl ht
  · refine (Group.predMask_writePred (g.raise _) p x _ _ hp hl).trans ?_
    rw [if_neg hx]; rfl
  · exact Group.compute_fpStatus g i (fun t => (0, (f t).2)) n hn

/-- An instruction that sets a predicate completes as `WritesPredicate` says. -/
theorem writesPredicate_of {row : Ins → Instr} {src dst : Ins → List Nat} {good : Ins → Block → Group → Prop}
    {f : Ins → Block → Group → Nat → Bool × Nat} {e : Ins → State → Block → Group → Issued}
    (hrow : ∀ i s, exec (row i) s = pipeline i s (src i) (dst i) (e i))
    (he : ∀ i s b g, i.d < 7 → good i b g → e i s b g = .done s
      ((g.raise ((threadsOf (g.exec i)).foldl (fun a t => a ||| (f i b g t).2) 0)).setPred i i.d fun t => (f i b g t).1)) :
    WritesPredicate row (fun i => src i ++ dst i) good f := by
  intro i s b g hi hd hl hg
  have := Group.setPred_wrote g i i.d (f i b g) (src i) (dst i) hd hl
  have h2 := State.issuedTo_fetched (src := src i) (dst := dst i) hi
    ((g.raise ((threadsOf (g.exec i)).foldl (fun a t => a ||| (f i b g t).2) 0)).setPred i i.d fun t => (f i b g t).1)
  exact ⟨_, _, by rw [hrow, pipeline_of_issues hi (he i _ b g hd hg)], h2.1, this.1, this.2, h2.2⟩

/-- An instruction with an effect of its own completes as `IssuesAs` says. -/
theorem issuesAs_of {row : Ins → Instr} {src dst : Ins → List Nat} {good : Ins → State → Block → Group → Prop}
    {t : Ins → State → Block → Group → State} {h : Ins → State → Block → Group → Group}
    {e : Ins → State → Block → Group → Issued} (hrow : ∀ i s, exec (row i) s = pipeline i s (src i) (dst i) (e i))
    (he : ∀ i s b g, good i s b g → e i s b g = .done (t i s b g) (h i s b g)) : IssuesAs row src dst good t h := by
  intro i s b g hi hg
  rw [hrow, pipeline_of_issues hi (he i _ b g hg)]

/-- An instruction that may issue and that its class's rule ends in a fault of the whole group stops its task. -/
theorem pipeline_of_fault {i : Ins} {s : State} {src dst : List Nat} {f : State → Block → Group → Issued} {b : Block} {g : Group}
    {st : Nat} (hi : s.issues i (src ++ dst) b g = true) (hf : f (s.fetched i b g) b g = .fault st none 0) :
    pipeline i s src dst f =
      .next { (s.fetched i b g).taskFault i.core i.group none st 0 g.pc g.active with pending := s.pending } := by
  simp only [State.issues, Bool.and_eq_true, decide_eq_true_eq, Option.isNone_iff_eq_none, Bool.not_eq_true', beq_iff_eq] at hi
  obtain ⟨⟨⟨⟨⟨⟨⟨h1, h2⟩, h3⟩, h4⟩, h5⟩, h6⟩, h7⟩, h8⟩ := hi
  have hslot : ∃ slot, (s.core i.core).window.findIdx? (· == some i.group) = some slot := by
    rw [← Option.isSome_iff_exists, List.findIdx?_isSome]
    simpa [List.any_eq_true] using List.contains_iff_mem.1 h5
  obtain ⟨slot, hslot⟩ := hslot
  cases hg : b.groups[i.group]? with
  | none => simp [hg] at h6
  | some g0 =>
    simp only [hg, Bool.and_eq_true, Bool.not_eq_true', beq_iff_eq] at h6
    obtain ⟨⟨hfin, hwait⟩, hrec⟩ := h6
    have hfe : (s.fetch i.core b.partition g0.reconverge.pc).2 = none := by rw [← hrec]; exact h8
    simp only [State.fetched] at hf
    rw [pipeline, if_neg (by omega)]
    simp only [State.issueIns, h4, hslot, hg, h3, hfin, hwait, h7, hfe]
    simp only [State.fetched, hrec] at *
    simp [hf]

/-- An instruction that its class's rule stops faults as `FaultsAs` says. -/
theorem faultsAs_of {row : Ins → Instr} {src dst : Ins → List Nat} {bad : Ins → State → Block → Group → Prop} {st : Nat}
    {e : Ins → State → Block → Group → Issued} (hrow : ∀ i s, exec (row i) s = pipeline i s (src i) (dst i) (e i))
    (he : ∀ i s b g, bad i s b g → e i s b g = .fault st none 0) : FaultsAs row (fun i => src i ++ dst i) bad st := by
  intro i s b g hi hg
  rw [hrow, pipeline_of_fault hi (he i _ b g hg)]

end Sys2Proof.Machine
end

