-- ==== Sys2Proof/Laws/State.lean ====
section
/-!
SUPPORT. What each update of one part of State leaves of every field: true by definition, so that no later proof unfolds an update.
-/
namespace Sys2Proof.Machine
open Sys2Proof

variable (s : State)

/-! ### useFree -/

@[simp] theorem State.useFree_now : (s.useFree).now = s.now := rfl
@[simp] theorem State.useFree_nextId : (s.useFree).nextId = s.nextId := rfl
@[simp] theorem State.useFree_freeCount : (s.useFree).freeCount = s.freeCount + 1 := rfl
@[simp] theorem State.useFree_beat : (s.useFree).beat = s.beat := rfl
@[simp] theorem State.useFree_almanac : (s.useFree).almanac = s.almanac := rfl
@[simp] theorem State.useFree_kits : (s.useFree).kits = s.kits := rfl
@[simp] theorem State.useFree_creations : (s.useFree).creations = s.creations := rfl
@[simp] theorem State.useFree_unitReturns : (s.useFree).unitReturns = s.unitReturns := rfl
@[simp] theorem State.useFree_sequences : (s.useFree).sequences = s.sequences := rfl
@[simp] theorem State.useFree_queues : (s.useFree).queues = s.queues := rfl
@[simp] theorem State.useFree_crings : (s.useFree).crings = s.crings := rfl
@[simp] theorem State.useFree_commands : (s.useFree).commands = s.commands := rfl
@[simp] theorem State.useFree_namedReads : (s.useFree).namedReads = s.namedReads := rfl
@[simp] theorem State.useFree_contexts : (s.useFree).contexts = s.contexts := rfl
@[simp] theorem State.useFree_objects : (s.useFree).objects = s.objects := rfl
@[simp] theorem State.useFree_chimes : (s.useFree).chimes = s.chimes := rfl
@[simp] theorem State.useFree_waiters : (s.useFree).waiters = s.waiters := rfl
@[simp] theorem State.useFree_signals : (s.useFree).signals = s.signals := rfl
@[simp] theorem State.useFree_partitions : (s.useFree).partitions = s.partitions := rfl
@[simp] theorem State.useFree_partitionChanges : (s.useFree).partitionChanges = s.partitionChanges := rfl
@[simp] theorem State.useFree_functions : (s.useFree).functions = s.functions := rfl
@[simp] theorem State.useFree_cores : (s.useFree).cores = s.cores := rfl
@[simp] theorem State.useFree_lists : (s.useFree).lists = s.lists := rfl
@[simp] theorem State.useFree_mem : (s.useFree).mem = s.mem := rfl
@[simp] theorem State.useFree_fabric : (s.useFree).fabric = s.fabric := rfl
@[simp] theorem State.useFree_cijan : (s.useFree).cijan = s.cijan := rfl
@[simp] theorem State.useFree_peal : (s.useFree).peal = s.peal := rfl
@[simp] theorem State.useFree_power : (s.useFree).power = s.power := rfl
@[simp] theorem State.useFree_fail : (s.useFree).fail = s.fail := rfl
@[simp] theorem State.useFree_boot : (s.useFree).boot = s.boot := rfl
@[simp] theorem State.useFree_win : (s.useFree).win = s.win := rfl
@[simp] theorem State.useFree_outbox : (s.useFree).outbox = s.outbox := rfl
@[simp] theorem State.useFree_pending : (s.useFree).pending = s.pending := rfl

/-! ### send -/

@[simp] theorem State.send_now (m : Msg) : (s.send m).now = s.now := rfl
@[simp] theorem State.send_nextId (m : Msg) : (s.send m).nextId = s.nextId := rfl
@[simp] theorem State.send_freeCount (m : Msg) : (s.send m).freeCount = s.freeCount := rfl
@[simp] theorem State.send_beat (m : Msg) : (s.send m).beat = s.beat := rfl
@[simp] theorem State.send_almanac (m : Msg) : (s.send m).almanac = s.almanac := rfl
@[simp] theorem State.send_kits (m : Msg) : (s.send m).kits = s.kits := rfl
@[simp] theorem State.send_creations (m : Msg) : (s.send m).creations = s.creations := rfl
@[simp] theorem State.send_unitReturns (m : Msg) : (s.send m).unitReturns = s.unitReturns := rfl
@[simp] theorem State.send_sequences (m : Msg) : (s.send m).sequences = s.sequences := rfl
@[simp] theorem State.send_queues (m : Msg) : (s.send m).queues = s.queues := rfl
@[simp] theorem State.send_crings (m : Msg) : (s.send m).crings = s.crings := rfl
@[simp] theorem State.send_commands (m : Msg) : (s.send m).commands = s.commands := rfl
@[simp] theorem State.send_namedReads (m : Msg) : (s.send m).namedReads = s.namedReads := rfl
@[simp] theorem State.send_contexts (m : Msg) : (s.send m).contexts = s.contexts := rfl
@[simp] theorem State.send_objects (m : Msg) : (s.send m).objects = s.objects := rfl
@[simp] theorem State.send_chimes (m : Msg) : (s.send m).chimes = s.chimes := rfl
@[simp] theorem State.send_waiters (m : Msg) : (s.send m).waiters = s.waiters := rfl
@[simp] theorem State.send_signals (m : Msg) : (s.send m).signals = s.signals := rfl
@[simp] theorem State.send_partitions (m : Msg) : (s.send m).partitions = s.partitions := rfl
@[simp] theorem State.send_partitionChanges (m : Msg) : (s.send m).partitionChanges = s.partitionChanges := rfl
@[simp] theorem State.send_functions (m : Msg) : (s.send m).functions = s.functions := rfl
@[simp] theorem State.send_cores (m : Msg) : (s.send m).cores = s.cores := rfl
@[simp] theorem State.send_lists (m : Msg) : (s.send m).lists = s.lists := rfl
@[simp] theorem State.send_mem (m : Msg) : (s.send m).mem = s.mem := rfl
@[simp] theorem State.send_fabric (m : Msg) : (s.send m).fabric = s.fabric := rfl
@[simp] theorem State.send_cijan (m : Msg) : (s.send m).cijan = s.cijan := rfl
@[simp] theorem State.send_peal (m : Msg) : (s.send m).peal = s.peal := rfl
@[simp] theorem State.send_power (m : Msg) : (s.send m).power = s.power := rfl
@[simp] theorem State.send_fail (m : Msg) : (s.send m).fail = s.fail := rfl
@[simp] theorem State.send_boot (m : Msg) : (s.send m).boot = s.boot := rfl
@[simp] theorem State.send_win (m : Msg) : (s.send m).win = s.win := rfl
@[simp] theorem State.send_outbox (m : Msg) : (s.send m).outbox = m :: s.outbox := rfl
@[simp] theorem State.send_pending (m : Msg) : (s.send m).pending = s.pending := rfl

/-! ### clockTo -/

@[simp] theorem State.clockTo_now (t : Nat) : (s.clockTo t).now = max s.now t := rfl
@[simp] theorem State.clockTo_nextId (t : Nat) : (s.clockTo t).nextId = s.nextId := rfl
@[simp] theorem State.clockTo_freeCount (t : Nat) : (s.clockTo t).freeCount = s.freeCount := rfl
@[simp] theorem State.clockTo_beat (t : Nat) : (s.clockTo t).beat = s.beat := rfl
@[simp] theorem State.clockTo_almanac (t : Nat) : (s.clockTo t).almanac = s.almanac := rfl
@[simp] theorem State.clockTo_kits (t : Nat) : (s.clockTo t).kits = s.kits := rfl
@[simp] theorem State.clockTo_creations (t : Nat) : (s.clockTo t).creations = s.creations := rfl
@[simp] theorem State.clockTo_unitReturns (t : Nat) : (s.clockTo t).unitReturns = s.unitReturns := rfl
@[simp] theorem State.clockTo_sequences (t : Nat) : (s.clockTo t).sequences = s.sequences := rfl
@[simp] theorem State.clockTo_queues (t : Nat) : (s.clockTo t).queues = s.queues := rfl
@[simp] theorem State.clockTo_crings (t : Nat) : (s.clockTo t).crings = s.crings := rfl
@[simp] theorem State.clockTo_commands (t : Nat) : (s.clockTo t).commands = s.commands := rfl
@[simp] theorem State.clockTo_namedReads (t : Nat) : (s.clockTo t).namedReads = s.namedReads := rfl
@[simp] theorem State.clockTo_contexts (t : Nat) : (s.clockTo t).contexts = s.contexts := rfl
@[simp] theorem State.clockTo_objects (t : Nat) : (s.clockTo t).objects = s.objects := rfl
@[simp] theorem State.clockTo_chimes (t : Nat) : (s.clockTo t).chimes = s.chimes := rfl
@[simp] theorem State.clockTo_waiters (t : Nat) : (s.clockTo t).waiters = s.waiters := rfl
@[simp] theorem State.clockTo_signals (t : Nat) : (s.clockTo t).signals = s.signals := rfl
@[simp] theorem State.clockTo_partitions (t : Nat) : (s.clockTo t).partitions = s.partitions := rfl
@[simp] theorem State.clockTo_partitionChanges (t : Nat) : (s.clockTo t).partitionChanges = s.partitionChanges := rfl
@[simp] theorem State.clockTo_functions (t : Nat) : (s.clockTo t).functions = s.functions := rfl
@[simp] theorem State.clockTo_cores (t : Nat) : (s.clockTo t).cores = s.cores := rfl
@[simp] theorem State.clockTo_lists (t : Nat) : (s.clockTo t).lists = s.lists := rfl
@[simp] theorem State.clockTo_mem (t : Nat) : (s.clockTo t).mem = s.mem := rfl
@[simp] theorem State.clockTo_fabric (t : Nat) : (s.clockTo t).fabric = s.fabric := rfl
@[simp] theorem State.clockTo_cijan (t : Nat) : (s.clockTo t).cijan = s.cijan := rfl
@[simp] theorem State.clockTo_peal (t : Nat) : (s.clockTo t).peal = s.peal := rfl
@[simp] theorem State.clockTo_power (t : Nat) : (s.clockTo t).power = s.power := rfl
@[simp] theorem State.clockTo_fail (t : Nat) : (s.clockTo t).fail = s.fail := rfl
@[simp] theorem State.clockTo_boot (t : Nat) : (s.clockTo t).boot = s.boot := rfl
@[simp] theorem State.clockTo_win (t : Nat) : (s.clockTo t).win = s.win := rfl
@[simp] theorem State.clockTo_outbox (t : Nat) : (s.clockTo t).outbox = s.outbox := rfl
@[simp] theorem State.clockTo_pending (t : Nat) : (s.clockTo t).pending = s.pending := rfl

/-! ### modCore -/

@[simp] theorem State.modCore_now (c : Nat) (f : Core → Core) : (s.modCore c f).now = s.now := rfl
@[simp] theorem State.modCore_nextId (c : Nat) (f : Core → Core) : (s.modCore c f).nextId = s.nextId := rfl
@[simp] theorem State.modCore_freeCount (c : Nat) (f : Core → Core) : (s.modCore c f).freeCount = s.freeCount := rfl
@[simp] theorem State.modCore_beat (c : Nat) (f : Core → Core) : (s.modCore c f).beat = s.beat := rfl
@[simp] theorem State.modCore_almanac (c : Nat) (f : Core → Core) : (s.modCore c f).almanac = s.almanac := rfl
@[simp] theorem State.modCore_kits (c : Nat) (f : Core → Core) : (s.modCore c f).kits = s.kits := rfl
@[simp] theorem State.modCore_creations (c : Nat) (f : Core → Core) : (s.modCore c f).creations = s.creations := rfl
@[simp] theorem State.modCore_unitReturns (c : Nat) (f : Core → Core) : (s.modCore c f).unitReturns = s.unitReturns := rfl
@[simp] theorem State.modCore_sequences (c : Nat) (f : Core → Core) : (s.modCore c f).sequences = s.sequences := rfl
@[simp] theorem State.modCore_queues (c : Nat) (f : Core → Core) : (s.modCore c f).queues = s.queues := rfl
@[simp] theorem State.modCore_crings (c : Nat) (f : Core → Core) : (s.modCore c f).crings = s.crings := rfl
@[simp] theorem State.modCore_commands (c : Nat) (f : Core → Core) : (s.modCore c f).commands = s.commands := rfl
@[simp] theorem State.modCore_namedReads (c : Nat) (f : Core → Core) : (s.modCore c f).namedReads = s.namedReads := rfl
@[simp] theorem State.modCore_contexts (c : Nat) (f : Core → Core) : (s.modCore c f).contexts = s.contexts := rfl
@[simp] theorem State.modCore_objects (c : Nat) (f : Core → Core) : (s.modCore c f).objects = s.objects := rfl
@[simp] theorem State.modCore_chimes (c : Nat) (f : Core → Core) : (s.modCore c f).chimes = s.chimes := rfl
@[simp] theorem State.modCore_waiters (c : Nat) (f : Core → Core) : (s.modCore c f).waiters = s.waiters := rfl
@[simp] theorem State.modCore_signals (c : Nat) (f : Core → Core) : (s.modCore c f).signals = s.signals := rfl
@[simp] theorem State.modCore_partitions (c : Nat) (f : Core → Core) : (s.modCore c f).partitions = s.partitions := rfl
@[simp] theorem State.modCore_partitionChanges (c : Nat) (f : Core → Core) : (s.modCore c f).partitionChanges = s.partitionChanges := rfl
@[simp] theorem State.modCore_functions (c : Nat) (f : Core → Core) : (s.modCore c f).functions = s.functions := rfl
@[simp] theorem State.modCore_cores (c : Nat) (f : Core → Core) : (s.modCore c f).cores = tupd s.cores c Core.initial f := rfl
@[simp] theorem State.modCore_lists (c : Nat) (f : Core → Core) : (s.modCore c f).lists = s.lists := rfl
@[simp] theorem State.modCore_mem (c : Nat) (f : Core → Core) : (s.modCore c f).mem = s.mem := rfl
@[simp] theorem State.modCore_fabric (c : Nat) (f : Core → Core) : (s.modCore c f).fabric = s.fabric := rfl
@[simp] theorem State.modCore_cijan (c : Nat) (f : Core → Core) : (s.modCore c f).cijan = s.cijan := rfl
@[simp] theorem State.modCore_peal (c : Nat) (f : Core → Core) : (s.modCore c f).peal = s.peal := rfl
@[simp] theorem State.modCore_power (c : Nat) (f : Core → Core) : (s.modCore c f).power = s.power := rfl
@[simp] theorem State.modCore_fail (c : Nat) (f : Core → Core) : (s.modCore c f).fail = s.fail := rfl
@[simp] theorem State.modCore_boot (c : Nat) (f : Core → Core) : (s.modCore c f).boot = s.boot := rfl
@[simp] theorem State.modCore_win (c : Nat) (f : Core → Core) : (s.modCore c f).win = s.win := rfl
@[simp] theorem State.modCore_outbox (c : Nat) (f : Core → Core) : (s.modCore c f).outbox = s.outbox := rfl
@[simp] theorem State.modCore_pending (c : Nat) (f : Core → Core) : (s.modCore c f).pending = s.pending := rfl

/-! ### modGroup -/

@[simp] theorem State.modGroup_now (c g : Nat) (f : Group → Group) : (s.modGroup c g f).now = s.now := rfl
@[simp] theorem State.modGroup_nextId (c g : Nat) (f : Group → Group) : (s.modGroup c g f).nextId = s.nextId := rfl
@[simp] theorem State.modGroup_freeCount (c g : Nat) (f : Group → Group) : (s.modGroup c g f).freeCount = s.freeCount := rfl
@[simp] theorem State.modGroup_beat (c g : Nat) (f : Group → Group) : (s.modGroup c g f).beat = s.beat := rfl
@[simp] theorem State.modGroup_almanac (c g : Nat) (f : Group → Group) : (s.modGroup c g f).almanac = s.almanac := rfl
@[simp] theorem State.modGroup_kits (c g : Nat) (f : Group → Group) : (s.modGroup c g f).kits = s.kits := rfl
@[simp] theorem State.modGroup_creations (c g : Nat) (f : Group → Group) : (s.modGroup c g f).creations = s.creations := rfl
@[simp] theorem State.modGroup_unitReturns (c g : Nat) (f : Group → Group) : (s.modGroup c g f).unitReturns = s.unitReturns := rfl
@[simp] theorem State.modGroup_sequences (c g : Nat) (f : Group → Group) : (s.modGroup c g f).sequences = s.sequences := rfl
@[simp] theorem State.modGroup_queues (c g : Nat) (f : Group → Group) : (s.modGroup c g f).queues = s.queues := rfl
@[simp] theorem State.modGroup_crings (c g : Nat) (f : Group → Group) : (s.modGroup c g f).crings = s.crings := rfl
@[simp] theorem State.modGroup_commands (c g : Nat) (f : Group → Group) : (s.modGroup c g f).commands = s.commands := rfl
@[simp] theorem State.modGroup_namedReads (c g : Nat) (f : Group → Group) : (s.modGroup c g f).namedReads = s.namedReads := rfl
@[simp] theorem State.modGroup_contexts (c g : Nat) (f : Group → Group) : (s.modGroup c g f).contexts = s.contexts := rfl
@[simp] theorem State.modGroup_objects (c g : Nat) (f : Group → Group) : (s.modGroup c g f).objects = s.objects := rfl
@[simp] theorem State.modGroup_chimes (c g : Nat) (f : Group → Group) : (s.modGroup c g f).chimes = s.chimes := rfl
@[simp] theorem State.modGroup_waiters (c g : Nat) (f : Group → Group) : (s.modGroup c g f).waiters = s.waiters := rfl
@[simp] theorem State.modGroup_signals (c g : Nat) (f : Group → Group) : (s.modGroup c g f).signals = s.signals := rfl
@[simp] theorem State.modGroup_partitions (c g : Nat) (f : Group → Group) : (s.modGroup c g f).partitions = s.partitions := rfl
@[simp] theorem State.modGroup_partitionChanges (c g : Nat) (f : Group → Group) : (s.modGroup c g f).partitionChanges = s.partitionChanges := rfl
@[simp] theorem State.modGroup_functions (c g : Nat) (f : Group → Group) : (s.modGroup c g f).functions = s.functions := rfl
@[simp] theorem State.modGroup_lists (c g : Nat) (f : Group → Group) : (s.modGroup c g f).lists = s.lists := rfl
@[simp] theorem State.modGroup_mem (c g : Nat) (f : Group → Group) : (s.modGroup c g f).mem = s.mem := rfl
@[simp] theorem State.modGroup_fabric (c g : Nat) (f : Group → Group) : (s.modGroup c g f).fabric = s.fabric := rfl
@[simp] theorem State.modGroup_cijan (c g : Nat) (f : Group → Group) : (s.modGroup c g f).cijan = s.cijan := rfl
@[simp] theorem State.modGroup_peal (c g : Nat) (f : Group → Group) : (s.modGroup c g f).peal = s.peal := rfl
@[simp] theorem State.modGroup_power (c g : Nat) (f : Group → Group) : (s.modGroup c g f).power = s.power := rfl
@[simp] theorem State.modGroup_fail (c g : Nat) (f : Group → Group) : (s.modGroup c g f).fail = s.fail := rfl
@[simp] theorem State.modGroup_boot (c g : Nat) (f : Group → Group) : (s.modGroup c g f).boot = s.boot := rfl
@[simp] theorem State.modGroup_win (c g : Nat) (f : Group → Group) : (s.modGroup c g f).win = s.win := rfl
@[simp] theorem State.modGroup_outbox (c g : Nat) (f : Group → Group) : (s.modGroup c g f).outbox = s.outbox := rfl
@[simp] theorem State.modGroup_pending (c g : Nat) (f : Group → Group) : (s.modGroup c g f).pending = s.pending := rfl

/-! ### modBlock -/

@[simp] theorem State.modBlock_now (c : Nat) (f : Block → Block) : (s.modBlock c f).now = s.now := rfl
@[simp] theorem State.modBlock_nextId (c : Nat) (f : Block → Block) : (s.modBlock c f).nextId = s.nextId := rfl
@[simp] theorem State.modBlock_freeCount (c : Nat) (f : Block → Block) : (s.modBlock c f).freeCount = s.freeCount := rfl
@[simp] theorem State.modBlock_beat (c : Nat) (f : Block → Block) : (s.modBlock c f).beat = s.beat := rfl
@[simp] theorem State.modBlock_almanac (c : Nat) (f : Block → Block) : (s.modBlock c f).almanac = s.almanac := rfl
@[simp] theorem State.modBlock_kits (c : Nat) (f : Block → Block) : (s.modBlock c f).kits = s.kits := rfl
@[simp] theorem State.modBlock_creations (c : Nat) (f : Block → Block) : (s.modBlock c f).creations = s.creations := rfl
@[simp] theorem State.modBlock_unitReturns (c : Nat) (f : Block → Block) : (s.modBlock c f).unitReturns = s.unitReturns := rfl
@[simp] theorem State.modBlock_sequences (c : Nat) (f : Block → Block) : (s.modBlock c f).sequences = s.sequences := rfl
@[simp] theorem State.modBlock_queues (c : Nat) (f : Block → Block) : (s.modBlock c f).queues = s.queues := rfl
@[simp] theorem State.modBlock_crings (c : Nat) (f : Block → Block) : (s.modBlock c f).crings = s.crings := rfl
@[simp] theorem State.modBlock_commands (c : Nat) (f : Block → Block) : (s.modBlock c f).commands = s.commands := rfl
@[simp] theorem State.modBlock_namedReads (c : Nat) (f : Block → Block) : (s.modBlock c f).namedReads = s.namedReads := rfl
@[simp] theorem State.modBlock_contexts (c : Nat) (f : Block → Block) : (s.modBlock c f).contexts = s.contexts := rfl
@[simp] theorem State.modBlock_objects (c : Nat) (f : Block → Block) : (s.modBlock c f).objects = s.objects := rfl
@[simp] theorem State.modBlock_chimes (c : Nat) (f : Block → Block) : (s.modBlock c f).chimes = s.chimes := rfl
@[simp] theorem State.modBlock_waiters (c : Nat) (f : Block → Block) : (s.modBlock c f).waiters = s.waiters := rfl
@[simp] theorem State.modBlock_signals (c : Nat) (f : Block → Block) : (s.modBlock c f).signals = s.signals := rfl
@[simp] theorem State.modBlock_partitions (c : Nat) (f : Block → Block) : (s.modBlock c f).partitions = s.partitions := rfl
@[simp] theorem State.modBlock_partitionChanges (c : Nat) (f : Block → Block) : (s.modBlock c f).partitionChanges = s.partitionChanges := rfl
@[simp] theorem State.modBlock_functions (c : Nat) (f : Block → Block) : (s.modBlock c f).functions = s.functions := rfl
@[simp] theorem State.modBlock_lists (c : Nat) (f : Block → Block) : (s.modBlock c f).lists = s.lists := rfl
@[simp] theorem State.modBlock_mem (c : Nat) (f : Block → Block) : (s.modBlock c f).mem = s.mem := rfl
@[simp] theorem State.modBlock_fabric (c : Nat) (f : Block → Block) : (s.modBlock c f).fabric = s.fabric := rfl
@[simp] theorem State.modBlock_cijan (c : Nat) (f : Block → Block) : (s.modBlock c f).cijan = s.cijan := rfl
@[simp] theorem State.modBlock_peal (c : Nat) (f : Block → Block) : (s.modBlock c f).peal = s.peal := rfl
@[simp] theorem State.modBlock_power (c : Nat) (f : Block → Block) : (s.modBlock c f).power = s.power := rfl
@[simp] theorem State.modBlock_fail (c : Nat) (f : Block → Block) : (s.modBlock c f).fail = s.fail := rfl
@[simp] theorem State.modBlock_boot (c : Nat) (f : Block → Block) : (s.modBlock c f).boot = s.boot := rfl
@[simp] theorem State.modBlock_win (c : Nat) (f : Block → Block) : (s.modBlock c f).win = s.win := rfl
@[simp] theorem State.modBlock_outbox (c : Nat) (f : Block → Block) : (s.modBlock c f).outbox = s.outbox := rfl
@[simp] theorem State.modBlock_pending (c : Nat) (f : Block → Block) : (s.modBlock c f).pending = s.pending := rfl

/-! ### setChime -/

@[simp] theorem State.setChime_now (c : Nat) (h : Chime) : (s.setChime c h).now = s.now := rfl
@[simp] theorem State.setChime_nextId (c : Nat) (h : Chime) : (s.setChime c h).nextId = s.nextId := rfl
@[simp] theorem State.setChime_freeCount (c : Nat) (h : Chime) : (s.setChime c h).freeCount = s.freeCount := rfl
@[simp] theorem State.setChime_beat (c : Nat) (h : Chime) : (s.setChime c h).beat = s.beat := rfl
@[simp] theorem State.setChime_almanac (c : Nat) (h : Chime) : (s.setChime c h).almanac = s.almanac := rfl
@[simp] theorem State.setChime_kits (c : Nat) (h : Chime) : (s.setChime c h).kits = s.kits := rfl
@[simp] theorem State.setChime_creations (c : Nat) (h : Chime) : (s.setChime c h).creations = s.creations := rfl
@[simp] theorem State.setChime_unitReturns (c : Nat) (h : Chime) : (s.setChime c h).unitReturns = s.unitReturns := rfl
@[simp] theorem State.setChime_sequences (c : Nat) (h : Chime) : (s.setChime c h).sequences = s.sequences := rfl
@[simp] theorem State.setChime_queues (c : Nat) (h : Chime) : (s.setChime c h).queues = s.queues := rfl
@[simp] theorem State.setChime_crings (c : Nat) (h : Chime) : (s.setChime c h).crings = s.crings := rfl
@[simp] theorem State.setChime_commands (c : Nat) (h : Chime) : (s.setChime c h).commands = s.commands := rfl
@[simp] theorem State.setChime_namedReads (c : Nat) (h : Chime) : (s.setChime c h).namedReads = s.namedReads := rfl
@[simp] theorem State.setChime_contexts (c : Nat) (h : Chime) : (s.setChime c h).contexts = s.contexts := rfl
@[simp] theorem State.setChime_objects (c : Nat) (h : Chime) : (s.setChime c h).objects = s.objects := rfl
@[simp] theorem State.setChime_waiters (c : Nat) (h : Chime) : (s.setChime c h).waiters = s.waiters := rfl
@[simp] theorem State.setChime_signals (c : Nat) (h : Chime) : (s.setChime c h).signals = s.signals := rfl
@[simp] theorem State.setChime_partitions (c : Nat) (h : Chime) : (s.setChime c h).partitions = s.partitions := rfl
@[simp] theorem State.setChime_partitionChanges (c : Nat) (h : Chime) : (s.setChime c h).partitionChanges = s.partitionChanges := rfl
@[simp] theorem State.setChime_functions (c : Nat) (h : Chime) : (s.setChime c h).functions = s.functions := rfl
@[simp] theorem State.setChime_cores (c : Nat) (h : Chime) : (s.setChime c h).cores = s.cores := rfl
@[simp] theorem State.setChime_lists (c : Nat) (h : Chime) : (s.setChime c h).lists = s.lists := rfl
@[simp] theorem State.setChime_mem (c : Nat) (h : Chime) : (s.setChime c h).mem = s.mem := rfl
@[simp] theorem State.setChime_fabric (c : Nat) (h : Chime) : (s.setChime c h).fabric = s.fabric := rfl
@[simp] theorem State.setChime_cijan (c : Nat) (h : Chime) : (s.setChime c h).cijan = s.cijan := rfl
@[simp] theorem State.setChime_peal (c : Nat) (h : Chime) : (s.setChime c h).peal = s.peal := rfl
@[simp] theorem State.setChime_power (c : Nat) (h : Chime) : (s.setChime c h).power = s.power := rfl
@[simp] theorem State.setChime_fail (c : Nat) (h : Chime) : (s.setChime c h).fail = s.fail := rfl
@[simp] theorem State.setChime_boot (c : Nat) (h : Chime) : (s.setChime c h).boot = s.boot := rfl
@[simp] theorem State.setChime_win (c : Nat) (h : Chime) : (s.setChime c h).win = s.win := rfl
@[simp] theorem State.setChime_outbox (c : Nat) (h : Chime) : (s.setChime c h).outbox = s.outbox := rfl
@[simp] theorem State.setChime_pending (c : Nat) (h : Chime) : (s.setChime c h).pending = s.pending := rfl

/-! ### setCring -/

@[simp] theorem State.setCring_now (g ring : Nat) (r : CRing) : (s.setCring g ring r).now = s.now := rfl
@[simp] theorem State.setCring_nextId (g ring : Nat) (r : CRing) : (s.setCring g ring r).nextId = s.nextId := rfl
@[simp] theorem State.setCring_freeCount (g ring : Nat) (r : CRing) : (s.setCring g ring r).freeCount = s.freeCount := rfl
@[simp] theorem State.setCring_beat (g ring : Nat) (r : CRing) : (s.setCring g ring r).beat = s.beat := rfl
@[simp] theorem State.setCring_almanac (g ring : Nat) (r : CRing) : (s.setCring g ring r).almanac = s.almanac := rfl
@[simp] theorem State.setCring_kits (g ring : Nat) (r : CRing) : (s.setCring g ring r).kits = s.kits := rfl
@[simp] theorem State.setCring_creations (g ring : Nat) (r : CRing) : (s.setCring g ring r).creations = s.creations := rfl
@[simp] theorem State.setCring_unitReturns (g ring : Nat) (r : CRing) : (s.setCring g ring r).unitReturns = s.unitReturns := rfl
@[simp] theorem State.setCring_sequences (g ring : Nat) (r : CRing) : (s.setCring g ring r).sequences = s.sequences := rfl
@[simp] theorem State.setCring_queues (g ring : Nat) (r : CRing) : (s.setCring g ring r).queues = s.queues := rfl
@[simp] theorem State.setCring_commands (g ring : Nat) (r : CRing) : (s.setCring g ring r).commands = s.commands := rfl
@[simp] theorem State.setCring_namedReads (g ring : Nat) (r : CRing) : (s.setCring g ring r).namedReads = s.namedReads := rfl
@[simp] theorem State.setCring_contexts (g ring : Nat) (r : CRing) : (s.setCring g ring r).contexts = s.contexts := rfl
@[simp] theorem State.setCring_objects (g ring : Nat) (r : CRing) : (s.setCring g ring r).objects = s.objects := rfl
@[simp] theorem State.setCring_chimes (g ring : Nat) (r : CRing) : (s.setCring g ring r).chimes = s.chimes := rfl
@[simp] theorem State.setCring_waiters (g ring : Nat) (r : CRing) : (s.setCring g ring r).waiters = s.waiters := rfl
@[simp] theorem State.setCring_signals (g ring : Nat) (r : CRing) : (s.setCring g ring r).signals = s.signals := rfl
@[simp] theorem State.setCring_partitions (g ring : Nat) (r : CRing) : (s.setCring g ring r).partitions = s.partitions := rfl
@[simp] theorem State.setCring_partitionChanges (g ring : Nat) (r : CRing) : (s.setCring g ring r).partitionChanges = s.partitionChanges := rfl
@[simp] theorem State.setCring_functions (g ring : Nat) (r : CRing) : (s.setCring g ring r).functions = s.functions := rfl
@[simp] theorem State.setCring_cores (g ring : Nat) (r : CRing) : (s.setCring g ring r).cores = s.cores := rfl
@[simp] theorem State.setCring_lists (g ring : Nat) (r : CRing) : (s.setCring g ring r).lists = s.lists := rfl
@[simp] theorem State.setCring_mem (g ring : Nat) (r : CRing) : (s.setCring g ring r).mem = s.mem := rfl
@[simp] theorem State.setCring_fabric (g ring : Nat) (r : CRing) : (s.setCring g ring r).fabric = s.fabric := rfl
@[simp] theorem State.setCring_cijan (g ring : Nat) (r : CRing) : (s.setCring g ring r).cijan = s.cijan := rfl
@[simp] theorem State.setCring_peal (g ring : Nat) (r : CRing) : (s.setCring g ring r).peal = s.peal := rfl
@[simp] theorem State.setCring_power (g ring : Nat) (r : CRing) : (s.setCring g ring r).power = s.power := rfl
@[simp] theorem State.setCring_fail (g ring : Nat) (r : CRing) : (s.setCring g ring r).fail = s.fail := rfl
@[simp] theorem State.setCring_boot (g ring : Nat) (r : CRing) : (s.setCring g ring r).boot = s.boot := rfl
@[simp] theorem State.setCring_win (g ring : Nat) (r : CRing) : (s.setCring g ring r).win = s.win := rfl
@[simp] theorem State.setCring_outbox (g ring : Nat) (r : CRing) : (s.setCring g ring r).outbox = s.outbox := rfl
@[simp] theorem State.setCring_pending (g ring : Nat) (r : CRing) : (s.setCring g ring r).pending = s.pending := rfl

/-! ### modQueue -/

@[simp] theorem State.modQueue_now (q : Nat) (f : Queue → Queue) : (s.modQueue q f).now = s.now := rfl
@[simp] theorem State.modQueue_nextId (q : Nat) (f : Queue → Queue) : (s.modQueue q f).nextId = s.nextId := rfl
@[simp] theorem State.modQueue_freeCount (q : Nat) (f : Queue → Queue) : (s.modQueue q f).freeCount = s.freeCount := rfl
@[simp] theorem State.modQueue_beat (q : Nat) (f : Queue → Queue) : (s.modQueue q f).beat = s.beat := rfl
@[simp] theorem State.modQueue_almanac (q : Nat) (f : Queue → Queue) : (s.modQueue q f).almanac = s.almanac := rfl
@[simp] theorem State.modQueue_kits (q : Nat) (f : Queue → Queue) : (s.modQueue q f).kits = s.kits := rfl
@[simp] theorem State.modQueue_creations (q : Nat) (f : Queue → Queue) : (s.modQueue q f).creations = s.creations := rfl
@[simp] theorem State.modQueue_unitReturns (q : Nat) (f : Queue → Queue) : (s.modQueue q f).unitReturns = s.unitReturns := rfl
@[simp] theorem State.modQueue_sequences (q : Nat) (f : Queue → Queue) : (s.modQueue q f).sequences = s.sequences := rfl
@[simp] theorem State.modQueue_queues (q : Nat) (f : Queue → Queue) : (s.modQueue q f).queues = tmod s.queues q f := rfl
@[simp] theorem State.modQueue_crings (q : Nat) (f : Queue → Queue) : (s.modQueue q f).crings = s.crings := rfl
@[simp] theorem State.modQueue_commands (q : Nat) (f : Queue → Queue) : (s.modQueue q f).commands = s.commands := rfl
@[simp] theorem State.modQueue_namedReads (q : Nat) (f : Queue → Queue) : (s.modQueue q f).namedReads = s.namedReads := rfl
@[simp] theorem State.modQueue_contexts (q : Nat) (f : Queue → Queue) : (s.modQueue q f).contexts = s.contexts := rfl
@[simp] theorem State.modQueue_objects (q : Nat) (f : Queue → Queue) : (s.modQueue q f).objects = s.objects := rfl
@[simp] theorem State.modQueue_chimes (q : Nat) (f : Queue → Queue) : (s.modQueue q f).chimes = s.chimes := rfl
@[simp] theorem State.modQueue_waiters (q : Nat) (f : Queue → Queue) : (s.modQueue q f).waiters = s.waiters := rfl
@[simp] theorem State.modQueue_signals (q : Nat) (f : Queue → Queue) : (s.modQueue q f).signals = s.signals := rfl
@[simp] theorem State.modQueue_partitions (q : Nat) (f : Queue → Queue) : (s.modQueue q f).partitions = s.partitions := rfl
@[simp] theorem State.modQueue_partitionChanges (q : Nat) (f : Queue → Queue) : (s.modQueue q f).partitionChanges = s.partitionChanges := rfl
@[simp] theorem State.modQueue_functions (q : Nat) (f : Queue → Queue) : (s.modQueue q f).functions = s.functions := rfl
@[simp] theorem State.modQueue_cores (q : Nat) (f : Queue → Queue) : (s.modQueue q f).cores = s.cores := rfl
@[simp] theorem State.modQueue_lists (q : Nat) (f : Queue → Queue) : (s.modQueue q f).lists = s.lists := rfl
@[simp] theorem State.modQueue_mem (q : Nat) (f : Queue → Queue) : (s.modQueue q f).mem = s.mem := rfl
@[simp] theorem State.modQueue_fabric (q : Nat) (f : Queue → Queue) : (s.modQueue q f).fabric = s.fabric := rfl
@[simp] theorem State.modQueue_cijan (q : Nat) (f : Queue → Queue) : (s.modQueue q f).cijan = s.cijan := rfl
@[simp] theorem State.modQueue_peal (q : Nat) (f : Queue → Queue) : (s.modQueue q f).peal = s.peal := rfl
@[simp] theorem State.modQueue_power (q : Nat) (f : Queue → Queue) : (s.modQueue q f).power = s.power := rfl
@[simp] theorem State.modQueue_fail (q : Nat) (f : Queue → Queue) : (s.modQueue q f).fail = s.fail := rfl
@[simp] theorem State.modQueue_boot (q : Nat) (f : Queue → Queue) : (s.modQueue q f).boot = s.boot := rfl
@[simp] theorem State.modQueue_win (q : Nat) (f : Queue → Queue) : (s.modQueue q f).win = s.win := rfl
@[simp] theorem State.modQueue_outbox (q : Nat) (f : Queue → Queue) : (s.modQueue q f).outbox = s.outbox := rfl
@[simp] theorem State.modQueue_pending (q : Nat) (f : Queue → Queue) : (s.modQueue q f).pending = s.pending := rfl

/-! ### page -/

@[simp] theorem State.page_now (g read refused dropped : Nat) : (s.page g read refused dropped).now = s.now := rfl
@[simp] theorem State.page_nextId (g read refused dropped : Nat) : (s.page g read refused dropped).nextId = s.nextId := rfl
@[simp] theorem State.page_freeCount (g read refused dropped : Nat) : (s.page g read refused dropped).freeCount = s.freeCount := rfl
@[simp] theorem State.page_beat (g read refused dropped : Nat) : (s.page g read refused dropped).beat = s.beat := rfl
@[simp] theorem State.page_almanac (g read refused dropped : Nat) : (s.page g read refused dropped).almanac = s.almanac := rfl
@[simp] theorem State.page_kits (g read refused dropped : Nat) : (s.page g read refused dropped).kits = s.kits := rfl
@[simp] theorem State.page_creations (g read refused dropped : Nat) : (s.page g read refused dropped).creations = s.creations := rfl
@[simp] theorem State.page_unitReturns (g read refused dropped : Nat) : (s.page g read refused dropped).unitReturns = s.unitReturns := rfl
@[simp] theorem State.page_sequences (g read refused dropped : Nat) : (s.page g read refused dropped).sequences = s.sequences := rfl
@[simp] theorem State.page_queues (g read refused dropped : Nat) : (s.page g read refused dropped).queues = s.queues := rfl
@[simp] theorem State.page_crings (g read refused dropped : Nat) : (s.page g read refused dropped).crings = s.crings := rfl
@[simp] theorem State.page_commands (g read refused dropped : Nat) : (s.page g read refused dropped).commands = s.commands := rfl
@[simp] theorem State.page_namedReads (g read refused dropped : Nat) : (s.page g read refused dropped).namedReads = s.namedReads := rfl
@[simp] theorem State.page_contexts (g read refused dropped : Nat) : (s.page g read refused dropped).contexts = s.contexts := rfl
@[simp] theorem State.page_objects (g read refused dropped : Nat) : (s.page g read refused dropped).objects = s.objects := rfl
@[simp] theorem State.page_chimes (g read refused dropped : Nat) : (s.page g read refused dropped).chimes = s.chimes := rfl
@[simp] theorem State.page_waiters (g read refused dropped : Nat) : (s.page g read refused dropped).waiters = s.waiters := rfl
@[simp] theorem State.page_signals (g read refused dropped : Nat) : (s.page g read refused dropped).signals = s.signals := rfl
@[simp] theorem State.page_partitions (g read refused dropped : Nat) : (s.page g read refused dropped).partitions = s.partitions := rfl
@[simp] theorem State.page_partitionChanges (g read refused dropped : Nat) : (s.page g read refused dropped).partitionChanges = s.partitionChanges := rfl
@[simp] theorem State.page_functions (g read refused dropped : Nat) : (s.page g read refused dropped).functions = s.functions := rfl
@[simp] theorem State.page_cores (g read refused dropped : Nat) : (s.page g read refused dropped).cores = s.cores := rfl
@[simp] theorem State.page_lists (g read refused dropped : Nat) : (s.page g read refused dropped).lists = s.lists := rfl
@[simp] theorem State.page_mem (g read refused dropped : Nat) : (s.page g read refused dropped).mem = s.mem := rfl
@[simp] theorem State.page_fabric (g read refused dropped : Nat) : (s.page g read refused dropped).fabric = s.fabric := rfl
@[simp] theorem State.page_cijan (g read refused dropped : Nat) : (s.page g read refused dropped).cijan = s.cijan := rfl
@[simp] theorem State.page_peal (g read refused dropped : Nat) : (s.page g read refused dropped).peal = s.peal := rfl
@[simp] theorem State.page_power (g read refused dropped : Nat) : (s.page g read refused dropped).power = s.power := rfl
@[simp] theorem State.page_fail (g read refused dropped : Nat) : (s.page g read refused dropped).fail = s.fail := rfl
@[simp] theorem State.page_boot (g read refused dropped : Nat) : (s.page g read refused dropped).boot = s.boot := rfl
@[simp] theorem State.page_outbox (g read refused dropped : Nat) : (s.page g read refused dropped).outbox = s.outbox := rfl
@[simp] theorem State.page_pending (g read refused dropped : Nat) : (s.page g read refused dropped).pending = s.pending := rfl

/-! ### setWait -/

@[simp] theorem State.setWait_now (id : Nat) (w : Wait) : (s.setWait id w).now = s.now := rfl
@[simp] theorem State.setWait_nextId (id : Nat) (w : Wait) : (s.setWait id w).nextId = s.nextId := rfl
@[simp] theorem State.setWait_freeCount (id : Nat) (w : Wait) : (s.setWait id w).freeCount = s.freeCount := rfl
@[simp] theorem State.setWait_beat (id : Nat) (w : Wait) : (s.setWait id w).beat = s.beat := rfl
@[simp] theorem State.setWait_almanac (id : Nat) (w : Wait) : (s.setWait id w).almanac = s.almanac := rfl
@[simp] theorem State.setWait_kits (id : Nat) (w : Wait) : (s.setWait id w).kits = s.kits := rfl
@[simp] theorem State.setWait_creations (id : Nat) (w : Wait) : (s.setWait id w).creations = s.creations := rfl
@[simp] theorem State.setWait_unitReturns (id : Nat) (w : Wait) : (s.setWait id w).unitReturns = s.unitReturns := rfl
@[simp] theorem State.setWait_sequences (id : Nat) (w : Wait) : (s.setWait id w).sequences = s.sequences := rfl
@[simp] theorem State.setWait_queues (id : Nat) (w : Wait) : (s.setWait id w).queues = s.queues := rfl
@[simp] theorem State.setWait_crings (id : Nat) (w : Wait) : (s.setWait id w).crings = s.crings := rfl
@[simp] theorem State.setWait_namedReads (id : Nat) (w : Wait) : (s.setWait id w).namedReads = s.namedReads := rfl
@[simp] theorem State.setWait_contexts (id : Nat) (w : Wait) : (s.setWait id w).contexts = s.contexts := rfl
@[simp] theorem State.setWait_objects (id : Nat) (w : Wait) : (s.setWait id w).objects = s.objects := rfl
@[simp] theorem State.setWait_chimes (id : Nat) (w : Wait) : (s.setWait id w).chimes = s.chimes := rfl
@[simp] theorem State.setWait_waiters (id : Nat) (w : Wait) : (s.setWait id w).waiters = s.waiters := rfl
@[simp] theorem State.setWait_signals (id : Nat) (w : Wait) : (s.setWait id w).signals = s.signals := rfl
@[simp] theorem State.setWait_partitions (id : Nat) (w : Wait) : (s.setWait id w).partitions = s.partitions := rfl
@[simp] theorem State.setWait_partitionChanges (id : Nat) (w : Wait) : (s.setWait id w).partitionChanges = s.partitionChanges := rfl
@[simp] theorem State.setWait_functions (id : Nat) (w : Wait) : (s.setWait id w).functions = s.functions := rfl
@[simp] theorem State.setWait_cores (id : Nat) (w : Wait) : (s.setWait id w).cores = s.cores := rfl
@[simp] theorem State.setWait_lists (id : Nat) (w : Wait) : (s.setWait id w).lists = s.lists := rfl
@[simp] theorem State.setWait_mem (id : Nat) (w : Wait) : (s.setWait id w).mem = s.mem := rfl
@[simp] theorem State.setWait_fabric (id : Nat) (w : Wait) : (s.setWait id w).fabric = s.fabric := rfl
@[simp] theorem State.setWait_cijan (id : Nat) (w : Wait) : (s.setWait id w).cijan = s.cijan := rfl
@[simp] theorem State.setWait_peal (id : Nat) (w : Wait) : (s.setWait id w).peal = s.peal := rfl
@[simp] theorem State.setWait_power (id : Nat) (w : Wait) : (s.setWait id w).power = s.power := rfl
@[simp] theorem State.setWait_fail (id : Nat) (w : Wait) : (s.setWait id w).fail = s.fail := rfl
@[simp] theorem State.setWait_boot (id : Nat) (w : Wait) : (s.setWait id w).boot = s.boot := rfl
@[simp] theorem State.setWait_win (id : Nat) (w : Wait) : (s.setWait id w).win = s.win := rfl
@[simp] theorem State.setWait_outbox (id : Nat) (w : Wait) : (s.setWait id w).outbox = s.outbox := rfl
@[simp] theorem State.setWait_pending (id : Nat) (w : Wait) : (s.setWait id w).pending = s.pending := rfl

/-! ### modKit -/

@[simp] theorem State.modKit_now (k : Nat) (f : Kit → Kit) : (s.modKit k f).now = s.now := rfl
@[simp] theorem State.modKit_nextId (k : Nat) (f : Kit → Kit) : (s.modKit k f).nextId = s.nextId := rfl
@[simp] theorem State.modKit_freeCount (k : Nat) (f : Kit → Kit) : (s.modKit k f).freeCount = s.freeCount := rfl
@[simp] theorem State.modKit_beat (k : Nat) (f : Kit → Kit) : (s.modKit k f).beat = s.beat := rfl
@[simp] theorem State.modKit_almanac (k : Nat) (f : Kit → Kit) : (s.modKit k f).almanac = s.almanac := rfl
@[simp] theorem State.modKit_kits (k : Nat) (f : Kit → Kit) : (s.modKit k f).kits = tmod s.kits k f := rfl
@[simp] theorem State.modKit_creations (k : Nat) (f : Kit → Kit) : (s.modKit k f).creations = s.creations := rfl
@[simp] theorem State.modKit_unitReturns (k : Nat) (f : Kit → Kit) : (s.modKit k f).unitReturns = s.unitReturns := rfl
@[simp] theorem State.modKit_sequences (k : Nat) (f : Kit → Kit) : (s.modKit k f).sequences = s.sequences := rfl
@[simp] theorem State.modKit_queues (k : Nat) (f : Kit → Kit) : (s.modKit k f).queues = s.queues := rfl
@[simp] theorem State.modKit_crings (k : Nat) (f : Kit → Kit) : (s.modKit k f).crings = s.crings := rfl
@[simp] theorem State.modKit_commands (k : Nat) (f : Kit → Kit) : (s.modKit k f).commands = s.commands := rfl
@[simp] theorem State.modKit_namedReads (k : Nat) (f : Kit → Kit) : (s.modKit k f).namedReads = s.namedReads := rfl
@[simp] theorem State.modKit_contexts (k : Nat) (f : Kit → Kit) : (s.modKit k f).contexts = s.contexts := rfl
@[simp] theorem State.modKit_objects (k : Nat) (f : Kit → Kit) : (s.modKit k f).objects = s.objects := rfl
@[simp] theorem State.modKit_chimes (k : Nat) (f : Kit → Kit) : (s.modKit k f).chimes = s.chimes := rfl
@[simp] theorem State.modKit_waiters (k : Nat) (f : Kit → Kit) : (s.modKit k f).waiters = s.waiters := rfl
@[simp] theorem State.modKit_signals (k : Nat) (f : Kit → Kit) : (s.modKit k f).signals = s.signals := rfl
@[simp] theorem State.modKit_partitions (k : Nat) (f : Kit → Kit) : (s.modKit k f).partitions = s.partitions := rfl
@[simp] theorem State.modKit_partitionChanges (k : Nat) (f : Kit → Kit) : (s.modKit k f).partitionChanges = s.partitionChanges := rfl
@[simp] theorem State.modKit_functions (k : Nat) (f : Kit → Kit) : (s.modKit k f).functions = s.functions := rfl
@[simp] theorem State.modKit_cores (k : Nat) (f : Kit → Kit) : (s.modKit k f).cores = s.cores := rfl
@[simp] theorem State.modKit_lists (k : Nat) (f : Kit → Kit) : (s.modKit k f).lists = s.lists := rfl
@[simp] theorem State.modKit_mem (k : Nat) (f : Kit → Kit) : (s.modKit k f).mem = s.mem := rfl
@[simp] theorem State.modKit_fabric (k : Nat) (f : Kit → Kit) : (s.modKit k f).fabric = s.fabric := rfl
@[simp] theorem State.modKit_cijan (k : Nat) (f : Kit → Kit) : (s.modKit k f).cijan = s.cijan := rfl
@[simp] theorem State.modKit_peal (k : Nat) (f : Kit → Kit) : (s.modKit k f).peal = s.peal := rfl
@[simp] theorem State.modKit_power (k : Nat) (f : Kit → Kit) : (s.modKit k f).power = s.power := rfl
@[simp] theorem State.modKit_fail (k : Nat) (f : Kit → Kit) : (s.modKit k f).fail = s.fail := rfl
@[simp] theorem State.modKit_boot (k : Nat) (f : Kit → Kit) : (s.modKit k f).boot = s.boot := rfl
@[simp] theorem State.modKit_win (k : Nat) (f : Kit → Kit) : (s.modKit k f).win = s.win := rfl
@[simp] theorem State.modKit_outbox (k : Nat) (f : Kit → Kit) : (s.modKit k f).outbox = s.outbox := rfl
@[simp] theorem State.modKit_pending (k : Nat) (f : Kit → Kit) : (s.modKit k f).pending = s.pending := rfl

/-! ### modSeq -/

@[simp] theorem State.modSeq_now (q : Nat) (f : Sequence → Sequence) : (s.modSeq q f).now = s.now := rfl
@[simp] theorem State.modSeq_nextId (q : Nat) (f : Sequence → Sequence) : (s.modSeq q f).nextId = s.nextId := rfl
@[simp] theorem State.modSeq_freeCount (q : Nat) (f : Sequence → Sequence) : (s.modSeq q f).freeCount = s.freeCount := rfl
@[simp] theorem State.modSeq_beat (q : Nat) (f : Sequence → Sequence) : (s.modSeq q f).beat = s.beat := rfl
@[simp] theorem State.modSeq_almanac (q : Nat) (f : Sequence → Sequence) : (s.modSeq q f).almanac = s.almanac := rfl
@[simp] theorem State.modSeq_kits (q : Nat) (f : Sequence → Sequence) : (s.modSeq q f).kits = s.kits := rfl
@[simp] theorem State.modSeq_creations (q : Nat) (f : Sequence → Sequence) : (s.modSeq q f).creations = s.creations := rfl
@[simp] theorem State.modSeq_unitReturns (q : Nat) (f : Sequence → Sequence) : (s.modSeq q f).unitReturns = s.unitReturns := rfl
@[simp] theorem State.modSeq_sequences (q : Nat) (f : Sequence → Sequence) : (s.modSeq q f).sequences = tmod s.sequences q f := rfl
@[simp] theorem State.modSeq_queues (q : Nat) (f : Sequence → Sequence) : (s.modSeq q f).queues = s.queues := rfl
@[simp] theorem State.modSeq_crings (q : Nat) (f : Sequence → Sequence) : (s.modSeq q f).crings = s.crings := rfl
@[simp] theorem State.modSeq_commands (q : Nat) (f : Sequence → Sequence) : (s.modSeq q f).commands = s.commands := rfl
@[simp] theorem State.modSeq_namedReads (q : Nat) (f : Sequence → Sequence) : (s.modSeq q f).namedReads = s.namedReads := rfl
@[simp] theorem State.modSeq_contexts (q : Nat) (f : Sequence → Sequence) : (s.modSeq q f).contexts = s.contexts := rfl
@[simp] theorem State.modSeq_objects (q : Nat) (f : Sequence → Sequence) : (s.modSeq q f).objects = s.objects := rfl
@[simp] theorem State.modSeq_chimes (q : Nat) (f : Sequence → Sequence) : (s.modSeq q f).chimes = s.chimes := rfl
@[simp] theorem State.modSeq_waiters (q : Nat) (f : Sequence → Sequence) : (s.modSeq q f).waiters = s.waiters := rfl
@[simp] theorem State.modSeq_signals (q : Nat) (f : Sequence → Sequence) : (s.modSeq q f).signals = s.signals := rfl
@[simp] theorem State.modSeq_partitions (q : Nat) (f : Sequence → Sequence) : (s.modSeq q f).partitions = s.partitions := rfl
@[simp] theorem State.modSeq_partitionChanges (q : Nat) (f : Sequence → Sequence) : (s.modSeq q f).partitionChanges = s.partitionChanges := rfl
@[simp] theorem State.modSeq_functions (q : Nat) (f : Sequence → Sequence) : (s.modSeq q f).functions = s.functions := rfl
@[simp] theorem State.modSeq_cores (q : Nat) (f : Sequence → Sequence) : (s.modSeq q f).cores = s.cores := rfl
@[simp] theorem State.modSeq_lists (q : Nat) (f : Sequence → Sequence) : (s.modSeq q f).lists = s.lists := rfl
@[simp] theorem State.modSeq_mem (q : Nat) (f : Sequence → Sequence) : (s.modSeq q f).mem = s.mem := rfl
@[simp] theorem State.modSeq_fabric (q : Nat) (f : Sequence → Sequence) : (s.modSeq q f).fabric = s.fabric := rfl
@[simp] theorem State.modSeq_cijan (q : Nat) (f : Sequence → Sequence) : (s.modSeq q f).cijan = s.cijan := rfl
@[simp] theorem State.modSeq_peal (q : Nat) (f : Sequence → Sequence) : (s.modSeq q f).peal = s.peal := rfl
@[simp] theorem State.modSeq_power (q : Nat) (f : Sequence → Sequence) : (s.modSeq q f).power = s.power := rfl
@[simp] theorem State.modSeq_fail (q : Nat) (f : Sequence → Sequence) : (s.modSeq q f).fail = s.fail := rfl
@[simp] theorem State.modSeq_boot (q : Nat) (f : Sequence → Sequence) : (s.modSeq q f).boot = s.boot := rfl
@[simp] theorem State.modSeq_win (q : Nat) (f : Sequence → Sequence) : (s.modSeq q f).win = s.win := rfl
@[simp] theorem State.modSeq_outbox (q : Nat) (f : Sequence → Sequence) : (s.modSeq q f).outbox = s.outbox := rfl
@[simp] theorem State.modSeq_pending (q : Nat) (f : Sequence → Sequence) : (s.modSeq q f).pending = s.pending := rfl

/-! ### modList -/

@[simp] theorem State.modList_now (id : Nat) (f : WorkList → WorkList) : (s.modList id f).now = s.now := rfl
@[simp] theorem State.modList_nextId (id : Nat) (f : WorkList → WorkList) : (s.modList id f).nextId = s.nextId := rfl
@[simp] theorem State.modList_freeCount (id : Nat) (f : WorkList → WorkList) : (s.modList id f).freeCount = s.freeCount := rfl
@[simp] theorem State.modList_beat (id : Nat) (f : WorkList → WorkList) : (s.modList id f).beat = s.beat := rfl
@[simp] theorem State.modList_almanac (id : Nat) (f : WorkList → WorkList) : (s.modList id f).almanac = s.almanac := rfl
@[simp] theorem State.modList_kits (id : Nat) (f : WorkList → WorkList) : (s.modList id f).kits = s.kits := rfl
@[simp] theorem State.modList_creations (id : Nat) (f : WorkList → WorkList) : (s.modList id f).creations = s.creations := rfl
@[simp] theorem State.modList_unitReturns (id : Nat) (f : WorkList → WorkList) : (s.modList id f).unitReturns = s.unitReturns := rfl
@[simp] theorem State.modList_sequences (id : Nat) (f : WorkList → WorkList) : (s.modList id f).sequences = s.sequences := rfl
@[simp] theorem State.modList_queues (id : Nat) (f : WorkList → WorkList) : (s.modList id f).queues = s.queues := rfl
@[simp] theorem State.modList_crings (id : Nat) (f : WorkList → WorkList) : (s.modList id f).crings = s.crings := rfl
@[simp] theorem State.modList_commands (id : Nat) (f : WorkList → WorkList) : (s.modList id f).commands = s.commands := rfl
@[simp] theorem State.modList_namedReads (id : Nat) (f : WorkList → WorkList) : (s.modList id f).namedReads = s.namedReads := rfl
@[simp] theorem State.modList_contexts (id : Nat) (f : WorkList → WorkList) : (s.modList id f).contexts = s.contexts := rfl
@[simp] theorem State.modList_objects (id : Nat) (f : WorkList → WorkList) : (s.modList id f).objects = s.objects := rfl
@[simp] theorem State.modList_chimes (id : Nat) (f : WorkList → WorkList) : (s.modList id f).chimes = s.chimes := rfl
@[simp] theorem State.modList_waiters (id : Nat) (f : WorkList → WorkList) : (s.modList id f).waiters = s.waiters := rfl
@[simp] theorem State.modList_signals (id : Nat) (f : WorkList → WorkList) : (s.modList id f).signals = s.signals := rfl
@[simp] theorem State.modList_partitions (id : Nat) (f : WorkList → WorkList) : (s.modList id f).partitions = s.partitions := rfl
@[simp] theorem State.modList_partitionChanges (id : Nat) (f : WorkList → WorkList) : (s.modList id f).partitionChanges = s.partitionChanges := rfl
@[simp] theorem State.modList_functions (id : Nat) (f : WorkList → WorkList) : (s.modList id f).functions = s.functions := rfl
@[simp] theorem State.modList_cores (id : Nat) (f : WorkList → WorkList) : (s.modList id f).cores = s.cores := rfl
@[simp] theorem State.modList_mem (id : Nat) (f : WorkList → WorkList) : (s.modList id f).mem = s.mem := rfl
@[simp] theorem State.modList_fabric (id : Nat) (f : WorkList → WorkList) : (s.modList id f).fabric = s.fabric := rfl
@[simp] theorem State.modList_cijan (id : Nat) (f : WorkList → WorkList) : (s.modList id f).cijan = s.cijan := rfl
@[simp] theorem State.modList_peal (id : Nat) (f : WorkList → WorkList) : (s.modList id f).peal = s.peal := rfl
@[simp] theorem State.modList_power (id : Nat) (f : WorkList → WorkList) : (s.modList id f).power = s.power := rfl
@[simp] theorem State.modList_fail (id : Nat) (f : WorkList → WorkList) : (s.modList id f).fail = s.fail := rfl
@[simp] theorem State.modList_boot (id : Nat) (f : WorkList → WorkList) : (s.modList id f).boot = s.boot := rfl
@[simp] theorem State.modList_win (id : Nat) (f : WorkList → WorkList) : (s.modList id f).win = s.win := rfl
@[simp] theorem State.modList_outbox (id : Nat) (f : WorkList → WorkList) : (s.modList id f).outbox = s.outbox := rfl
@[simp] theorem State.modList_pending (id : Nat) (f : WorkList → WorkList) : (s.modList id f).pending = s.pending := rfl

/-! ### modObject -/

@[simp] theorem State.modObject_now (i : Nat) (f : Object → Object) : (s.modObject i f).now = s.now := rfl
@[simp] theorem State.modObject_nextId (i : Nat) (f : Object → Object) : (s.modObject i f).nextId = s.nextId := rfl
@[simp] theorem State.modObject_freeCount (i : Nat) (f : Object → Object) : (s.modObject i f).freeCount = s.freeCount := rfl
@[simp] theorem State.modObject_beat (i : Nat) (f : Object → Object) : (s.modObject i f).beat = s.beat := rfl
@[simp] theorem State.modObject_almanac (i : Nat) (f : Object → Object) : (s.modObject i f).almanac = s.almanac := rfl
@[simp] theorem State.modObject_kits (i : Nat) (f : Object → Object) : (s.modObject i f).kits = s.kits := rfl
@[simp] theorem State.modObject_creations (i : Nat) (f : Object → Object) : (s.modObject i f).creations = s.creations := rfl
@[simp] theorem State.modObject_unitReturns (i : Nat) (f : Object → Object) : (s.modObject i f).unitReturns = s.unitReturns := rfl
@[simp] theorem State.modObject_sequences (i : Nat) (f : Object → Object) : (s.modObject i f).sequences = s.sequences := rfl
@[simp] theorem State.modObject_queues (i : Nat) (f : Object → Object) : (s.modObject i f).queues = s.queues := rfl
@[simp] theorem State.modObject_crings (i : Nat) (f : Object → Object) : (s.modObject i f).crings = s.crings := rfl
@[simp] theorem State.modObject_commands (i : Nat) (f : Object → Object) : (s.modObject i f).commands = s.commands := rfl
@[simp] theorem State.modObject_namedReads (i : Nat) (f : Object → Object) : (s.modObject i f).namedReads = s.namedReads := rfl
@[simp] theorem State.modObject_contexts (i : Nat) (f : Object → Object) : (s.modObject i f).contexts = s.contexts := rfl
@[simp] theorem State.modObject_objects (i : Nat) (f : Object → Object) : (s.modObject i f).objects = tmod s.objects i f := rfl
@[simp] theorem State.modObject_chimes (i : Nat) (f : Object → Object) : (s.modObject i f).chimes = s.chimes := rfl
@[simp] theorem State.modObject_waiters (i : Nat) (f : Object → Object) : (s.modObject i f).waiters = s.waiters := rfl
@[simp] theorem State.modObject_signals (i : Nat) (f : Object → Object) : (s.modObject i f).signals = s.signals := rfl
@[simp] theorem State.modObject_partitions (i : Nat) (f : Object → Object) : (s.modObject i f).partitions = s.partitions := rfl
@[simp] theorem State.modObject_partitionChanges (i : Nat) (f : Object → Object) : (s.modObject i f).partitionChanges = s.partitionChanges := rfl
@[simp] theorem State.modObject_functions (i : Nat) (f : Object → Object) : (s.modObject i f).functions = s.functions := rfl
@[simp] theorem State.modObject_cores (i : Nat) (f : Object → Object) : (s.modObject i f).cores = s.cores := rfl
@[simp] theorem State.modObject_lists (i : Nat) (f : Object → Object) : (s.modObject i f).lists = s.lists := rfl
@[simp] theorem State.modObject_mem (i : Nat) (f : Object → Object) : (s.modObject i f).mem = s.mem := rfl
@[simp] theorem State.modObject_fabric (i : Nat) (f : Object → Object) : (s.modObject i f).fabric = s.fabric := rfl
@[simp] theorem State.modObject_cijan (i : Nat) (f : Object → Object) : (s.modObject i f).cijan = s.cijan := rfl
@[simp] theorem State.modObject_peal (i : Nat) (f : Object → Object) : (s.modObject i f).peal = s.peal := rfl
@[simp] theorem State.modObject_power (i : Nat) (f : Object → Object) : (s.modObject i f).power = s.power := rfl
@[simp] theorem State.modObject_fail (i : Nat) (f : Object → Object) : (s.modObject i f).fail = s.fail := rfl
@[simp] theorem State.modObject_boot (i : Nat) (f : Object → Object) : (s.modObject i f).boot = s.boot := rfl
@[simp] theorem State.modObject_win (i : Nat) (f : Object → Object) : (s.modObject i f).win = s.win := rfl
@[simp] theorem State.modObject_outbox (i : Nat) (f : Object → Object) : (s.modObject i f).outbox = s.outbox := rfl
@[simp] theorem State.modObject_pending (i : Nat) (f : Object → Object) : (s.modObject i f).pending = s.pending := rfl

/-! ### modContext -/

@[simp] theorem State.modContext_now (c : Nat) (f : Context → Context) : (s.modContext c f).now = s.now := rfl
@[simp] theorem State.modContext_nextId (c : Nat) (f : Context → Context) : (s.modContext c f).nextId = s.nextId := rfl
@[simp] theorem State.modContext_freeCount (c : Nat) (f : Context → Context) : (s.modContext c f).freeCount = s.freeCount := rfl
@[simp] theorem State.modContext_beat (c : Nat) (f : Context → Context) : (s.modContext c f).beat = s.beat := rfl
@[simp] theorem State.modContext_almanac (c : Nat) (f : Context → Context) : (s.modContext c f).almanac = s.almanac := rfl
@[simp] theorem State.modContext_kits (c : Nat) (f : Context → Context) : (s.modContext c f).kits = s.kits := rfl
@[simp] theorem State.modContext_creations (c : Nat) (f : Context → Context) : (s.modContext c f).creations = s.creations := rfl
@[simp] theorem State.modContext_unitReturns (c : Nat) (f : Context → Context) : (s.modContext c f).unitReturns = s.unitReturns := rfl
@[simp] theorem State.modContext_sequences (c : Nat) (f : Context → Context) : (s.modContext c f).sequences = s.sequences := rfl
@[simp] theorem State.modContext_queues (c : Nat) (f : Context → Context) : (s.modContext c f).queues = s.queues := rfl
@[simp] theorem State.modContext_crings (c : Nat) (f : Context → Context) : (s.modContext c f).crings = s.crings := rfl
@[simp] theorem State.modContext_commands (c : Nat) (f : Context → Context) : (s.modContext c f).commands = s.commands := rfl
@[simp] theorem State.modContext_namedReads (c : Nat) (f : Context → Context) : (s.modContext c f).namedReads = s.namedReads := rfl
@[simp] theorem State.modContext_contexts (c : Nat) (f : Context → Context) : (s.modContext c f).contexts = tmod s.contexts c f := rfl
@[simp] theorem State.modContext_objects (c : Nat) (f : Context → Context) : (s.modContext c f).objects = s.objects := rfl
@[simp] theorem State.modContext_chimes (c : Nat) (f : Context → Context) : (s.modContext c f).chimes = s.chimes := rfl
@[simp] theorem State.modContext_waiters (c : Nat) (f : Context → Context) : (s.modContext c f).waiters = s.waiters := rfl
@[simp] theorem State.modContext_signals (c : Nat) (f : Context → Context) : (s.modContext c f).signals = s.signals := rfl
@[simp] theorem State.modContext_partitions (c : Nat) (f : Context → Context) : (s.modContext c f).partitions = s.partitions := rfl
@[simp] theorem State.modContext_partitionChanges (c : Nat) (f : Context → Context) : (s.modContext c f).partitionChanges = s.partitionChanges := rfl
@[simp] theorem State.modContext_functions (c : Nat) (f : Context → Context) : (s.modContext c f).functions = s.functions := rfl
@[simp] theorem State.modContext_cores (c : Nat) (f : Context → Context) : (s.modContext c f).cores = s.cores := rfl
@[simp] theorem State.modContext_lists (c : Nat) (f : Context → Context) : (s.modContext c f).lists = s.lists := rfl
@[simp] theorem State.modContext_mem (c : Nat) (f : Context → Context) : (s.modContext c f).mem = s.mem := rfl
@[simp] theorem State.modContext_fabric (c : Nat) (f : Context → Context) : (s.modContext c f).fabric = s.fabric := rfl
@[simp] theorem State.modContext_cijan (c : Nat) (f : Context → Context) : (s.modContext c f).cijan = s.cijan := rfl
@[simp] theorem State.modContext_peal (c : Nat) (f : Context → Context) : (s.modContext c f).peal = s.peal := rfl
@[simp] theorem State.modContext_power (c : Nat) (f : Context → Context) : (s.modContext c f).power = s.power := rfl
@[simp] theorem State.modContext_fail (c : Nat) (f : Context → Context) : (s.modContext c f).fail = s.fail := rfl
@[simp] theorem State.modContext_boot (c : Nat) (f : Context → Context) : (s.modContext c f).boot = s.boot := rfl
@[simp] theorem State.modContext_win (c : Nat) (f : Context → Context) : (s.modContext c f).win = s.win := rfl
@[simp] theorem State.modContext_outbox (c : Nat) (f : Context → Context) : (s.modContext c f).outbox = s.outbox := rfl
@[simp] theorem State.modContext_pending (c : Nat) (f : Context → Context) : (s.modContext c f).pending = s.pending := rfl

/-! ### modFunction -/

@[simp] theorem State.modFunction_now (f : Nat) (g : VFunction → VFunction) : (s.modFunction f g).now = s.now := rfl
@[simp] theorem State.modFunction_nextId (f : Nat) (g : VFunction → VFunction) : (s.modFunction f g).nextId = s.nextId := rfl
@[simp] theorem State.modFunction_freeCount (f : Nat) (g : VFunction → VFunction) : (s.modFunction f g).freeCount = s.freeCount := rfl
@[simp] theorem State.modFunction_beat (f : Nat) (g : VFunction → VFunction) : (s.modFunction f g).beat = s.beat := rfl
@[simp] theorem State.modFunction_almanac (f : Nat) (g : VFunction → VFunction) : (s.modFunction f g).almanac = s.almanac := rfl
@[simp] theorem State.modFunction_kits (f : Nat) (g : VFunction → VFunction) : (s.modFunction f g).kits = s.kits := rfl
@[simp] theorem State.modFunction_creations (f : Nat) (g : VFunction → VFunction) : (s.modFunction f g).creations = s.creations := rfl
@[simp] theorem State.modFunction_unitReturns (f : Nat) (g : VFunction → VFunction) : (s.modFunction f g).unitReturns = s.unitReturns := rfl
@[simp] theorem State.modFunction_sequences (f : Nat) (g : VFunction → VFunction) : (s.modFunction f g).sequences = s.sequences := rfl
@[simp] theorem State.modFunction_queues (f : Nat) (g : VFunction → VFunction) : (s.modFunction f g).queues = s.queues := rfl
@[simp] theorem State.modFunction_crings (f : Nat) (g : VFunction → VFunction) : (s.modFunction f g).crings = s.crings := rfl
@[simp] theorem State.modFunction_commands (f : Nat) (g : VFunction → VFunction) : (s.modFunction f g).commands = s.commands := rfl
@[simp] theorem State.modFunction_namedReads (f : Nat) (g : VFunction → VFunction) : (s.modFunction f g).namedReads = s.namedReads := rfl
@[simp] theorem State.modFunction_contexts (f : Nat) (g : VFunction → VFunction) : (s.modFunction f g).contexts = s.contexts := rfl
@[simp] theorem State.modFunction_objects (f : Nat) (g : VFunction → VFunction) : (s.modFunction f g).objects = s.objects := rfl
@[simp] theorem State.modFunction_chimes (f : Nat) (g : VFunction → VFunction) : (s.modFunction f g).chimes = s.chimes := rfl
@[simp] theorem State.modFunction_waiters (f : Nat) (g : VFunction → VFunction) : (s.modFunction f g).waiters = s.waiters := rfl
@[simp] theorem State.modFunction_signals (f : Nat) (g : VFunction → VFunction) : (s.modFunction f g).signals = s.signals := rfl
@[simp] theorem State.modFunction_partitions (f : Nat) (g : VFunction → VFunction) : (s.modFunction f g).partitions = s.partitions := rfl
@[simp] theorem State.modFunction_partitionChanges (f : Nat) (g : VFunction → VFunction) : (s.modFunction f g).partitionChanges = s.partitionChanges := rfl
@[simp] theorem State.modFunction_cores (f : Nat) (g : VFunction → VFunction) : (s.modFunction f g).cores = s.cores := rfl
@[simp] theorem State.modFunction_lists (f : Nat) (g : VFunction → VFunction) : (s.modFunction f g).lists = s.lists := rfl
@[simp] theorem State.modFunction_mem (f : Nat) (g : VFunction → VFunction) : (s.modFunction f g).mem = s.mem := rfl
@[simp] theorem State.modFunction_fabric (f : Nat) (g : VFunction → VFunction) : (s.modFunction f g).fabric = s.fabric := rfl
@[simp] theorem State.modFunction_cijan (f : Nat) (g : VFunction → VFunction) : (s.modFunction f g).cijan = s.cijan := rfl
@[simp] theorem State.modFunction_peal (f : Nat) (g : VFunction → VFunction) : (s.modFunction f g).peal = s.peal := rfl
@[simp] theorem State.modFunction_power (f : Nat) (g : VFunction → VFunction) : (s.modFunction f g).power = s.power := rfl
@[simp] theorem State.modFunction_fail (f : Nat) (g : VFunction → VFunction) : (s.modFunction f g).fail = s.fail := rfl
@[simp] theorem State.modFunction_boot (f : Nat) (g : VFunction → VFunction) : (s.modFunction f g).boot = s.boot := rfl
@[simp] theorem State.modFunction_win (f : Nat) (g : VFunction → VFunction) : (s.modFunction f g).win = s.win := rfl
@[simp] theorem State.modFunction_outbox (f : Nat) (g : VFunction → VFunction) : (s.modFunction f g).outbox = s.outbox := rfl
@[simp] theorem State.modFunction_pending (f : Nat) (g : VFunction → VFunction) : (s.modFunction f g).pending = s.pending := rfl

/-! ### companionWrite -/

@[simp] theorem State.companionWrite_now (a : Nat) (bytes : List Byte) : (s.companionWrite a bytes).now = s.now := rfl
@[simp] theorem State.companionWrite_nextId (a : Nat) (bytes : List Byte) : (s.companionWrite a bytes).nextId = s.nextId := rfl
@[simp] theorem State.companionWrite_freeCount (a : Nat) (bytes : List Byte) : (s.companionWrite a bytes).freeCount = s.freeCount := rfl
@[simp] theorem State.companionWrite_beat (a : Nat) (bytes : List Byte) : (s.companionWrite a bytes).beat = s.beat := rfl
@[simp] theorem State.companionWrite_almanac (a : Nat) (bytes : List Byte) : (s.companionWrite a bytes).almanac = s.almanac := rfl
@[simp] theorem State.companionWrite_kits (a : Nat) (bytes : List Byte) : (s.companionWrite a bytes).kits = s.kits := rfl
@[simp] theorem State.companionWrite_creations (a : Nat) (bytes : List Byte) : (s.companionWrite a bytes).creations = s.creations := rfl
@[simp] theorem State.companionWrite_unitReturns (a : Nat) (bytes : List Byte) : (s.companionWrite a bytes).unitReturns = s.unitReturns := rfl
@[simp] theorem State.companionWrite_sequences (a : Nat) (bytes : List Byte) : (s.companionWrite a bytes).sequences = s.sequences := rfl
@[simp] theorem State.companionWrite_queues (a : Nat) (bytes : List Byte) : (s.companionWrite a bytes).queues = s.queues := rfl
@[simp] theorem State.companionWrite_crings (a : Nat) (bytes : List Byte) : (s.companionWrite a bytes).crings = s.crings := rfl
@[simp] theorem State.companionWrite_commands (a : Nat) (bytes : List Byte) : (s.companionWrite a bytes).commands = s.commands := rfl
@[simp] theorem State.companionWrite_namedReads (a : Nat) (bytes : List Byte) : (s.companionWrite a bytes).namedReads = s.namedReads := rfl
@[simp] theorem State.companionWrite_contexts (a : Nat) (bytes : List Byte) : (s.companionWrite a bytes).contexts = s.contexts := rfl
@[simp] theorem State.companionWrite_objects (a : Nat) (bytes : List Byte) : (s.companionWrite a bytes).objects = s.objects := rfl
@[simp] theorem State.companionWrite_chimes (a : Nat) (bytes : List Byte) : (s.companionWrite a bytes).chimes = s.chimes := rfl
@[simp] theorem State.companionWrite_waiters (a : Nat) (bytes : List Byte) : (s.companionWrite a bytes).waiters = s.waiters := rfl
@[simp] theorem State.companionWrite_signals (a : Nat) (bytes : List Byte) : (s.companionWrite a bytes).signals = s.signals := rfl
@[simp] theorem State.companionWrite_partitions (a : Nat) (bytes : List Byte) : (s.companionWrite a bytes).partitions = s.partitions := rfl
@[simp] theorem State.companionWrite_partitionChanges (a : Nat) (bytes : List Byte) : (s.companionWrite a bytes).partitionChanges = s.partitionChanges := rfl
@[simp] theorem State.companionWrite_functions (a : Nat) (bytes : List Byte) : (s.companionWrite a bytes).functions = s.functions := rfl
@[simp] theorem State.companionWrite_cores (a : Nat) (bytes : List Byte) : (s.companionWrite a bytes).cores = s.cores := rfl
@[simp] theorem State.companionWrite_lists (a : Nat) (bytes : List Byte) : (s.companionWrite a bytes).lists = s.lists := rfl
@[simp] theorem State.companionWrite_fabric (a : Nat) (bytes : List Byte) : (s.companionWrite a bytes).fabric = s.fabric := rfl
@[simp] theorem State.companionWrite_cijan (a : Nat) (bytes : List Byte) : (s.companionWrite a bytes).cijan = s.cijan := rfl
@[simp] theorem State.companionWrite_peal (a : Nat) (bytes : List Byte) : (s.companionWrite a bytes).peal = s.peal := rfl
@[simp] theorem State.companionWrite_power (a : Nat) (bytes : List Byte) : (s.companionWrite a bytes).power = s.power := rfl
@[simp] theorem State.companionWrite_fail (a : Nat) (bytes : List Byte) : (s.companionWrite a bytes).fail = s.fail := rfl
@[simp] theorem State.companionWrite_boot (a : Nat) (bytes : List Byte) : (s.companionWrite a bytes).boot = s.boot := rfl
@[simp] theorem State.companionWrite_win (a : Nat) (bytes : List Byte) : (s.companionWrite a bytes).win = s.win := rfl
@[simp] theorem State.companionWrite_outbox (a : Nat) (bytes : List Byte) : (s.companionWrite a bytes).outbox = s.outbox := rfl
@[simp] theorem State.companionWrite_pending (a : Nat) (bytes : List Byte) : (s.companionWrite a bytes).pending = s.pending := rfl

/-! ### modBoot -/

@[simp] theorem State.modBoot_now (f : BootState → BootState) : (s.modBoot f).now = s.now := rfl
@[simp] theorem State.modBoot_nextId (f : BootState → BootState) : (s.modBoot f).nextId = s.nextId := rfl
@[simp] theorem State.modBoot_freeCount (f : BootState → BootState) : (s.modBoot f).freeCount = s.freeCount := rfl
@[simp] theorem State.modBoot_beat (f : BootState → BootState) : (s.modBoot f).beat = s.beat := rfl
@[simp] theorem State.modBoot_almanac (f : BootState → BootState) : (s.modBoot f).almanac = s.almanac := rfl
@[simp] theorem State.modBoot_kits (f : BootState → BootState) : (s.modBoot f).kits = s.kits := rfl
@[simp] theorem State.modBoot_creations (f : BootState → BootState) : (s.modBoot f).creations = s.creations := rfl
@[simp] theorem State.modBoot_unitReturns (f : BootState → BootState) : (s.modBoot f).unitReturns = s.unitReturns := rfl
@[simp] theorem State.modBoot_sequences (f : BootState → BootState) : (s.modBoot f).sequences = s.sequences := rfl
@[simp] theorem State.modBoot_queues (f : BootState → BootState) : (s.modBoot f).queues = s.queues := rfl
@[simp] theorem State.modBoot_crings (f : BootState → BootState) : (s.modBoot f).crings = s.crings := rfl
@[simp] theorem State.modBoot_commands (f : BootState → BootState) : (s.modBoot f).commands = s.commands := rfl
@[simp] theorem State.modBoot_namedReads (f : BootState → BootState) : (s.modBoot f).namedReads = s.namedReads := rfl
@[simp] theorem State.modBoot_contexts (f : BootState → BootState) : (s.modBoot f).contexts = s.contexts := rfl
@[simp] theorem State.modBoot_objects (f : BootState → BootState) : (s.modBoot f).objects = s.objects := rfl
@[simp] theorem State.modBoot_chimes (f : BootState → BootState) : (s.modBoot f).chimes = s.chimes := rfl
@[simp] theorem State.modBoot_waiters (f : BootState → BootState) : (s.modBoot f).waiters = s.waiters := rfl
@[simp] theorem State.modBoot_signals (f : BootState → BootState) : (s.modBoot f).signals = s.signals := rfl
@[simp] theorem State.modBoot_partitions (f : BootState → BootState) : (s.modBoot f).partitions = s.partitions := rfl
@[simp] theorem State.modBoot_partitionChanges (f : BootState → BootState) : (s.modBoot f).partitionChanges = s.partitionChanges := rfl
@[simp] theorem State.modBoot_functions (f : BootState → BootState) : (s.modBoot f).functions = s.functions := rfl
@[simp] theorem State.modBoot_cores (f : BootState → BootState) : (s.modBoot f).cores = s.cores := rfl
@[simp] theorem State.modBoot_lists (f : BootState → BootState) : (s.modBoot f).lists = s.lists := rfl
@[simp] theorem State.modBoot_mem (f : BootState → BootState) : (s.modBoot f).mem = s.mem := rfl
@[simp] theorem State.modBoot_fabric (f : BootState → BootState) : (s.modBoot f).fabric = s.fabric := rfl
@[simp] theorem State.modBoot_cijan (f : BootState → BootState) : (s.modBoot f).cijan = s.cijan := rfl
@[simp] theorem State.modBoot_peal (f : BootState → BootState) : (s.modBoot f).peal = s.peal := rfl
@[simp] theorem State.modBoot_power (f : BootState → BootState) : (s.modBoot f).power = s.power := rfl
@[simp] theorem State.modBoot_fail (f : BootState → BootState) : (s.modBoot f).fail = s.fail := rfl
@[simp] theorem State.modBoot_boot (f : BootState → BootState) : (s.modBoot f).boot = f s.boot := rfl
@[simp] theorem State.modBoot_win (f : BootState → BootState) : (s.modBoot f).win = s.win := rfl
@[simp] theorem State.modBoot_outbox (f : BootState → BootState) : (s.modBoot f).outbox = s.outbox := rfl
@[simp] theorem State.modBoot_pending (f : BootState → BootState) : (s.modBoot f).pending = s.pending := rfl

/-! ### modDie -/

@[simp] theorem State.modDie_now (st : Nat) (f : ComputeDie → ComputeDie) : (s.modDie st f).now = s.now := rfl
@[simp] theorem State.modDie_nextId (st : Nat) (f : ComputeDie → ComputeDie) : (s.modDie st f).nextId = s.nextId := rfl
@[simp] theorem State.modDie_freeCount (st : Nat) (f : ComputeDie → ComputeDie) : (s.modDie st f).freeCount = s.freeCount := rfl
@[simp] theorem State.modDie_beat (st : Nat) (f : ComputeDie → ComputeDie) : (s.modDie st f).beat = s.beat := rfl
@[simp] theorem State.modDie_almanac (st : Nat) (f : ComputeDie → ComputeDie) : (s.modDie st f).almanac = s.almanac := rfl
@[simp] theorem State.modDie_kits (st : Nat) (f : ComputeDie → ComputeDie) : (s.modDie st f).kits = s.kits := rfl
@[simp] theorem State.modDie_creations (st : Nat) (f : ComputeDie → ComputeDie) : (s.modDie st f).creations = s.creations := rfl
@[simp] theorem State.modDie_unitReturns (st : Nat) (f : ComputeDie → ComputeDie) : (s.modDie st f).unitReturns = s.unitReturns := rfl
@[simp] theorem State.modDie_sequences (st : Nat) (f : ComputeDie → ComputeDie) : (s.modDie st f).sequences = s.sequences := rfl
@[simp] theorem State.modDie_queues (st : Nat) (f : ComputeDie → ComputeDie) : (s.modDie st f).queues = s.queues := rfl
@[simp] theorem State.modDie_crings (st : Nat) (f : ComputeDie → ComputeDie) : (s.modDie st f).crings = s.crings := rfl
@[simp] theorem State.modDie_commands (st : Nat) (f : ComputeDie → ComputeDie) : (s.modDie st f).commands = s.commands := rfl
@[simp] theorem State.modDie_namedReads (st : Nat) (f : ComputeDie → ComputeDie) : (s.modDie st f).namedReads = s.namedReads := rfl
@[simp] theorem State.modDie_contexts (st : Nat) (f : ComputeDie → ComputeDie) : (s.modDie st f).contexts = s.contexts := rfl
@[simp] theorem State.modDie_objects (st : Nat) (f : ComputeDie → ComputeDie) : (s.modDie st f).objects = s.objects := rfl
@[simp] theorem State.modDie_chimes (st : Nat) (f : ComputeDie → ComputeDie) : (s.modDie st f).chimes = s.chimes := rfl
@[simp] theorem State.modDie_waiters (st : Nat) (f : ComputeDie → ComputeDie) : (s.modDie st f).waiters = s.waiters := rfl
@[simp] theorem State.modDie_signals (st : Nat) (f : ComputeDie → ComputeDie) : (s.modDie st f).signals = s.signals := rfl
@[simp] theorem State.modDie_partitions (st : Nat) (f : ComputeDie → ComputeDie) : (s.modDie st f).partitions = s.partitions := rfl
@[simp] theorem State.modDie_partitionChanges (st : Nat) (f : ComputeDie → ComputeDie) : (s.modDie st f).partitionChanges = s.partitionChanges := rfl
@[simp] theorem State.modDie_functions (st : Nat) (f : ComputeDie → ComputeDie) : (s.modDie st f).functions = s.functions := rfl
@[simp] theorem State.modDie_cores (st : Nat) (f : ComputeDie → ComputeDie) : (s.modDie st f).cores = s.cores := rfl
@[simp] theorem State.modDie_lists (st : Nat) (f : ComputeDie → ComputeDie) : (s.modDie st f).lists = s.lists := rfl
@[simp] theorem State.modDie_mem (st : Nat) (f : ComputeDie → ComputeDie) : (s.modDie st f).mem = s.mem := rfl
@[simp] theorem State.modDie_fabric (st : Nat) (f : ComputeDie → ComputeDie) : (s.modDie st f).fabric = s.fabric := rfl
@[simp] theorem State.modDie_cijan (st : Nat) (f : ComputeDie → ComputeDie) : (s.modDie st f).cijan = s.cijan := rfl
@[simp] theorem State.modDie_peal (st : Nat) (f : ComputeDie → ComputeDie) : (s.modDie st f).peal = s.peal := rfl
@[simp] theorem State.modDie_power (st : Nat) (f : ComputeDie → ComputeDie) : (s.modDie st f).power = s.power := rfl
@[simp] theorem State.modDie_boot (st : Nat) (f : ComputeDie → ComputeDie) : (s.modDie st f).boot = s.boot := rfl
@[simp] theorem State.modDie_win (st : Nat) (f : ComputeDie → ComputeDie) : (s.modDie st f).win = s.win := rfl
@[simp] theorem State.modDie_outbox (st : Nat) (f : ComputeDie → ComputeDie) : (s.modDie st f).outbox = s.outbox := rfl
@[simp] theorem State.modDie_pending (st : Nat) (f : ComputeDie → ComputeDie) : (s.modDie st f).pending = s.pending := rfl

/-! ### modEdge -/

@[simp] theorem State.modEdge_now (e : Nat) (f : EdgeDie → EdgeDie) : (s.modEdge e f).now = s.now := rfl
@[simp] theorem State.modEdge_nextId (e : Nat) (f : EdgeDie → EdgeDie) : (s.modEdge e f).nextId = s.nextId := rfl
@[simp] theorem State.modEdge_freeCount (e : Nat) (f : EdgeDie → EdgeDie) : (s.modEdge e f).freeCount = s.freeCount := rfl
@[simp] theorem State.modEdge_beat (e : Nat) (f : EdgeDie → EdgeDie) : (s.modEdge e f).beat = s.beat := rfl
@[simp] theorem State.modEdge_almanac (e : Nat) (f : EdgeDie → EdgeDie) : (s.modEdge e f).almanac = s.almanac := rfl
@[simp] theorem State.modEdge_kits (e : Nat) (f : EdgeDie → EdgeDie) : (s.modEdge e f).kits = s.kits := rfl
@[simp] theorem State.modEdge_creations (e : Nat) (f : EdgeDie → EdgeDie) : (s.modEdge e f).creations = s.creations := rfl
@[simp] theorem State.modEdge_unitReturns (e : Nat) (f : EdgeDie → EdgeDie) : (s.modEdge e f).unitReturns = s.unitReturns := rfl
@[simp] theorem State.modEdge_sequences (e : Nat) (f : EdgeDie → EdgeDie) : (s.modEdge e f).sequences = s.sequences := rfl
@[simp] theorem State.modEdge_queues (e : Nat) (f : EdgeDie → EdgeDie) : (s.modEdge e f).queues = s.queues := rfl
@[simp] theorem State.modEdge_crings (e : Nat) (f : EdgeDie → EdgeDie) : (s.modEdge e f).crings = s.crings := rfl
@[simp] theorem State.modEdge_commands (e : Nat) (f : EdgeDie → EdgeDie) : (s.modEdge e f).commands = s.commands := rfl
@[simp] theorem State.modEdge_namedReads (e : Nat) (f : EdgeDie → EdgeDie) : (s.modEdge e f).namedReads = s.namedReads := rfl
@[simp] theorem State.modEdge_contexts (e : Nat) (f : EdgeDie → EdgeDie) : (s.modEdge e f).contexts = s.contexts := rfl
@[simp] theorem State.modEdge_objects (e : Nat) (f : EdgeDie → EdgeDie) : (s.modEdge e f).objects = s.objects := rfl
@[simp] theorem State.modEdge_chimes (e : Nat) (f : EdgeDie → EdgeDie) : (s.modEdge e f).chimes = s.chimes := rfl
@[simp] theorem State.modEdge_waiters (e : Nat) (f : EdgeDie → EdgeDie) : (s.modEdge e f).waiters = s.waiters := rfl
@[simp] theorem State.modEdge_signals (e : Nat) (f : EdgeDie → EdgeDie) : (s.modEdge e f).signals = s.signals := rfl
@[simp] theorem State.modEdge_partitions (e : Nat) (f : EdgeDie → EdgeDie) : (s.modEdge e f).partitions = s.partitions := rfl
@[simp] theorem State.modEdge_partitionChanges (e : Nat) (f : EdgeDie → EdgeDie) : (s.modEdge e f).partitionChanges = s.partitionChanges := rfl
@[simp] theorem State.modEdge_functions (e : Nat) (f : EdgeDie → EdgeDie) : (s.modEdge e f).functions = s.functions := rfl
@[simp] theorem State.modEdge_cores (e : Nat) (f : EdgeDie → EdgeDie) : (s.modEdge e f).cores = s.cores := rfl
@[simp] theorem State.modEdge_lists (e : Nat) (f : EdgeDie → EdgeDie) : (s.modEdge e f).lists = s.lists := rfl
@[simp] theorem State.modEdge_mem (e : Nat) (f : EdgeDie → EdgeDie) : (s.modEdge e f).mem = s.mem := rfl
@[simp] theorem State.modEdge_fabric (e : Nat) (f : EdgeDie → EdgeDie) : (s.modEdge e f).fabric = s.fabric := rfl
@[simp] theorem State.modEdge_cijan (e : Nat) (f : EdgeDie → EdgeDie) : (s.modEdge e f).cijan = s.cijan := rfl
@[simp] theorem State.modEdge_peal (e : Nat) (f : EdgeDie → EdgeDie) : (s.modEdge e f).peal = s.peal := rfl
@[simp] theorem State.modEdge_power (e : Nat) (f : EdgeDie → EdgeDie) : (s.modEdge e f).power = s.power := rfl
@[simp] theorem State.modEdge_boot (e : Nat) (f : EdgeDie → EdgeDie) : (s.modEdge e f).boot = s.boot := rfl
@[simp] theorem State.modEdge_win (e : Nat) (f : EdgeDie → EdgeDie) : (s.modEdge e f).win = s.win := rfl
@[simp] theorem State.modEdge_outbox (e : Nat) (f : EdgeDie → EdgeDie) : (s.modEdge e f).outbox = s.outbox := rfl
@[simp] theorem State.modEdge_pending (e : Nat) (f : EdgeDie → EdgeDie) : (s.modEdge e f).pending = s.pending := rfl

/-! ### modGranule -/

@[simp] theorem State.modGranule_now (g : Nat) (f : Granule → Granule) : (s.modGranule g f).now = s.now := rfl
@[simp] theorem State.modGranule_nextId (g : Nat) (f : Granule → Granule) : (s.modGranule g f).nextId = s.nextId := rfl
@[simp] theorem State.modGranule_freeCount (g : Nat) (f : Granule → Granule) : (s.modGranule g f).freeCount = s.freeCount := rfl
@[simp] theorem State.modGranule_beat (g : Nat) (f : Granule → Granule) : (s.modGranule g f).beat = s.beat := rfl
@[simp] theorem State.modGranule_almanac (g : Nat) (f : Granule → Granule) : (s.modGranule g f).almanac = s.almanac := rfl
@[simp] theorem State.modGranule_kits (g : Nat) (f : Granule → Granule) : (s.modGranule g f).kits = s.kits := rfl
@[simp] theorem State.modGranule_creations (g : Nat) (f : Granule → Granule) : (s.modGranule g f).creations = s.creations := rfl
@[simp] theorem State.modGranule_unitReturns (g : Nat) (f : Granule → Granule) : (s.modGranule g f).unitReturns = s.unitReturns := rfl
@[simp] theorem State.modGranule_sequences (g : Nat) (f : Granule → Granule) : (s.modGranule g f).sequences = s.sequences := rfl
@[simp] theorem State.modGranule_queues (g : Nat) (f : Granule → Granule) : (s.modGranule g f).queues = s.queues := rfl
@[simp] theorem State.modGranule_crings (g : Nat) (f : Granule → Granule) : (s.modGranule g f).crings = s.crings := rfl
@[simp] theorem State.modGranule_commands (g : Nat) (f : Granule → Granule) : (s.modGranule g f).commands = s.commands := rfl
@[simp] theorem State.modGranule_namedReads (g : Nat) (f : Granule → Granule) : (s.modGranule g f).namedReads = s.namedReads := rfl
@[simp] theorem State.modGranule_contexts (g : Nat) (f : Granule → Granule) : (s.modGranule g f).contexts = s.contexts := rfl
@[simp] theorem State.modGranule_objects (g : Nat) (f : Granule → Granule) : (s.modGranule g f).objects = s.objects := rfl
@[simp] theorem State.modGranule_chimes (g : Nat) (f : Granule → Granule) : (s.modGranule g f).chimes = s.chimes := rfl
@[simp] theorem State.modGranule_waiters (g : Nat) (f : Granule → Granule) : (s.modGranule g f).waiters = s.waiters := rfl
@[simp] theorem State.modGranule_signals (g : Nat) (f : Granule → Granule) : (s.modGranule g f).signals = s.signals := rfl
@[simp] theorem State.modGranule_partitions (g : Nat) (f : Granule → Granule) : (s.modGranule g f).partitions = s.partitions := rfl
@[simp] theorem State.modGranule_partitionChanges (g : Nat) (f : Granule → Granule) : (s.modGranule g f).partitionChanges = s.partitionChanges := rfl
@[simp] theorem State.modGranule_functions (g : Nat) (f : Granule → Granule) : (s.modGranule g f).functions = s.functions := rfl
@[simp] theorem State.modGranule_cores (g : Nat) (f : Granule → Granule) : (s.modGranule g f).cores = s.cores := rfl
@[simp] theorem State.modGranule_lists (g : Nat) (f : Granule → Granule) : (s.modGranule g f).lists = s.lists := rfl
@[simp] theorem State.modGranule_fabric (g : Nat) (f : Granule → Granule) : (s.modGranule g f).fabric = s.fabric := rfl
@[simp] theorem State.modGranule_cijan (g : Nat) (f : Granule → Granule) : (s.modGranule g f).cijan = s.cijan := rfl
@[simp] theorem State.modGranule_peal (g : Nat) (f : Granule → Granule) : (s.modGranule g f).peal = s.peal := rfl
@[simp] theorem State.modGranule_power (g : Nat) (f : Granule → Granule) : (s.modGranule g f).power = s.power := rfl
@[simp] theorem State.modGranule_fail (g : Nat) (f : Granule → Granule) : (s.modGranule g f).fail = s.fail := rfl
@[simp] theorem State.modGranule_boot (g : Nat) (f : Granule → Granule) : (s.modGranule g f).boot = s.boot := rfl
@[simp] theorem State.modGranule_win (g : Nat) (f : Granule → Granule) : (s.modGranule g f).win = s.win := rfl
@[simp] theorem State.modGranule_outbox (g : Nat) (f : Granule → Granule) : (s.modGranule g f).outbox = s.outbox := rfl
@[simp] theorem State.modGranule_pending (g : Nat) (f : Granule → Granule) : (s.modGranule g f).pending = s.pending := rfl

/-! ### modGranule2 -/

@[simp] theorem State.modGranule2_now (g : Nat) (f : Granule2 → Granule2) : (s.modGranule2 g f).now = s.now := rfl
@[simp] theorem State.modGranule2_nextId (g : Nat) (f : Granule2 → Granule2) : (s.modGranule2 g f).nextId = s.nextId := rfl
@[simp] theorem State.modGranule2_freeCount (g : Nat) (f : Granule2 → Granule2) : (s.modGranule2 g f).freeCount = s.freeCount := rfl
@[simp] theorem State.modGranule2_beat (g : Nat) (f : Granule2 → Granule2) : (s.modGranule2 g f).beat = s.beat := rfl
@[simp] theorem State.modGranule2_almanac (g : Nat) (f : Granule2 → Granule2) : (s.modGranule2 g f).almanac = s.almanac := rfl
@[simp] theorem State.modGranule2_kits (g : Nat) (f : Granule2 → Granule2) : (s.modGranule2 g f).kits = s.kits := rfl
@[simp] theorem State.modGranule2_creations (g : Nat) (f : Granule2 → Granule2) : (s.modGranule2 g f).creations = s.creations := rfl
@[simp] theorem State.modGranule2_unitReturns (g : Nat) (f : Granule2 → Granule2) : (s.modGranule2 g f).unitReturns = s.unitReturns := rfl
@[simp] theorem State.modGranule2_sequences (g : Nat) (f : Granule2 → Granule2) : (s.modGranule2 g f).sequences = s.sequences := rfl
@[simp] theorem State.modGranule2_queues (g : Nat) (f : Granule2 → Granule2) : (s.modGranule2 g f).queues = s.queues := rfl
@[simp] theorem State.modGranule2_crings (g : Nat) (f : Granule2 → Granule2) : (s.modGranule2 g f).crings = s.crings := rfl
@[simp] theorem State.modGranule2_commands (g : Nat) (f : Granule2 → Granule2) : (s.modGranule2 g f).commands = s.commands := rfl
@[simp] theorem State.modGranule2_namedReads (g : Nat) (f : Granule2 → Granule2) : (s.modGranule2 g f).namedReads = s.namedReads := rfl
@[simp] theorem State.modGranule2_contexts (g : Nat) (f : Granule2 → Granule2) : (s.modGranule2 g f).contexts = s.contexts := rfl
@[simp] theorem State.modGranule2_objects (g : Nat) (f : Granule2 → Granule2) : (s.modGranule2 g f).objects = s.objects := rfl
@[simp] theorem State.modGranule2_chimes (g : Nat) (f : Granule2 → Granule2) : (s.modGranule2 g f).chimes = s.chimes := rfl
@[simp] theorem State.modGranule2_waiters (g : Nat) (f : Granule2 → Granule2) : (s.modGranule2 g f).waiters = s.waiters := rfl
@[simp] theorem State.modGranule2_signals (g : Nat) (f : Granule2 → Granule2) : (s.modGranule2 g f).signals = s.signals := rfl
@[simp] theorem State.modGranule2_partitions (g : Nat) (f : Granule2 → Granule2) : (s.modGranule2 g f).partitions = s.partitions := rfl
@[simp] theorem State.modGranule2_partitionChanges (g : Nat) (f : Granule2 → Granule2) : (s.modGranule2 g f).partitionChanges = s.partitionChanges := rfl
@[simp] theorem State.modGranule2_functions (g : Nat) (f : Granule2 → Granule2) : (s.modGranule2 g f).functions = s.functions := rfl
@[simp] theorem State.modGranule2_cores (g : Nat) (f : Granule2 → Granule2) : (s.modGranule2 g f).cores = s.cores := rfl
@[simp] theorem State.modGranule2_lists (g : Nat) (f : Granule2 → Granule2) : (s.modGranule2 g f).lists = s.lists := rfl
@[simp] theorem State.modGranule2_fabric (g : Nat) (f : Granule2 → Granule2) : (s.modGranule2 g f).fabric = s.fabric := rfl
@[simp] theorem State.modGranule2_cijan (g : Nat) (f : Granule2 → Granule2) : (s.modGranule2 g f).cijan = s.cijan := rfl
@[simp] theorem State.modGranule2_peal (g : Nat) (f : Granule2 → Granule2) : (s.modGranule2 g f).peal = s.peal := rfl
@[simp] theorem State.modGranule2_power (g : Nat) (f : Granule2 → Granule2) : (s.modGranule2 g f).power = s.power := rfl
@[simp] theorem State.modGranule2_fail (g : Nat) (f : Granule2 → Granule2) : (s.modGranule2 g f).fail = s.fail := rfl
@[simp] theorem State.modGranule2_boot (g : Nat) (f : Granule2 → Granule2) : (s.modGranule2 g f).boot = s.boot := rfl
@[simp] theorem State.modGranule2_win (g : Nat) (f : Granule2 → Granule2) : (s.modGranule2 g f).win = s.win := rfl
@[simp] theorem State.modGranule2_outbox (g : Nat) (f : Granule2 → Granule2) : (s.modGranule2 g f).outbox = s.outbox := rfl
@[simp] theorem State.modGranule2_pending (g : Nat) (f : Granule2 → Granule2) : (s.modGranule2 g f).pending = s.pending := rfl

/-! ### modRequest -/

@[simp] theorem State.modRequest_now (id : Nat) (f : Request → Request) : (s.modRequest id f).now = s.now := rfl
@[simp] theorem State.modRequest_nextId (id : Nat) (f : Request → Request) : (s.modRequest id f).nextId = s.nextId := rfl
@[simp] theorem State.modRequest_freeCount (id : Nat) (f : Request → Request) : (s.modRequest id f).freeCount = s.freeCount := rfl
@[simp] theorem State.modRequest_beat (id : Nat) (f : Request → Request) : (s.modRequest id f).beat = s.beat := rfl
@[simp] theorem State.modRequest_almanac (id : Nat) (f : Request → Request) : (s.modRequest id f).almanac = s.almanac := rfl
@[simp] theorem State.modRequest_kits (id : Nat) (f : Request → Request) : (s.modRequest id f).kits = s.kits := rfl
@[simp] theorem State.modRequest_creations (id : Nat) (f : Request → Request) : (s.modRequest id f).creations = s.creations := rfl
@[simp] theorem State.modRequest_unitReturns (id : Nat) (f : Request → Request) : (s.modRequest id f).unitReturns = s.unitReturns := rfl
@[simp] theorem State.modRequest_sequences (id : Nat) (f : Request → Request) : (s.modRequest id f).sequences = s.sequences := rfl
@[simp] theorem State.modRequest_queues (id : Nat) (f : Request → Request) : (s.modRequest id f).queues = s.queues := rfl
@[simp] theorem State.modRequest_crings (id : Nat) (f : Request → Request) : (s.modRequest id f).crings = s.crings := rfl
@[simp] theorem State.modRequest_commands (id : Nat) (f : Request → Request) : (s.modRequest id f).commands = s.commands := rfl
@[simp] theorem State.modRequest_namedReads (id : Nat) (f : Request → Request) : (s.modRequest id f).namedReads = s.namedReads := rfl
@[simp] theorem State.modRequest_contexts (id : Nat) (f : Request → Request) : (s.modRequest id f).contexts = s.contexts := rfl
@[simp] theorem State.modRequest_objects (id : Nat) (f : Request → Request) : (s.modRequest id f).objects = s.objects := rfl
@[simp] theorem State.modRequest_chimes (id : Nat) (f : Request → Request) : (s.modRequest id f).chimes = s.chimes := rfl
@[simp] theorem State.modRequest_waiters (id : Nat) (f : Request → Request) : (s.modRequest id f).waiters = s.waiters := rfl
@[simp] theorem State.modRequest_signals (id : Nat) (f : Request → Request) : (s.modRequest id f).signals = s.signals := rfl
@[simp] theorem State.modRequest_partitions (id : Nat) (f : Request → Request) : (s.modRequest id f).partitions = s.partitions := rfl
@[simp] theorem State.modRequest_partitionChanges (id : Nat) (f : Request → Request) : (s.modRequest id f).partitionChanges = s.partitionChanges := rfl
@[simp] theorem State.modRequest_functions (id : Nat) (f : Request → Request) : (s.modRequest id f).functions = s.functions := rfl
@[simp] theorem State.modRequest_cores (id : Nat) (f : Request → Request) : (s.modRequest id f).cores = s.cores := rfl
@[simp] theorem State.modRequest_lists (id : Nat) (f : Request → Request) : (s.modRequest id f).lists = s.lists := rfl
@[simp] theorem State.modRequest_fabric (id : Nat) (f : Request → Request) : (s.modRequest id f).fabric = s.fabric := rfl
@[simp] theorem State.modRequest_cijan (id : Nat) (f : Request → Request) : (s.modRequest id f).cijan = s.cijan := rfl
@[simp] theorem State.modRequest_peal (id : Nat) (f : Request → Request) : (s.modRequest id f).peal = s.peal := rfl
@[simp] theorem State.modRequest_power (id : Nat) (f : Request → Request) : (s.modRequest id f).power = s.power := rfl
@[simp] theorem State.modRequest_fail (id : Nat) (f : Request → Request) : (s.modRequest id f).fail = s.fail := rfl
@[simp] theorem State.modRequest_boot (id : Nat) (f : Request → Request) : (s.modRequest id f).boot = s.boot := rfl
@[simp] theorem State.modRequest_win (id : Nat) (f : Request → Request) : (s.modRequest id f).win = s.win := rfl
@[simp] theorem State.modRequest_outbox (id : Nat) (f : Request → Request) : (s.modRequest id f).outbox = s.outbox := rfl
@[simp] theorem State.modRequest_pending (id : Nat) (f : Request → Request) : (s.modRequest id f).pending = s.pending := rfl

/-! ### modTransfer -/

@[simp] theorem State.modTransfer_now (id : Nat) (f : Transfer → Transfer) : (s.modTransfer id f).now = s.now := rfl
@[simp] theorem State.modTransfer_nextId (id : Nat) (f : Transfer → Transfer) : (s.modTransfer id f).nextId = s.nextId := rfl
@[simp] theorem State.modTransfer_freeCount (id : Nat) (f : Transfer → Transfer) : (s.modTransfer id f).freeCount = s.freeCount := rfl
@[simp] theorem State.modTransfer_beat (id : Nat) (f : Transfer → Transfer) : (s.modTransfer id f).beat = s.beat := rfl
@[simp] theorem State.modTransfer_almanac (id : Nat) (f : Transfer → Transfer) : (s.modTransfer id f).almanac = s.almanac := rfl
@[simp] theorem State.modTransfer_kits (id : Nat) (f : Transfer → Transfer) : (s.modTransfer id f).kits = s.kits := rfl
@[simp] theorem State.modTransfer_creations (id : Nat) (f : Transfer → Transfer) : (s.modTransfer id f).creations = s.creations := rfl
@[simp] theorem State.modTransfer_unitReturns (id : Nat) (f : Transfer → Transfer) : (s.modTransfer id f).unitReturns = s.unitReturns := rfl
@[simp] theorem State.modTransfer_sequences (id : Nat) (f : Transfer → Transfer) : (s.modTransfer id f).sequences = s.sequences := rfl
@[simp] theorem State.modTransfer_queues (id : Nat) (f : Transfer → Transfer) : (s.modTransfer id f).queues = s.queues := rfl
@[simp] theorem State.modTransfer_crings (id : Nat) (f : Transfer → Transfer) : (s.modTransfer id f).crings = s.crings := rfl
@[simp] theorem State.modTransfer_commands (id : Nat) (f : Transfer → Transfer) : (s.modTransfer id f).commands = s.commands := rfl
@[simp] theorem State.modTransfer_namedReads (id : Nat) (f : Transfer → Transfer) : (s.modTransfer id f).namedReads = s.namedReads := rfl
@[simp] theorem State.modTransfer_contexts (id : Nat) (f : Transfer → Transfer) : (s.modTransfer id f).contexts = s.contexts := rfl
@[simp] theorem State.modTransfer_objects (id : Nat) (f : Transfer → Transfer) : (s.modTransfer id f).objects = s.objects := rfl
@[simp] theorem State.modTransfer_chimes (id : Nat) (f : Transfer → Transfer) : (s.modTransfer id f).chimes = s.chimes := rfl
@[simp] theorem State.modTransfer_waiters (id : Nat) (f : Transfer → Transfer) : (s.modTransfer id f).waiters = s.waiters := rfl
@[simp] theorem State.modTransfer_signals (id : Nat) (f : Transfer → Transfer) : (s.modTransfer id f).signals = s.signals := rfl
@[simp] theorem State.modTransfer_partitions (id : Nat) (f : Transfer → Transfer) : (s.modTransfer id f).partitions = s.partitions := rfl
@[simp] theorem State.modTransfer_partitionChanges (id : Nat) (f : Transfer → Transfer) : (s.modTransfer id f).partitionChanges = s.partitionChanges := rfl
@[simp] theorem State.modTransfer_functions (id : Nat) (f : Transfer → Transfer) : (s.modTransfer id f).functions = s.functions := rfl
@[simp] theorem State.modTransfer_cores (id : Nat) (f : Transfer → Transfer) : (s.modTransfer id f).cores = s.cores := rfl
@[simp] theorem State.modTransfer_lists (id : Nat) (f : Transfer → Transfer) : (s.modTransfer id f).lists = s.lists := rfl
@[simp] theorem State.modTransfer_fabric (id : Nat) (f : Transfer → Transfer) : (s.modTransfer id f).fabric = s.fabric := rfl
@[simp] theorem State.modTransfer_cijan (id : Nat) (f : Transfer → Transfer) : (s.modTransfer id f).cijan = s.cijan := rfl
@[simp] theorem State.modTransfer_peal (id : Nat) (f : Transfer → Transfer) : (s.modTransfer id f).peal = s.peal := rfl
@[simp] theorem State.modTransfer_power (id : Nat) (f : Transfer → Transfer) : (s.modTransfer id f).power = s.power := rfl
@[simp] theorem State.modTransfer_fail (id : Nat) (f : Transfer → Transfer) : (s.modTransfer id f).fail = s.fail := rfl
@[simp] theorem State.modTransfer_boot (id : Nat) (f : Transfer → Transfer) : (s.modTransfer id f).boot = s.boot := rfl
@[simp] theorem State.modTransfer_win (id : Nat) (f : Transfer → Transfer) : (s.modTransfer id f).win = s.win := rfl
@[simp] theorem State.modTransfer_outbox (id : Nat) (f : Transfer → Transfer) : (s.modTransfer id f).outbox = s.outbox := rfl
@[simp] theorem State.modTransfer_pending (id : Nat) (f : Transfer → Transfer) : (s.modTransfer id f).pending = s.pending := rfl

end Sys2Proof.Machine
end

