-- ==== Sys2Proof/Tests/Slice0.lean ====
section
/-! SUPPORT. Tests: what WellFormed refuses, and states that meet the hypotheses of each statement. -/
namespace Sys2Proof
open Sys2Proof.Machine
set_option Elab.async false
/-! ### What WellFormed refuses: an ill-formed command for each check, beside one at the last value that is accepted -/

/-- A pipeline instruction of core and group 0 whose fields are 0, executed in every active thread. -/
def Tests.ins : Ins := { core := 0, group := 0, pneg := false, pred := 7, dst := 0, src0 := 0, src1 := 0, src2 := 0, imm := 0 }

/-- A packet whose PARAMS are zeros. -/
def Tests.blank : Packet := ⟨0, 0, 0, 0, zeros 48⟩

theorem test_queue_checked : wellFormed (.deviceNop 1048576 Tests.blank) = false ∧ wellFormed (.deviceNop 1048575 Tests.blank) = true := by
  decide
theorem test_packet_checked : wellFormed (.deviceNop 1 { Tests.blank with params := zeros 47 }) = false := by decide
theorem test_code_checked : wellFormed (.undefinedOpcode 1 0x0000 Tests.blank) = false ∧
    wellFormed (.undefinedOpcode 1 0x0FFF Tests.blank) = true := by decide +kernel
theorem test_core_checked : wellFormed (.taskRetire 1728) = false ∧ wellFormed (.taskRetire 1727) = true := by decide
theorem test_instruction_core_checked : wellFormed (.iadd { Tests.ins with core := 1728 }) = false := by decide
theorem test_group_checked : wellFormed (.iadd { Tests.ins with group := 16 }) = false ∧
    wellFormed (.iadd { Tests.ins with group := 15 }) = true := by decide
theorem test_icmp_checked : wellFormed (.icmp 10 Tests.ins) = false ∧ wellFormed (.icmp 9 Tests.ins) = true := by decide
theorem test_fcmp_checked : wellFormed (.fcmp 8 Tests.ins) = false ∧ wellFormed (.fcmp 7 Tests.ins) = true := by decide
theorem test_code_finding_checked : wellFormed (.ld 3 Tests.ins) = false ∧ wellFormed (.ld 2 Tests.ins) = true := by decide
theorem test_station_checked : wellFormed (.computeDieFailure 54) = false ∧ wellFormed (.computeDieFailure 53) = true := by decide
theorem test_edge_checked : wellFormed (.edgeHeartbeatTimeout 4) = false ∧ wellFormed (.edgeHeartbeatTimeout 3) = true := by decide
theorem test_lane_checked : wellFormed (.ringLinkDown 24) = false ∧ wellFormed (.ringLinkDown 23) = true := by decide
theorem test_direction_checked : wellFormed (.timingInputLost 6) = false ∧ wellFormed (.timingInputLost 5) = true := by decide
theorem test_resource_checked : wellFormed (.nextGrant resourceCount []) = false ∧
    wellFormed (.nextGrant (resourceCount - 1) []) = true := by decide
theorem test_function_checked : wellFormed (.doorbell 4096 0 0) = false ∧ wellFormed (.doorbell 4095 0 0) = true := by decide
theorem test_ring_checked : wellFormed (.cringDoorbell 0 32 0) = false ∧ wellFormed (.cringDoorbell 0 31 0) = true := by decide
theorem test_tag_checked : wellFormed (.cAck 65536 0) = false ∧ wellFormed (.cAck 65535 0) = true := by decide
theorem test_sensor_checked : wellFormed (.thermalTrip 58) = false ∧ wellFormed (.thermalTrip 57) = true ∧
    wellFormed (.thermalTrip 182) = false ∧ wellFormed (.thermalTrip 181) = true := by decide
theorem test_ill_formed_command_faults : (match Machine.exec (.taskRetire 1728) State.reset with
    | .fault .noSuchUnit => true | _ => false) = true := by decide +kernel
/-! ### States of the tests -/

/-- A packet of an opcode with its parameters, and no completion Chime. -/
def Tests.pack (op : Op) (args : List Nat) : Packet :=
  { Tests.blank with params := padTo 48 (((paramOffsets 0 (paramSizes op)).zip args).foldl
      (fun b x => padTo x.1.1 b ++ leBytes x.1.2 x.2) []) }

/-- A module after release with one packet at HEAD of queue 0, of the companion, and one at HEAD of queue 1, of the rack manager. -/
def Tests.ready : State :=
  { State.reset with
    boot := { BootState.reset with stage1 := true, lit := true, loadReady := true, verified := true, released := true }
    queues := [(0, { Queue.one with tail := 1, management := false, ringBase := 0x10000 }), (1, { Queue.one with tail := 1 })]
    crings := [(0, { CRing.unset with base := 0x20000 })]
    beat := { State.reset.beat with running := true } }

/-- The same module with granules 0 to 15 of tier 1 as scratch of partition 0. -/
def Tests.scratch : State :=
  { Tests.ready with mem := { Tests.ready.mem with
      granules := (List.range 16).map fun g => (g, { Granule.initial with mode := .scratch }) } }

/-- A command of `op` meets all that a completion statement asks of it: it is read at HEAD, and `good` holds. -/
def Tests.Met (op : Op) (good : Call → State → Prop) : Prop :=
  ∃ (q : Nat) (p : Packet) (s : State), s.takes op q p = true ∧ good (s.callOf op q p) (s.onRead op q p)

theorem Tests.met {op : Op} {good : Call → State → Prop} (q : Nat) (p : Packet) (s : State) (h : s.takes op q p = true)
    (g : good (s.callOf op q p) (s.onRead op q p)) : Tests.Met op good := ⟨q, p, s, h, g⟩

theorem Tests.none_applies {l : List (Bool × Verdict)} (h : l.all (fun x => !x.1) = true) : noneApplies l := by
  intro x hx; simpa using List.all_eq_true.1 h x hx

/-- The same module with a Context 4 and a queue 5 of its own, and compute dies in service with bytes at an address of tier 1. -/
def Tests.world (a : Nat) (bytes : List Byte) : State :=
  { Tests.scratch with
    contexts := [(4, Context.device), (65535, Context.device)]
    queues := tset Tests.scratch.queues 5 { Queue.one with management := false, context := 4 }
    fail := { FailState.reset with edges := FailState.reset.edges.map fun e => (e.1, { e.2 with up := true, usable := true }) }
    mem := { Tests.scratch.mem with t1 := memWrite zeroByte [] a bytes } }

/-- A Kit of core 0 below the device Kit. -/
def Tests.kit : Kit := { Kit.ofBlock 3 (zeros 64) [.core 0] with context := 4, chimeCount := 4, scratchSize := 0x100000 }

/-- The device Kit, with cores 1 and 2. -/
def Tests.deviceKit : Kit :=
  { Kit.ofBlock 0 (zeros 64) [.core 1, .core 2] with context := 65535, chimeCount := 4194304, scratchSize := 0x8000000 }

/-- A placement with one explicit list at 8000h and a pool of none. -/
def Tests.placement : Placement :=
  { percentile := 0, margin := 0, cores := 1, tensors := [], pool := [], lists := [⟨0x8000, 64, 100⟩], batch := some (1, 4096)
    decodeCritical := 100, critical := 100, prefillBudget := 0, seqBase := 8, seqCount := 4, kvBytes := 0, power := 0
    firstLayer := 0, layerCount := 0, uses := [], tilesInPlace := true }

/-- An admitted Kit of that placement. -/
def Tests.admitted : Kit :=
  { Tests.kit with mode := .admitted, placement := some Tests.placement, load := some { replica := 0, records := [] } }

/-- The module with the device Kit and a Kit 3. -/
def Tests.withKit (k : Kit) : State := { Tests.world 0x8000 (leBytes 4 0 ++ [1] ++ zeros 23 ++ [255, 255, 255, 255]) with kits := [(0, Tests.deviceKit), (3, k)] }

/-- A peal Kit's identifier, and the module as leader of a peal of itself. -/
def Tests.peal : State := { Tests.world 0x4000 [] with
  kits := [(0, Tests.deviceKit), (2 ^ 27, { Tests.deviceKit with id := 2 ^ 27, parent := 0xFFFFFFFF, units := [.module 0] })]
  peal := { PealState.reset with mode := .member, members := [0], leader := some 0 } }

/-- An object of one line of tier 2, entry 7, generation 1. -/
def Tests.object : Object :=
  { generation := 1, footprint := 4096, tiles := 0, mode := .live, tiled := false, pool := false, summary := false
    unreadable := false, context := 4, partition := 0, firstPair := 0, pairs := [0], bindings := 0, marked := false
    units := [⟨0, 0⟩], granules := [] }

/-- The module with that object. -/
def Tests.withObject : State := { Tests.world 0x4000 [] with objects := [(7, Tests.object)] }

/-- The module with a Sequence 8 of Kit 3. -/
def Tests.sequence : Sequence :=
  { mode := .waiting, autoDecode := false, inFlight := 0, kvWait := false, priority := 0, endReason := 0, kit := 3, context := 4
    partition := 0, position := 100, pending := 0, generated := 0, genLimit := 0, stepInterval := 1, nextDue := 0, outCount := 0
    chime := 0, slipped := 0, output := 0x4000, outputLen := 1, seed := 0, appends := [], lastResult := [], pages := []
    mapBlocks := [], epoch := 0 }

def Tests.withSeq (q : Sequence) : State :=
  { Tests.withKit { Tests.admitted with seqPolicy := { Tests.admitted.seqPolicy with denseLimit := 4096 } } with sequences := [(8, q)] }

/-- A transfer that nothing waits for. -/
def Tests.transfer : Transfer := descriptor (zeros 64)

/-- The module with 128 bytes at 4000h that name a source, a destination and 128 bytes to move. -/
def Tests.moving (target : Nat) : State :=
  Tests.world 0x4000 (leBytes 2 0 ++ leBytes 2 target ++ leBytes 4 (if target = 0 then 1 else 0) ++ leBytes 8 0x6000 ++ leBytes 8 0x7000 ++ zeros 16 ++ leBytes 4 128)

/-- A member 0 of a peal of two with every lane up. -/
def Tests.pair (s : State) : State :=
  { s with peal := { PealState.reset with
      mode := .member, members := [0, 1], leader := some 0, sizes := (2, (1, 1))
      lanes := List.replicate 24 { Lane16.reset with up := true } } }

/-- The module with virtual function 1. -/
def Tests.withFunction (v : VFunction) : State := { Tests.world 0x4000 [] with functions := [(1, v)] }

/-- The module before its first image. -/
def Tests.waitingImage (d : Delivery) : State :=
  { Tests.scratch with boot := { Tests.scratch.boot with verified := false, load := d, chunks := [((1, 0), zeros 1024)] } }

/-- An image of no contents. -/
def Tests.image : Image := { header := [], digest := [], stationDigest := [], securityVersion := 0, raiseFloor := false, buildId := 0 }

/-! ### A group that issues -/

/-- A group at the start of a task whose entry is 0. -/
def Tests.group : Group := Group.initial 0

/-- The block of one such group. -/
def Tests.block (g : Group) : Block :=
  { Block.ofTask 1 0 3 0 0 (TaskRecord.ofBytes (zeros 4 ++ [1] ++ zeros 59)) with groups := [g] }

/-- A module whose core 0 runs a block. -/
def Tests.runs (b : Block) : State :=
  { Tests.scratch with
    kits := [(3, Tests.kit)]
    cores := [(0, { Core.initial with phase := .running, block := some b, window := [some 0, none, none, none] })] }

/-- A module whose core 0 runs a block of one group. -/
def Tests.running (g : Group) : State := Tests.runs (Tests.block g)

/-- An instruction meets all that a statement about its issue asks of it. -/
def Tests.Issued (regs : Ins → List Nat) (good : Ins → State → Block → Group → Prop) : Prop :=
  ∃ (w : Ins) (s : State) (b : Block) (g : Group), s.issues w (regs w) b g = true ∧ good w (s.fetched w b g) b g

theorem Tests.issued {regs : Ins → List Nat} {good : Ins → State → Block → Group → Prop} (w : Ins) (b : Block) (g : Group) (s : State)
    (h : s.issues w (regs w) b g = true) (k : good w (s.fetched w b g) b g) : Tests.Issued regs good := ⟨w, s, b, g, h, k⟩

/-- A store of the group that has not been performed. -/
def Tests.store : Request :=
  { id := 1, core := 0, group := 0, pc := 0, active := 1, mask := 1, kind := .store, width := 4, dst := 0, fence := 0, lanes := []
    returned := [], stage := .sent, partition := 0, error := 0, errorThread := 0, errorAddress := 0, errorLine := none }
/-! ### States that meet the hypotheses of the statements about packets -/

theorem witness_QueueCommandsComplete :
    Tests.Met .deviceNop (fun _ _ => True) ∧
    Tests.Met .queueStop (fun c s => c.queueDenied s (c.arg 0) = false ∧ c.arg 0 < 1048576 ∧ (s.queue (c.arg 0)).mode = .active ∧
      s.lostContext (s.queue (c.arg 0)).context = false) ∧
    Tests.Met .queueStart (fun c s => c.queueDenied s (c.arg 0) = false ∧ c.arg 0 < 1048576 ∧
      ((s.queue (c.arg 0)).mode = .stopped ∨ (s.queue (c.arg 0)).mode = .broken) ∧
      s.lostContext (s.queue (c.arg 0)).context = false) ∧
    Tests.Met .queueCreate (fun c s =>
      (c.physical = true ∨ (c.arg 7 = c.function ∧ (c.arg 0 = 0xFFFFFFFF ∨ s.inRange c.function (c.arg 0) = true))) ∧
      ((c.arg 0 = 0xFFFFFFFF ∧ (s.lowestFreeQueue (c.arg 7)).isSome = true) ∨
        (c.arg 0 < 1048576 ∧ s.inRange (c.arg 7) (c.arg 0) = true ∧ tget s.queues (c.arg 0) = none)) ∧
      4 ≤ c.arg 1 ∧ c.arg 1 ≤ 16 ∧ (c.arg 2 = 1 → c.arg 1 ≤ 10 ∧ c.arg 7 = 0 ∧ c.arg 5 = 0 ∧
        (s.queues.filter (·.2.management)).length < 256) ∧
      c.arg 2 ≤ 1 ∧ 1 ≤ c.arg 3 ∧ c.arg 3 ≤ 64 ∧ c.arg 4 ≤ 31 ∧
      (c.arg 2 ≠ 1 → c.arg 5 % 4096 = 0 ∧ s.nameable false (s.context (c.arg 6)).partition (c.arg 5) (64 * 2 ^ c.arg 1) = true) ∧
      (s.context (c.arg 6)).mode = .active ∧ ((s.context (c.arg 6)).function = c.arg 7 ∨ c.arg 6 = 65535) ∧ c.arg 7 ≤ 4095 ∧
      (c.physical = true ∨ (s.context (c.arg 6)).function = c.function) ∧
      s.chimesInside (s.context (c.arg 6)).partition (c.arg 8) (c.arg 9) = true ∧ 1 ≤ c.arg 9 ∧ c.arg 9 ≤ 4194304 ∧
      s.lostContext (c.arg 6) = false) ∧
    Tests.Met .queueDestroy (fun c s => c.queueDenied s (c.arg 0) = false ∧ c.arg 0 < 1048576 ∧ (s.queue (c.arg 0)).mode ≠ .free ∧
      (s.queue (c.arg 0)).mode ≠ .draining ∧ (s.queue (c.arg 0)).bound = false) ∧
    Tests.Met .queueQuery (fun c s => c.queueDenied s (c.arg 0) = false ∧ c.arg 0 < 1048576 ∧ c.takesResult s 1 128 ∧
      ((s.queue (c.arg 0)).mode = .free ∨ s.lostContext (s.queue (c.arg 0)).context = false)) :=
  ⟨Tests.met 0 (Tests.pack .deviceNop []) Tests.scratch (by decide +kernel)
      (trivial),
   Tests.met 0 (Tests.pack .queueStop [5]) { Tests.scratch with queues := tset Tests.scratch.queues 5 { Queue.one with management := false, mode := .active } } (by decide +kernel)
      (by decide +kernel),
   Tests.met 0 (Tests.pack .queueStart [5, 7]) { Tests.scratch with queues := tset Tests.scratch.queues 5 { Queue.one with management := false, mode := .stopped } } (by decide +kernel)
      (by decide +kernel),
   Tests.met 0 (Tests.pack .queueCreate [4294967295, 4, 0, 1, 31, 0, 65535, 0, 0, 1]) Tests.scratch (by decide +kernel)
      (by decide +kernel),
   Tests.met 0 (Tests.pack .queueDestroy [5]) { Tests.scratch with queues := tset Tests.scratch.queues 5 { Queue.one with management := false, mode := .active } } (by decide +kernel)
      (by decide +kernel),
   Tests.met 0 (Tests.pack .queueQuery [5, 16384]) { Tests.scratch with queues := tset Tests.scratch.queues 5 { Queue.one with management := false, mode := .active } } (by decide +kernel)
      (by dsimp only [Call.takesResult]; decide +kernel)⟩

theorem witness_ContextCommandsComplete :
    Tests.Met .cringSet (fun c s =>
      (c.physical = true ∨ c.arg 0 = c.function) ∧ c.arg 0 ≤ 4095 ∧ c.arg 1 ≤ 31 ∧ 6 ≤ c.arg 2 ∧ c.arg 2 ≤ 16 ∧
      (c.arg 6 = 0 ∨ (c.arg 6 % 128 = 0 ∧
        ∃ p, p < 64 ∧ s.usable (c.arg 0) p = true ∧ s.nameable false p (c.arg 6) (32 * 2 ^ c.arg 2) = true)) ∧
      ((s.cring (c.arg 0) (c.arg 1)).produced ≤ (s.cring (c.arg 0) (c.arg 1)).consumed ∨
        s.ringNamer (c.arg 0) (c.arg 1) = none)) ∧
    Tests.Met .contextCreate (fun c s =>
      (c.physical = true ∨ c.arg 0 = c.function) ∧ c.arg 0 ≤ 4095 ∧ c.arg 1 ≤ 63 ∧ s.usable (c.arg 0) (c.arg 1) = true ∧
      c.arg 2 ≤ 31 ∧ (c.queue.management = true ∨ (s.cring (c.arg 0) (c.arg 2)).base ≠ 0) ∧
      s.functionMode (c.arg 0) = .enabled ∧
      (∀ x ∈ s.partitionChanges, x.partition = c.arg 1 → s.contextCount (c.arg 1) < x.contextLimit) ∧
      tfree s.contexts 0 < 65535 ∧ (c.arg 1 = 0 ∨ s.contextCount (c.arg 1) < (s.partition (c.arg 1)).contextLimit)) ∧
    Tests.Met .contextDestroy (fun c s =>
      c.contextDenied s (c.arg 0) = false ∧ c.arg 0 ≠ 65535 ∧ c.queue.context ≠ c.arg 0 ∧
      ((s.context (c.arg 0)).mode = .lost ∨ ((s.context (c.arg 0)).mode = .active ∧
        s.kitsOf (c.arg 0) = [] ∧ s.queuesOf (c.arg 0) = [] ∧ s.seqsOf (c.arg 0) = []))) ∧
    Tests.Met .contextQuery (fun c s => c.contextDenied s (c.arg 0) = false ∧ c.takesResult s 1 64) :=
  ⟨Tests.met 0 (Tests.pack .cringSet [0, 1, 6, 0, 0, 0, 0]) Tests.scratch (by decide +kernel)
      (by decide +kernel),
   Tests.met 0 (Tests.pack .contextCreate [0, 0, 0]) Tests.scratch (by decide +kernel)
      (by decide +kernel),
   Tests.met 0 (Tests.pack .contextDestroy [4]) { Tests.scratch with contexts := [(4, Context.device), (65535, Context.device)] } (by decide +kernel)
      (by decide +kernel),
   Tests.met 0 (Tests.pack .contextQuery [65535, 16384]) Tests.scratch (by decide +kernel)
      (by dsimp only [Call.takesResult]; decide +kernel)⟩

theorem witness_ChimeCommandsComplete :
    Tests.Met .chimeInit (fun c s =>
      c.arg 0 + c.arg 1 ≤ c.queue.chimeCount ∧ 1 ≤ c.arg 1 ∧ c.arg 1 ≤ 65536 ∧
      (c.arg 3 = 65535 ∨ ((s.context (c.arg 3)).mode ≠ .free ∧ (s.context (c.arg 3)).partition = c.partition ∧
        s.lostContext (c.arg 3) = false ∧ ∀ h ∈ c.chimes (c.arg 0) (c.arg 1), s.chimeMoves h = false)) ∧
      ∀ h ∈ c.chimes (c.arg 0) (c.arg 1), ∀ w ∈ s.waiters, w.chime ≠ h) ∧
    Tests.Met .chimeSignal (fun c _ => c.arg 0 < c.queue.chimeCount) ∧
    Tests.Met .chimeWait (fun c s => c.arg 0 < c.queue.chimeCount ∧ (s.chime (c.queue.deviceChime (c.arg 0))).error = 0 ∧
      reached (s.chime (c.queue.deviceChime (c.arg 0))).counter (BitVec.ofNat 64 (c.arg 1)) = true) ∧
    Tests.Met .chimeWait (fun c s => c.arg 0 < c.queue.chimeCount ∧ (s.chime (c.queue.deviceChime (c.arg 0))).error = 0 ∧
      reached (s.chime (c.queue.deviceChime (c.arg 0))).counter (BitVec.ofNat 64 (c.arg 1)) = false) ∧
    Tests.Met .chimeQuery (fun c s => c.arg 0 < c.queue.chimeCount ∧ c.takesResult s 1 20) ∧
    Tests.Met .chimeClear (fun c _ => c.arg 0 + c.arg 1 ≤ c.queue.chimeCount ∧ 1 ≤ c.arg 1 ∧ c.arg 1 ≤ 65536) :=
  ⟨Tests.met 0 (Tests.pack .chimeInit [0, 1, 5, 65535]) Tests.scratch (by decide +kernel)
      (by decide +kernel),
   Tests.met 0 (Tests.pack .chimeSignal [0, 3]) Tests.scratch (by decide +kernel)
      (by decide +kernel),
   Tests.met 0 (Tests.pack .chimeWait [0, 0]) Tests.scratch (by decide +kernel)
      (by decide +kernel),
   Tests.met 0 (Tests.pack .chimeWait [0, 1]) Tests.scratch (by decide +kernel)
      (by decide +kernel),
   Tests.met 0 (Tests.pack .chimeQuery [0, 16384]) Tests.scratch (by decide +kernel)
      (by dsimp only [Call.takesResult]; decide +kernel),
   Tests.met 0 (Tests.pack .chimeClear [0, 1]) Tests.scratch (by decide +kernel)
      (by decide +kernel)⟩

theorem witness_MemoryObjectCommandsComplete :
    Tests.Met .memAlloc (fun c s =>
      (s.context (c.arg 0)).mode = .active ∧ (s.context (c.arg 0)).function = c.function ∧ s.lostContext (c.arg 0) = false ∧
      ((c.arg 1 = 0 ∧ c.arg 2 % 4096 = 0 ∧ 4096 ≤ c.arg 2 ∧ c.arg 2 ≤ 1099511623680 ∧
          (s.layout2 (s.context (c.arg 0)).partition (c.arg 2)).isSome = true) ∨
        (c.arg 1 = 1 ∧ 1 ≤ c.arg 2 ∧ c.arg 2 ≤ 2 ^ 28 - 1 ∧
          (s.layout2 (s.context (c.arg 0)).partition (tiledFootprint (c.arg 2))).isSome = true)) ∧
      s.freeObject < 1048576) ∧
    Tests.Met .memFree (fun c s => ∃ i o, s.objectOf (c.arg 0) = some (i, o) ∧ noneApplies (c.handleGuards s 0 ++ c.objectGuards s 0) ∧
      o.mode ≠ .bound ∧ s.refs (c.arg 0) c.cmd.id = 0) ∧
    Tests.Met .memFree (fun c s => ∃ i o, s.objectOf (c.arg 0) = some (i, o) ∧ noneApplies (c.handleGuards s 0 ++ c.objectGuards s 0) ∧
      o.mode ≠ .bound ∧ s.refs (c.arg 0) c.cmd.id ≠ 0) ∧
    Tests.Met .memQuery (fun c s => ∃ i o, s.objectOf (c.arg 0) = some (i, o) ∧ noneApplies (c.handleGuards s 0 ++ c.objectGuards s 0) ∧
      c.takesResult s 1 128) :=
  ⟨Tests.met 0 (Tests.pack .memAlloc [4, 0, 4096]) (Tests.world 0x4000 []) (by decide +kernel)
      (by decide +kernel),
   Tests.met 0 (Tests.pack .memFree [0x100007]) Tests.withObject (by decide +kernel)
      (⟨7, Tests.object, by decide +kernel, Tests.none_applies (by decide +kernel), by decide +kernel⟩),
   Tests.met 0 (Tests.pack .memFree [0x100007]) { Tests.withObject with mem := { Tests.withObject.mem with transfers := [{ Tests.transfer with srcHandle := 0x100007 }] } } (by decide +kernel)
      (⟨7, Tests.object, by decide +kernel, Tests.none_applies (by decide +kernel), by decide +kernel⟩),
   Tests.met 0 (Tests.pack .memQuery [0x100007, 16384]) Tests.withObject (by decide +kernel)
      (⟨7, Tests.object, by decide +kernel, Tests.none_applies (by decide +kernel), by dsimp only [Call.takesResult]; decide +kernel⟩)⟩

theorem witness_Tier1CommandsComplete :
    Tests.Met .tier1RegionSet (fun c s => noneApplies (tier1RegionSetRefusals c s)) ∧
    Tests.Met .tier1Config (fun c s => noneApplies (c.partitionGuards s 0) ∧ 1 ≤ c.arg 1 ∧ c.arg 3 ≤ 1) ∧
    Tests.Met .tier1Pin (fun c s => ∃ i o, s.objectOf (c.arg 0) = some (i, o) ∧ noneApplies (c.pinRefusals s i o) ∧ c.arg 3 = 1) ∧
    Tests.Met .tier1Pin (fun c s => ∃ i o, s.objectOf (c.arg 0) = some (i, o) ∧ noneApplies (c.pinRefusals s i o) ∧ c.arg 3 = 0 ∧
      s.cacheStations o.partition ≠ [] ∧ c.pinFailing s i o = none ∧ c.pinMissing s i o = []) ∧
    Tests.Met .tier1Pin (fun c s => ∃ i o, s.objectOf (c.arg 0) = some (i, o) ∧ noneApplies (c.pinRefusals s i o) ∧ c.arg 3 = 0 ∧
      s.cacheStations o.partition ≠ [] ∧ c.pinFailing s i o = none ∧ c.pinMissing s i o ≠ []) ∧
    Tests.Met .tier1Unpin (fun c s => ∃ i o, s.objectOf (c.arg 0) = some (i, o) ∧
      noneApplies (c.handleGuards s 0 ++ c.lineGuards o ++ c.objectGuards s 0)) ∧
    Tests.Met .tier1Dead (fun c s => c.arg 0 = 0 ∧
      (c.physical = true ∨ s.usable c.function (s.granule (c.arg 1 / 2 ^ 23)).partition = true) ∧
      c.arg 1 % 4096 = 0 ∧ c.arg 2 ≠ 0 ∧ c.arg 2 % 4096 = 0 ∧
      s.inScratch (if c.physical then (s.granule (c.arg 1 / 2 ^ 23)).partition else c.partition) (c.arg 1) (c.arg 2) = true) ∧
    Tests.Met .tier1Dead (fun c s => c.arg 0 ≠ 0 ∧ ∃ i o, s.objectOf (c.arg 0) = some (i, o) ∧
      noneApplies (c.handleGuards s 0 ++ c.lineGuards o ++ c.objectGuards s 0)) ∧
    Tests.Met .tier1Counters (fun c s => noneApplies (c.partitionGuards s 0) ∧ c.arg 1 ≤ 53 ∧ 1 ≤ c.arg 2 ∧ c.arg 1 + c.arg 2 ≤ 54 ∧
      c.takesResult s 3 (64 * c.arg 2)) ∧
    Tests.Met .roInvalidate (fun c s => ∃ k, s.kit (c.arg 0) = some k ∧ noneApplies (c.kitGuards s 0) ∧ s.lostContext k.context = false) :=
  ⟨Tests.met 0 (Tests.pack .tier1RegionSet [16, 1, 1, 0]) Tests.scratch (by decide +kernel)
      (Tests.none_applies (by decide +kernel)),
   Tests.met 0 (Tests.pack .tier1Config [0, 1, 0, 0]) Tests.scratch (by decide +kernel)
      (⟨Tests.none_applies (by decide +kernel), by decide +kernel⟩),
   Tests.met 0 (Tests.pack .tier1Pin [0x100007, 0, 1, 1, 16384]) Tests.withObject (by decide +kernel)
      (⟨7, Tests.object, by decide +kernel, Tests.none_applies (by decide +kernel), by decide +kernel⟩),
   Tests.met 0 (Tests.pack .tier1Pin [0x100007, 0, 1, 0, 0]) { Tests.withObject with mem := (((Tests.withObject.touchLine 7 Tests.object 0 false).s.pinLine (Tests.withObject.touchLine 7 Tests.object 0 false).slot)).mem } (by decide +kernel)
      (⟨7, Tests.object, by decide +kernel, Tests.none_applies (by decide +kernel), by decide +kernel⟩),
   Tests.met 0 (Tests.pack .tier1Pin [0x100007, 0, 1, 0, 0]) Tests.withObject (by decide +kernel)
      (⟨7, Tests.object, by decide +kernel, Tests.none_applies (by decide +kernel), by decide +kernel⟩),
   Tests.met 0 (Tests.pack .tier1Unpin [0x100007, 0, 1]) Tests.withObject (by decide +kernel)
      (⟨7, Tests.object, by decide +kernel, Tests.none_applies (by decide +kernel)⟩),
   Tests.met 0 (Tests.pack .tier1Dead [0, 0, 4096]) Tests.scratch (by decide +kernel)
      (by decide +kernel),
   Tests.met 0 (Tests.pack .tier1Dead [0x100007, 0, 1]) Tests.withObject (by decide +kernel)
      (⟨by decide +kernel, 7, Tests.object, by decide +kernel, Tests.none_applies (by decide +kernel)⟩),
   Tests.met 0 (Tests.pack .tier1Counters [0, 53, 1, 16384]) Tests.scratch (by decide +kernel)
      (⟨Tests.none_applies (by decide +kernel), by dsimp only [Call.takesResult]; decide +kernel⟩),
   Tests.met 0 (Tests.pack .roInvalidate [3]) (Tests.withKit Tests.kit) (by decide +kernel)
      (⟨Tests.kit, by decide +kernel, Tests.none_applies (by decide +kernel), by decide +kernel⟩)⟩

theorem witness_PartitionCommandsComplete :
    Tests.Met .partitionSet (fun c s => noneApplies (partitionSetRefusals c s)) ∧
    Tests.Met .partitionQuery (fun c s => c.arg 0 ≤ 63 ∧ c.takesResult s 1 512) :=
  ⟨Tests.met 0 (Tests.pack .partitionSet [63, 16384]) Tests.scratch (by decide +kernel)
      (Tests.none_applies (by decide +kernel)),
   Tests.met 0 (Tests.pack .partitionQuery [63, 16384]) Tests.scratch (by decide +kernel)
      (by dsimp only [Call.takesResult]; decide +kernel)⟩

theorem witness_KitCommandsComplete :
    Tests.Met .kitCreate (fun c s => noneApplies (kitCreateRefusals c s) ∧ isPealKit (field (c.kitBlock s) 0 4) = false) ∧
    Tests.Met .kitCreate (fun c s => noneApplies (kitCreateRefusals c s) ∧ isPealKit (field (c.kitBlock s) 0 4) = true) ∧
    Tests.Met .kitDestroy (fun c s => ∃ k, s.kit (c.arg 0) = some k ∧ noneApplies (c.kitNamed s true) ∧ c.arg 0 ≠ 0 ∧ c.arg 0 ≠ 2 ^ 27 ∧
      k.mode = .created ∧ s.hasChild (c.arg 0) = false ∧ s.heldParent (c.arg 0) = false ∧ s.heldUnit (.kit (c.arg 0)) = false ∧
      s.kitNamers (c.arg 0) c.cmd.id = []) ∧
    Tests.Met .kitDestroy (fun c s => ∃ k, s.kit (c.arg 0) = some k ∧ noneApplies (c.kitNamed s true) ∧ c.arg 0 ≠ 0 ∧ c.arg 0 ≠ 2 ^ 27 ∧
      k.mode = .created ∧ s.hasChild (c.arg 0) = false ∧ s.heldParent (c.arg 0) = false ∧ s.heldUnit (.kit (c.arg 0)) = false ∧
      s.kitNamers (c.arg 0) c.cmd.id ≠ []) ∧
    Tests.Met .kitDestroy (fun c s => ∃ k, s.kit (c.arg 0) = some k ∧ noneApplies (c.kitNamed s true) ∧ c.arg 0 ≠ 0 ∧ c.arg 0 ≠ 2 ^ 27 ∧
      k.mode = .lost ∧ s.hasChild (c.arg 0) = false ∧ s.heldParent (c.arg 0) = false ∧ s.heldUnit (.kit (c.arg 0)) = false) ∧
    Tests.Met .kitQuery (fun c s => ∃ k, s.kit (c.arg 0) = some k ∧ noneApplies (c.kitNamed s false ++ c.kitLost s) ∧ c.takesResult s 1 128) ∧
    Tests.Met .kitLaunch (fun c s => ∃ k p, s.kit (c.arg 0) = some k ∧ noneApplies (c.kitNamed s false ++ c.wrongQueue s ++ c.kitLost s) ∧
      c.arg 0 ≠ 0 ∧ k.mode = .admitted ∧ k.placement = some p ∧
      (∃ l ∈ p.lists, l.address = c.arg 1 ∧ l.bytes = 64 * c.arg 2) ∧ s.listGood k (c.arg 1) (c.arg 2) [] = true) :=
  ⟨Tests.met 0 (Tests.pack .kitCreate [16384]) { (Tests.world 0x4000 (leBytes 4 0 ++ leBytes 4 0xFFFFFFFF ++ leBytes 2 4 ++ [0, 0, 1, 0] ++ leBytes 2 1 ++ leBytes 4 5 ++ leBytes 4 0 ++ leBytes 4 4 ++ leBytes 20 0 ++ leBytes 8 0x4080 ++ leBytes 64 0 ++ leBytes 8 0 ++ leBytes 4 (2 ^ 28 + 1))) with kits := [(0, Tests.deviceKit)] } (by decide +kernel)
      (⟨Tests.none_applies (by decide +kernel), by decide +kernel⟩),
   Tests.met 0 (Tests.pack .kitCreate [16384]) { Tests.peal with mem := { Tests.peal.mem with t1 := memWrite zeroByte [] 0x4000 (leBytes 4 (2 ^ 27) ++ leBytes 4 0xFFFFFFFF ++ leBytes 2 4 ++ [0, 0, 1, 0] ++ leBytes 2 1 ++ leBytes 4 5 ++ leBytes 4 0 ++ leBytes 4 4 ++ leBytes 20 0 ++ leBytes 8 0x4080 ++ leBytes 64 0 ++ leBytes 8 0 ++ leBytes 4 (4 * 2 ^ 28)) } } (by decide +kernel)
      (⟨Tests.none_applies (by decide +kernel), by decide +kernel⟩),
   Tests.met 0 (Tests.pack .kitDestroy [3]) (Tests.withKit Tests.kit) (by decide +kernel)
      (⟨Tests.kit, by decide +kernel, Tests.none_applies (by decide +kernel), by decide +kernel⟩),
   Tests.met 0 (Tests.pack .kitDestroy [3]) { (Tests.withKit Tests.kit) with commands := [{ id := 99, queue := 5, index := 0, op := .roInvalidate, packet := Tests.pack .roInvalidate [3], wait := .roInvalidate 3, readBeat := 0, readAt := 0, beforeBuild := true, result := 0, context := 4 }] } (by decide +kernel)
      (⟨Tests.kit, by decide +kernel, Tests.none_applies (by decide +kernel), by decide +kernel⟩),
   Tests.met 0 (Tests.pack .kitDestroy [3]) (Tests.withKit { Tests.kit with mode := .lost }) (by decide +kernel)
      (⟨{ Tests.kit with mode := .lost }, by decide +kernel, Tests.none_applies (by decide +kernel), by decide +kernel⟩),
   Tests.met 0 (Tests.pack .kitQuery [3, 16384]) (Tests.withKit Tests.kit) (by decide +kernel)
      (⟨Tests.kit, by decide +kernel, Tests.none_applies (by decide +kernel), by dsimp only [Call.takesResult]; decide +kernel⟩),
   Tests.met 0 (Tests.pack .kitLaunch [3, 32768, 1]) (Tests.withKit Tests.admitted) (by decide +kernel)
      (⟨Tests.admitted, Tests.placement, by decide +kernel, Tests.none_applies (by decide +kernel), by decide +kernel⟩)⟩

theorem witness_LoadingCommandsComplete :
    Tests.Met .modelBegin (fun c s => ∃ k, s.kit (c.arg 0) = some k ∧ noneApplies (c.kitNamed s true ++ c.wrongQueue s ++ c.kitLost s) ∧ c.arg 1 ≤ 2 ∧
      c.arg 0 ≠ 0 ∧ c.arg 0 ≠ 2 ^ 27 ∧ k.mode = .created) ∧
    Tests.Met .modelDescribe (fun c s => ∃ k l, s.kit (c.arg 0) = some k ∧ k.load = some l ∧ k.mode = .loading ∧
      noneApplies (c.kitNamed s true ++ c.wrongQueue s ++ c.kitLost s) ∧
      1 ≤ c.arg 1 ∧ c.arg 1 ≤ 1024 ∧ l.records.length + c.arg 1 ≤ 65536 ∧
      c.blockBad s 2 (64 * c.arg 1) 64 = false ∧ c.domainDown s 2 = false ∧
      (∀ i, i < c.arg 1 → s.recordBad k.partition (s.sysRead (c.arg 2 + 64 * i) 64) = none) ∧ s.admitting (c.arg 0) = false) ∧
    Tests.Met .modelCommit (fun c s => ∃ k l, s.kit (c.arg 0) = some k ∧ k.load = some l ∧ k.mode = .loading ∧
      noneApplies (c.kitNamed s true ++ c.wrongQueue s ++ c.reportGuards s 1 ++ c.kitLost s) ∧ s.loadListsGood k l = true ∧
      s.admitting (c.arg 0) = false ∧ (k.policy = 2 → l.batch = none) ∧ s.reserved (c.arg 0) = false) ∧
    Tests.Met .modelAbort (fun c s => ∃ k, s.kit (c.arg 0) = some k ∧ k.mode = .loading ∧
      noneApplies (c.kitNamed s true ++ c.wrongQueue s ++ c.kitLost s) ∧ s.admitting (c.arg 0) = false) ∧
    Tests.Met .modelUnload (fun c s => ∃ k, s.kit (c.arg 0) = some k ∧ k.mode = .admitted ∧
      noneApplies (c.kitNamed s true ++ c.wrongQueue s ++ c.kitLost s)) ∧
    Tests.Met .placeQuery (fun c s => ∃ k p, s.kit (c.arg 0) = some k ∧ k.placement = some p ∧ noneApplies (c.kitNamed s true ++ c.kitLost s) ∧
      c.takesResult s 1 384) ∧
    Tests.Met .placeReplace (fun c s => ∃ k, s.kit (c.arg 0) = some k ∧ k.mode = .admitted ∧ k.next = none ∧
      noneApplies (c.kitNamed s true ++ c.reportGuards s 3 ++ c.kitLost s) ∧ c.arg 1 ≤ 2 ∧ c.arg 2 ≤ 250 ∧
      s.admitting (c.arg 0) = false ∧ s.reserved (c.arg 0) = false) :=
  ⟨Tests.met 0 (Tests.pack .modelBegin [3, 2]) (Tests.withKit Tests.kit) (by decide +kernel)
      (⟨Tests.kit, by decide +kernel, Tests.none_applies (by decide +kernel), by decide +kernel⟩),
   Tests.met 0 (Tests.pack .modelDescribe [3, 1, 16384]) { Tests.withKit { Tests.kit with mode := .loading, load := some { replica := 0, records := [] } } with mem := { (Tests.withKit { Tests.kit with mode := .loading, load := some { replica := 0, records := [] } }).mem with t1 := memWrite zeroByte [] 0x4000 ([4, 0, 0xFF, 0xFF] ++ zeros 60) } } (by decide +kernel)
      (⟨{ Tests.kit with mode := .loading, load := some { replica := 0, records := [] } }, { replica := 0, records := [] }, by decide +kernel, by decide +kernel, by decide +kernel, Tests.none_applies (by decide +kernel), by decide +kernel⟩),
   Tests.met 0 (Tests.pack .modelCommit [3, 16384]) (Tests.withKit { Tests.kit with mode := .loading, load := some { replica := 0, records := [] } }) (by decide +kernel)
      (⟨{ Tests.kit with mode := .loading, load := some { replica := 0, records := [] } }, { replica := 0, records := [] }, by decide +kernel, by decide +kernel, by decide +kernel, Tests.none_applies (by decide +kernel), by decide +kernel⟩),
   Tests.met 0 (Tests.pack .modelAbort [3]) (Tests.withKit { Tests.kit with mode := .loading, load := some { replica := 0, records := [] } }) (by decide +kernel)
      (⟨{ Tests.kit with mode := .loading, load := some { replica := 0, records := [] } }, by decide +kernel, by decide +kernel, Tests.none_applies (by decide +kernel), by decide +kernel⟩),
   Tests.met 0 (Tests.pack .modelUnload [3]) (Tests.withKit Tests.admitted) (by decide +kernel)
      (⟨Tests.admitted, by decide +kernel, by decide +kernel, Tests.none_applies (by decide +kernel)⟩),
   Tests.met 0 (Tests.pack .placeQuery [3, 16384]) (Tests.withKit Tests.admitted) (by decide +kernel)
      (⟨Tests.admitted, Tests.placement, by decide +kernel, by decide +kernel, Tests.none_applies (by decide +kernel), by dsimp only [Call.takesResult]; decide +kernel⟩),
   Tests.met 0 (Tests.pack .placeReplace [3, 2, 250, 16384]) (Tests.withKit Tests.admitted) (by decide +kernel)
      (⟨Tests.admitted, by decide +kernel, by decide +kernel, by decide +kernel, Tests.none_applies (by decide +kernel), by decide +kernel⟩)⟩

theorem witness_SequenceCommandsComplete :
    Tests.Met .seqOpen (fun c s => noneApplies (seqOpenRefusals c s)) ∧
    Tests.Met .seqAppend (fun c s => ∃ k x, s.rangeKit (c.arg 0) = some k ∧ s.seq (c.arg 0) = some x ∧
      noneApplies (c.seqNamed s ++ c.seqHeld s false) ∧ c.arg 1 % 4 = 0 ∧ 1 ≤ c.arg 2 ∧ c.arg 2 ≤ 1048576 ∧
      s.inScratch k.partition (c.arg 1) (4 * c.arg 2) = true ∧
      (x.mode = .waiting ∨ x.mode = .prefill ∨ x.mode = .decode) ∧ x.appends.length < 4 ∧
      x.position + x.pending + c.arg 2 ≤ k.seqPolicy.limit) ∧
    Tests.Met .seqSet (fun c s => ∃ x, s.seq (c.arg 0) = some x ∧ noneApplies (c.seqNamed s ++ c.seqHeld s false) ∧ x.isOpen = true ∧
      c.arg 1 ≤ 7 ∧ c.arg 2 ≠ 0 ∧ c.arg 4 ≤ 1) ∧
    Tests.Met .seqPause (fun c s => ∃ x, s.seq (c.arg 0) = some x ∧ noneApplies (c.seqNamed s ++ c.seqHeld s false) ∧
      (x.mode = .waiting ∨ x.mode = .prefill ∨ x.mode = .decode)) ∧
    Tests.Met .seqResume (fun c s => ∃ x, s.seq (c.arg 0) = some x ∧ noneApplies (c.seqNamed s ++ c.seqHeld s false) ∧ x.mode = .paused) ∧
    Tests.Met .seqTruncate (fun c s => ∃ x, s.seq (c.arg 0) = some x ∧ noneApplies (c.seqNamed s ++ c.seqHeld s false) ∧ c.arg 1 < x.position ∧
      (x.mode = .waiting ∨ x.mode = .paused) ∧ s.seqBusy (c.arg 0) = false ∧ x.pending = 0) ∧
    Tests.Met .seqClose (fun c s => ∃ x, s.seq (c.arg 0) = some x ∧ noneApplies (c.seqNamed s ++ c.seqHeld s true) ∧
      ((x.isOpen = true ∧ s.seqBusy (c.arg 0) = false) ∨ x.mode = .lost)) ∧
    Tests.Met .seqClose (fun c s => ∃ x, s.seq (c.arg 0) = some x ∧ noneApplies (c.seqNamed s ++ c.seqHeld s true) ∧ x.isOpen = true ∧
      s.seqBusy (c.arg 0) = true) ∧
    Tests.Met .seqQuery (fun c s => noneApplies (c.seqNamed s ++ c.seqHeld s false) ∧ c.takesResult s 1 512) ∧
    Tests.Met .seqPolicy (fun c s => noneApplies (seqPolicyRefusals c s)) :=
  ⟨Tests.met 0 (Tests.pack .seqOpen [3, 7, 1, 0, 0, 0, 16384, 1, 0]) (Tests.withSeq Tests.sequence) (by decide +kernel)
      (Tests.none_applies (by decide +kernel)),
   Tests.met 0 (Tests.pack .seqAppend [8, 16384, 3996]) (Tests.withSeq Tests.sequence) (by decide +kernel)
      (⟨{ Tests.admitted with seqPolicy := { Tests.admitted.seqPolicy with denseLimit := 4096 } }, Tests.sequence, by decide +kernel, by decide +kernel, Tests.none_applies (by decide +kernel), by decide +kernel⟩),
   Tests.met 0 (Tests.pack .seqSet [8, 7, 1, 0, 1]) (Tests.withSeq Tests.sequence) (by decide +kernel)
      (⟨Tests.sequence, by decide +kernel, Tests.none_applies (by decide +kernel), by decide +kernel⟩),
   Tests.met 0 (Tests.pack .seqPause [8]) (Tests.withSeq Tests.sequence) (by decide +kernel)
      (⟨Tests.sequence, by decide +kernel, Tests.none_applies (by decide +kernel), by decide +kernel⟩),
   Tests.met 0 (Tests.pack .seqResume [8]) (Tests.withSeq { Tests.sequence with mode := .paused }) (by decide +kernel)
      (⟨{ Tests.sequence with mode := .paused }, by decide +kernel, Tests.none_applies (by decide +kernel), by decide +kernel⟩),
   Tests.met 0 (Tests.pack .seqTruncate [8, 99]) (Tests.withSeq Tests.sequence) (by decide +kernel)
      (⟨Tests.sequence, by decide +kernel, Tests.none_applies (by decide +kernel), by decide +kernel⟩),
   Tests.met 0 (Tests.pack .seqClose [8]) (Tests.withSeq Tests.sequence) (by decide +kernel)
      (⟨Tests.sequence, by decide +kernel, Tests.none_applies (by decide +kernel), by decide +kernel⟩),
   Tests.met 0 (Tests.pack .seqClose [8]) (Tests.withSeq { Tests.sequence with inFlight := 1 }) (by decide +kernel)
      (⟨{ Tests.sequence with inFlight := 1 }, by decide +kernel, Tests.none_applies (by decide +kernel), by decide +kernel⟩),
   Tests.met 0 (Tests.pack .seqQuery [8, 16384]) (Tests.withSeq Tests.sequence) (by decide +kernel)
      (⟨Tests.none_applies (by decide +kernel), by dsimp only [Call.takesResult]; decide +kernel⟩),
   Tests.met 0 (Tests.pack .seqPolicy [3, 4096, 0, 0, 0, 0, 0, 4096, 0]) (Tests.withKit Tests.admitted) (by decide +kernel)
      (Tests.none_applies (by decide +kernel))⟩

theorem witness_AlmanacAndBeatCommandsComplete :
    Tests.Met .almanacWrite (fun c s => noneApplies (almanacWriteRefusals c s)) ∧
    Tests.Met .almanacRead (fun c s => c.arg 0 < 65536 ∧ 1 ≤ c.arg 1 ∧ c.arg 0 + c.arg 1 ≤ 65536 ∧
      (c.physical = true ∨ ∀ i, i < c.arg 1 → s.entryOwner (c.arg 0 + i) = c.partition) ∧ c.takesResult s 2 (32 * c.arg 1)) ∧
    Tests.Met .almanacArm (fun c s => noneApplies (almanacArmRefusals c s)) ∧
    Tests.Met .almanacDisarm (fun _ s => s.almanac.mode ≠ .disarmed) ∧
    Tests.Met .beatSetPeriod (fun c s => noneApplies (beatSetPeriodRefusals c s)) ∧
    Tests.Met .timeSetSource (fun c s => c.arg 0 ≤ 1 ∧ c.arg 1 ≤ 127 ∧ c.arg 2 ≤ 1 ∧ s.notLeader = none) ∧
    Tests.Met .timeQuery (fun c s => c.takesResult s 0 32) ∧
    Tests.Met .overrunSetPolicy (fun c s => ∃ k, s.kit (c.arg 0) = some k ∧ noneApplies (c.kitNamed s false ++ c.kitLost s) ∧ c.arg 1 ≤ 2 ∧ c.arg 2 ≠ 0 ∧
      (c.arg 1 = 2 → (∀ p, k.placement = some p → p.batch = none) ∧ ∀ p, k.next = some p → p.batch = none)) :=
  ⟨Tests.met 0 (Tests.pack .almanacWrite [0, 1, 16384]) Tests.scratch (by decide +kernel)
      (Tests.none_applies (by decide +kernel)),
   Tests.met 0 (Tests.pack .almanacRead [65535, 1, 16384]) Tests.scratch (by decide +kernel)
      (⟨by decide +kernel, by decide +kernel, by decide +kernel, Or.inl (by decide +kernel), by dsimp only [Call.takesResult]; decide +kernel⟩),
   Tests.met 0 (Tests.pack .almanacArm [65536, 2]) Tests.scratch (by decide +kernel)
      (Tests.none_applies (by decide +kernel)),
   Tests.met 0 (Tests.pack .almanacDisarm []) { Tests.scratch with almanac := { Tests.scratch.almanac with mode := .armed } } (by decide +kernel)
      (by decide +kernel),
   Tests.met 0 (Tests.pack .beatSetPeriod [2000, 100, 100, 2]) Tests.scratch (by decide +kernel)
      (Tests.none_applies (by decide +kernel)),
   Tests.met 0 (Tests.pack .timeSetSource [1, 127, 1]) Tests.scratch (by decide +kernel)
      (by decide +kernel),
   Tests.met 0 (Tests.pack .timeQuery [16384]) Tests.scratch (by decide +kernel)
      (by dsimp only [Call.takesResult]; decide +kernel),
   Tests.met 0 (Tests.pack .overrunSetPolicy [3, 1, 1]) (Tests.withKit Tests.kit) (by decide +kernel)
      (⟨Tests.kit, by decide +kernel, Tests.none_applies (by decide +kernel), by decide +kernel, by decide +kernel, fun h => absurd h (by decide +kernel)⟩)⟩

theorem witness_TransferCommandsComplete :
    Tests.Met .dmaCopy (fun c s => c.blockBad s 0 64 64 = false ∧ c.domainDown s 0 = false ∧ s.beat.phase = .guard) ∧
    Tests.Met .dmaCopy (fun c s => c.blockBad s 0 64 64 = false ∧ c.domainDown s 0 = false ∧ s.beat.phase ≠ .guard ∧
      s.dmaCheck c.physical c.partition (s.sysRead (c.arg 0) 64) = none ∧ s.dmaDomainDown (s.sysRead (c.arg 0) 64) = false ∧
      ∀ h, h = (descriptor (s.sysRead (c.arg 0) 64)).srcHandle ∨ h = (descriptor (s.sysRead (c.arg 0) 64)).dstHandle →
        ∀ i o, s.objectOf h = some (i, o) → s.lostContext o.context = false ∧ o.mode ≠ .retiring) ∧
    Tests.Met .ringSend (fun c s => c.blockBad s 0 128 128 = false ∧ c.domainDown s 0 = false ∧ s.beat.phase = .guard) ∧
    Tests.Met .ringSend (fun c s => c.blockBad s 0 128 128 = false ∧ c.domainDown s 0 = false ∧ s.beat.phase ≠ .guard ∧
      s.ringCheck c.physical c.partition (s.sysRead (c.arg 0) 128) = none ∧
      ((sideCoherent (s.ringTransfer (s.sysRead (c.arg 0) 128)).srcSpace 1
        (s.ringTransfer (s.sysRead (c.arg 0) 128)).srcRow = true) → s.cijan.mode = .up) ∧
      ((s.ringTransfer (s.sysRead (c.arg 0) 128)).srcSpace = 1 →
        ∀ i o, s.objectOf (s.ringTransfer (s.sysRead (c.arg 0) 128)).srcHandle = some (i, o) →
          s.lostContext o.context = false ∧ o.mode ≠ .retiring) ∧
      s.beat.lock ≠ .free ∧ s.ringBlocked (s.ringTransfer (s.sysRead (c.arg 0) 128)) = none) :=
  ⟨Tests.met 0 (Tests.pack .dmaCopy [16384]) { (Tests.moving 0) with beat := { (Tests.moving 0).beat with phase := .guard } } (by decide +kernel)
      (by decide +kernel),
   Tests.met 0 (Tests.pack .dmaCopy [16384]) (Tests.moving 0) (by decide +kernel)
      (⟨by decide +kernel, by decide +kernel, by decide +kernel, by decide +kernel, by decide +kernel, by
        intro h _ i o e
        rw [show ∀ h, State.objectOf _ h = none from fun h => rfl] at e
        cases e⟩),
   Tests.met 0 (Tests.pack .ringSend [16384]) { (Tests.pair (Tests.moving 1)) with beat := { (Tests.pair (Tests.moving 1)).beat with phase := .guard } } (by decide +kernel)
      (by decide +kernel),
   Tests.met 0 (Tests.pack .ringSend [16384]) { (Tests.pair (Tests.moving 1)) with beat := { (Tests.pair (Tests.moving 1)).beat with lock := .locked } } (by decide +kernel)
      (⟨by decide +kernel, by decide +kernel, by decide +kernel, by decide +kernel, fun h => absurd h (by decide +kernel), fun h => absurd h (by decide +kernel), by decide +kernel⟩)⟩

theorem witness_PealAndFunctionCommandsComplete :
    Tests.Met .pealForm (fun c s => c.arg 0 ≠ 0 ∧ c.arg 1 < 4096 ∧ c.arg 2 ≤ 1 ∧ s.peal.mode = .alone ∧ s.anyAdmitted = false) ∧
    Tests.Met .pealJoin (fun c s => c.arg 0 ≠ 0 ∧ s.peal.mode = .alone ∧ s.anyAdmitted = false ∧ ∀ k ∈ s.kits, s.level k.1 < 14) ∧
    Tests.Met .pealLeave (fun c s => c.arg 0 < 4096 ∧ c.arg 1 ≤ 1 ∧ s.notLeader = none ∧ s.peal.inPeal = true ∧ c.arg 0 ∈ s.peal.members ∧
      (∀ l ∈ s.peal.leaving, l.1 ≠ c.arg 0) ∧ (c.arg 1 = 1 ∨ s.sharing (c.arg 0) = [])) ∧
    Tests.Met .pealQuery (fun c s => c.takesResult s 0 640) ∧
    Tests.Met .vfEnable (fun c s => 1 ≤ c.arg 0 ∧ c.arg 0 ≤ 4095 ∧ c.arg 1 = 1 ∧ (s.function (c.arg 0)).mode = .disabled) ∧
    Tests.Met .vfEnable (fun c s => 1 ≤ c.arg 0 ∧ c.arg 0 ≤ 4095 ∧ c.arg 1 = 0 ∧ (s.function (c.arg 0)).mode = .enabled ∧ s.vfEmpty (c.arg 0) = true) ∧
    Tests.Met .vfAssign (fun c s =>
      1 ≤ c.arg 0 ∧ c.arg 0 ≤ 4095 ∧ (s.function (c.arg 0)).mode = .enabled ∧ s.vfEmpty (c.arg 0) = true ∧
      c.blockBad s 1 64 64 = false ∧ c.domainDown s 1 = false ∧
      bit (field (s.sysRead (c.arg 1) 64) 0 8) 0 = false ∧ field (s.sysRead (c.arg 1) 64) 8 4 < 2 ^ 20 ∧
      field (s.sysRead (c.arg 1) 64) 12 4 ≤ 1048320 ∧
      (field (s.sysRead (c.arg 1) 64) 12 4 = 0 ∨ (256 ≤ field (s.sysRead (c.arg 1) 64) 8 4 ∧
        field (s.sysRead (c.arg 1) 64) 8 4 + field (s.sysRead (c.arg 1) 64) 12 4 ≤ 1048576)) ∧
      s.rangeTaken (c.arg 0) (field (s.sysRead (c.arg 1) 64) 8 4) (field (s.sysRead (c.arg 1) 64) 12 4) = false ∧
      ∀ b ∈ slice (s.sysRead (c.arg 1) 64) 16 48, b = 0) ∧
    Tests.Met .vfReset (fun c s => 1 ≤ c.arg 0 ∧ c.arg 0 ≤ 4095 ∧ ((s.function (c.arg 0)).mode = .enabled ∨ (s.function (c.arg 0)).mode = .freezing ∨
      (s.function (c.arg 0)).mode = .frozen ∨ (s.function (c.arg 0)).mode = .saved)) ∧
    Tests.Met .vfFreeze (fun c s => 1 ≤ c.arg 0 ∧ c.arg 0 ≤ 4095 ∧ (s.function (c.arg 0)).mode = .enabled ∧
      (∀ w ∈ s.functions, w.1 ≠ c.arg 0 → ∀ p ∈ w.2.partitions, p ∉ (s.function (c.arg 0)).partitions) ∧
      (∀ k ∈ s.functionKits (c.arg 0), isPealKit k.1 = false) ∧
      ∀ q ∈ s.sequences, q.2.mode = .free ∨ isPealKit q.2.kit = false ∨ q.2.partition ∉ (s.function (c.arg 0)).partitions) ∧
    Tests.Met .vfSave (fun c s => 1 ≤ c.arg 0 ∧ c.arg 0 ≤ 4095 ∧ c.arg 1 ≤ 1 ∧
      ((s.function (c.arg 0)).mode = .frozen ∨ (s.function (c.arg 0)).mode = .saved) ∧
      imageSize (s.sections (c.arg 0)) ≤ c.arg 3 ∧ c.arg 3 ≠ 0 ∧ c.imagePlace s (imageSize (s.sections (c.arg 0))) = true ∧
      noneApplies (c.imageObject s) ∧ (c.arg 1 = 0 → isCoherent (c.arg 2) = true → s.cijan.mode = .up)) ∧
    Tests.Met .vfSave (fun c s => 1 ≤ c.arg 0 ∧ c.arg 0 ≤ 4095 ∧ c.arg 1 ≤ 1 ∧
      ((s.function (c.arg 0)).mode = .frozen ∨ (s.function (c.arg 0)).mode = .saved) ∧ c.arg 3 = 0) ∧
    Tests.Met .vfRestore (fun c s => 1 ≤ c.arg 0 ∧ c.arg 0 ≤ 4095 ∧ c.arg 1 ≤ 1 ∧ c.arg 3 ≠ 0 ∧ c.imagePlace s (c.arg 3) = true ∧
      noneApplies (c.reportGuards s 4 ++ c.imageObject s) ∧
      (c.arg 1 = 0 → isCoherent (c.arg 2) = true → s.cijan.mode = .up)) ∧
    Tests.Met .vfResume (fun c s => 1 ≤ c.arg 0 ∧ c.arg 0 ≤ 4095 ∧ ((s.function (c.arg 0)).mode = .frozen ∨ (s.function (c.arg 0)).mode = .saved)) :=
  ⟨Tests.met 0 (Tests.pack .pealForm [1, 4095, 1, 0]) Tests.scratch (by decide +kernel)
      (by decide +kernel),
   Tests.met 0 (Tests.pack .pealJoin [1, 0]) Tests.scratch (by decide +kernel)
      (by decide +kernel),
   Tests.met 0 (Tests.pack .pealLeave [1, 0]) (Tests.pair (Tests.moving 1)) (by decide +kernel)
      (by decide +kernel),
   Tests.met 0 (Tests.pack .pealQuery [16384]) Tests.scratch (by decide +kernel)
      (by dsimp only [Call.takesResult]; decide +kernel),
   Tests.met 0 (Tests.pack .vfEnable [4095, 1]) Tests.scratch (by decide +kernel)
      (by decide +kernel),
   Tests.met 0 (Tests.pack .vfEnable [1, 0]) (Tests.withFunction { VFunction.initial with mode := .enabled }) (by decide +kernel)
      (by decide +kernel),
   Tests.met 0 (Tests.pack .vfAssign [1, 16384]) (Tests.withFunction { VFunction.initial with mode := .enabled }) (by decide +kernel)
      (by decide +kernel),
   Tests.met 0 (Tests.pack .vfReset [1]) (Tests.withFunction { VFunction.initial with mode := .saved }) (by decide +kernel)
      (by decide +kernel),
   Tests.met 0 (Tests.pack .vfFreeze [1]) (Tests.withFunction { VFunction.initial with mode := .enabled }) (by decide +kernel)
      (by decide +kernel),
   Tests.met 0 (Tests.pack .vfSave [1, 0, 16384, 1048576]) (Tests.withFunction { VFunction.initial with mode := .frozen }) (by decide +kernel)
      (⟨by decide +kernel, by decide +kernel, by decide +kernel, by decide +kernel, by decide +kernel, by decide +kernel, by decide +kernel, Tests.none_applies (by decide +kernel), by decide +kernel⟩),
   Tests.met 0 (Tests.pack .vfSave [1, 0, 16384, 0]) (Tests.withFunction { VFunction.initial with mode := .saved }) (by decide +kernel)
      (by decide +kernel),
   Tests.met 0 (Tests.pack .vfRestore [1, 0, 16384, 4096, 32768]) (Tests.withFunction { VFunction.initial with mode := .enabled }) (by decide +kernel)
      (⟨by decide +kernel, by decide +kernel, by decide +kernel, by decide +kernel, by decide +kernel, Tests.none_applies (by decide +kernel), by decide +kernel⟩),
   Tests.met 0 (Tests.pack .vfResume [1]) (Tests.withFunction { VFunction.initial with mode := .frozen }) (by decide +kernel)
      (by decide +kernel)⟩

theorem witness_PowerCommandsComplete :
    Tests.Met .powerSetCap (fun c _ => 1200000 ≤ c.arg 0 ∧ c.arg 0 ≤ 4000000 ∧ c.arg 1 ≤ 4000 ∧ 1200000 ≤ c.arg 3 ∧ c.arg 3 ≤ 4000000) ∧
    Tests.Met .powerQuery (fun c s => c.takesResult s 0 128) ∧
    Tests.Met .thermalSetLimits (fun c _ => 70 ≤ c.arg 0 ∧ c.arg 0 ≤ 100 ∧ 20 ≤ c.arg 1 ∧ c.arg 1 ≤ 45) ∧
    Tests.Met .vigilEnter (fun _ s => s.power.vigil = .awake ∧ s.vigilBarred = false) ∧
    Tests.Met .vigilWake (fun c s => c.queue.management = true ∧ s.power.vigil = .entering) :=
  ⟨Tests.met 1 (Tests.pack .powerSetCap [4000000, 4000, 0, 1200000]) Tests.scratch (by decide +kernel)
      (by decide +kernel),
   Tests.met 1 (Tests.pack .powerQuery [16384]) Tests.scratch (by decide +kernel)
      (by dsimp only [Call.takesResult]; decide +kernel),
   Tests.met 1 (Tests.pack .thermalSetLimits [70, 45]) Tests.scratch (by decide +kernel)
      (by decide +kernel),
   Tests.met 1 (Tests.pack .vigilEnter []) Tests.scratch (by decide +kernel)
      (by decide +kernel),
   Tests.met 1 (Tests.pack .vigilWake []) { Tests.scratch with power := { Tests.scratch.power with vigil := .entering } } (by decide +kernel)
      (by decide +kernel)⟩

theorem witness_ProtectionCommandsComplete :
    Tests.Met .eccDiagMode (fun c s => ((c.arg 0 = 1 ∧ c.arg 1 < 2048) ∨ (c.arg 0 = 2 ∧ c.arg 1 < 1024)) ∧ c.arg 2 = 1 ∧ s.diagFit (c.arg 0) (c.arg 1) = true) ∧
    Tests.Met .eccDiagMode (fun c _ => ((c.arg 0 = 1 ∧ c.arg 1 < 2048) ∨ (c.arg 0 = 2 ∧ c.arg 1 < 1024)) ∧ c.arg 2 = 0) ∧
    Tests.Met .eccRawWrite (fun c s => ∃ w, rawPlace (c.arg 0) = some w ∧ c.blockBad s 1 ((codeOf w.tier).symbols * (codeOf w.tier).size) 64 = false ∧
      c.domainDown s 1 = false ∧ s.diagnostic w = true) ∧
    Tests.Met .eccRawRead (fun c s => (rawPlace (c.arg 0)).isSome = true ∧ c.takesResult s 1 1280) ∧
    Tests.Met .eccScrubSet (fun c _ => (c.arg 0 = 1 ∧ 1 ≤ c.arg 1 ∧ c.arg 1 ≤ 256) ∨ (c.arg 0 = 2 ∧ 16 ≤ c.arg 1 ∧ c.arg 1 ≤ 1024)) ∧
    Tests.Met .eccDieMark (fun c _ => c.arg 0 < 10 ∧ c.arg 1 < 32 ∧ c.arg 2 = 1) ∧
    Tests.Met .eccDieMark (fun c _ => c.arg 0 < 10 ∧ c.arg 1 < 32 ∧ c.arg 2 = 0) ∧
    Tests.Met .eccLogRead (fun c s => c.arg 0 < 65536 ∧ 1 ≤ c.arg 1 ∧ c.arg 0 + c.arg 1 ≤ 65536 ∧ c.takesResult s 2 (32 * c.arg 1)) :=
  ⟨Tests.met 0 (Tests.pack .eccDiagMode [1, 15, 1]) Tests.scratch (by decide +kernel)
      (by decide +kernel),
   Tests.met 0 (Tests.pack .eccDiagMode [2, 1023, 0]) Tests.scratch (by decide +kernel)
      (by decide +kernel),
   Tests.met 0 (Tests.pack .eccRawWrite [8388608, 16384]) { Tests.scratch with mem := { Tests.scratch.mem with granules := [(0, { Granule.initial with mode := .scratch }), (1, { Granule.initial with mode := .scratch, diag := true })] } } (by decide +kernel)
      (⟨(rawPlace 0x800000).getD (.t2 0 0), by decide +kernel, by decide +kernel⟩),
   Tests.met 0 (Tests.pack .eccRawRead [8388608, 16384]) { Tests.scratch with mem := { Tests.scratch.mem with granules := [(0, { Granule.initial with mode := .scratch }), (1, { Granule.initial with mode := .scratch, diag := true })] } } (by decide +kernel)
      (by dsimp only [Call.takesResult]; decide +kernel),
   Tests.met 0 (Tests.pack .eccScrubSet [2, 1024]) Tests.scratch (by decide +kernel)
      (by decide +kernel),
   Tests.met 0 (Tests.pack .eccDieMark [9, 31, 1]) Tests.scratch (by decide +kernel)
      (by decide +kernel),
   Tests.met 0 (Tests.pack .eccDieMark [9, 31, 0]) Tests.scratch (by decide +kernel)
      (by decide +kernel),
   Tests.met 0 (Tests.pack .eccLogRead [65535, 1, 16384]) Tests.scratch (by decide +kernel)
      (by dsimp only [Call.takesResult]; decide +kernel)⟩

theorem witness_FirmwareCommandsComplete :
    Tests.Met .fwDeliver (fun c s => c.takesDelivery s ∧ c.arg 0 = 0 ∧ c.arg 1 % 1024 = 0 ∧ c.arg 1 + c.arg 2 ≤ imageLimit ∧ c.arg 2 % 128 = 0 ∧
      128 ≤ c.arg 2 ∧ c.arg 2 ≤ 1024 ∧ ∃ b, s.chunkOf c.cmd.queue c.cmd.index = some b ∧ b.length = c.arg 2) ∧
    Tests.Met .fwDeliver (fun c s => c.takesDelivery s ∧ c.arg 0 = 1 ∧ c.arg 2 = 0 ∧
      ((if s.boot.verified then s.boot.staging else s.boot.load).whole (c.arg 1) = true ∨ imageLimit < c.arg 1)) ∧
    Tests.Met .fwDeliver (fun c s => c.takesDelivery s ∧ c.arg 0 = 2) ∧
    Tests.Met .fwLiveUpdate (fun c s => s.updateIdle ∧ c.arg 0 = 0 ∧ s.boot.staging.whole s.boot.staging.length = true) ∧
    Tests.Met .fwLiveUpdate (fun c s => s.updateIdle ∧ c.arg 0 ≠ 0 ∧ c.arg 1 ≤ imageLimit ∧ c.blockBad s 0 (c.arg 1) 128 = false ∧
      c.domainDown s 0 = false ∧ (isCoherent (c.arg 0) = true ∨ s.poisonedAt (c.arg 0) (c.arg 1) = false)) ∧
    Tests.Met .stationFwUpdate (fun _ s => (∃ b ∈ s.fail.bases, b.2.firmware < s.newestImage) ∧ s.fail.stationUpdate = none ∧ s.power.vigil ≠ .entering) ∧
    Tests.Met .edgePrimaryMove (fun c s => c.arg 0 ≤ 3 ∧ s.primaryAble (c.arg 0) = true ∧ c.arg 0 ≠ s.fail.primary) ∧
    Tests.Met .edgePrimaryMove (fun c s => c.arg 0 = 0xFF ∧ (s.nextEdge s.fail.primary).isSome = true) :=
  ⟨Tests.met 1 (Tests.pack .fwDeliver [0, 0, 1024]) (Tests.waitingImage Delivery.empty) (by decide +kernel)
      (⟨⟨by decide +kernel, by decide +kernel, fun _ => by decide +kernel, fun h => absurd h (by decide +kernel)⟩, by decide +kernel, by decide +kernel, by decide +kernel, by decide +kernel, by decide +kernel, by decide +kernel, zeros 1024, by decide +kernel, by decide +kernel⟩),
   Tests.met 1 (Tests.pack .fwDeliver [1, 1024, 0]) (Tests.waitingImage ⟨[], [(0, 1024)], 1024, false⟩) (by decide +kernel)
      (⟨⟨by decide +kernel, by decide +kernel, fun _ => by decide +kernel, fun h => absurd h (by decide +kernel)⟩, by decide +kernel, by decide +kernel, Or.inl (by decide +kernel)⟩),
   Tests.met 1 (Tests.pack .fwDeliver [2, 0, 0]) (Tests.waitingImage Delivery.empty) (by decide +kernel)
      (⟨⟨by decide +kernel, by decide +kernel, fun _ => by decide +kernel, fun h => absurd h (by decide +kernel)⟩, by decide +kernel⟩),
   Tests.met 0 (Tests.pack .fwLiveUpdate [0, 0]) { Tests.scratch with boot := { Tests.scratch.boot with staging := ⟨[], [(0, 1024)], 1024, false⟩ } } (by decide +kernel)
      (⟨⟨by decide +kernel, by decide +kernel, by decide +kernel, by decide +kernel⟩, by decide +kernel, by decide +kernel⟩),
   Tests.met 0 (Tests.pack .fwLiveUpdate [16384, 128]) Tests.scratch (by decide +kernel)
      (⟨⟨by decide +kernel, by decide +kernel, by decide +kernel, by decide +kernel⟩, by decide +kernel⟩),
   Tests.met 0 (Tests.pack .stationFwUpdate [0]) { Tests.scratch with boot := { Tests.scratch.boot with images := [(1, Tests.image)] } } (by decide +kernel)
      (by decide +kernel),
   Tests.met 0 (Tests.pack .edgePrimaryMove [3]) (Tests.world 0x4000 []) (by decide +kernel)
      (by decide +kernel),
   Tests.met 0 (Tests.pack .edgePrimaryMove [255]) (Tests.world 0x4000 []) (by decide +kernel)
      (by decide +kernel)⟩

theorem witness_IdentityAndDieCommandsComplete :
    Tests.Met .deviceQuery (fun c s => c.mayReadWindow s ∧ (c.queue.management = true → c.arg 3 ≠ 0) ∧ c.takesResult s 3 (8 * c.arg 2)) ∧
    Tests.Met .deviceQuery (fun c s => c.mayReadWindow s ∧ c.queue.management = true ∧ c.arg 3 = 0 ∧ c.arg 2 ≤ 128) ∧
    Tests.Met .identityQuery (fun c s => (c.queue.management = true → c.arg 0 ≠ 0) ∧ c.takesResult s 0 512) ∧
    Tests.Met .identityQuery (fun c _ => c.queue.management = true ∧ c.arg 0 = 0) ∧
    Tests.Met .attest (fun c s => c.blockBad s 0 32 64 = false ∧ c.domainDown s 0 = false ∧ (c.queue.management = true → c.arg 1 ≠ 0) ∧
      c.takesResult s 1 384) ∧
    Tests.Met .attest (fun c s => c.blockBad s 0 32 64 = false ∧ c.domainDown s 0 = false ∧ c.queue.management = true ∧ c.arg 1 = 0) ∧
    Tests.Met .coreRetire (fun c s => c.arg 0 < 1728 ∧ s.coreInService (c.arg 0) = true) ∧
    Tests.Met .dieIntercalate (fun c s => c.arg 1 = 0 ∧ c.arg 0 < 54 ∧ (s.die (c.arg 0)).mode = .intercalary ∧ s.diesServing < 48) ∧
    Tests.Met .dieIntercalate (fun c s => c.arg 1 = 0 ∧ c.arg 0 = 0xFF ∧ (∃ st, s.nextIntercalary [] = some st ∧ (s.die st).mode = .intercalary) ∧
      s.diesServing < 48) ∧
    Tests.Met .dieIntercalate (fun c s => c.arg 1 = 1 ∧ c.arg 0 < 54 ∧ (s.die (c.arg 0)).mode = .inService ∧ (s.die (c.arg 0)).releasing = false) ∧
    Tests.Met .dieIntercalate (fun c _ => c.arg 0 = 0xFF ∧ (c.arg 1 = 2 ∨ c.arg 1 = 3)) ∧
    Tests.Met .clockRecalibrate (fun c s => c.arg 0 < 54 ∧ ((s.die (c.arg 0)).mode = .intercalary ∨ (s.die (c.arg 0)).mode = .retired) ∧ c.takesResult s 1 64) :=
  ⟨Tests.met 0 (Tests.pack .deviceQuery [0, 0, 1, 16384]) Tests.scratch (by decide +kernel)
      (⟨by dsimp only [Call.mayReadWindow]; decide +kernel, by decide +kernel, by dsimp only [Call.takesResult]; decide +kernel⟩),
   Tests.met 1 (Tests.pack .deviceQuery [0, 0, 1, 0]) Tests.scratch (by decide +kernel)
      (⟨by dsimp only [Call.mayReadWindow]; decide +kernel, by decide +kernel⟩),
   Tests.met 0 (Tests.pack .identityQuery [16384]) Tests.scratch (by decide +kernel)
      (⟨by decide +kernel, by dsimp only [Call.takesResult]; decide +kernel⟩),
   Tests.met 1 (Tests.pack .identityQuery [0]) Tests.scratch (by decide +kernel)
      (by decide +kernel),
   Tests.met 0 (Tests.pack .attest [16384, 32768]) Tests.scratch (by decide +kernel)
      (⟨by decide +kernel, by decide +kernel, by decide +kernel, by dsimp only [Call.takesResult]; decide +kernel⟩),
   Tests.met 1 (Tests.pack .attest [16384, 0]) Tests.scratch (by decide +kernel)
      (by decide +kernel),
   Tests.met 0 (Tests.pack .coreRetire [1]) Tests.scratch (by decide +kernel)
      (by decide +kernel),
   Tests.met 0 (Tests.pack .dieIntercalate [6, 0]) { Tests.scratch with fail := { FailState.reset with dies := tset FailState.reset.dies 0 { ComputeDie.reset 0 with mode := .failed } } } (by decide +kernel)
      (by decide +kernel),
   Tests.met 0 (Tests.pack .dieIntercalate [255, 0]) { Tests.scratch with fail := { FailState.reset with dies := tset FailState.reset.dies 0 { ComputeDie.reset 0 with mode := .failed } } } (by decide +kernel)
      (⟨by decide +kernel, by decide +kernel, ⟨6, by decide +kernel⟩, by decide +kernel⟩),
   Tests.met 0 (Tests.pack .dieIntercalate [53, 1]) Tests.scratch (by decide +kernel)
      (by decide +kernel),
   Tests.met 0 (Tests.pack .dieIntercalate [255, 3]) Tests.scratch (by decide +kernel)
      (by decide +kernel),
   Tests.met 0 (Tests.pack .clockRecalibrate [6, 16384]) Tests.scratch (by decide +kernel)
      (⟨by decide +kernel, by decide +kernel, by dsimp only [Call.takesResult]; decide +kernel⟩)⟩


/-! ### States that meet the hypotheses of the statements about instructions -/

theorem witness_BranchInstructionsGo :
    Tests.Issued (fun w => (fun _ => []) w ++ (fun _ => []) w)
      (fun w _ _ _ => w.noFields) ∧
    Tests.Issued (fun w => (fun _ => []) w ++ (fun _ => []) w)
      (fun w _ _ g => w.d = 0 ∧ w.a = 0 ∧ w.join ≠ 0 ∧ g.falls w = 0) ∧
    Tests.Issued (fun w => (fun _ => []) w ++ (fun _ => []) w)
      (fun w _ _ g => w.d = 0 ∧ w.a = 0 ∧ w.join ≠ 0 ∧ g.falls w ≠ 0 ∧ g.taken w = 0) ∧
    Tests.Issued (fun w => (fun _ => []) w ++ (fun _ => []) w)
      (fun w _ _ g => w.d = 0 ∧ w.a = 0 ∧ w.join ≠ 0 ∧ g.falls w ≠ 0 ∧ g.taken w ≠ 0 ∧ g.stack.length ≤ 30) ∧
    Tests.Issued (fun w => (fun _ => []) w ++ (fun _ => []) w)
      (fun w _ _ g => w.noFields ∧ g.stack.length < 32) ∧
    Tests.Issued (fun w => (fun _ => []) w ++ (fun _ => []) w)
      (fun w _ _ g => w.noFields ∧ w.imm = 0 ∧ g.stack = ([⟨EntryKind.join, 800, 1⟩] : List StackEntry) ++ (⟨EntryKind.ret, 8, 1⟩ : StackEntry) :: ([] : List StackEntry)) ∧
    Tests.Issued (fun w => (fun _ => []) w ++ (fun _ => []) w)
      (fun w _ _ g => w.noFields ∧ w.imm = 0 ∧ g.finished = false ∧ g.stack = ([⟨EntryKind.join, 8, 1⟩] : List StackEntry) ++ (⟨EntryKind.path, 16, 2⟩ : StackEntry) :: ([] : List StackEntry) ∧
        (∀ e ∈ ([⟨EntryKind.join, 8, 1⟩] : List StackEntry), e.mask &&& ~~~g.active = 0) ∧ (⟨EntryKind.path, 16, 2⟩ : StackEntry).mask &&& ~~~g.active ≠ 0) ∧
    Tests.Issued (fun w => (fun _ => []) w ++ (fun _ => []) w)
      (fun w _ _ g => w.noFields ∧ w.imm = 0 ∧ ∀ e ∈ g.stack, e.mask &&& ~~~g.active = 0) :=
  ⟨Tests.issued Tests.ins (Tests.block Tests.group) Tests.group (Tests.running Tests.group) (by decide +kernel)
      (by dsimp only [Ins.noFields]; decide +kernel),
   Tests.issued { Tests.ins with imm := 5, src1 := 1 } (Tests.block Tests.group) Tests.group (Tests.running Tests.group) (by decide +kernel)
      (by decide +kernel),
   Tests.issued { Tests.ins with imm := 5, src1 := 1, pneg := true } (Tests.block Tests.group) Tests.group (Tests.running Tests.group) (by decide +kernel)
      (by decide +kernel),
   Tests.issued { Tests.ins with imm := 5, src1 := 1, pred := 0 } (Tests.block { Tests.group with preds := [1, 0, 0, 0, 0, 0, 0], stack := List.replicate 30 ⟨.join, 800, 1⟩ }) { Tests.group with preds := [1, 0, 0, 0, 0, 0, 0], stack := List.replicate 30 ⟨.join, 800, 1⟩ } (Tests.running { Tests.group with preds := [1, 0, 0, 0, 0, 0, 0], stack := List.replicate 30 ⟨.join, 800, 1⟩ }) (by decide +kernel)
      (by decide +kernel),
   Tests.issued Tests.ins (Tests.block { Tests.group with stack := List.replicate 31 ⟨.join, 800, 1⟩ }) { Tests.group with stack := List.replicate 31 ⟨.join, 800, 1⟩ } (Tests.running { Tests.group with stack := List.replicate 31 ⟨.join, 800, 1⟩ }) (by decide +kernel)
      (by dsimp only [Ins.noFields]; decide +kernel),
   Tests.issued Tests.ins (Tests.block { Tests.group with stack := [⟨.join, 800, 1⟩, ⟨.ret, 8, 1⟩] }) { Tests.group with stack := [⟨.join, 800, 1⟩, ⟨.ret, 8, 1⟩] } (Tests.running { Tests.group with stack := [⟨.join, 800, 1⟩, ⟨.ret, 8, 1⟩] }) (by decide +kernel)
      (by dsimp only [Ins.noFields]; decide +kernel),
   Tests.issued Tests.ins (Tests.block { Tests.group with active := 1, stack := [⟨.join, 8, 1⟩, ⟨.path, 16, 2⟩] }) { Tests.group with active := 1, stack := [⟨.join, 8, 1⟩, ⟨.path, 16, 2⟩] } (Tests.running { Tests.group with active := 1, stack := [⟨.join, 8, 1⟩, ⟨.path, 16, 2⟩] }) (by decide +kernel)
      (by dsimp only [Ins.noFields]; decide +kernel),
   Tests.issued Tests.ins (Tests.block Tests.group) Tests.group (Tests.running Tests.group) (by decide +kernel)
      (by dsimp only [Ins.noFields]; decide +kernel)⟩


theorem witness_CoreStoreInstructionsMove :
    Tests.Issued (fun w => (fun w => [w.a]) w ++ (fun w => widthRegs w.d (w.width.getD 4)) w)
      (fun w s _ g => w.width = some 4 ∧ w.b = 0 ∧ w.imm.toNat / 4096 % 64 = 0 ∧ groupAligned w.d 4 = true ∧ s.mayStore w g 4) ∧
    Tests.Issued (fun w => (fun w => w.a :: widthRegs w.c (w.width.getD 4)) w ++ (fun _ => []) w)
      (fun w s _ g => w.width = some 4 ∧ w.b = 0 ∧ w.imm.toNat / 4096 % 64 = 0 ∧ groupAligned w.c 4 = true ∧ s.mayStore w g 4) :=
  ⟨Tests.issued Tests.ins (Tests.block Tests.group) Tests.group (Tests.running Tests.group) (by decide +kernel)
      (by dsimp only [State.mayStore]; decide +kernel),
   Tests.issued Tests.ins (Tests.block Tests.group) Tests.group (Tests.running Tests.group) (by decide +kernel)
      (by dsimp only [State.mayStore]; decide +kernel)⟩


theorem witness_SyncInstructionsComplete :
    Tests.Issued (fun w => (fun _ => []) w ++ (fun _ => []) w)
      (fun w _ _ _ => w.c = 0 ∧ w.imm = 0) ∧
    Tests.Issued (fun w => (fun _ => []) w ++ (fun _ => []) w)
      (fun w s _ g => w.c = 0 ∧ w.imm.toNat < 16 ∧ w.kind ≠ 0 ∧ g.exec w ≠ 0 ∧
      (w.kind % 2 = 1 → 1 ≤ w.scope → s.inFlight w.core w.group Request.returns = false) ∧ ¬(2 ≤ w.kind ∧ 2 ≤ w.scope)) ∧
    Tests.Issued (fun w => (fun _ => []) w ++ (fun _ => []) w)
      (fun w s _ g => w.c = 0 ∧ w.imm.toNat < 16 ∧ g.exec w ≠ 0 ∧ 2 ≤ w.kind ∧ 2 ≤ w.scope ∧
      (w.kind % 2 = 1 → s.inFlight w.core w.group Request.returns = false) ∧ s.inFlight w.core w.group Request.stores = true) ∧
    Tests.Issued (fun w => (fun _ => []) w ++ (fun _ => []) w)
      (fun w s _ g => w.c = 0 ∧ w.imm.toNat < 16 ∧ g.exec w ≠ 0 ∧ 2 ≤ w.kind ∧ 2 ≤ w.scope ∧
      s.inFlight w.core w.group (fun r => Request.returns r || r.stores) = false) ∧
    Tests.Issued (fun w => (fun _ => []) w ++ (fun _ => []) w)
      (fun w s _ g => w.c = 0 ∧ w.imm.toNat < 512 ∧ g.exec w ≠ 0 ∧ s.inFlight w.core w.group Request.returns = false) ∧
    Tests.Issued (fun w => (fun w => [w.a] ++ pairRegs w.b) w ++ (fun w => [w.d]) w)
      (fun w s b g => w.c = 0 ∧ w.imm = 0 ∧ evenReg w.b = true ∧ lowestThread (g.exec w) = some 0 ∧
        (g.read w.a 0).toNat < (s.kitChimes b.kit).2 ∧
        s.chimeReady ((s.kitChimes b.kit).1 + (g.read w.a 0).toNat) (BitVec.ofNat 64 (g.readPair w.b 0)) = true) ∧
    Tests.Issued (fun w => (fun w => [w.a] ++ pairRegs w.b) w ++ (fun w => [w.d]) w)
      (fun w s b g => w.c = 0 ∧ w.imm = 0 ∧ evenReg w.b = true ∧ lowestThread (g.exec w) = some 0 ∧
        (g.read w.a 0).toNat < (s.kitChimes b.kit).2 ∧
        s.chimeReady ((s.kitChimes b.kit).1 + (g.read w.a 0).toNat) (BitVec.ofNat 64 (g.readPair w.b 0)) = false) ∧
    Tests.Issued (fun w => (fun w => [w.a] ++ pairRegs w.b) w ++ (fun _ => []) w)
      (fun w s b g => w.c = 0 ∧ w.imm = 0 ∧ evenReg w.b = true ∧ lowestThread (g.exec w) = some 0 ∧
        (g.read w.a 0).toNat < (s.kitChimes b.kit).2) :=
  ⟨Tests.issued Tests.ins (Tests.block Tests.group) Tests.group (Tests.running Tests.group) (by decide +kernel)
      (by decide +kernel),
   Tests.issued { Tests.ins with imm := 4 } (Tests.block Tests.group) Tests.group (Tests.running Tests.group) (by decide +kernel)
      (by decide +kernel),
   Tests.issued { Tests.ins with imm := 15 } (Tests.block Tests.group) Tests.group { (Tests.running Tests.group) with mem := { (Tests.running Tests.group).mem with requests := [Tests.store] } } (by decide +kernel)
      (by decide +kernel),
   Tests.issued { Tests.ins with imm := 15 } (Tests.block Tests.group) Tests.group (Tests.running Tests.group) (by decide +kernel)
      (by decide +kernel),
   Tests.issued { Tests.ins with imm := 511 } (Tests.block Tests.group) Tests.group (Tests.running Tests.group) (by decide +kernel)
      (by decide +kernel),
   Tests.issued Tests.ins (Tests.block Tests.group) Tests.group (Tests.running Tests.group) (by decide +kernel)
      (by decide +kernel),
   Tests.issued { Tests.ins with src1 := 2 } (Tests.block { Tests.group with regs := [(2, List.replicate 64 1)] }) { Tests.group with regs := [(2, List.replicate 64 1)] } (Tests.running { Tests.group with regs := [(2, List.replicate 64 1)] }) (by decide +kernel)
      (by decide +kernel),
   Tests.issued Tests.ins (Tests.block Tests.group) Tests.group (Tests.running Tests.group) (by decide +kernel)
      (by decide +kernel)⟩


theorem witness_MemoryInstructionsRequest :
    Tests.Issued (fun w => (fun w => w.addressRegs) w ++ (fun w => widthRegs w.d (w.width.getD 4)) w)
      (fun w s b g => w.width = some 4 ∧ w.loadGood 4 = true ∧ s.mayRequest w b g 4 true false loadLane) ∧
    Tests.Issued (fun w => (fun w => w.addressRegs) w ++ (fun w => widthRegs w.d (w.width.getD 4)) w)
      (fun w s b g => w.width = some 4 ∧ w.loadGood 4 = true ∧ (w.vol = true ∨ w.seg = 2) ∧
        s.mayRequest w b g 4 true false loadLane) ∧
    Tests.Issued (fun w => (fun w => w.addressRegs) w ++ (fun w => widthRegs w.d (w.width.getD 4)) w)
      (fun w s b g => w.width = some 4 ∧ w.loadGood 4 = true ∧ w.vol = false ∧ w.seg ≠ 2 ∧
        (s.mapThreads w b g 4 true false).faults = [] ∧
        ((s.mapThreads w b g 4 true false).s.constReads w b g 4 (s.mapThreads w b g 4 true false).places).faults = []) ∧
    Tests.Issued (fun w => (fun w => w.addressRegs ++ widthRegs w.c (w.width.getD 4)) w ++ (fun _ => []) w)
      (fun w s b g => w.width = some 4 ∧ w.stGood 4 = true ∧ s.mayRequest w b g 4 false true (w.storeLane g 4) ∧
        narrowStore (s.mapThreads w b g 4 false true).places 4 = false) :=
  ⟨Tests.issued Tests.ins (Tests.block Tests.group) Tests.group (Tests.running Tests.group) (by decide +kernel)
      (⟨by decide +kernel, by decide +kernel, List.isEmpty_iff.1 (by decide +kernel), by decide +kernel, fun h => absurd (congrArg List.isEmpty h) (by decide +kernel), by decide +kernel⟩),
   Tests.issued { Tests.ins with imm := 0x8000 } (Tests.block Tests.group) Tests.group (Tests.running Tests.group) (by decide +kernel)
      (⟨by decide +kernel, by decide +kernel, Or.inl (by decide +kernel), List.isEmpty_iff.1 (by decide +kernel), by decide +kernel, fun h => absurd (congrArg List.isEmpty h) (by decide +kernel), by decide +kernel⟩),
   Tests.issued Tests.ins (Tests.block Tests.group) Tests.group (Tests.running Tests.group) (by decide +kernel)
      (⟨by decide +kernel, by decide +kernel, by decide +kernel, by decide +kernel, List.isEmpty_iff.1 (by decide +kernel), List.isEmpty_iff.1 (by decide +kernel)⟩),
   Tests.issued Tests.ins (Tests.block { Tests.group with regs := [(0, (List.range 64).map fun t => BitVec.ofNat 32 (4 * t))] }) { Tests.group with regs := [(0, (List.range 64).map fun t => BitVec.ofNat 32 (4 * t))] } (Tests.running { Tests.group with regs := [(0, (List.range 64).map fun t => BitVec.ofNat 32 (4 * t))] }) (by decide +kernel)
      (⟨by decide +kernel, by decide +kernel, ⟨List.isEmpty_iff.1 (by decide +kernel), by decide +kernel, fun h => absurd (congrArg List.isEmpty h) (by decide +kernel), by decide +kernel⟩, by decide +kernel⟩)⟩


theorem witness_AtomicInstructionsRequest :
    Tests.Issued (fun w => (fun w => w.atomicSources AtomicOp.cas) w ++ (fun w => w.atomicDests false) w)
      (fun w s b g => w.width = some 4 ∧ w.atomicGood AtomicOp.cas false = true ∧ s.mayRequest w b g 4 true true (w.atomicLane g AtomicOp.cas 4)) :=
  Tests.issued Tests.ins (Tests.block Tests.group) Tests.group (Tests.running Tests.group) (by decide +kernel)
      (⟨by decide +kernel, by decide +kernel, List.isEmpty_iff.1 (by decide +kernel), by decide +kernel, fun h => absurd (congrArg List.isEmpty h) (by decide +kernel), by decide +kernel⟩)


theorem witness_MatrixInstructionsComplete :
    Tests.Issued (fun w => (fun w => [w.a]) w ++ (fun _ => []) w)
      (fun w _ _ g => g.exec w ≠ 0 ∧ w.d = 0 ∧ w.b = 0 ∧ w.c = 0 ∧ w.onlyBits [10] = true ∧ g.uniform w w.a < 2 ^ 20) ∧
    Tests.Issued (fun w => (fun w => w.stepSources false) w ++ (fun _ => []) w)
      (fun w s b g => g.exec w ≠ 0 ∧ w.stepGood false = true ∧ b.stepFaults w g false = [] ∧
        s.storeHeld w.core (g.uniform w w.c) (panelBytes w.bfmt false) = false) ∧
    Tests.Issued (fun w => (fun _ => []) w ++ (fun w => widthRegs w.d 16) w)
      (fun w _ _ g => g.exec w ≠ 0 ∧ w.readGood = true ∧ (g.diverged w = true → w.relax = true)) ∧
    Tests.Issued (fun w => (fun w => [w.a, w.b, w.c]) w ++ (fun _ => []) w)
      (fun w s b g => g.exec w ≠ 0 ∧ w.mstoreGood = true ∧ b.mstoreFaults w g = [] ∧ s.mstoreHeld w g = false) ∧
    Tests.Issued (fun w => (fun w => [w.a]) w ++ (fun _ => []) w)
      (fun w s b g => g.exec w ≠ 0 ∧ w.d = 0 ∧ w.b = 0 ∧ w.c = 0 ∧ w.onlyBits [10] = true ∧
      g.uniform w w.a % 128 = 0 ∧ g.uniform w w.a + recordSize ≤ coreStoreSize ∧ (b.partialAt w g w.a).broken = false ∧
      s.storeHeld w.core (g.uniform w w.a) recordSize = false) ∧
    Tests.Issued (fun w => (fun w => [w.a, w.b, w.c]) w ++ (fun _ => []) w)
      (fun w s b g => g.exec w ≠ 0 ∧ w.d = 0 ∧ w.onlyBits [] = true ∧ b.mredFaults w g = [] ∧
      s.storeHeld w.core (g.uniform w w.a) recordSize = false ∧ s.storeHeld w.core (g.uniform w w.b) recordSize = false ∧
      s.storeHeld w.core (g.uniform w w.c) recordSize = false) ∧
    Tests.Issued (fun w => (fun w => [w.a, w.b]) w ++ (fun _ => []) w)
      (fun w s b g => g.exec w ≠ 0 ∧ w.quantGood = true ∧
      panelFaults (g.first w) (g.uniform w w.a) 16384 128 = [] ∧
      panelFaults (g.first w) (g.uniform w w.b) (b.quantBytes w g).length 128 = [] ∧
      s.storeHeld w.core (g.uniform w w.a) 16384 = false ∧ s.storeHeld w.core (g.uniform w w.b) (b.quantBytes w g).length = false) :=
  ⟨Tests.issued Tests.ins (Tests.block Tests.group) Tests.group (Tests.running Tests.group) (by decide +kernel)
      (by decide +kernel),
   Tests.issued { Tests.ins with imm := 0x184 } (Tests.block Tests.group) Tests.group (Tests.running Tests.group) (by decide +kernel)
      (by decide +kernel),
   Tests.issued Tests.ins (Tests.block Tests.group) Tests.group (Tests.running Tests.group) (by decide +kernel)
      (⟨by decide +kernel, by decide +kernel, fun h => absurd h (by decide +kernel)⟩),
   Tests.issued { Tests.ins with imm := 1 } (Tests.block Tests.group) Tests.group (Tests.running Tests.group) (by decide +kernel)
      (⟨by decide +kernel, by decide +kernel, List.isEmpty_iff.1 (by decide +kernel), by decide +kernel⟩),
   Tests.issued Tests.ins ({ Tests.block ({ Tests.group with regs := [(1, List.replicate 64 0x4080), (2, List.replicate 64 0x8100)] }) with cstore := (memWrite zeroByte (memWrite zeroByte [] 16388 [1]) 32896 [1, 0, 0, 0, 1]) }) ({ Tests.group with regs := [(1, List.replicate 64 0x4080), (2, List.replicate 64 0x8100)] }) (Tests.runs { Tests.block ({ Tests.group with regs := [(1, List.replicate 64 0x4080), (2, List.replicate 64 0x8100)] }) with cstore := (memWrite zeroByte (memWrite zeroByte [] 16388 [1]) 32896 [1, 0, 0, 0, 1]) }) (by decide +kernel)
      (⟨by decide +kernel, by decide +kernel, by decide +kernel, by decide +kernel, by decide +kernel, by decide +kernel, by decide +kernel, by decide +kernel, by decide +kernel⟩),
   Tests.issued { Tests.ins with src1 := 1, src2 := 2 } ({ Tests.block ({ Tests.group with regs := [(1, List.replicate 64 0x4080), (2, List.replicate 64 0x8100)] }) with cstore := (memWrite zeroByte (memWrite zeroByte [] 16388 [1]) 32896 [1, 0, 0, 0, 1]) }) ({ Tests.group with regs := [(1, List.replicate 64 0x4080), (2, List.replicate 64 0x8100)] }) (Tests.runs { Tests.block ({ Tests.group with regs := [(1, List.replicate 64 0x4080), (2, List.replicate 64 0x8100)] }) with cstore := (memWrite zeroByte (memWrite zeroByte [] 16388 [1]) 32896 [1, 0, 0, 0, 1]) }) (by decide +kernel)
      (⟨by decide +kernel, by decide +kernel, by decide +kernel, List.isEmpty_iff.1 (by decide +kernel), by decide +kernel, by decide +kernel, by decide +kernel⟩),
   Tests.issued { Tests.ins with imm := 4, src1 := 1 } (Tests.block ({ Tests.group with regs := [(1, List.replicate 64 0x4080), (2, List.replicate 64 0x8100)] })) ({ Tests.group with regs := [(1, List.replicate 64 0x4080), (2, List.replicate 64 0x8100)] }) (Tests.running ({ Tests.group with regs := [(1, List.replicate 64 0x4080), (2, List.replicate 64 0x8100)] })) (by decide +kernel)
      (⟨by decide +kernel, by decide +kernel, List.isEmpty_iff.1 (by decide +kernel), List.isEmpty_iff.1 (by decide +kernel), by decide +kernel, by decide +kernel⟩)⟩


theorem witness_TileInstructionsRequest :
    Tests.Issued (fun w => (fun w => w.tileRegs) w ++ (fun w => pairRegs w.d) w)
      (fun w s b g => g.exec w ≠ 0 ∧ w.tileGood [0, 1, 2, 3, 4, 8, 16, 17] = true ∧ evenReg w.d = true ∧
        (s.tileAccess w b g false).faults = [] ∧ (s.tileAccess w b g false).place = some (.tier1 0) ∧ s.tilesInFlight w.core true < 8 ∧
        s.storeHeld w.core (s.tileAccess w b g false).cstore 4096 = false) ∧
    Tests.Issued (fun w => (fun w => w.tileRegs) w ++ (fun _ => []) w)
      (fun w s b g => g.exec w ≠ 0 ∧ w.tileGood [0, 1, 2, 3, 4, 16, 17] = true ∧ w.d = 0 ∧
        (s.tileAccess w b g true).faults = [] ∧ (s.tileAccess w b g true).place = some (.tier1 0) ∧ s.tilesInFlight w.core false < 8 ∧
        s.storeHeld w.core (s.tileAccess w b g true).cstore 4096 = false) :=
  ⟨Tests.issued Tests.ins (Tests.block Tests.group) Tests.group (Tests.running Tests.group) (by decide +kernel)
      (⟨by decide +kernel, by decide +kernel, by decide +kernel, List.isEmpty_iff.1 (by decide +kernel), by decide +kernel, by decide +kernel, by decide +kernel⟩),
   Tests.issued Tests.ins (Tests.block Tests.group) Tests.group (Tests.running Tests.group) (by decide +kernel)
      (⟨by decide +kernel, by decide +kernel, by decide +kernel, List.isEmpty_iff.1 (by decide +kernel), by decide +kernel, by decide +kernel, by decide +kernel⟩)⟩


theorem witness_UndefinedEncodingsFault :
    Tests.Issued (fun w => w.withSrc1 [w.a] [] ++ [])
      (fun w _ _ _ => 10 ≤ 10 ∨ 7 ≤ w.d) ∧
    Tests.Issued (fun w => [w.a, w.b] ++ [])
      (fun w _ _ _ => 8 ≤ 0 ∨ 7 ≤ w.d ∨ 12 ≤ w.imm.toNat) ∧
    Tests.Issued (fun w => [w.a, w.b] ++ [w.d])
      (fun w _ _ _ => 12 ≤ w.imm.toNat) ∧
    Tests.Issued (fun w => [w.a] ++ [w.d])
      (fun w _ _ _ => w.b ≠ 0 ∨ w.c ≠ 0 ∨ w.imm ≠ 0) ∧
    Tests.Issued (fun w => w.withSrc1 [] [] ++ [w.d])
      (fun w _ _ _ => w.c ≠ 0) ∧
    Tests.Issued (fun w => [] ++ [w.d])
      (fun w _ _ _ => 24 ≤ w.imm.toNat % 256 ∨ (6 ≤ w.imm.toNat % 256 ∧ w.imm.toNat % 256 < 16)) ∧
    Tests.Issued (fun _ => [] ++ [])
      (fun w _ _ _ => 16 ≤ w.imm.toNat ∨ w.kind = 0) ∧
    Tests.Issued (fun _ => [] ++ [])
      (fun w _ _ _ => ¬w.noFields) ∧
    Tests.Issued (fun _ => [] ++ [])
      (fun w _ _ _ => w.d ≠ 0 ∨ w.a ≠ 0 ∨ w.join = 0) ∧
    Tests.Issued (fun _ => [] ++ [])
      (fun w _ _ g => w.d = 0 ∧ w.a = 0 ∧ w.join ≠ 0 ∧ g.falls w ≠ 0 ∧ g.taken w ≠ 0 ∧ 31 ≤ g.stack.length) ∧
    Tests.Issued (fun _ => [] ++ [])
      (fun w _ _ g => w.noFields ∧ 32 ≤ g.stack.length) ∧
    Tests.Issued (fun w => w.addressRegs ++ widthRegs w.d (w.width.getD 4))
      (fun w _ _ _ => w.width = none) ∧
    Tests.Issued (fun w => [w.a] ++ [])
      (fun w _ _ g => g.exec w ≠ 0 ∧ 2 ^ 20 ≤ g.uniform w w.a) :=
  ⟨Tests.issued Tests.ins (Tests.block Tests.group) Tests.group (Tests.running Tests.group) (by decide +kernel)
      (by decide +kernel),
   Tests.issued { Tests.ins with dst := 7 } (Tests.block Tests.group) Tests.group (Tests.running Tests.group) (by decide +kernel)
      (by decide +kernel),
   Tests.issued { Tests.ins with imm := 12 } (Tests.block Tests.group) Tests.group (Tests.running Tests.group) (by decide +kernel)
      (by decide +kernel),
   Tests.issued { Tests.ins with src1 := 1 } (Tests.block Tests.group) Tests.group (Tests.running Tests.group) (by decide +kernel)
      (by decide +kernel),
   Tests.issued { Tests.ins with src2 := 1 } (Tests.block Tests.group) Tests.group (Tests.running Tests.group) (by decide +kernel)
      (by decide +kernel),
   Tests.issued { Tests.ins with imm := 24 } (Tests.block Tests.group) Tests.group (Tests.running Tests.group) (by decide +kernel)
      (by decide +kernel),
   Tests.issued { Tests.ins with imm := 16 } (Tests.block Tests.group) Tests.group (Tests.running Tests.group) (by decide +kernel)
      (by decide +kernel),
   Tests.issued { Tests.ins with dst := 1 } (Tests.block Tests.group) Tests.group (Tests.running Tests.group) (by decide +kernel)
      (by dsimp only [Ins.noFields]; decide +kernel),
   Tests.issued Tests.ins (Tests.block Tests.group) Tests.group (Tests.running Tests.group) (by decide +kernel)
      (by decide +kernel),
   Tests.issued { Tests.ins with imm := 5, src1 := 1, pred := 0 } (Tests.block { Tests.group with preds := [1, 0, 0, 0, 0, 0, 0], stack := List.replicate 31 ⟨.join, 800, 1⟩ }) { Tests.group with preds := [1, 0, 0, 0, 0, 0, 0], stack := List.replicate 31 ⟨.join, 800, 1⟩ } (Tests.running { Tests.group with preds := [1, 0, 0, 0, 0, 0, 0], stack := List.replicate 31 ⟨.join, 800, 1⟩ }) (by decide +kernel)
      (by decide +kernel),
   Tests.issued Tests.ins (Tests.block { Tests.group with stack := List.replicate 32 ⟨.join, 800, 1⟩ }) { Tests.group with stack := List.replicate 32 ⟨.join, 800, 1⟩ } (Tests.running { Tests.group with stack := List.replicate 32 ⟨.join, 800, 1⟩ }) (by decide +kernel)
      (by dsimp only [Ins.noFields]; decide +kernel),
   Tests.issued { Tests.ins with imm := 0xC0000 } (Tests.block Tests.group) Tests.group (Tests.running Tests.group) (by decide +kernel)
      (by decide +kernel),
   Tests.issued Tests.ins (Tests.block { Tests.group with regs := [(0, List.replicate 64 0x100000)] }) { Tests.group with regs := [(0, List.replicate 64 0x100000)] } (Tests.running { Tests.group with regs := [(0, List.replicate 64 0x100000)] }) (by decide +kernel)
      (by decide +kernel)⟩


/-! ### Values that the manual states -/

/-- 06: the check value of the tile code over the ASCII string "123456789". -/
theorem test_crc_check_value : crc32c [0x31, 0x32, 0x33, 0x34, 0x35, 0x36, 0x37, 0x38, 0x39] = 0xE3069283 := by decide +kernel
/-- 07 R165: granules 0, 5, 1,944 and 2,047. -/
theorem test_granule_places : granulePlace 0 = (0, 2) ∧ granulePlace 5 = (5, 4) ∧ granulePlace 1944 = (0, 38) ∧
    granulePlace 2047 = (52, 39) := by decide +kernel
/-- 05 R132: the quiet NaN that binary32 operations answer. -/
theorem test_add_of_opposite_infinities : fpAdd binary32 .nearestEven 0x7F800000 0xFF800000 = (0x7FC00000, { invalid := true }) := by
  decide +kernel

/-! ### States that meet the hypotheses of the statements about registers and predicates -/

theorem witness_IntegerAndPredicateInstructionsWrite :
    Tests.Issued (fun w => w.withSrc1 [w.a] [] ++ [w.d]) (fun _ _ _ _ => True) ∧
    Tests.Issued (fun w => w.withSrc1 [w.a] [w.c] ++ [w.d]) (fun _ _ _ _ => True) ∧
    Tests.Issued (fun w => [w.a] ++ [w.d]) (fun w _ _ _ => w.d = 127) ∧
    Tests.Issued (fun w => w.withSrc1 [w.a] [] ++ []) (fun w _ _ g => w.d < 7 ∧ g.preds.length = 7 ∧ w.d = 6) ∧
    Tests.Issued (fun w => [w.a, w.b] ++ []) (fun w _ _ g => w.d < 7 ∧ g.preds.length = 7 ∧ w.fp = some (bfloat16, .down)) ∧
    Tests.Issued (fun w => w.withSrc1 [] [] ++ []) (fun w _ _ g => w.d < 7 ∧ g.preds.length = 7 ∧ w.c = 0) :=
  ⟨Tests.issued Tests.ins (Tests.block Tests.group) Tests.group (Tests.running Tests.group) (by decide +kernel) trivial,
   Tests.issued Tests.ins (Tests.block Tests.group) Tests.group (Tests.running Tests.group) (by decide +kernel) trivial,
   Tests.issued { Tests.ins with dst := 127 } (Tests.block Tests.group) Tests.group (Tests.running Tests.group) (by decide +kernel)
     (by decide +kernel),
   Tests.issued { Tests.ins with dst := 6 } (Tests.block Tests.group) Tests.group (Tests.running Tests.group) (by decide +kernel)
     (by decide +kernel),
   Tests.issued { Tests.ins with imm := 11 } (Tests.block Tests.group) Tests.group (Tests.running Tests.group) (by decide +kernel)
     (by decide +kernel),
   Tests.issued Tests.ins (Tests.block Tests.group) Tests.group (Tests.running Tests.group) (by decide +kernel) (by decide +kernel)⟩

theorem witness_FloatInstructionsWrite :
    Tests.Issued (fun w => [w.a, w.b] ++ [w.d]) (fun w _ _ _ => w.fp = some (binary32, .nearestEven)) ∧
    Tests.Issued (fun w => [w.a, w.b, w.c] ++ [w.d]) (fun w _ _ _ => w.fp = some (bfloat16, .down)) :=
  ⟨Tests.issued Tests.ins (Tests.block Tests.group) Tests.group (Tests.running Tests.group) (by decide +kernel) (by decide +kernel),
   Tests.issued { Tests.ins with imm := 11 } (Tests.block Tests.group) Tests.group (Tests.running Tests.group) (by decide +kernel)
     (by decide +kernel)⟩

theorem witness_FunctionUnitInstructionsWrite :
    Tests.Issued (fun w => [w.a] ++ [w.d]) (fun w _ _ _ => w.b = 0 ∧ w.c = 0 ∧ w.imm = 0) :=
  Tests.issued Tests.ins (Tests.block Tests.group) Tests.group (Tests.running Tests.group) (by decide +kernel) (by decide +kernel)

theorem witness_MoveInstructionsWrite :
    Tests.Issued (fun w => w.withSrc1 [] [] ++ [w.d]) (fun w _ _ _ => w.c = 0) ∧
    Tests.Issued (fun w => [] ++ [w.d]) (fun w _ _ _ => w.c = 0 ∧ w.imm.toNat % 256 = 23) ∧
    Tests.Issued (fun w => w.withSrc1 [w.a] [] ++ [w.d]) (fun w _ _ _ => w.c = 0) ∧
    Tests.Issued (fun w => [w.a] ++ [w.d]) (fun w _ _ _ => w.c = 0 ∧ w.imm.toNat % 16 = 1 ∧ w.imm.toNat / 16 % 16 = 7) :=
  ⟨Tests.issued Tests.ins (Tests.block Tests.group) Tests.group (Tests.running Tests.group) (by decide +kernel) (by decide +kernel),
   Tests.issued { Tests.ins with imm := 23 } (Tests.block Tests.group) Tests.group (Tests.running Tests.group) (by decide +kernel)
     (by decide +kernel),
   Tests.issued Tests.ins (Tests.block Tests.group) Tests.group (Tests.running Tests.group) (by decide +kernel) (by decide +kernel),
   Tests.issued { Tests.ins with imm := 0x71 } (Tests.block Tests.group) Tests.group (Tests.running Tests.group) (by decide +kernel)
     (by decide +kernel)⟩

/-! ### States that meet the hypotheses of the statements about every command -/

theorem witness_StepRunsTheFrontCommand :
    ({ State.reset with pending := [.telemetryRewrite, .loadReady] } : State).pending = .telemetryRewrite :: [.loadReady] := rfl

theorem witness_StepWithoutACommandLetsTimePass : State.reset.pending = [] := rfl

theorem witness_CommandsRunInOrder : ∃ t, exec .telemetryRewrite State.reset = .next t ∧
    step { State.reset with pending := [.telemetryRewrite, .loadReady] } = .next { t with pending := [.loadReady] } := ⟨_, rfl, rfl⟩

theorem witness_OnlyMissingUnitsStop : ∃ f, exec (.taskRetire 1728) State.reset = .fault f := ⟨_, rfl⟩

theorem witness_WellFormedCommandsNeverStop : queueWellFormed { State.reset with pending := [.taskRetire 1727] } = true := by
  decide +kernel

theorem witness_PipelineWordsRoundTrip : ∃ i, opcodeWord (.iadd Tests.ins) = some (0, 0, i) ∧ wellFormed (.iadd Tests.ins) = true ∧
    ∀ e j, Instr.iadd Tests.ins = .ld e j → e = 0 := ⟨Tests.ins, rfl, by decide +kernel, nofun⟩

theorem witness_PipelineWordsHaveOneMeaning : ∃ w, pipelineInstr 0 0 w = some (.iadd Tests.ins) :=
  ⟨_, (by decide +kernel : pipelineInstr 0 0 ((pipelineWord (.iadd Tests.ins)).getD 0) = _)⟩

/-- A virtual function 1 whose queue 5 has a packet at HEAD. -/
def Tests.foreign : State :=
  { Tests.scratch with
    queues := tset Tests.scratch.queues 5 { Queue.one with tail := 1, management := false, ringBase := 0x10000, function := 1 }
    functions := [(1, { VFunction.initial with mode := .enabled })]
    crings := [(32, { CRing.unset with base := 0x20000 })] }

theorem witness_PacketsAreRefusedByOpcode :
    Tests.scratch.reads (.undefinedOpcode 0x0FFF) 0 (Tests.pack .deviceNop []) = true ∧
    Tests.foreign.reads .dieIntercalate 5 (Tests.pack .dieIntercalate []) = true ∧ permitted .dieIntercalate (Tests.foreign.queue 5).function = false := by
  decide +kernel

/-- The same packet with FLAGS bit 7 set, which is reserved. -/
def Tests.flagged : Packet := { Tests.pack .deviceNop [] with flags := 0x80 }

/-- The module after the loss of the device Context. -/
def Tests.afterLoss : State := { Tests.scratch with contexts := [(65535, { Context.device with mode := .lost, lossStatus := 1 })] }

theorem witness_PacketsAreRefusedAfterTheirParameters :
    (Tests.scratch.reads .deviceNop 0 Tests.flagged = true ∧ permitted .deviceNop (Tests.scratch.queue 0).function = true ∧
      malformed (Tests.scratch.atHead .deviceNop 0 Tests.flagged) = some 2 ∧
      ∀ st d r, effectOf .deviceNop (Tests.scratch.callOf .deviceNop 0 Tests.flagged) (Tests.scratch.onRead .deviceNop 0 Tests.flagged) ≠
        .refuse st d r) ∧
    (Tests.afterLoss.reads .deviceNop 0 (Tests.pack .deviceNop []) = true ∧
      permitted .deviceNop (Tests.afterLoss.queue 0).function = true ∧
      malformed (Tests.afterLoss.atHead .deviceNop 0 (Tests.pack .deviceNop [])) = none ∧
      (Tests.afterLoss.onRead .deviceNop 0 (Tests.pack .deviceNop [])).lostContext (Tests.afterLoss.queue 0).context = true ∧
      (Tests.afterLoss.onRead .deviceNop 0 (Tests.pack .deviceNop [])).lossExempt
        (Tests.afterLoss.atHead .deviceNop 0 (Tests.pack .deviceNop [])) = false ∧
      ∀ st d r, effectOf .deviceNop (Tests.afterLoss.callOf .deviceNop 0 (Tests.pack .deviceNop []))
        (Tests.afterLoss.onRead .deviceNop 0 (Tests.pack .deviceNop [])) ≠ .refuse st d r) :=
  ⟨⟨by decide +kernel, by decide +kernel, by decide +kernel, by intro st d r h; cases h⟩,
   ⟨by decide +kernel, by decide +kernel, by decide +kernel, by decide +kernel, by decide +kernel, by intro st d r h; cases h⟩⟩

theorem witness_LowestFreeQueueIsTheLowest : Tests.ready.lowestFreeQueue 0 = some 2 := by decide +kernel

/-! ### States that meet the hypotheses of the statements about memory and tasks -/

theorem witness_HigherThreadsBytesLand : Memory.wf zeroByte (Tests.block Tests.group).cstore = true ∧
    (∀ t : Nat, ([BitVec.ofNat 8 t] : List Byte).length = 1) ∧ (BitVec.allOnes 64 : U64).getLsbD 63 = true := by
  exact ⟨by decide +kernel, fun _ => rfl, by decide +kernel⟩

/-- The module with a list of one task of two groups that waits for a core. -/
def Tests.listed : State :=
  ({ Tests.scratch with kits := [(3, Tests.admitted)], nextId := 1 } : State).launch 3 4 0x8000
    [TaskRecord.ofBytes (zeros 4 ++ [2] ++ zeros 23 ++ [255, 255, 255, 255] ++ zeros 32)] (.almanac 0) [] 0 []

theorem witness_TasksStartClean :
    (match Tests.listed.list 1 with | some l => (l.tasks[0]?).map (fun t => t.record.groups) | none => none) = some 2 := by
  decide +kernel

/-- A dead tile at 4000h of tier 1. -/
def Tests.dead : State := { Tests.scratch with mem := { Tests.scratch.mem with deadBits := [4] } }

theorem witness_DeadTilesReadAsZeros : (0 : Nat) ≠ 1 ∧ region 0x4000 = .tier1 ∧ 4 = Tests.dead.spreadMap 0x4000 / 4096 ∧
    Tests.dead.mem.deadBits.contains 4 = true ∧
    (Tests.dead.partition (Tests.dead.granule (0x4000 / 2 ^ 23)).partition).deadStrict = false := by decide +kernel

/-! ### States that meet the hypotheses of the statements about events -/

/-- A decode step of Sequence 8. -/
def Tests.stepDesc : StepDesc :=
  { seq := 8, kind := 1, produces := true, sparse := true, tokens := 1, position := 5000, attend := 4096, input := 0
    summaryFirst := 0, summaryCount := 0, select := 0, seed := 0, slot := 0, pages := [], selected := false, selection := []
    lastOfAppend := false, append := 0, epoch := 0, launched := none }

/-- An Almanac entry of an action. -/
def Tests.entry (action targetKind target arg0 arg1 : Nat) : AlmanacEntry :=
  { cycleBeat := 0, action, valid := true, oneShot := false, offset := 100, targetKind, target, stride := 0, span := 0, arg0
    context := 65535, partition := 0, arg1 }

/-- A state whose next due action is that of an entry. -/
def Tests.due (e : AlmanacEntry) (s : State) : State :=
  { s with almanac := { s.almanac with mode := .armed, entries := [(0, e)], due := [⟨0, 100⟩] } }

/-- A state whose beat is changed. -/
def Tests.beat (f : BeatState → BeatState) (s : State) : State := { s with beat := f s.beat }

/-- A launched list 1 of Kit 3 with one task of one group. -/
def Tests.listed1 (record : List Byte) : State :=
  ({ Tests.scratch with kits := [(3, Tests.admitted)], nextId := 1 } : State).launch 3 4 0x8000 [TaskRecord.ofBytes record] (.almanac 0)
    [] 0 []

/-- A state whose core 0 is changed. -/
def Tests.core (f : Core → Core) (s : State) : State := { s with cores := [(0, f (s.core 0))] }

/-- The list and the task of `Tests.listed1` for a task of one group, UNIT ANY and no dependency. -/
def Tests.task1 : Task := Task.ofRecord (TaskRecord.ofBytes (zeros 4 ++ [1] ++ zeros 23 ++ [255, 255, 255, 255] ++ zeros 32))

def Tests.list1 : WorkList :=
  { id := 1, kit := 3, context := 4, address := 0x8000, tasks := [Tests.task1], launcher := .almanac 0, beat := 0, launchedAt := 0
    steps := [], table := 0, commands := [], finishedAtGuard := false, finished := false, cancelled := false, repeat_ := false
    attempts := 0 }

/-- Core 0 runs a task that may be switched out, and a task of higher priority waits. -/
def Tests.contended : State :=
  ((({ Tests.scratch with kits := [(3, Tests.admitted)], nextId := 1 } : State).launch 3 4 0x8000
    [TaskRecord.ofBytes (zeros 4 ++ [1, 0, 2] ++ zeros 9 ++ leBytes 4 (1023 * 2 ^ 17) ++ zeros 8 ++ [255, 255, 255, 255] ++ zeros 32)]
    (.almanac 0) [] 0 []).startFresh 1 0 0).launch 3 4 0x9000
    [TaskRecord.ofBytes (zeros 4 ++ [1, 1] ++ zeros 22 ++ [255, 255, 255, 255] ++ zeros 32)] (.almanac 0) [] 0 []

/-- The request that arises there. -/
def Tests.request : Option Request13 := Tests.contended.switchRequests.find? fun r => r.ready.list == 2 && r.ready.task == 0

theorem Tests.requested : Tests.request.isSome = true := by decide +kernel

theorem Tests.no_bits {b : List Byte} (h : b.all (· == 0) = true) : setBits b = [] := by
  unfold setBits
  rw [List.filter_eq_nil_iff]
  intro i _
  have hz : b.getD (i / 8) 0 = 0 := by
    rw [List.getD_eq_getElem?_getD]
    cases e : b[i / 8]? with
    | none => rfl
    | some x => exact eq_of_beq (List.all_eq_true.1 h x (List.mem_of_getElem? e))
  rw [hz]
  simp

theorem Tests.sound_area {s : State} {t : Task} (h0 : t.record.groups = 1 ∧ t.record.saveArea = 0)
    (h1 : (s.readT1 128 2048).all (· == 0) = true) (h2 : (s.readT1 4136 16).all (· == 0) = true) (h3 : s.readT1 28 4 = [0, 0, 0, 0])
    (h4 : s.poisonedAt 0 32768 = false) : s.saveBad t = false := by
  simp only [State.saveBad, h0.1, h0.2, Nat.zero_add, h4, Tests.no_bits h1, Bool.false_or, List.any_nil, h3,
    show List.range 1 = [0] from rfl, List.any_cons, Nat.mul_zero, Nat.add_zero, show 4096 + 40 = 4136 from rfl,
    Tests.no_bits h2]
  refine List.any_eq_false.2 fun l hl => ?_
  have : ∀ l ∈ List.range 22, bit (field [0, 0, 0, 0] (if l < 11 then 0 else 2) 2) (l % 11) = false := by decide +kernel
  rw [this l hl]
  simp

/-- A state with one request. -/
def Tests.asks (r : Request) (s : State) : State := { s with mem := { s.mem with requests := [r] } }

/-- A tiled object of one tile. -/
def Tests.tiled : Object := { Tests.object with tiled := true, tiles := 1 }

/-- A carillon to stations 1 and 2. -/
def Tests.carillon : Carillon :=
  { id := 1, source := 0, targets := [1, 2], requests := [], asked := [], answers := [], delivered := [], laggards := [], nackAt := 0
    attempts := 0 }

def Tests.rings (c : Carillon) (s : State) : State := { s with fabric := { s.fabric with carillons := [c] } }

/-- A link direction in a state. -/
def Tests.link (m : LinkMode) : Link := { mode := m, mapped := 0, failures := 2, frameErrors := [], replays := 0, retrains := 0, hot := 0 }

def Tests.linked (m : LinkMode) (s : State) : State := { s with fabric := { s.fabric with links := [(1, Tests.link m)] } }

/-- A Cijan Link that is up, with a window of the whole companion memory. -/
def Tests.joined (s : State) : State :=
  { s with cijan := { s.cijan with
      mode := .up, epoch := 1
      windows := [{ deviceBase := 0x800000000000, size := 2 ^ 40, hostBase := 0, partitions := 2 ^ 64 - 1, read := true, write := true
                    hint := 0, hintTarget := 0 }] } }

/-- The side bytes of a tile with a payload: its CRC, VERSION and FORMAT 0, VALID. -/
def Tests.side (payload : List Byte) : List Byte := leBytes 4 (crc32c (payload ++ [0, 1, 0, 0, 0, 0, 0, 0])) ++ zeros 5 ++ [1] ++ zeros 6

theorem Tests.side_tag (v : Nat) : (Tag.ofBytes (padTo 16 (leBytes 4 v ++ zeros 5 ++ [1] ++ zeros 6))).crc = BitVec.ofNat 32 v := by
  apply BitVec.eq_of_toNat_eq
  show (field [BitVec.ofNat 8 v, BitVec.ofNat 8 (v / 256), BitVec.ofNat 8 (v / 256 / 256), BitVec.ofNat 8 (v / 256 / 256 / 256),
    0, 0, 0, 0, 0, 1, 0, 0, 0, 0, 0, 0] 0 4) % 2 ^ 32 = v % 2 ^ 32
  simp [field, leNat, slice]
  omega

theorem Tests.side_sound (payload : List Byte) : tileSound payload (Tag.ofBytes (padTo 16 (Tests.side payload))) = true := by
  have g (a b c d : Byte) : (Tag.ofBytes [a, b, c, d, 0, 0, 0, 0, 0, 1, 0, 0, 0, 0, 0, 0]).bytes.drop 8 = [0, 1, 0, 0, 0, 0, 0, 0] := by
    simp [Tag.bytes, Tag.ofBytes, leBytes, field, slice, leNat, zeros, List.replicate]
  have k (a b c d : Byte) : bit (Tag.ofBytes [a, b, c, d, 0, 0, 0, 0, 0, 1, 0, 0, 0, 0, 0, 0]).flags 0 = true := by
    simp [Tag.ofBytes, field, slice, leNat, bit]
  have h (v : Nat) : (Tag.ofBytes (padTo 16 (leBytes 4 v ++ zeros 5 ++ [1] ++ zeros 6))).bytes.drop 8 = [0, 1, 0, 0, 0, 0, 0, 0] :=
    g (BitVec.ofNat 8 v) (BitVec.ofNat 8 (v / 256)) (BitVec.ofNat 8 (v / 256 / 256)) (BitVec.ofNat 8 (v / 256 / 256 / 256))
  unfold tileSound tileCrcOf Tests.side
  rw [h, Tests.side_tag, BEq.rfl, Bool.true_and]
  exact k (BitVec.ofNat 8 _) (BitVec.ofNat 8 (_ / 256)) (BitVec.ofNat 8 (_ / 256 / 256)) (BitVec.ofNat 8 (_ / 256 / 256 / 256))

/-- A transaction of tag 5 that has been sent for request 1. -/
def Tests.txn : Txn :=
  { tag := 5, kind := .read, granule := 0x800000000000, engine := 0, sent := true, backoff := true, retry := false, resendAt := 0
    nacks := 255, firstSend := 0, lastSend := 0, data := [], request := 1, context := 4 }

/-- The Cijan Link in a state, with engine 0 up and engine 1 down. -/
def Tests.cijan (f : CijanState → CijanState) (s : State) : State :=
  { s with cijan := f { s.cijan with
      mode := .up, epoch := 1, txns := [Tests.txn]
      engines := [⟨true, 8, 8⟩, ⟨false, 0, 0⟩, ⟨false, 0, 0⟩, ⟨false, 0, 0⟩] } }

/-- A link block without windows. -/
def Tests.linkBlock : List Byte :=
  leBytes 2 1 ++ zeros 2 ++ leBytes 4 2 ++ zeros 18 ++ leBytes 2 1024 ++ leBytes 4 1 ++ leBytes 4 1 ++ leBytes 4 1 ++ zeros 88

/-- A datagram of one packet at TAIL of queue 1 with OPCODE 9011h, which is VIGIL_WAKE. -/
def Tests.datagram (queue : Nat) : List Byte :=
  leBytes 2 1 ++ leBytes 2 1 ++ leBytes 4 queue ++ leBytes 8 0 ++ leBytes 2 0x9011 ++ zeros 62

/-- A module whose edge dies are all up with their management ports. -/
def Tests.ports (s : State) : State :=
  { s with
    boot := { s.boot with stage1 := true, lit := true }
    queues := [(1, Queue.one)]
    fail := { s.fail with edges := s.fail.edges.map fun e => (e.1, { e.2 with up := true, usable := true, mgmtUp := true }) } }

/-- A command that waits. -/
def Tests.command (w : Wait) (s : State) : State :=
  { s with commands := [{ id := 99, queue := 5, index := 0, op := .modelCommit, packet := Tests.blank, wait := w, readBeat := 0
                          readAt := 0, beforeBuild := true, result := 0, context := 4 }] }

/-- A load of no records, and one of a KV record that no pool holds. -/
def Tests.noLoad : Load := { replica := 0, records := [] }

def Tests.bigLoad : Load :=
  { replica := 0, records := [{ kind := 3, format := 0, layer := 0, stage := 0, flags := 0, bytes := 4096, work := 0, source := 0
                                arg0 := 0, arg1 := 5 }] }

/-- A Kit 3 that is loading. -/
def Tests.loading (l : Load) : Kit := { Tests.kit with mode := .loading, load := some l, partition := 5 }

/-- The leader of a peal with a round for Kit 3. -/
def Tests.rounds (r : List Round) (s : State) : State := { s with peal := { s.peal with rounds := r, leader := some 0 } }

def Tests.round (creation : Bool) : Round :=
  { kit := 3, creation, command := 99, members := [0], answers := [], slots := [], reports := [], report := 0, since := 0
    sinceBeat := 0 }

/-- Self-tests of the edge dies: the first fails, the others pass in their places, the second and the third with a usable security block. -/
def Tests.results : List EdgeResult := [⟨false, 0, true, true⟩, ⟨true, 1, true, true⟩, ⟨true, 2, true, true⟩, ⟨true, 3, true, false⟩]

/-- Self-tests that all fail. -/
def Tests.noResults : List EdgeResult := List.replicate 4 ⟨false, 0, true, true⟩

/-- An update of the stations' firmware. -/
def Tests.update (restarting : Option (Nat × Nat)) (next : Nat) : StationUpdate :=
  { command := 99, gap := 1, image := 1, next, restarting, again := [] }

/-- A member that may take a share answers, whatever admission finds. -/
theorem Tests.answers {s : State} {kit : Nat} {k : Kit} {p : PrepareBlock} (h : s.kit kit = some k) (hp : p.replace = false)
    (good : (k.mode == .created) = true) : (s.prepareShare kit p).answers = true := by
  unfold State.prepareShare
  simp only [h, hp, good, Bool.true_or, Bool.not_true, Bool.false_eq_true, if_false]
  split <;> rfl

theorem witness_BeatEventsHappen :
    (∃ (s : State),
      s.beat.running = true ∧ s.almanac.due = []) ∧
    (∃ (late : List Nat) (s : State),
      s.beat.running = true ∧ s.beat.building = false) ∧
    (∃ (s : State),
      s.beat.building = true) ∧
    (∃ (kit : Nat) (q : Nat) (k : Kit) (c : Composed) (p : Placement) (d : StepDesc) (s : State),
      s.kit kit = some k ∧ k.composed = some c ∧ k.placement = some p ∧ c.steps.find? (fun d => d.seq == q && d.sparse && !d.selected) = some d) ∧
    (∃ (s : State),
      s.beat.running = true ∧ s.beat.phase = .work) ∧
    (∃ (id : Nat) (x : Transfer) (s : State),
      s.transfer id = some x ∧ x.almanac ≠ none ∧ x.late = false ∧ x.kit = none) ∧
    (∃ (s : State),
      s.beat.lock = .holdover) ∧
    (∃ (direction : Nat) (s : State),
      direction < 6 ∧ s.beat.timingInputs = [direction] ∧ s.beat.lock = .locked ∧ 1 < s.pealSize) ∧
    (∃ (direction : Nat) (s : State),
      direction < 6 ∧ s.beat.lock ≠ .locked ∧ s.beat.offset.natAbs ≤ 8) ∧
    (∃ (m : PtpMessage) (s : State),
      s.beat.ptp.enabled = true ∧ s.beat.ptp.source = 1 ∧ m.domain = s.beat.ptp.domain ∧ m.kind = 0 ∧ m.twoStep = true) :=
  ⟨⟨Tests.ready, by decide +kernel, List.isEmpty_iff.1 (by decide +kernel)⟩,
   ⟨[], Tests.ready, by decide +kernel, by decide +kernel⟩,
   ⟨(Tests.beat (fun b => { b with building := true }) Tests.ready), by decide +kernel⟩,
   ⟨3, 8, { Tests.admitted with composed := some ({ beat := 1, table := 1, steps := [Tests.stepDesc], complete := false, late := false, commands := [] } : Composed) }, ({ beat := 1, table := 1, steps := [Tests.stepDesc], complete := false, late := false, commands := [] } : Composed), Tests.placement, Tests.stepDesc, (Tests.withKit { Tests.admitted with composed := some ({ beat := 1, table := 1, steps := [Tests.stepDesc], complete := false, late := false, commands := [] } : Composed) }), by decide +kernel, by decide +kernel, by decide +kernel, by decide +kernel⟩,
   ⟨(Tests.beat (fun b => { b with phase := .work }) Tests.ready), by decide +kernel, by decide +kernel⟩,
   ⟨0, ({ Tests.transfer with almanac := some 0, kit := none } : Transfer), ({ Tests.scratch with mem := { (Tests.scratch).mem with transfers := [({ Tests.transfer with almanac := some 0, kit := none } : Transfer)] } } : State), by decide +kernel, by decide +kernel, by decide +kernel, by decide +kernel⟩,
   ⟨(Tests.beat (fun b => { b with lock := .holdover }) Tests.ready), by decide +kernel⟩,
   ⟨5, (Tests.pair (Tests.beat (fun b => { b with timingInputs := [5], lock := .locked }) Tests.ready)), by decide +kernel, by decide +kernel, by decide +kernel, by decide +kernel⟩,
   ⟨5, (Tests.beat (fun b => { b with offset := -8, lock := .holdover }) Tests.ready), by decide +kernel, by decide +kernel, by decide +kernel⟩,
   ⟨{ kind := 0, domain := 0, sequence := 7, twoStep := true, received := 0, origin := 0, correction := 0 }, (Tests.beat (fun b => { b with ptp := { b.ptp with enabled := true, source := 1, domain := 0 } }) Tests.ready), by decide +kernel, by decide +kernel, by decide +kernel, by decide +kernel, by decide +kernel⟩⟩


theorem witness_AlmanacActionsHappen :
    (∃ (i : Nat) (u : Turn) (k : Kit) (s : State),
      s.turn i = some u ∧ u.entry.action = 1 ∧ u.s.actionOff u.entry = false ∧ u.late = false ∧ u.s.targetKit u.entry = some k ∧ k.mode = .admitted ∧ k.heldFrom = none ∧ u.s.lists.any (fun l => l.kit == k.id && l.repeat_ && l.cancelled) = false ∧ u.s.repeating k.id = false ∧ u.s.frozenKit k.id = false ∧ u.s.listGood k u.entry.arg0 (u.entry.arg1 % 65536) [] = true) ∧
    (∃ (i : Nat) (st : Nat) (r : List Byte) (u : Turn) (d : Nat) (s : State),
      s.turn i = some u ∧ u.entry.action = 2 ∧ u.s.actionOff u.entry = false ∧ u.late = false ∧ u.s.descriptorPlace u.entry.partition u.entry.arg0 64 64 = true ∧ isCoherent u.entry.arg0 = false ∧ r = u.s.sysRead u.entry.arg0 64 ∧ u.s.dmaCheck ((u.s.context u.entry.context).function == 0) u.entry.partition r = some (st, d)) ∧
    (∃ (i : Nat) (u : Turn) (s : State),
      s.turn i = some u ∧ u.entry.action = 2 ∧ u.s.actionOff u.entry = false ∧ u.late = false ∧ u.s.descriptorPlace u.entry.partition u.entry.arg0 64 64 = true ∧ isCoherent u.entry.arg0 = false ∧ u.s.dmaCheck ((u.s.context u.entry.context).function == 0) u.entry.partition (u.s.sysRead u.entry.arg0 64) = none ∧ u.s.dmaDomainDown (u.s.sysRead u.entry.arg0 64) = false ∧ (∀ h o, h = (descriptor (u.s.sysRead u.entry.arg0 64)).srcHandle ∨ h = (descriptor (u.s.sysRead u.entry.arg0 64)).dstHandle → u.s.objectOf h = some o → u.s.lostContext o.2.context = false ∧ o.2.mode ≠ .retiring)) ∧
    (∃ (i : Nat) (u : Turn) (s : State),
      s.turn i = some u ∧ u.entry.action = 3 ∧ u.s.actionOff u.entry = false ∧ u.late = false ∧ u.s.ringActionFault u.entry ((u.s.context u.entry.context).function == 0) (u.s.sysRead u.entry.arg0 128) = none) ∧
    (∃ (i : Nat) (u : Turn) (s : State),
      s.turn i = some u ∧ u.entry.action = 4 ∧ u.s.actionOff u.entry = false ∧ u.late = false) ∧
    (∃ (i : Nat) (n : Nat) (u : Turn) (s : State),
      s.turn i = some u ∧ u.entry.action = 5 ∧ u.s.actionOff u.entry = false ∧ u.late = false ∧ n = tgetD u.s.almanac.samples i 0) ∧
    (∃ (i : Nat) (x : AlmanacIssue) (rest : List AlmanacIssue) (s : State),
      s.almanac.due = x :: rest ∧ x.index = i) ∧
    (∃ (position : Nat) (g : Signal) (s : State),
      s.signals[position]? = some g ∧ (g.source ≠ 0 → ∀ h ∈ s.signals.take position, h.source = g.source → h.chime ≠ g.chime)) :=
  ⟨⟨0, _, Tests.admitted, (Tests.due (Tests.entry 1 0 3 0x8000 1) (Tests.withKit Tests.admitted)), rfl, by decide +kernel, by decide +kernel, by decide +kernel, by decide +kernel, by decide +kernel, by decide +kernel, by decide +kernel, by decide +kernel, by decide +kernel, by decide +kernel⟩,
   ⟨0, 259, _, _, 4, (Tests.due (Tests.entry 2 0 3 0x4000 0) Tests.scratch), rfl, by decide +kernel, by decide +kernel, by decide +kernel, by decide +kernel, by decide +kernel, rfl, by decide +kernel⟩,
   ⟨0, _, (Tests.due (Tests.entry 2 0 3 0x4000 0) (Tests.moving 0)), rfl, by decide +kernel, by decide +kernel, by decide +kernel, by decide +kernel, by decide +kernel, by decide +kernel, by decide +kernel, by
      intro h o _ e
      rw [show ∀ h, State.objectOf _ h = none from fun h => rfl] at e
      cases e⟩,
   ⟨0, _, (Tests.due (Tests.entry 3 0 3 0x4000 0) (Tests.pair (Tests.moving 1))), rfl, by decide +kernel, by decide +kernel, by decide +kernel, by decide +kernel⟩,
   ⟨0, _, (Tests.due (Tests.entry 4 0 3 0x4000 0) Tests.scratch), rfl, by decide +kernel, by decide +kernel, by decide +kernel⟩,
   ⟨0, _, _, (Tests.due (Tests.entry 5 0 3 0x4000 0) Tests.scratch), rfl, by decide +kernel, by decide +kernel, by decide +kernel, rfl⟩,
   ⟨0, ⟨0, 100⟩, [], (Tests.due (Tests.entry 4 0 3 0x4000 0) Tests.scratch), by decide +kernel, by decide +kernel⟩,
   ⟨1, ⟨5, 1, 0, 17⟩, ({ Tests.scratch with signals := [⟨4, 1, 0, 17⟩, ⟨5, 1, 0, 17⟩] } : State), by decide +kernel, by decide +kernel⟩⟩


theorem witness_CoreEventsHappen :
    (∃ (core : Nat) (slot : Nat) (n : Nat) (k : Nat) (b : Block) (g : Group) (s : State),
      core < 1728 ∧ (s.core core).block = some b ∧ (s.core core).phase = .running ∧ (s.core core).window[slot]? = some (some n) ∧ b.groups[n]? = some g ∧ (g.finished = true ∨ g.wait ≠ .none ∨ s.inFlight core n Request.returns = true) ∧ firstReady (s.readyOutside core b) = some k) ∧
    (∃ (l : List (Nat × Nat)) (k : Nat),
      firstReady l = some k) ∧
    (∃ (list : Nat) (task : Nat) (core : Nat) (a : ReadyTask × Nat) (s : State),
      core < 1728 ∧ a ∈ s.assignments ∧ a.1.list = list ∧ a.1.task = task ∧ a.2 = core) ∧
    (∃ (core : Nat) (b : Block) (s : State),
      core < 1728 ∧ (s.core core).block = some b ∧ (s.core core).phase = .running ∧ b.groups.all (·.finished) = true ∧ s.drained core = true) ∧
    (∃ (list : Nat) (task : Nat) (core : Nat) (r : Request13) (s : State),
      core < 1728 ∧ s.switchRequests.find? (fun r => r.ready.list == list && r.ready.task == task) = some r ∧ r.victim = some core ∧ r.passed = none) ∧
    (∃ (core : Nat) (list : Nat) (task : Nat) (s : State),
      core < 1728 ∧ (s.core core).phase = .draining list task ∧ s.drained core = true) ∧
    (∃ (core : Nat) (list : Nat) (task : Nat) (b : Block) (out : Task) (l : WorkList) (s : State),
      core < 1728 ∧ (s.core core).phase = .saving list task ∧ (s.core core).block = some b ∧ s.task b.list b.task = some out ∧ s.list b.list = some l) ∧
    (∃ (core : Nat) (list : Nat) (task : Nat) (l : WorkList) (x : Task) (k : Kit) (s : State),
      core < 1728 ∧ (s.core core).phase = .restoring list task ∧ s.list list = some l ∧ s.task list task = some x ∧ s.kit l.kit = some k ∧ s.saveBad x = false) ∧
    (∃ (core : Nat) (s : State),
      core < 1728 ∧ (s.core core).phase ≠ .idle) ∧
    (∃ (kit : Nat) (k : Kit) (s : State),
      s.beat.running = true ∧ s.now = s.beat.start ∧ s.kit kit = some k ∧ k.mode = .admitted ∧ (s.lists.filter fun l => l.kit == kit && l.repeat_ && l.cancelled) ≠ [] ∧ s.frozenKit kit = false ∧ s.stationsIn kit = true) :=
  ⟨⟨0, 0, 0, 1, ({ (Tests.block Tests.group) with groups := [({ Tests.group with finished := true } : Group), Tests.group] } : Block), ({ Tests.group with finished := true } : Group), (Tests.runs ({ (Tests.block Tests.group) with groups := [({ Tests.group with finished := true } : Group), Tests.group] } : Block)), by decide +kernel, by decide +kernel, by decide +kernel, by decide +kernel, by decide +kernel, Or.inl (by decide +kernel), by decide +kernel⟩,
   ⟨[(3, 1), (2, 0)], 0, by decide +kernel⟩,
   ⟨1, 0, 0, (⟨1, 0, 3, none, 0, 0⟩, 0), (Tests.listed1 (zeros 4 ++ [1] ++ zeros 23 ++ [255, 255, 255, 255] ++ zeros 32)), by decide +kernel, by decide +kernel, by decide +kernel, by decide +kernel, by decide +kernel⟩,
   ⟨0, ({ (Tests.block Tests.group) with groups := [({ Tests.group with finished := true } : Group)] } : Block), (Tests.runs ({ (Tests.block Tests.group) with groups := [({ Tests.group with finished := true } : Group)] } : Block)), by decide +kernel, by decide +kernel, by decide +kernel, by decide +kernel, by decide +kernel⟩,
   ⟨2, 0, 0, (Tests.request.get Tests.requested), Tests.contended, by decide +kernel, (Option.some_get _).symm, by decide +kernel, by decide +kernel⟩,
   ⟨0, 2, 0, (Tests.core (fun c => { c with phase := .draining 2 0 }) (Tests.runs (Tests.block Tests.group))), by decide +kernel, by decide +kernel, by decide +kernel⟩,
   ⟨0, 2, 0, (Tests.block Tests.group), Tests.task1, Tests.list1, (Tests.core (fun c => { c with phase := .saving 2 0, block := some (Tests.block Tests.group) }) (Tests.listed1 (zeros 4 ++ [1] ++ zeros 23 ++ [255, 255, 255, 255] ++ zeros 32))), by decide +kernel, by decide +kernel, by decide +kernel, by decide +kernel, by decide +kernel⟩,
   ⟨0, 1, 0, Tests.list1, Tests.task1, Tests.admitted, (Tests.core (fun c => { c with phase := .restoring 1 0 }) (Tests.listed1 (zeros 4 ++ [1] ++ zeros 23 ++ [255, 255, 255, 255] ++ zeros 32))), by decide +kernel, by decide +kernel, by decide +kernel, by decide +kernel, by decide +kernel, Tests.sound_area (by decide +kernel) (by decide +kernel) (by decide +kernel) (by decide +kernel) (by decide +kernel)⟩,
   ⟨0, (Tests.runs (Tests.block Tests.group)), by decide +kernel, by decide +kernel⟩,
   ⟨3, Tests.admitted, ({ (Tests.listed1 (zeros 4 ++ [1] ++ zeros 23 ++ [255, 255, 255, 255] ++ zeros 32)) with lists := [({ Tests.list1 with repeat_ := true, cancelled := true } : WorkList)] } : State), by decide +kernel, by decide +kernel, by decide +kernel, by decide +kernel, fun h => absurd (congrArg List.isEmpty h) (by decide +kernel), by decide +kernel, by decide +kernel⟩⟩


theorem witness_RegisterEventsHappen :
    (∃ (f : Nat) (q : Nat) (tail : U64) (s : State),
      f < 4096 ∧ q < 1048576 ∧ s.power.vigil ≠ .vigil ∧ ((s.queue q).mode = .active ∨ (s.queue q).mode = .stopped) ∧ (s.queue q).function = f ∧ (s.queue q).management = false ∧ (f = 0 ∨ (s.function f).mode ≠ .resetting) ∧ (s.queue q).tail ≤ tail.toNat ∧ tail.toNat ≤ (s.queue q).head + 2 ^ (s.queue q).log2Size) ∧
    (∃ (f : Nat) (q : Nat) (tail : U64) (s : State),
      f < 4096 ∧ q < 1048576 ∧ s.power.vigil ≠ .vigil ∧ ((s.queue q).mode = .active ∨ (s.queue q).mode = .stopped) ∧ (s.queue q).function = f ∧ (s.queue q).management = false ∧ (f = 0 ∨ (s.function f).mode ≠ .resetting) ∧ (tail.toNat < (s.queue q).tail ∨ (s.queue q).head + 2 ^ (s.queue q).log2Size < tail.toNat)) ∧
    (∃ (f : Nat) (q : Nat) (tail : U64) (s : State),
      f < 4096 ∧ q < 1048576 ∧ s.power.vigil ≠ .vigil ∧ ((s.queue q).function ≠ f ∨ (s.queue q).management = true ∨ (s.queue q).mode = .free)) ∧
    (∃ (f : Nat) (ring : Nat) (consumed : U64) (s : State),
      f < 4096 ∧ ring < 32 ∧ s.power.vigil ≠ .vigil ∧ (s.cring f ring).base ≠ 0 ∧ (s.cring f ring).consumed ≤ consumed.toNat ∧ consumed.toNat ≤ (s.cring f ring).produced ∧ (f = 0 ∨ (s.function f).mode ≠ .resetting)) ∧
    (∃ (f : Nat) (ring : Nat) (s : State),
      f < 4096 ∧ ring < 32 ∧ (s.cring f ring).unsignalled ≠ 0 ∧ (s.cring f ring).irqCount ≠ 0) ∧
    (∃ (s : State),
      s.reading = true ∧ s.boot.loadReady = true ∧ s.boot.verified = false ∧ s.boot.claim ≠ .management ∧ s.boot.startFault = 0 ∧ s.boot.imageBytes ≤ imageLimit ∧ s.boot.imageBytes ≠ 0 ∧ s.boot.imageAddress % 4096 = 0 ∧ isCoherent s.boot.imageAddress = true ∧ s.cijan.mode = .up ∧ (s.window 0 s.boot.imageAddress s.boot.imageBytes).any (·.read) = true) ∧
    (∃ (bits : U64) (s : State),
      True) ∧
    (∃ (a : Nat) (size : Nat) (v : U64) (s : State),
      s.boot.lit = true ∧ s.power.vigil ≠ .vigil ∧ (size = 4 ∨ size = 8) ∧ a % size = 0 ∧ registerAt a = .window 2 16) :=
  ⟨⟨0, 0, 256, Tests.ready, by decide +kernel, by decide +kernel, by decide +kernel, by decide +kernel, by decide +kernel, by decide +kernel, by decide +kernel, by decide +kernel, by decide +kernel⟩,
   ⟨0, 0, 257, Tests.ready, by decide +kernel, by decide +kernel, by decide +kernel, by decide +kernel, by decide +kernel, by decide +kernel, by decide +kernel, by decide +kernel⟩,
   ⟨1, 0, 0, Tests.ready, by decide +kernel, by decide +kernel, by decide +kernel, by decide +kernel⟩,
   ⟨0, 0, 5, ({ Tests.ready with crings := [(0, ({ CRing.unset with base := 0x20000, produced := 5, unsignalled := 1, irqCount := 1 } : CRing))] } : State), by decide +kernel, by decide +kernel, by decide +kernel, by decide +kernel, by decide +kernel, by decide +kernel, by decide +kernel⟩,
   ⟨0, 0, ({ Tests.ready with crings := [(0, ({ CRing.unset with base := 0x20000, produced := 5, unsignalled := 1, irqCount := 1 } : CRing))] } : State), by decide +kernel, by decide +kernel, by decide +kernel, by decide +kernel⟩,
   ⟨(Tests.joined ({ Tests.ready with boot := { Tests.ready.boot with verified := false, imageAddress := 0x800000000000, imageBytes := 4096 } } : State)), by decide +kernel, by decide +kernel, by decide +kernel, by decide +kernel, by decide +kernel, by decide +kernel, by decide +kernel, by decide +kernel, by decide +kernel, by decide +kernel, by decide +kernel⟩,
   ⟨1, Tests.ready, trivial⟩,
   ⟨0x700000002010, 8, 1, Tests.ready, by decide +kernel, by decide +kernel, by decide +kernel, by decide +kernel, by decide +kernel⟩⟩


theorem witness_MemoryEventsHappen :
    (∃ (id : Nat) (r : Request) (s : State),
      s.onItsWay id = false ∧ s.request id = some r ∧ r.kind = .load ∧ r.lanes = [] ∧ r.error = 0) ∧
    (∃ (id : Nat) (r : Request) (s : State),
      s.request id = some r ∧ r.kind = .store ∧ r.lanes = [] ∧ r.error = 0) ∧
    (∃ (id : Nat) (r : Request) (s : State),
      s.request id = some r ∧ r.kind = .store ∧ r.lanes = [] ∧ r.error ≠ 0) ∧
    (∃ (id : Nat) (c : Nat) (a : Nat) (payload : List Byte) (tag : List Byte) (l : Lane) (rest : List Lane) (r : Request) (s : State),
      s.request id = some r ∧ r.kind = .tileStore c payload tag ∧ r.lanes = l :: rest ∧ l.place = .tier1 a ∧ s.barred r (s.tileStation r) = false) ∧
    (∃ (id : Nat) (c : Nat) (f : Nat) (a : Nat) (soft : Bool) (upsets : List Upset) (l : Lane) (rest : List Lane) (r : Request) (s : State),
      s.request id = some r ∧ r.kind = .tileLoad c soft f ∧ r.lanes = l :: rest ∧ l.place = .tier1 a ∧ s.barred r (s.tileStation r) = false ∧ s.waitsFill r l = false ∧ (s.observe upsets).mem.deadBits.contains (a / 4096) = false) ∧
    (∃ (id : Nat) (c : Nat) (f : Nat) (soft : Bool) (words : List Word) (l : Nat) (r : Request) (s : State),
      s.onItsWay id = false ∧ s.request id = some r ∧ r.kind = .tileLoad c soft f ∧ r.lanes = [] ∧ r.error = 0 ∧ r.returned = [(l, words)]) ∧
    (∃ (id : Nat) (upsets : List Upset) (e : PendingTile) (x : Object) (r : Request) (w : State × Nat) (s : State),
      id ≠ 0 ∧ s.mem.pendingTiles.find? (fun e => e.id == id) = some e ∧ tget (s.observe upsets).objects e.object = some x ∧ w = (let t := s.observe upsets
         { t with mem := { t.mem with pendingTiles := t.mem.pendingTiles.filter (·.id != id) } }).writeTile e.object x e.tile e.payload
           e.tag ∧ w.1.request id = some r ∧ w.2 = stOk) ∧
    (∃ (id : Nat) (station : Nat) (upsets : List Upset) (r : Request) (s : State),
      station < 54 ∧ s.baseOut station = false ∧ s.request id = some r ∧ r.plain = true ∧ s.barred r station = false) ∧
    (∃ (station : Nat) (object : Nat) (line : Nat) (slot : Nat × Line) (upsets : List Upset) (f : Fill) (s : State),
      station < 54 ∧ s.baseOut station = false ∧ s.mem.fills.find? (fun f => f.station == station && f.object == object && f.line == line) = some f ∧ (s.fillComplete station object line upsets).findLine object line = some slot ∧ (s.fillComplete station object line upsets).mem.fills.any (fun g => g.object == object && g.line == line) = false) ∧
    (∃ (id : Nat) (upsets : List Upset) (x : Transfer) (s : State),
      (s.observe upsets).transfer id = some x ∧ x.ring = false) ∧
    (∃ (tier : Nat) (unit : Nat) (symbols : List Nat) (s : State),
      s.scrubWaits tier unit = false ∧ s.diagnostic (scrubPlace tier unit (s.scrubNext tier unit)) = false ∧ s.isPoisoned (scrubPlace tier unit (s.scrubNext tier unit)) = false ∧ (s.seeWord (scrubPlace tier unit (s.scrubNext tier unit)) symbols 1).isPoisoned (scrubPlace tier unit (s.scrubNext tier unit)) = false) ∧
    (∃ (station : Nat) (bank : Nat) (m : Nat) (s : State),
      station < 54 ∧ (s.bank station bank).rebuilding = some m) :=
  ⟨⟨1, ({ Tests.store with kind := .load } : Request), (Tests.asks ({ Tests.store with kind := .load } : Request) Tests.scratch), by decide +kernel, by decide +kernel, by decide +kernel, List.isEmpty_iff.1 (by decide +kernel), by decide +kernel⟩,
   ⟨1, ({ Tests.store with  } : Request), (Tests.asks ({ Tests.store with  } : Request) Tests.scratch), by decide +kernel, by decide +kernel, List.isEmpty_iff.1 (by decide +kernel), by decide +kernel⟩,
   ⟨1, ({ Tests.store with error := 1 } : Request), (Tests.asks ({ Tests.store with error := 1 } : Request) Tests.scratch), by decide +kernel, by decide +kernel, List.isEmpty_iff.1 (by decide +kernel), by decide +kernel⟩,
   ⟨1, 0, 0x4000, [], [], (⟨0, .tier1 0x4000, [], []⟩ : Lane), [], ({ Tests.store with kind := .tileStore 0 [] [], lanes := [(⟨0, .tier1 0x4000, [], []⟩ : Lane)] } : Request), (Tests.asks ({ Tests.store with kind := .tileStore 0 [] [], lanes := [(⟨0, .tier1 0x4000, [], []⟩ : Lane)] } : Request) Tests.scratch), by decide +kernel, by decide +kernel, by decide +kernel, by decide +kernel, by decide +kernel⟩,
   ⟨1, 0, 3, 0x4000, true, [], (⟨0, .tier1 0x4000, [], []⟩ : Lane), [], ({ Tests.store with kind := .tileLoad 0 true 3, lanes := [(⟨0, .tier1 0x4000, [], []⟩ : Lane)] } : Request), (Tests.asks ({ Tests.store with kind := .tileLoad 0 true 3, lanes := [(⟨0, .tier1 0x4000, [], []⟩ : Lane)] } : Request) Tests.scratch), by decide +kernel, by decide +kernel, by decide +kernel, by decide +kernel, by decide +kernel, by decide +kernel, by decide +kernel⟩,
   ⟨1, 0, 3, true, [7], 0, ({ Tests.store with kind := .tileLoad 0 true 3, returned := [(0, [7])] } : Request), (Tests.asks ({ Tests.store with kind := .tileLoad 0 true 3, returned := [(0, [7])] } : Request) Tests.scratch), by decide +kernel, by decide +kernel, by decide +kernel, List.isEmpty_iff.1 (by decide +kernel), by decide +kernel, by decide +kernel⟩,
   ⟨1, [], ({ id := 1, object := 7, tile := 0, payload := [], tag := Tag.zero } : PendingTile), Tests.tiled, Tests.store, _, (Tests.asks Tests.store { Tests.withObject with objects := [(7, Tests.tiled)], mem := { Tests.withObject.mem with pendingTiles := [({ id := 1, object := 7, tile := 0, payload := [], tag := Tag.zero } : PendingTile)] } }), by decide +kernel, by decide +kernel, by decide +kernel, rfl, by decide +kernel, by decide +kernel⟩,
   ⟨1, 53, [], ({ Tests.store with kind := .load } : Request), (Tests.asks ({ Tests.store with kind := .load } : Request) Tests.scratch), by decide +kernel, by decide +kernel, by decide +kernel, by decide +kernel, by decide +kernel⟩,
   ⟨7, 7, 0, (124928, { object := 7, line := 0, partition := 0, mode := .clean, pin := false, lastUse := 1, installed := 0 }), [], ({ station := 7, object := 7, line := 0, slot := 0, requesters := [], pins := [] } : Fill), ({ Tests.withObject with mem := { Tests.withObject.mem with fills := [({ station := 7, object := 7, line := 0, slot := 0, requesters := [], pins := [] } : Fill)] } } : State), by decide +kernel, by decide +kernel, by decide +kernel, by decide +kernel, by decide +kernel⟩,
   ⟨0, [], Tests.transfer, ({ Tests.scratch with mem := { (Tests.scratch).mem with transfers := [Tests.transfer] } } : State), by decide +kernel, by decide +kernel⟩,
   ⟨2, 9, [], Tests.scratch, by decide +kernel, by decide +kernel, by decide +kernel, by decide +kernel⟩,
   ⟨53, 1, 3, ({ Tests.scratch with mem := { (Tests.scratch).mem with banks := [(2121, ({ failed := [], spareFor := none, rebuilding := some 3, errors := [] } : Bank))] } } : State), by decide +kernel, by decide +kernel⟩⟩


theorem witness_FabricEventsHappen :
    (∃ (s : State),
      True) ∧
    (∃ (a : Nat) (i : Nat) (k : ArbSlot) (late : List ArrivalList) (arb : Arbiter) (s : State),
      a < resourceCount ∧ arb = (late.headD []).foldl (s.arrive a) (s.arbiter a) ∧ arb.waiting ≠ [] ∧ s.resourceUp a = true ∧ (if (arb.grants + 1) % 8 = 0 then longestWait arb.waiting else fullestSlot arb.waiting) = some (i, k)) ∧
    (∃ (id : Nat) (target : Nat) (c : Carillon) (s : State),
      s.carillon id = some c ∧ target ∈ c.asked ∧ s.baseOut target = false ∧ (s.receiving target).length < receiveBuffers) ∧
    (∃ (id : Nat) (target : Nat) (c : Carillon) (s : State),
      s.carillon id = some c ∧ target ∈ c.asked ∧ s.baseOut target = false ∧ receiveBuffers ≤ (s.receiving target).length) ∧
    (∃ (id : Nat) (target : Nat) (c : Carillon) (s : State),
      s.carillon id = some c ∧ (target, true) ∈ c.answers) ∧
    (∃ (id : Nat) (target : Nat) (c : Carillon) (s : State),
      s.carillon id = some c ∧ (target, false) ∈ c.answers) ∧
    (∃ (id : Nat) (target : Nat) (c : Carillon) (s : State),
      s.carillon id = some c ∧ target ∈ c.laggards ∧ (s.receiving target).length < receiveBuffers) ∧
    (∃ (id : Nat) (c : Carillon) (s : State),
      s.carillon id = some c ∧ c.laggards ≠ []) ∧
    (∃ (id : Nat) (x : Transfer) (s : State),
      s.transfer id = some x ∧ x.ring = true ∧ x.multi = true ∧ x.error = 0) ∧
    (∃ (link : Nat) (wires : Nat) (l : Link) (s : State),
      (linkEnds link).isSome = true ∧ tget s.fabric.links link = some l ∧ (l.mode = .bringup ∨ l.mode = .retraining) ∧ wires ≤ 128) ∧
    (∃ (link : Nat) (wires : Nat) (l : Link) (s : State),
      (linkEnds link).isSome = true ∧ tget s.fabric.links link = some l ∧ l.mode = .bringup ∧ 2 ≤ l.failures) ∧
    (∃ (link : Nat) (l : Link) (s : State),
      (linkEnds link).isSome = true ∧ tget s.fabric.links link = some l ∧ l.mode = .inService ∧ (recent l.frameErrors s.now 100000).length < 15) ∧
    (∃ (link : Nat) (wires : Nat) (l : Link) (s : State),
      (linkEnds link).isSome = true ∧ tget s.fabric.links link = some l ∧ l.mode = .degraded ∧ wires ≤ 128) ∧
    (∃ (link : Nat) (bytes : Nat) (l : Link) (s : State),
      (linkEnds link).isSome = true ∧ tget s.fabric.links link = some l ∧ l.mode = .inService ∧ l.rate * 4 < bytes * 5) :=
  ⟨⟨Tests.scratch, trivial⟩,
   ⟨0, 0, ({ weight := 1, counter := 0, shown := 0, requests := [⟨0, 1, 0⟩] } : ArbSlot), [], _, ({ Tests.scratch with fabric := { Tests.scratch.fabric with arbiters := [(0, { grants := 0, boundaries := 0, slots := [(0, ({ weight := 1, counter := 0, shown := 0, requests := [⟨0, 1, 0⟩] } : ArbSlot))] })] } } : State), by decide +kernel, rfl, fun h => absurd (congrArg List.isEmpty h) (by decide +kernel), by decide +kernel, by decide +kernel⟩,
   ⟨1, 1, ({ Tests.carillon with asked := [1] } : Carillon), (Tests.rings ({ Tests.carillon with asked := [1] } : Carillon) Tests.scratch), by decide +kernel, by decide +kernel, by decide +kernel, by decide +kernel⟩,
   ⟨1, 1, ({ Tests.carillon with asked := [1] } : Carillon), (Tests.rings ({ Tests.carillon with asked := [1] } : Carillon) ({ Tests.scratch with fabric := { Tests.scratch.fabric with receive := [(1, List.replicate 16 0)] } } : State)), by decide +kernel, by decide +kernel, by decide +kernel, by decide +kernel⟩,
   ⟨1, 1, ({ Tests.carillon with answers := [(1, true)] } : Carillon), (Tests.rings ({ Tests.carillon with answers := [(1, true)] } : Carillon) Tests.scratch), by decide +kernel, by decide +kernel⟩,
   ⟨1, 1, ({ Tests.carillon with answers := [(1, false)] } : Carillon), (Tests.rings ({ Tests.carillon with answers := [(1, false)] } : Carillon) Tests.scratch), by decide +kernel, by decide +kernel⟩,
   ⟨1, 1, ({ Tests.carillon with laggards := [1] } : Carillon), (Tests.rings ({ Tests.carillon with laggards := [1] } : Carillon) Tests.scratch), by decide +kernel, by decide +kernel, by decide +kernel⟩,
   ⟨1, ({ Tests.carillon with laggards := [1] } : Carillon), (Tests.rings ({ Tests.carillon with laggards := [1] } : Carillon) Tests.scratch), by decide +kernel, fun h => absurd (congrArg List.isEmpty h) (by decide +kernel)⟩,
   ⟨0, ({ Tests.transfer with ring := true, multi := true } : Transfer), ({ Tests.scratch with mem := { (Tests.scratch).mem with transfers := [({ Tests.transfer with ring := true, multi := true } : Transfer)] } } : State), by decide +kernel, by decide +kernel, by decide +kernel, by decide +kernel⟩,
   ⟨1, 128, Tests.link .bringup, (Tests.linked .bringup Tests.scratch), by decide +kernel, by decide +kernel, by decide +kernel, by decide +kernel⟩,
   ⟨1, 0, Tests.link .bringup, (Tests.linked .bringup Tests.scratch), by decide +kernel, by decide +kernel, by decide +kernel, by decide +kernel⟩,
   ⟨1, Tests.link .inService, (Tests.linked .inService Tests.scratch), by decide +kernel, by decide +kernel, by decide +kernel, by decide +kernel⟩,
   ⟨1, 128, Tests.link .degraded, (Tests.linked .degraded Tests.scratch), by decide +kernel, by decide +kernel, by decide +kernel, by decide +kernel⟩,
   ⟨1, (Tests.link .inService).rate, Tests.link .inService, (Tests.linked .inService Tests.scratch), by decide +kernel, by decide +kernel, by decide +kernel, by decide +kernel⟩⟩


theorem witness_LinkEventsHappen :
    (∃ (tag : Nat) (epoch : Nat) (payload : List Byte) (x : Txn) (r : Request) (s : State),
      s.stale epoch = false ∧ s.txn tag = some x ∧ x.sent = true ∧ x.kind = .read ∧ s.request x.request = some r ∧ (s.companionWrite x.granule (padTo 128 payload)).request x.request = some r) ∧
    (∃ (tag : Nat) (epoch : Nat) (x : Txn) (s : State),
      s.stale epoch = false ∧ s.txn tag = some x ∧ x.sent = true ∧ x.kind.carries = true) ∧
    (∃ (tag : Nat) (epoch : Nat) (s : State),
      s.stale epoch = true) ∧
    (∃ (tag : Nat) (epoch : Nat) (x : Txn) (s : State),
      s.stale epoch = false ∧ s.txn tag = some x ∧ x.sent = true ∧ x.nacks < 256 ∧ s.now - x.firstSend ≤ 100000) ∧
    (∃ (tag : Nat) (x : Txn) (s : State),
      s.txn tag = some x ∧ x.backoff = true) ∧
    (∃ (tag : Nat) (epoch : Nat) (reason : Nat) (x : Txn) (s : State),
      s.cijan.mode ≠ .establishing ∧ s.stale epoch = false ∧ s.txn tag = some x ∧ x.sent = true) ∧
    (∃ (s : State),
      s.cijan.mode = .failing ∧ s.cijan.heldHello = none) ∧
    (∃ (tag : Nat) (x : Txn) (s : State),
      s.txn tag = some x ∧ x.sent = true) ∧
    (∃ (engine : Nat) (f : Nat) (tag : Nat) (a : Nat) (n : Nat) (s : State) (t : State),
      engine < 4 ∧ f < 4096 ∧ s.engineTakes engine = true ∧ s.apertureWaits a n = false ∧ t = s.returnCredits engine 0 ∧ s.apertureReach f a (max n 1) = true ∧ shapeGood a n (smallSize n) = true ∧ region a ≠ .registers ∧ s.poisonedAt a n = false) ∧
    (∃ (engine : Nat) (f : Nat) (tag : Nat) (a : Nat) (payload : List Byte) (s : State),
      engine < 4 ∧ f < 4096 ∧ s.engineTakes engine = true ∧ s.apertureWaits a payload.length = false ∧ s.apertureReach f a (max payload.length 1) = true ∧ s.writesBarred f = false ∧ shapeGood a payload.length (smallSize payload.length) = true ∧ region a ≠ .registers) ∧
    (∃ (engine : Nat) (f : Nat) (tag : Nat) (a : Nat) (payload : List Byte) (side : List Byte) (s : State),
      engine < 4 ∧ f < 4096 ∧ s.engineTakes engine = true ∧ s.apertureWaits a 4096 = false ∧ s.apertureReach f a 4096 = true ∧ s.writesBarred f = false ∧ payload.length = 4096 ∧ region a = .tier1 ∧ a % 4096 = 0 ∧ tileSound payload (Tag.ofBytes (padTo 16 side)) = true ∧ ((s.returnCredits engine 33).tilePut 0 0 a payload (Tag.ofBytes (padTo 16 side))).2 = stOk) ∧
    (∃ (epoch : Nat) (block : Nat) (s : State),
      s.cijan.mode = .down ∧ s.cijan.ups ≠ []) ∧
    (∃ (epoch : Nat) (block : Nat) (s : State),
      s.cijan.mode = .failing) ∧
    (∃ (block : List Byte) (table : List Byte) (reason : Nat) (s : State),
      s.cijan.mode = .establishing ∧ helloReason s.cijan.epoch s.cijan.linkBlock (padTo 128 block) ((List.range (min (field (padTo 128 block) 2 2) 256)).map fun i => slice table (64 * i) 64) = some reason) ∧
    (∃ (block : List Byte) (table : List Byte) (entries : List (List Byte)) (s : State),
      s.cijan.mode = .establishing ∧ s.cijan.latencies = [] ∧ entries = (List.range (min (field (padTo 128 block) 2 2) 256)).map (fun i => slice table (64 * i) 64) ∧ helloReason s.cijan.epoch s.cijan.linkBlock (padTo 128 block) entries = none) ∧
    (∃ (s : State),
      True) ∧
    (∃ (s : State),
      s.cijan.mode = .down) ∧
    (∃ (engine : Nat) (headers : Nat) (units : Nat) (s : State),
      engine < 4) ∧
    (∃ (engine : Nat) (e : CijanEngine) (s : State),
      engine < 4 ∧ s.cijan.engines[engine]? = some e ∧ e.up = false) ∧
    (∃ (engine : Nat) (e : CijanEngine) (s : State) (t : State) (u : State),
      engine < 4 ∧ s.cijan.engines[engine]? = some e ∧ e.up = true ∧ t = { s with cijan := { s.cijan with engines := lmod s.cijan.engines engine fun e =>
            { e with up := false, headerCredits := 0, dataCredits := 0 } } } ∧ t.cijan.ups ≠ [] ∧ u = t.cijan.ups.foldl (fun s x => s.send ⟨.engineState, x, [engine, 0], []⟩) (t.logFailure 0x17 0xFF (32 + engine))) :=
  ⟨⟨5, 1, [], Tests.txn, ({ Tests.store with kind := .load } : Request), (Tests.asks ({ Tests.store with kind := .load } : Request) (Tests.cijan (fun c => { c with mode := .up }) Tests.scratch)), by decide +kernel, by decide +kernel, by decide +kernel, by decide +kernel, by decide +kernel, by decide +kernel⟩,
   ⟨5, 257, ({ Tests.txn with kind := .write } : Txn), (Tests.cijan (fun c => { c with txns := [({ Tests.txn with kind := .write } : Txn)] }) Tests.scratch), by decide +kernel, by decide +kernel, by decide +kernel, by decide +kernel⟩,
   ⟨5, 2, (Tests.cijan (fun c => { c with mode := .up }) Tests.scratch), by decide +kernel⟩,
   ⟨5, 1, Tests.txn, (Tests.cijan (fun c => { c with mode := .up }) Tests.scratch), by decide +kernel, by decide +kernel, by decide +kernel, by decide +kernel, by decide +kernel⟩,
   ⟨5, Tests.txn, (Tests.cijan (fun c => { c with mode := .up }) Tests.scratch), by decide +kernel, by decide +kernel⟩,
   ⟨5, 1, 0, Tests.txn, (Tests.cijan (fun c => { c with mode := .up }) Tests.scratch), by decide +kernel, by decide +kernel, by decide +kernel, by decide +kernel⟩,
   ⟨(Tests.cijan (fun c => { c with mode := .failing }) Tests.scratch), by decide +kernel, by decide +kernel⟩,
   ⟨5, Tests.txn, (Tests.cijan (fun c => { c with mode := .up }) Tests.scratch), by decide +kernel, by decide +kernel⟩,
   ⟨0, 0, 0, 0x4080, 128, (Tests.cijan (fun c => { c with mode := .up }) Tests.scratch), _, by decide +kernel, by decide +kernel, by decide +kernel, by decide +kernel, rfl, by decide +kernel, by decide +kernel, by decide +kernel, by decide +kernel⟩,
   ⟨0, 0, 0, 0x4080, zeros 128, (Tests.cijan (fun c => { c with mode := .up }) Tests.scratch), by decide +kernel, by decide +kernel, by decide +kernel, by decide +kernel, by decide +kernel, by decide +kernel, by decide +kernel, by decide +kernel⟩,
   ⟨0, 0, 0, 0x4000, zeros 4096, Tests.side (zeros 4096), (Tests.cijan (fun c => { c with mode := .up }) Tests.scratch), by decide +kernel, by decide +kernel, by decide +kernel, by decide +kernel, by decide +kernel, by decide +kernel, List.length_replicate .., by decide +kernel, by decide +kernel, Tests.side_sound _, rfl⟩,
   ⟨2, 0, (Tests.cijan (fun c => { c with mode := .down }) Tests.scratch), by decide +kernel, fun h => absurd (congrArg List.isEmpty h) (by decide +kernel)⟩,
   ⟨2, 0, (Tests.cijan (fun c => { c with mode := .failing }) Tests.scratch), by decide +kernel⟩,
   ⟨zeros 128, [], 1, (Tests.cijan (fun c => { c with mode := .establishing }) Tests.scratch), by decide +kernel, by decide +kernel⟩,
   ⟨Tests.linkBlock, [], _, (Tests.cijan (fun c => { c with mode := .establishing }) Tests.scratch), by decide +kernel, List.isEmpty_iff.1 (by decide +kernel), rfl, by decide +kernel⟩,
   ⟨(Tests.cijan (fun c => { c with mode := .up }) Tests.scratch), trivial⟩,
   ⟨(Tests.cijan (fun c => { c with mode := .down }) Tests.scratch), by decide +kernel⟩,
   ⟨3, 1, 1, (Tests.cijan (fun c => { c with mode := .up }) Tests.scratch), by decide +kernel⟩,
   ⟨1, ⟨false, 0, 0⟩, (Tests.cijan (fun c => { c with mode := .up }) Tests.scratch), by decide +kernel, by decide +kernel, by decide +kernel⟩,
   ⟨0, ⟨true, 8, 8⟩, (Tests.cijan (fun c => { c with engines := [⟨true, 8, 8⟩, ⟨true, 8, 8⟩, ⟨false, 0, 0⟩, ⟨false, 0, 0⟩] }) Tests.scratch), _, _, by decide +kernel, by decide +kernel, by decide +kernel, rfl, fun h => absurd (congrArg List.isEmpty h) (by decide +kernel), rfl⟩⟩


theorem witness_ManagementEventsHappen :
    (∃ (edge : Nat) (source : Nat) (port : Nat) (b : List Byte) (s : State),
      edge < 4 ∧ s.portUp edge = true ∧ s.portAwake = true ∧ s.boot.stage1 = true ∧ edge = s.fail.primary ∧ headerGood b = true ∧ (s.queue (field b 4 4)).management = true ∧ (s.queue (field b 4 4)).mode = .active) ∧
    (∃ (edge : Nat) (source : Nat) (port : Nat) (b : List Byte) (s : State),
      edge < 4 ∧ s.portUp edge = true ∧ s.portAwake = true ∧ s.boot.stage1 = true ∧ edge = s.fail.primary ∧ headerGood b = true ∧ (s.queue (field b 4 4)).management = false) ∧
    (∃ (edge : Nat) (source : Nat) (port : Nat) (b : List Byte) (s : State),
      edge < 4 ∧ s.portUp edge = true ∧ s.portAwake = true ∧ field b 0 2 = 0x8001 ∧ field b 2 1 = 1 ∧ b.length = 64) ∧
    (∃ (s : State),
      s.boot.stage1 = true ∧ s.portUp s.fail.primary = true ∧ s.portAwake = true ∧ ((s.queue 1).head = 0 ∨ s.boot.startFault ≠ 0)) ∧
    (∃ (edge : Nat) (source : Nat) (b : List Byte) (s : State),
      edge < 4 ∧ s.portUp edge = true ∧ s.portAwake = true) ∧
    (∃ (source : Nat) (port : Nat) (b : List Byte) (s : State),
      s.power.vigil = .vigil ∧ headerGood b = true ∧ field b 4 4 = 1 ∧ field b 8 8 = (s.queue 1).tail ∧ field b 16 2 = 0x9011 ∧ (s.queue 1).tail < (s.queue 1).head + 2 ^ (s.queue 1).log2Size) ∧
    (∃ (edge : Nat) (s : State),
      edge < 4 ∧ s.boot.lit = true ∧ s.healthyEdge edge = true) ∧
    (∃ (n : Nat) (s : State),
      s.healthyEdge s.fail.primary = true ∧ (s.modEdge s.fail.primary fun x => { x with mgmtUp := false }).nextEdge s.fail.primary = some n) :=
  ⟨⟨0, 1, 1, Tests.datagram 1, (Tests.ports Tests.scratch), by decide +kernel, by decide +kernel, by decide +kernel, by decide +kernel, by decide +kernel, by decide +kernel, by decide +kernel, by decide +kernel⟩,
   ⟨0, 1, 1, Tests.datagram 1048575, (Tests.ports Tests.scratch), by decide +kernel, by decide +kernel, by decide +kernel, by decide +kernel, by decide +kernel, by decide +kernel, by decide +kernel⟩,
   ⟨3, 1, 1, [1, 128, 1] ++ zeros 61, (Tests.ports Tests.scratch), by decide +kernel, by decide +kernel, by decide +kernel, by decide +kernel, by decide +kernel, by decide +kernel⟩,
   ⟨(Tests.ports Tests.scratch), by decide +kernel, by decide +kernel, by decide +kernel, by decide +kernel⟩,
   ⟨3, 1, [], (Tests.ports Tests.scratch), by decide +kernel, by decide +kernel, by decide +kernel⟩,
   ⟨1, 1, Tests.datagram 1, { (Tests.ports Tests.scratch) with power := { ((Tests.ports Tests.scratch)).power with vigil := .vigil } }, by decide +kernel, by decide +kernel, by decide +kernel, by decide +kernel, by decide +kernel, by decide +kernel⟩,
   ⟨3, (Tests.ports Tests.scratch), by decide +kernel, by decide +kernel, by decide +kernel⟩,
   ⟨1, (Tests.ports Tests.scratch), by decide +kernel, by decide +kernel⟩⟩


set_option maxRecDepth 100000 in
theorem witness_RoundEventsHappen :
    (∃ (kit : Nat) (report : Nat) (c : Command) (k : Kit) (l : Load) (f : Finding) (s : State) (t : State),
      isPealKit kit = false ∧ s.nextAdmission = some c ∧ s.kit kit = some k ∧ c.wait = .commit kit report ∧ k.load = some l ∧ k.mode = .loading ∧ f = s.placeKit k l l.whole k.percentile k.marginShare none ∧ f.failing = [] ∧ t = ((s.noteAdmission (s.reportBytes kit 0xFFFFFFFF none f.placement f.uses)).reserve kit f).setWait c.id (.list 0) ∧ s.crossing t = none) ∧
    (∃ (kit : Nat) (report : Nat) (c : Command) (k : Kit) (l : Load) (f : Finding) (s : State),
      isPealKit kit = false ∧ s.nextAdmission = some c ∧ s.kit kit = some k ∧ c.wait = .commit kit report ∧ k.load = some l ∧ k.mode = .loading ∧ f = s.placeKit k l l.whole k.percentile k.marginShare none ∧ f.failing ≠ []) ∧
    (∃ (kit : Nat) (report : Nat) (pct : Nat) (share : Nat) (c : Command) (k : Kit) (l : Load) (f : Finding) (s : State) (t : State),
      isPealKit kit = false ∧ s.nextAdmission = some c ∧ s.kit kit = some k ∧ c.wait = .replace kit report pct share ∧ k.load = some l ∧ k.mode = .admitted ∧ f = s.placeKit k l (k.share l) pct share k.placement ∧ f.failing = [] ∧ t = (s.placeTiles f.placement).modKit kit (fun x =>
      { x with next := some { f.placement with tilesInPlace := true }, percentile := pct, marginShare := share }) ∧ s.crossing t = none) ∧
    (∃ (kit : Nat) (report : Nat) (c : Command) (k : Kit) (s : State),
      isPealKit kit = true ∧ s.nextAdmission = some c ∧ s.kit kit = some k ∧ c.wait = .commit kit report) ∧
    (∃ (kit : Nat) (leader : Nat) (block : List Byte) (a : Answer) (s : State),
      s.reservation kit = none ∧ a = s.prepareShare kit (PrepareBlock.ofBytes block) ∧ a.answers = true ∧ s.peal.leader = some leader) ∧
    (∃ (kit : Nat) (member : Nat) (status : Nat) (slots : Nat) (report : List Byte) (s : State),
      (s.round kit).any (·.creation) = false) ∧
    (∃ (kit : Nat) (r : Round) (s : State),
      s.round kit = some r ∧ r.command ≠ 0 ∧ r.sinceBeat + 32 ≤ s.beat.number) ∧
    (∃ (kit : Nat) (beat : Nat) (slots : Nat) (s : State),
      (s.round kit).any (·.creation) = false) ∧
    (∃ (kit : Nat) (beat : Nat) (slots : Nat) (s : State),
      (s.round kit).any (·.creation) = true) ∧
    (∃ (kit : Nat) (s : State),
      (s.round kit).any (·.creation) = false) ∧
    (∃ (kit : Nat) (r : Reservation) (s : State),
      s.reservation kit = some r ∧ r.switchBeat = none ∧ r.sinceBeat + 256 ≤ s.beat.number) ∧
    (∃ (kit : Nat) (leader : Nat) (block : List Byte) (n : Nat) (x : Nat) (d : Nat) (s : State),
      s.round kit = none ∧ s.peal.leader = some leader ∧ s.creationVerdict kit (padTo 64 (block.take 64)) ((List.range ((block.length - 64) / 4)).map fun i => field block (64 + 4 * i) 4) = .refuse n x d) ∧
    (∃ (kit : Nat) (member : Nat) (status : Nat) (s : State),
      (s.round kit).any (·.creation) = true) :=
  ⟨⟨3, 0x4000, ({ id := 99, queue := 5, index := 0, op := .modelCommit, packet := Tests.blank, wait := .commit 3 0x4000, readBeat := 0, readAt := 0, beforeBuild := true, result := 0, context := 4 } : Command), (Tests.loading Tests.noLoad), Tests.noLoad, _, (Tests.command (.commit 3 0x4000) (Tests.withKit (Tests.loading Tests.noLoad))), _, by decide +kernel, by decide +kernel, by decide +kernel, by decide +kernel, by decide +kernel, by decide +kernel, rfl, List.isEmpty_iff.1 (by decide +kernel), rfl, by decide +kernel⟩,
   ⟨3, 0x4000, ({ id := 99, queue := 5, index := 0, op := .modelCommit, packet := Tests.blank, wait := .commit 3 0x4000, readBeat := 0, readAt := 0, beforeBuild := true, result := 0, context := 4 } : Command), (Tests.loading Tests.bigLoad), Tests.bigLoad, _, (Tests.command (.commit 3 0x4000) (Tests.withKit (Tests.loading Tests.bigLoad))), by decide +kernel, by decide +kernel, by decide +kernel, by decide +kernel, by decide +kernel, by decide +kernel, rfl, fun h => absurd (congrArg List.isEmpty h) (by decide +kernel)⟩,
   ⟨3, 0x4000, 0, 0, ({ id := 99, queue := 5, index := 0, op := .modelCommit, packet := Tests.blank, wait := .replace 3 0x4000 0 0, readBeat := 0, readAt := 0, beforeBuild := true, result := 0, context := 4 } : Command), ({ Tests.admitted with partition := 5 } : Kit), Tests.noLoad, _, (Tests.command (.replace 3 0x4000 0 0) (Tests.withKit ({ Tests.admitted with partition := 5 } : Kit))), _, by decide +kernel, by decide +kernel, by decide +kernel, by decide +kernel, by decide +kernel, by decide +kernel, rfl, List.isEmpty_iff.1 (by decide +kernel), rfl, by decide +kernel⟩,
   ⟨2 ^ 27, 0x4000, ({ id := 99, queue := 5, index := 0, op := .modelCommit, packet := Tests.blank, wait := .commit (2 ^ 27) 0x4000, readBeat := 0, readAt := 0, beforeBuild := true, result := 0, context := 4 } : Command), { Tests.deviceKit with id := 2 ^ 27, parent := 0xFFFFFFFF, units := [.module 0] }, (Tests.command (.commit (2 ^ 27) 0x4000) Tests.peal), by decide +kernel, by decide +kernel, by decide +kernel, by decide +kernel⟩,
   ⟨3, 0, [], _, (Tests.rounds [] (Tests.withKit Tests.kit)), by decide +kernel, rfl, Tests.answers (k := Tests.kit) (by decide +kernel) (by decide +kernel) (by decide +kernel), by decide +kernel⟩,
   ⟨3, 0, 0, 0, [], (Tests.rounds [Tests.round false] Tests.scratch), by decide +kernel⟩,
   ⟨3, Tests.round false, (Tests.beat (fun b => { b with number := 32 }) (Tests.rounds [Tests.round false] Tests.scratch)), by decide +kernel, by decide +kernel, by decide +kernel⟩,
   ⟨3, 1, 0, (Tests.rounds [Tests.round false] Tests.scratch), by decide +kernel⟩,
   ⟨3, 1, 0, (Tests.rounds [Tests.round true] Tests.scratch), by decide +kernel⟩,
   ⟨3, (Tests.rounds [Tests.round false] Tests.scratch), by decide +kernel⟩,
   ⟨3, ({ kit := 3, firstLayer := 0, layerCount := 1, since := 0, sinceBeat := 0, switchBeat := none } : Reservation), (Tests.beat (fun b => { b with number := 256 }) ({ Tests.scratch with peal := { Tests.scratch.peal with reservations := [({ kit := 3, firstLayer := 0, layerCount := 1, since := 0, sinceBeat := 0, switchBeat := none } : Reservation)] } } : State)), by decide +kernel, by decide +kernel, by decide +kernel⟩,
   ⟨2 ^ 27, 0, zeros 64, 259, 255, 12, Tests.peal, by decide +kernel, by decide +kernel, rfl⟩,
   ⟨3, 0, 0, (Tests.rounds [Tests.round true] Tests.scratch), by decide +kernel⟩⟩


theorem witness_VirtualFunctionEventsHappen :
    (∃ (f : Nat) (s : State),
      f < 4096 ∧ (s.function f).mode = .freezing ∧ s.canFreeze f = true) ∧
    (∃ (f : Nat) (s : State) (t : State),
      f < 4096 ∧ (s.function f).mode = .saving ∧ s.writeImage (s.function f).imageSpace (s.function f).imageAt (s.image f) = (t, stOk)) ∧
    (∃ (f : Nat) (error : Nat) (s : State),
      f < 4096 ∧ (s.function f).mode = .saving ∧ error ≠ 0) ∧
    (∃ (f : Nat) (c : Command) (s : State),
      f < 4096 ∧ (s.commands.find? fun c => c.wait == .vfRestore f) = some c ∧ (s.function f).mode ≠ .restoring ∧ (s.readImage (s.function f).imageSpace (s.function f).imageAt (s.function f).imageLength).status ≠ stOk) ∧
    (∃ (f : Nat) (g : Got) (s : State),
      f < 4096 ∧ (s.function f).mode = .restoring ∧ g = s.readImage (s.function f).imageSpace (s.function f).imageAt (s.function f).imageLength) ∧
    (∃ (f : Nat) (s : State) (t : State),
      f < 4096 ∧ (s.function f).mode = .resetting ∧ t = s.destroyContexts f (s.kits.length + 2) ∧ t.contextsOf f ≠ []) ∧
    (∃ (f : Nat) (s : State) (t : State) (u : State),
      f < 4096 ∧ (s.function f).mode = .resetting ∧ t = s.destroyContexts f (s.kits.length + 2) ∧ t.contextsOf f = [] ∧ u = (((s.function f).partitions.filter fun p => !(s.functions.any fun w => w.1 != f && w.2.partitions.contains p)).foldl
      State.clearPartition
      { t with queues := t.queues.filter fun q => !((t.functionQueues f).contains q.1)
               crings := t.crings.filter fun r => r.1 / 32 != f }).modFunction f (fun v => { v with mode := .enabled, wasSaved := false })) :=
  ⟨⟨1, (Tests.withFunction { VFunction.initial with mode := .freezing }), by decide +kernel, by decide +kernel, by decide +kernel⟩,
   ⟨1, (Tests.withFunction { VFunction.initial with mode := .saving, imageAt := 0x4000, imageLength := 4096 }), (((Tests.withFunction { VFunction.initial with mode := .saving, imageAt := 0x4000, imageLength := 4096 })).writeImage 0 0x4000 (((Tests.withFunction { VFunction.initial with mode := .saving, imageAt := 0x4000, imageLength := 4096 })).image 1)).1, by decide +kernel, by decide +kernel, Prod.ext rfl (by decide +kernel)⟩,
   ⟨1, 1, (Tests.withFunction { VFunction.initial with mode := .saving }), by decide +kernel, by decide +kernel, by decide +kernel⟩,
   ⟨1, ({ id := 99, queue := 5, index := 0, op := .modelCommit, packet := Tests.blank, wait := .vfRestore 1, readBeat := 0, readAt := 0, beforeBuild := true, result := 0, context := 4 } : Command), (Tests.command (.vfRestore 1) (Tests.withFunction { VFunction.initial with mode := .enabled, imageAt := 0x800000000000, imageLength := 4096 })), by decide +kernel, by decide +kernel, by decide +kernel, by decide +kernel⟩,
   ⟨1, _, (Tests.withFunction { VFunction.initial with mode := .restoring, imageAt := 0x4000, imageLength := 4096 }), by decide +kernel, by decide +kernel, rfl⟩,
   ⟨1, ({ (Tests.withFunction { VFunction.initial with mode := .resetting }) with contexts := [(4, { Context.device with function := 1 }), (65535, Context.device)], kits := [(3, { Tests.kit with context := 4 })] } : State), _, by decide +kernel, by decide +kernel, rfl, fun h => absurd (congrArg List.isEmpty h) (by decide +kernel)⟩,
   ⟨1, (Tests.withFunction { VFunction.initial with mode := .resetting }), _, _, by decide +kernel, by decide +kernel, rfl, List.isEmpty_iff.1 (by decide +kernel), rfl⟩⟩


theorem witness_RingTransferEventsHappen :
    (∃ (source : Nat) (transfer : Nat) (lane : Nat) (channel : Nat) (f : OpenFields) (s : State),
      lane < 24 ∧ s.inbound source transfer = none ∧ (s.peal.finished.contains (source, transfer)) = false ∧ (s.functions.any fun v => v.2.mode == .resetting && v.2.partitions.contains f.partition) = false ∧ s.peal.inbound.length < 1024 ∧ s.frozenPartition f.partition = false ∧ s.openFault f = none) ∧
    (∃ (source : Nat) (transfer : Nat) (lane : Nat) (channel : Nat) (f : OpenFields) (s : State),
      lane < 24 ∧ s.inbound source transfer = none ∧ (s.peal.finished.contains (source, transfer)) = false ∧ (s.functions.any fun v => v.2.mode == .resetting && v.2.partitions.contains f.partition) = false ∧ (1024 ≤ s.peal.inbound.length ∨ s.frozenPartition f.partition = true)) ∧
    (∃ (source : Nat) (transfer : Nat) (lane : Nat) (channel : Nat) (status : Nat) (f : OpenFields) (s : State),
      lane < 24 ∧ s.inbound source transfer = none ∧ (s.peal.finished.contains (source, transfer)) = false ∧ (s.functions.any fun v => v.2.mode == .resetting && v.2.partitions.contains f.partition) = false ∧ s.peal.inbound.length < 1024 ∧ s.frozenPartition f.partition = false ∧ s.openFault f = some status) ∧
    (∃ (source : Nat) (transfer : Nat) (index : Nat) (lane : Nat) (channel : Nat) (error : Nat) (missing : List Nat) (payload : List Byte) (tags : List Byte) (x : Inbound) (s : State) (t : State),
      lane < 24 ∧ (s.returnCredit lane channel).inbound source transfer = some x ∧ x.taken.contains index = false ∧ index < x.messages ∧ x.batchKit = none ∧ (s.returnCredit lane channel).takeUnits x lane index missing payload tags = (t, error)) ∧
    (∃ (source : Nat) (transfer : Nat) (index : Nat) (lane : Nat) (channel : Nat) (missing : List Nat) (payload : List Byte) (tags : List Byte) (x : Inbound) (s : State),
      lane < 24 ∧ (s.returnCredit lane channel).inbound source transfer = some x ∧ x.taken.contains index = true) ∧
    (∃ (target : Nat) (transfer : Nat) (status : Nat) (lane : Nat) (channel : Nat) (s : State),
      lane < 24) ∧
    (∃ (target : Nat) (transfer : Nat) (reason : Nat) (lane : Nat) (channel : Nat) (s : State),
      lane < 24) ∧
    (∃ (transfer : Nat) (x : Transfer) (s : State),
      s.transfer transfer = some x ∧ x.ring = true ∧ x.nacked ≠ []) ∧
    (∃ (lane : Nat) (channel : Nat) (count : Nat) (l : Lane16) (out : Lane16) (s : State),
      lane < 24 ∧ s.peal.lanes[lane]? = some l ∧ out = (List.range (min count ((l.kept.filter (·.1 == channel)).length))).foldl
      (fun (l : Lane16) _ => { l.give channel with kept := dropKept channel l.kept }) l) ∧
    (∃ (lane : Nat) (sequence : Nat) (channel : Nat) (l : Lane16) (m : Msg) (s : State),
      lane < 24 ∧ s.peal.lanes[lane]? = some l ∧ l.kept[sequence]? = some (channel, m)) ∧
    (∃ (lane : Nat) (target : Nat) (channel : Nat) (flits : Nat) (d : Nat) (rest : List Nat) (s : State),
      lane < 24 ∧ channel < 4 ∧ torusPath s.peal.sizes s.peal.coordinate target = d :: rest) ∧
    (∃ (lane : Nat) (channel : Nat) (flits : Nat) (d : Nat) (target : Nat) (rest : List Nat) (s : State),
      lane < 24 ∧ channel < 2 ∧ torusPath s.peal.sizes s.peal.coordinate target = d :: rest) ∧
    (∃ (kit : Nat) (beat : Nat) (records : List Byte) (k : Kit) (b : Batch) (live : List (Nat × StepDesc)) (s : State),
      s.kit kit = some k ∧ k.batches.find? (·.beat == beat) = some b ∧ isPealKit kit = true ∧ s.isHead k = true ∧ live = ((List.range b.steps.length).zip b.steps).filter (fun e => (s.seq e.2.seq).any fun x => x.mode != .lost)) :=
  ⟨⟨1, 5, 23, 0, ({ partition := 0, tile := false, space := 0, dst := 0x4000, handle := 0, length := 128, chime := none, handoff := none } : OpenFields), (Tests.pair Tests.scratch), by decide +kernel, by decide +kernel, by decide +kernel, by decide +kernel, by decide +kernel, by decide +kernel, by decide +kernel⟩,
   ⟨1, 6, 23, 0, ({ partition := 0, tile := false, space := 0, dst := 0x4000, handle := 0, length := 128, chime := none, handoff := none } : OpenFields), ({ (Tests.pair Tests.scratch) with peal := { ((Tests.pair Tests.scratch)).peal with inbound := List.replicate 1024 ({ source := 1, transfer := 5, partition := 0, tile := false, space := 0, dst := 0x4000, handle := 0, length := 4096, taken := [0], chime := none, error := 0, batchKit := none, batch := [] } : Inbound) } } : State), by decide +kernel, by decide +kernel, by decide +kernel, by decide +kernel, by decide +kernel⟩,
   ⟨1, 5, 23, 0, 259, ({ partition := 0, tile := false, space := 0, dst := 0x4000, handle := 0, length := 0, chime := none, handoff := none } : OpenFields), (Tests.pair Tests.scratch), by decide +kernel, by decide +kernel, by decide +kernel, by decide +kernel, by decide +kernel, by decide +kernel, by decide +kernel⟩,
   ⟨1, 5, 1, 0, 0, 0, [], [], [], ({ source := 1, transfer := 5, partition := 0, tile := false, space := 0, dst := 0x4000, handle := 0, length := 65664, taken := [0], chime := none, error := 0, batchKit := none, batch := [] } : Inbound), ({ (Tests.pair Tests.scratch) with peal := { ((Tests.pair Tests.scratch)).peal with inbound := [({ source := 1, transfer := 5, partition := 0, tile := false, space := 0, dst := 0x4000, handle := 0, length := 65664, taken := [0], chime := none, error := 0, batchKit := none, batch := [] } : Inbound)] } } : State), (((({ (Tests.pair Tests.scratch) with peal := { ((Tests.pair Tests.scratch)).peal with inbound := [({ source := 1, transfer := 5, partition := 0, tile := false, space := 0, dst := 0x4000, handle := 0, length := 65664, taken := [0], chime := none, error := 0, batchKit := none, batch := [] } : Inbound)] } } : State)).returnCredit 0 0).takeUnits ({ source := 1, transfer := 5, partition := 0, tile := false, space := 0, dst := 0x4000, handle := 0, length := 65664, taken := [0], chime := none, error := 0, batchKit := none, batch := [] } : Inbound) 0 1 [] [] []).1, by decide +kernel, by decide +kernel, by decide +kernel, by decide +kernel, by decide +kernel, Prod.ext rfl (by decide +kernel)⟩,
   ⟨1, 5, 0, 0, 0, [], [], [], ({ source := 1, transfer := 5, partition := 0, tile := false, space := 0, dst := 0x4000, handle := 0, length := 4096, taken := [0], chime := none, error := 0, batchKit := none, batch := [] } : Inbound), ({ (Tests.pair Tests.scratch) with peal := { ((Tests.pair Tests.scratch)).peal with inbound := [({ source := 1, transfer := 5, partition := 0, tile := false, space := 0, dst := 0x4000, handle := 0, length := 4096, taken := [0], chime := none, error := 0, batchKit := none, batch := [] } : Inbound)] } } : State), by decide +kernel, by decide +kernel, by decide +kernel⟩,
   ⟨1, 5, 0, 23, 0, (Tests.pair Tests.scratch), by decide +kernel⟩,
   ⟨1, 5, 0, 23, 0, (Tests.pair Tests.scratch), by decide +kernel⟩,
   ⟨0, ({ Tests.transfer with ring := true, nacked := [1] } : Transfer), ({ (Tests.pair Tests.scratch) with mem := { ((Tests.pair Tests.scratch)).mem with transfers := [({ Tests.transfer with ring := true, nacked := [1] } : Transfer)] } } : State), by decide +kernel, by decide +kernel, fun h => absurd (congrArg List.isEmpty h) (by decide +kernel)⟩,
   ⟨23, 0, 1, ({ Lane16.reset with up := true, kept := [(0, (⟨.ringSync, 0, [], []⟩ : Msg))] } : Lane16), _, ({ (Tests.pair Tests.scratch) with peal := { ((Tests.pair Tests.scratch)).peal with lanes := List.replicate 24 ({ Lane16.reset with up := true, kept := [(0, (⟨.ringSync, 0, [], []⟩ : Msg))] } : Lane16) } } : State), by decide +kernel, by decide +kernel, rfl⟩,
   ⟨23, 0, 0, ({ Lane16.reset with up := true, kept := [(0, (⟨.ringSync, 0, [], []⟩ : Msg))] } : Lane16), (⟨.ringSync, 0, [], []⟩ : Msg), ({ (Tests.pair Tests.scratch) with peal := { ((Tests.pair Tests.scratch)).peal with lanes := List.replicate 24 ({ Lane16.reset with up := true, kept := [(0, (⟨.ringSync, 0, [], []⟩ : Msg))] } : Lane16) } } : State), by decide +kernel, by decide +kernel, by decide +kernel⟩,
   ⟨0, 1, 3, 1, 0, [], (Tests.pair Tests.scratch), by decide +kernel, by decide +kernel, by decide +kernel⟩,
   ⟨0, 1, 1, 0, 1, [], (Tests.pair Tests.scratch), by decide +kernel, by decide +kernel, by decide +kernel⟩,
   ⟨2 ^ 27, 1, [], ({ { Tests.deviceKit with id := 2 ^ 27, parent := 0xFFFFFFFF, units := [.module 0] } with placement := some Tests.placement, batches := [({ beat := 1, steps := [Tests.stepDesc], commands := [] } : Batch)] } : Kit), ({ beat := 1, steps := [Tests.stepDesc], commands := [] } : Batch), _, { Tests.peal with kits := [(2 ^ 27, ({ { Tests.deviceKit with id := 2 ^ 27, parent := 0xFFFFFFFF, units := [.module 0] } with placement := some Tests.placement, batches := [({ beat := 1, steps := [Tests.stepDesc], commands := [] } : Batch)] } : Kit))] }, by decide +kernel, by decide +kernel, by decide +kernel, by decide +kernel, rfl⟩⟩


theorem witness_MembershipEventsHappen :
    (∃ (lane : Nat) (f : SyncFields) (l : Lane16) (s : State),
      lane < 24 ∧ s.peal.lanes[lane]? = some l ∧ l.up = true ∧ s.peal.inPeal = false) ∧
    (∃ (s : State),
      True) ∧
    (∃ (lane : Nat) (f : CtrlFields) (s : State),
      lane < 24 ∧ s.peal.mode = .forming) ∧
    (∃ (lane : Nat) (candidate : Nat) (beat : Nat) (s : State),
      lane < 24 ∧ s.peal.inPeal = true ∧ s.peal.officeBeat = some beat ∧ s.peal.members.contains candidate = true ∧ s.peal.candidate.any (· ≤ candidate) = false) ∧
    (∃ (lane : Nat) (candidate : Nat) (s : State),
      lane < 24 ∧ s.peal.inPeal = true ∧ s.peal.candidate.any (· ≤ candidate) = true) ∧
    (∃ (m : Nat) (lanes : Nat) (down : List (Nat × Nat)) (s : State),
      s.peal.inPeal = true ∧ m ≠ s.peal.coordinate ∧ s.peal.members.contains m = true ∧ down = s.peal.lanesDown.filter (·.1 != m) ++ ((List.range 24).filter fun i => !(bit lanes i)).map (fun i => (m, i)) ∧ down ≠ s.peal.lanesDown) ∧
    (∃ (m : Nat) (s : State),
      s.peal.inPeal = true ∧ m ≠ s.peal.coordinate ∧ s.peal.members.contains m = true) ∧
    (∃ (period : Nat) (build : Nat) (guard_ : Nat) (beat : Nat) (s : State),
      s.peal.inPeal = true) ∧
    (∃ (lane : Nat) (l : Lane16) (t : State) (s : State),
      lane < 24 ∧ s.peal.lanes[lane]? = some l ∧ l.up = true ∧ t = (s.setLane lane { l.fresh with up := false, offsets := [] }).logFailure 0x17 0xFF lane) ∧
    (∃ (lane : Nat) (l : Lane16) (e : EdgeDie) (t : State) (s : State),
      lane < 24 ∧ s.peal.lanes[lane]? = some l ∧ tget s.fail.edges (lane / 6) = some e ∧ l.up = false ∧ e.up = true ∧ ¬(dimSize s.peal.sizes (lane % 6 / 2) ≤ 1 ∧ s.peal.inPeal = true) ∧ t = s.setLane lane { l.fresh with up := true }) ∧
    (∃ (s : State),
      (s.peal.mode = .forming ∨ s.peal.mode = .joining) ∧ s.peal.admitBeat = none) :=
  ⟨⟨23, ⟨0, 0, 0⟩, ({ Lane16.reset with up := true } : Lane16), ({ (Tests.pair Tests.scratch) with peal := { ((Tests.pair Tests.scratch)).peal with mode := .alone } } : State), by decide +kernel, by decide +kernel, by decide +kernel, by decide +kernel⟩,
   ⟨(Tests.pair Tests.scratch), trivial⟩,
   ⟨23, ({ mode := 0, pealId := 0, coordinate := 0, fromLane := 0, digest := 0, members := [], locked := [], shape := 0, period := 0, buildShare := 0, guardShare := 0, pending := none, named := none, leaving := [] } : CtrlFields), ({ (Tests.pair Tests.scratch) with peal := { ((Tests.pair Tests.scratch)).peal with mode := .forming } } : State), by decide +kernel, by decide +kernel⟩,
   ⟨23, 1, 5, ({ (Tests.pair Tests.scratch) with peal := { ((Tests.pair Tests.scratch)).peal with officeBeat := some 5 } } : State), by decide +kernel, by decide +kernel, by decide +kernel, by decide +kernel, by decide +kernel⟩,
   ⟨23, 1, ({ (Tests.pair Tests.scratch) with peal := { ((Tests.pair Tests.scratch)).peal with candidate := some 1 } } : State), by decide +kernel, by decide +kernel, by decide +kernel⟩,
   ⟨1, 0, _, (Tests.pair Tests.scratch), by decide +kernel, by decide +kernel, by decide +kernel, rfl, by decide +kernel⟩,
   ⟨1, (Tests.pair Tests.scratch), by decide +kernel, by decide +kernel, by decide +kernel⟩,
   ⟨2000, 100, 50, 5, (Tests.pair Tests.scratch), by decide +kernel⟩,
   ⟨23, ({ Lane16.reset with up := true } : Lane16), _, (Tests.pair Tests.scratch), by decide +kernel, by decide +kernel, by decide +kernel, rfl⟩,
   ⟨0, Lane16.reset, ({ up := true, lost := false, usable := true, mgmtUp := false, mgmtDownSince := none } : EdgeDie), _, ({ Tests.scratch with fail := { FailState.reset with edges := FailState.reset.edges.map fun e => (e.1, { e.2 with up := true, usable := true }) } } : State), by decide +kernel, by decide +kernel, by decide +kernel, by decide +kernel, by decide +kernel, by decide +kernel, rfl⟩,
   ⟨({ (Tests.pair Tests.scratch) with peal := { ((Tests.pair Tests.scratch)).peal with mode := .forming } } : State), by decide +kernel, by decide +kernel⟩⟩


theorem witness_PowerEventsHappen :
    (∃ (mean : Nat) (g : Nat × Nat) (t : State) (s : State),
      s.power.vigil ≠ .vigil ∧ s.power.input.powered = true ∧ t = { s with power := { s.power with rampedCap := s.power.ramped } } ∧ g = governed s.power.riding t.effectiveCap mean s.power.clock s.power.duty) ∧
    (∃ (st : Nat) (holds : Bool) (t : State) (s : State),
      st < 54 ∧ (s.die st).mode = .inService ∧ t = { s with power := { s.power with
      droopEvents := s.power.droopEvents + 1, droops := s.power.droops ++ [(st, s.now)] } }) ∧
    (∃ (l : Lease) (t : State) (s : State),
      s.power.lease = some l ∧ t = s.clockTo (l.renewedAt + l.length)) ∧
    (∃ (r : Readings) (temps : List (Nat × Int)) (s : State),
      s.power.vigil ≠ .vigil ∧ s.power.input.powered = true ∧ temps = r.temps.foldl (fun t x => tset t x.1 x.2) s.power.temps ∧ (temps.any fun x => decide (s.power.threshold x.1 ≤ x.2)) = true) ∧
    (∃ (r : Readings) (temps : List (Nat × Int)) (since : Option Nat) (s : State),
      s.power.vigil ≠ .vigil ∧ s.power.input.powered = true ∧ temps = r.temps.foldl (fun t x => tset t x.1 x.2) s.power.temps ∧ (temps.any fun x => decide (s.power.threshold x.1 ≤ x.2)) = false ∧ since = (if temps.all fun x => decide (x.2 ≤ s.power.threshold x.1 - 20) then some (s.power.coolSince.getD s.now) else none)) ∧
    (∃ (s : State),
      s.power.vigil ≠ .vigil ∧ s.power.input.powered = true) ∧
    (∃ (unit : Nat) (t : State) (s : State),
      sensorUnit unit = true ∧ s.power.tripped.contains unit = false ∧ t = State.attend { s with power := { s.power with
      tripped := addOnce s.power.tripped unit, trips := s.power.trips + 1 } } 15 ∧ unit < 54 ∧ (t.die unit).mode = .inService) ∧
    (∃ (unit : Nat) (t : State) (s : State),
      sensorUnit unit = true ∧ s.power.tripped.contains unit = false ∧ t = State.attend { s with power := { s.power with
      tripped := addOnce s.power.tripped unit, trips := s.power.trips + 1 } } 15 ∧ 54 ≤ unit ∧ unit < 58) ∧
    (∃ (unit : Nat) (t : State) (s : State),
      sensorUnit unit = true ∧ s.power.tripped.contains unit = false ∧ t = State.attend { s with power := { s.power with
      tripped := addOnce s.power.tripped unit, trips := s.power.trips + 1 } } 15 ∧ 64 ≤ unit ∧ unit < 84) ∧
    (∃ (unit : Nat) (t : State) (s : State),
      sensorUnit unit = true ∧ s.power.tripped.contains unit = false ∧ t = State.attend { s with power := { s.power with
      tripped := addOnce s.power.tripped unit, trips := s.power.trips + 1 } } 15 ∧ 128 ≤ unit) ∧
    (∃ (unit : Nat) (s : State),
      sensorUnit unit = true ∧ s.power.tripped.contains unit = true ∧ (unit < 64 ∨ 84 ≤ unit)) ∧
    (∃ (unit : Nat) (s : State),
      sensorUnit unit = true ∧ s.power.tripped.contains unit = true ∧ 64 ≤ unit ∧ unit < 84 ∧ ((s.power.tripped.filter (· != unit)).any fun u => 64 ≤ u && u < 84 && stackPair (u - 64) == stackPair (unit - 64)) = false) ∧
    (∃ (others : List Command) (s : State) (t : State) (u : State),
      s.power.vigil = .entering ∧ s.beat.running = true ∧ s.now = s.beat.start ∧ others = s.commands.filter (fun c => c.wait != .vigil) ∧ others = [] ∧ t = s.completeWhere (fun c => c.wait == .vigil) ∧ u = t.signals.foldl (fun v g => v.applySignal g) { t with signals := [] }) ∧
    (∃ (s : State) (t : State),
      s.power.vigil = .waking ∧ t = s.powerUpDies.modBoot (fun b =>
      { b with verified := false, released := false, running := none, claim := .none, load := Delivery.empty })) ∧
    (∃ (s : State) (t : State),
      s.power.vigil = .waking ∧ s.powerUpDies.peal.mode ≠ .asleep ∧ t = s.powerUpDies.startBeat 0) :=
  ⟨⟨0, _, _, ({ Tests.scratch with power := { (Tests.scratch).power with input := { returnMated := true, prechargeMated := true, mainMated := false, mode := .inRange, inRangeSince := 0, qualifiedAt := some 0, switchClosed := none, powered := true, voltage := 4800 } } } : State), by decide +kernel, by decide +kernel, rfl, rfl⟩,
   ⟨53, true, _, Tests.scratch, by decide +kernel, by decide +kernel, rfl⟩,
   ⟨⟨5, 7⟩, _, ({ Tests.scratch with power := { (Tests.scratch).power with lease := some ⟨5, 7⟩ } } : State), by decide +kernel, rfl⟩,
   ⟨{ temps := [(181, 950)], inlet := 30, outlet := 40, mean := 1000, voltage := 4800 }, _, ({ Tests.scratch with power := { (Tests.scratch).power with input := { returnMated := true, prechargeMated := true, mainMated := false, mode := .inRange, inRangeSince := 0, qualifiedAt := some 0, switchClosed := none, powered := true, voltage := 4800 } } } : State), by decide +kernel, by decide +kernel, rfl, by decide +kernel⟩,
   ⟨{ temps := [(0, 250)], inlet := 30, outlet := 40, mean := 1000, voltage := 4800 }, _, _, ({ Tests.scratch with power := { (Tests.scratch).power with input := { returnMated := true, prechargeMated := true, mainMated := false, mode := .inRange, inRangeSince := 0, qualifiedAt := some 0, switchClosed := none, powered := true, voltage := 4800 } } } : State), by decide +kernel, by decide +kernel, rfl, by decide +kernel, rfl⟩,
   ⟨({ Tests.scratch with power := { (Tests.scratch).power with input := { returnMated := true, prechargeMated := true, mainMated := false, mode := .inRange, inRangeSince := 0, qualifiedAt := some 0, switchClosed := none, powered := true, voltage := 4800 } } } : State), by decide +kernel, by decide +kernel⟩,
   ⟨53, _, Tests.scratch, by decide +kernel, by decide +kernel, rfl, by decide +kernel, by decide +kernel⟩,
   ⟨57, _, Tests.scratch, by decide +kernel, by decide +kernel, rfl, by decide +kernel, by decide +kernel⟩,
   ⟨64, _, Tests.scratch, by decide +kernel, by decide +kernel, rfl, by decide +kernel, by decide +kernel⟩,
   ⟨181, _, Tests.scratch, by decide +kernel, by decide +kernel, rfl, by decide +kernel⟩,
   ⟨128, ({ Tests.scratch with power := { (Tests.scratch).power with tripped := [128] } } : State), by decide +kernel, by decide +kernel, by decide +kernel⟩,
   ⟨83, ({ Tests.scratch with power := { (Tests.scratch).power with tripped := [83] } } : State), by decide +kernel, by decide +kernel, by decide +kernel, by decide +kernel, by decide +kernel⟩,
   ⟨_, ({ (Tests.command .vigil Tests.scratch) with power := { ((Tests.command .vigil Tests.scratch)).power with vigil := .entering } } : State), _, _, by decide +kernel, by decide +kernel, by decide +kernel, rfl, rfl, rfl, rfl⟩,
   ⟨({ Tests.scratch with power := { (Tests.scratch).power with vigil := .waking } } : State), _, by decide +kernel, rfl⟩,
   ⟨({ Tests.scratch with power := { (Tests.scratch).power with vigil := .waking } } : State), _, by decide +kernel, by decide +kernel, rfl⟩⟩


theorem witness_InputEventsHappen :
    (∃ (v : Nat) (s : State),
      s.power.input.prechargeMated = false) ∧
    (∃ (t : State) (s : State),
      s.power.input.prechargeMated = true ∧ s.power.input.qualifiedAt = none ∧ s.power.input.mode = .inRange ∧ t = s.clockTo (s.power.input.inRangeSince + 5000000)) ∧
    (∃ (s : State),
      s.power.input.prechargeMated = true ∧ s.power.input.mainMated = false) ∧
    (∃ (s : State),
      s.power.input.prechargeMated = true ∧ s.power.input.mainMated = false ∧ s.power.input.qualifiedAt.isSome = true ∧ s.power.input.switchClosed = none) ∧
    (∃ (s : State),
      True) ∧
    (∃ (v : Nat) (s : State),
      (v < 3600 ∨ 6300 < v) ∧ s.power.input.prechargeMated = true) ∧
    (∃ (since : Nat) (s : State),
      s.power.input.mode = .riding since) ∧
    (∃ (v : Nat) (s : State),
      3600 ≤ v ∧ v ≤ 6300 ∧ (v < 4000 ∨ 6000 < v) ∧ s.power.input.prechargeMated = true ∧ s.power.input.powered = true ∧ (s.power.input.switchClosed.any fun t => decide (s.now < t + 2000000)) = false ∧ s.power.riding = false) ∧
    (∃ (v : Nat) (s : State),
      4000 ≤ v ∧ v ≤ 6000 ∧ s.power.input.prechargeMated = true ∧ s.power.riding = true) ∧
    (∃ (v : Nat) (s : State),
      4000 ≤ v ∧ v ≤ 6000 ∧ s.power.input.prechargeMated = true ∧ s.power.riding = false) :=
  ⟨⟨4800, Tests.scratch, by decide +kernel⟩,
   ⟨_, ({ Tests.scratch with power := { (Tests.scratch).power with input := { returnMated := true, prechargeMated := true, mainMated := false, mode := .inRange, inRangeSince := 0, qualifiedAt := none, switchClosed := none, powered := true, voltage := 4800 } } } : State), by decide +kernel, by decide +kernel, by decide +kernel, rfl⟩,
   ⟨({ Tests.scratch with power := { (Tests.scratch).power with input := { returnMated := true, prechargeMated := true, mainMated := false, mode := .inRange, inRangeSince := 0, qualifiedAt := some 0, switchClosed := none, powered := true, voltage := 4800 } } } : State), by decide +kernel, by decide +kernel⟩,
   ⟨({ Tests.scratch with power := { (Tests.scratch).power with input := { returnMated := true, prechargeMated := true, mainMated := false, mode := .inRange, inRangeSince := 0, qualifiedAt := some 0, switchClosed := none, powered := true, voltage := 4800 } } } : State), by decide +kernel, by decide +kernel, by decide +kernel, by decide +kernel⟩,
   ⟨({ Tests.scratch with power := { (Tests.scratch).power with input := { returnMated := true, prechargeMated := true, mainMated := false, mode := .inRange, inRangeSince := 0, qualifiedAt := some 0, switchClosed := none, powered := true, voltage := 4800 } } } : State), trivial⟩,
   ⟨3599, ({ Tests.scratch with power := { (Tests.scratch).power with input := { returnMated := true, prechargeMated := true, mainMated := false, mode := .inRange, inRangeSince := 0, qualifiedAt := some 0, switchClosed := none, powered := true, voltage := 4800 } } } : State), by decide +kernel, by decide +kernel⟩,
   ⟨0, ({ Tests.scratch with power := { (Tests.scratch).power with input := { ({ returnMated := true, prechargeMated := true, mainMated := false, mode := .inRange, inRangeSince := 0, qualifiedAt := some 0, switchClosed := none, powered := true, voltage := 4800 } : InputState) with mode := .riding 0 } } } : State), by decide +kernel⟩,
   ⟨3600, ({ Tests.scratch with power := { (Tests.scratch).power with input := { returnMated := true, prechargeMated := true, mainMated := false, mode := .inRange, inRangeSince := 0, qualifiedAt := some 0, switchClosed := none, powered := true, voltage := 4800 } } } : State), by decide +kernel, by decide +kernel, by decide +kernel, by decide +kernel, by decide +kernel, by decide +kernel, by decide +kernel⟩,
   ⟨6000, ({ Tests.scratch with power := { (Tests.scratch).power with input := { ({ returnMated := true, prechargeMated := true, mainMated := false, mode := .inRange, inRangeSince := 0, qualifiedAt := some 0, switchClosed := none, powered := true, voltage := 4800 } : InputState) with mode := .riding 0 } } } : State), by decide +kernel, by decide +kernel, by decide +kernel, by decide +kernel⟩,
   ⟨4000, ({ Tests.scratch with power := { (Tests.scratch).power with input := { returnMated := true, prechargeMated := true, mainMated := false, mode := .inRange, inRangeSince := 0, qualifiedAt := some 0, switchClosed := none, powered := true, voltage := 4800 } } } : State), by decide +kernel, by decide +kernel, by decide +kernel, by decide +kernel⟩⟩


theorem witness_StartUpEventsHappen :
    (∃ (results : List EdgeResult) (e : Nat) (t : State) (u : State) (s : State),
      s.power.input.qualifiedAt.isSome = true ∧ s.boot.lit = false ∧ s.boot.startFault = 0 ∧ t = (List.range 4).foldl (fun v e => v.takeEdge results e) s ∧ (List.range 4).any t.healthyEdge = true ∧ u = State.startLinks (t.modBoot fun b => { b with lit := true }) (List.range 54) ∧ (List.range 4).find? u.primaryAble = some e) ∧
    (∃ (results : List EdgeResult) (t : State) (s : State),
      s.power.input.qualifiedAt.isSome = true ∧ s.boot.lit = false ∧ s.boot.startFault = 0 ∧ t = (List.range 4).foldl (fun v e => v.takeEdge results e) s ∧ (List.range 4).any t.healthyEdge = false) ∧
    (∃ (s : State),
      s.boot.stage1 = true ∧ s.boot.loadReady = false ∧ s.baseOut 5 = true ∧ s.baseOut 53 = true) ∧
    (∃ (s : State),
      s.boot.stage1 = true ∧ s.boot.loadReady = false ∧ ¬(s.baseOut 5 = true ∧ s.baseOut 53 = true)) ∧
    (∃ (failed : List Nat) (dies : List Nat) (lanes : List Nat) (t : State) (s : State),
      s.boot.stage1 = true ∧ s.boot.trained = false ∧ t = (failed.foldl (fun u x => u.losePair (stackPair x)) (dies.foldl (fun u x => u.markDie (x / 32) (x % 32) 4)
      (lanes.foldl (fun u p => u.laneRepaired p) s))).modBoot (fun b => { b with trained := true })) ∧
    (∃ (s : State),
      s.boot.verified = false ∧ s.boot.load.verifying = true) ∧
    (∃ (s : State),
      s.boot.verified = true ∧ s.boot.staging.verifying = true) ∧
    (∃ (micros : Nat) (s : State),
      s.boot.trained = true ∧ s.boot.fillDone = false) ∧
    (∃ (s : State),
      s.boot.verified = true ∧ s.boot.fillDone = true ∧ s.boot.stationsStarted = false) ∧
    (∃ (failed : List Nat) (flash : Nat) (t : State) (s : State),
      s.boot.stationsStarted = true ∧ s.boot.diesTested = false ∧ t = ((failed.filter fun st => (s.die st).mode == .inService).foldl (fun u st => u.dieLost st false) s).modBoot (fun b =>
      { b with diesTested := true, flashRead := flash != 3, fellBack := flash == 1, floorMissing := flash == 2,
               floor := if flash = 2 then 0 else b.floor })) ∧
    (∃ (i : Image) (t : State) (s : State),
      s.boot.released = false ∧ s.releasable = true ∧ s.beat.running = true ∧ s.now = s.beat.start ∧ s.boot.running = some i ∧ s.peal.mode ≠ .asleep ∧ t = s.modBoot (fun b =>
      { b with released := true, floor := i.raise s.boot.floor, floorMissing := b.floorMissing && !i.raiseFloor })) ∧
    (∃ (u : LiveUpdate) (at_ : Nat) (i : Image) (t : State) (s : State),
      s.boot.liveUpdate = some u ∧ u.restartedAt = some at_ ∧ s.boot.staged = some i ∧ t = (s.clockTo (at_ + 15000)).modBoot (fun b => { b with liveUpdate := none })) ∧
    (∃ (u : LiveUpdate) (at_ : Nat) (t : State) (s : State),
      s.boot.liveUpdate = some u ∧ u.restartedAt = some at_ ∧ t = (s.clockTo (at_ + 15000)).modBoot (fun b => { b with liveUpdate := none })) ∧
    (∃ (u : StationUpdate) (st : Nat) (rest : List Nat) (s : State),
      s.fail.stationUpdate = some u ∧ u.restarting = none ∧ s.updateRest u = st :: rest) ∧
    (∃ (u : StationUpdate) (s : State),
      s.fail.stationUpdate = some u ∧ u.restarting = none ∧ s.updateRest u = []) ∧
    (∃ (u : StationUpdate) (st : Nat) (at_ : Nat) (b : BaseDie) (s : State),
      s.fail.stationUpdate = some u ∧ u.restarting = some (st, at_) ∧ tget s.fail.bases st = some b) ∧
    (∃ (u : StationUpdate) (v : StationUpdate) (st : Nat) (at_ : Nat) (t : State) (w : State) (s : State),
      s.fail.stationUpdate = some u ∧ u.restarting = some (st, at_) ∧ v = { u with restarting := none, next := max u.next (st + 1) } ∧ t = (s.modBase st fun b => { b with firmware := u.image }).logFailure 0x19 st 0xFF ∧ w = { t with fail := { t.fail with stationUpdate := some v } }) :=
  ⟨⟨Tests.results, 1, _, _, ({ ({ Tests.scratch with power := { (Tests.scratch).power with input := { returnMated := true, prechargeMated := true, mainMated := false, mode := .inRange, inRangeSince := 0, qualifiedAt := some 0, switchClosed := none, powered := true, voltage := 4800 } } } : State) with boot := { (({ Tests.scratch with power := { (Tests.scratch).power with input := { returnMated := true, prechargeMated := true, mainMated := false, mode := .inRange, inRangeSince := 0, qualifiedAt := some 0, switchClosed := none, powered := true, voltage := 4800 } } } : State)).boot with lit := false, startFault := 0 } } : State), by decide +kernel, by decide +kernel, by decide +kernel, rfl, by decide +kernel, rfl, by decide +kernel⟩,
   ⟨Tests.noResults, _, ({ ({ Tests.scratch with power := { (Tests.scratch).power with input := { returnMated := true, prechargeMated := true, mainMated := false, mode := .inRange, inRangeSince := 0, qualifiedAt := some 0, switchClosed := none, powered := true, voltage := 4800 } } } : State) with boot := { (({ Tests.scratch with power := { (Tests.scratch).power with input := { returnMated := true, prechargeMated := true, mainMated := false, mode := .inRange, inRangeSince := 0, qualifiedAt := some 0, switchClosed := none, powered := true, voltage := 4800 } } } : State)).boot with lit := false, startFault := 0 } } : State), by decide +kernel, by decide +kernel, by decide +kernel, rfl, by decide +kernel⟩,
   ⟨({ ({ Tests.scratch with fail := { (Tests.scratch).fail with bases := tset (tset FailState.reset.bases 5 { out := true, cause := 1, since := 0, firmware := 0 }) 53 { out := true, cause := 1, since := 0, firmware := 0 } } } : State) with boot := { (({ Tests.scratch with fail := { (Tests.scratch).fail with bases := tset (tset FailState.reset.bases 5 { out := true, cause := 1, since := 0, firmware := 0 }) 53 { out := true, cause := 1, since := 0, firmware := 0 } } } : State)).boot with stage1 := true, loadReady := false } } : State), by decide +kernel, by decide +kernel, by decide +kernel, by decide +kernel⟩,
   ⟨({ Tests.scratch with boot := { (Tests.scratch).boot with stage1 := true, loadReady := false } } : State), by decide +kernel, by decide +kernel, by decide +kernel⟩,
   ⟨[19], [319], [9], _, ({ Tests.scratch with boot := { (Tests.scratch).boot with trained := false } } : State), by decide +kernel, by decide +kernel, rfl⟩,
   ⟨({ Tests.scratch with boot := { (Tests.scratch).boot with verified := false, load := ⟨[], [(0, 1024)], 1024, true⟩ } } : State), by decide +kernel, by decide +kernel⟩,
   ⟨({ Tests.scratch with boot := { (Tests.scratch).boot with staging := ⟨[], [(0, 1024)], 1024, true⟩ } } : State), by decide +kernel, by decide +kernel⟩,
   ⟨1, ({ Tests.scratch with boot := { (Tests.scratch).boot with trained := true, fillDone := false } } : State), by decide +kernel, by decide +kernel⟩,
   ⟨({ Tests.scratch with boot := { (Tests.scratch).boot with fillDone := true, stationsStarted := false } } : State), by decide +kernel, by decide +kernel, by decide +kernel⟩,
   ⟨[53], 3, _, ({ Tests.scratch with boot := { (Tests.scratch).boot with stationsStarted := true, diesTested := false } } : State), by decide +kernel, by decide +kernel, rfl⟩,
   ⟨Tests.image, _, ({ Tests.scratch with boot := { (Tests.scratch).boot with released := false, trained := true, fillDone := true, stationsStarted := true, diesTested := true, flashRead := true, queue0Base := 0x10000, queue0Log2 := 8, cring0Base := 0x20000, cring0Log2 := 8, running := some Tests.image } } : State), by decide +kernel, by decide +kernel, by decide +kernel, by decide +kernel, by decide +kernel, by decide +kernel, rfl⟩,
   ⟨({ command := 99, source := 0, length := 0, verified := true, restartedAt := some 0 } : LiveUpdate), 0, Tests.image, _, ({ Tests.scratch with boot := { (Tests.scratch).boot with liveUpdate := some ({ command := 99, source := 0, length := 0, verified := true, restartedAt := some 0 } : LiveUpdate), staged := some Tests.image } } : State), by decide +kernel, by decide +kernel, by decide +kernel, rfl⟩,
   ⟨({ command := 99, source := 0, length := 0, verified := true, restartedAt := some 0 } : LiveUpdate), 0, _, ({ Tests.scratch with boot := { (Tests.scratch).boot with liveUpdate := some ({ command := 99, source := 0, length := 0, verified := true, restartedAt := some 0 } : LiveUpdate) } } : State), by decide +kernel, by decide +kernel, rfl⟩,
   ⟨Tests.update none 53, 53, [], ({ Tests.scratch with fail := { (Tests.scratch).fail with stationUpdate := some (Tests.update none 53) } } : State), by decide +kernel, by decide +kernel, by decide +kernel⟩,
   ⟨Tests.update none 54, ({ Tests.scratch with fail := { (Tests.scratch).fail with stationUpdate := some (Tests.update none 54) } } : State), by decide +kernel, by decide +kernel, List.isEmpty_iff.1 (by decide +kernel)⟩,
   ⟨Tests.update (some (53, 0)) 53, 53, 0, { out := false, cause := 0, since := 0, firmware := 0 }, ({ Tests.scratch with fail := { (Tests.scratch).fail with stationUpdate := some (Tests.update (some (53, 0)) 53) } } : State), by decide +kernel, by decide +kernel, by decide +kernel⟩,
   ⟨Tests.update (some (53, 0)) 53, _, 53, 0, _, _, ({ Tests.scratch with fail := { (Tests.scratch).fail with stationUpdate := some (Tests.update (some (53, 0)) 53) } } : State), by decide +kernel, by decide +kernel, rfl, rfl, rfl⟩⟩


theorem witness_FailureEventsHappen :
    (∃ (st : Nat) (s : State),
      st < 54 ∧ (s.die st).mode = .inService) ∧
    (∃ (st : Nat) (s : State),
      st < 54 ∧ (s.die st).mode ≠ .inService) ∧
    (∃ (st : Nat) (s : State),
      st < 54 ∧ (s.die st).mode = .starting ∧ (s.die st).joining = false) ∧
    (∃ (st : Nat) (s : State),
      st < 54 ∧ (s.die st).mode = .failed ∧ s.baseOut st = false ∧ s.untripped st = true) ∧
    (∃ (st : Nat) (passing : Nat) (steps : List Nat) (t : State) (s : State),
      st < 54 ∧ (s.die st).mode = .measuring ∧ passing = ((List.range 32).filter fun i => 608 ≤ steps.getD i 0).length ∧ t = (if 28 ≤ passing then
        ((s.takeTable st steps).logFailure 0x1A st passing).modDie st fun d => { d with mode := .intercalary, staleTable := false }
      else ((s.takeTable st steps).logFailure 0x1A st passing).retireDie st)) ∧
    (∃ (st : Nat) (steps : List Nat) (s : State),
      st < 54 ∧ (s.die st).mode = .starting ∧ (s.die st).staleTable = true) ∧
    (∃ (st : Nat) (t : State) (s : State),
      st < 54 ∧ s.baseOut st = false ∧ t = s.resetBase st 0) ∧
    (∃ (st : Nat) (t : State) (s : State),
      st < 54 ∧ s.baseOut st = false ∧ t = s.resetBase st 2) ∧
    (∃ (st : Nat) (back : State) (s : State),
      st < 54 ∧ s.baseOut st = true ∧ s.untripped (128 + st) = true ∧ back = s.modBase st (fun b => { b with out := false, cause := 0 }) ∧ back.reachable st = true ∧ s.fail.stationUpdate = none ∧ s.boot.startFault ≠ 2) ∧
    (∃ (e : Nat) (s : State),
      e < 4) :=
  ⟨⟨53, Tests.scratch, by decide +kernel, by decide +kernel⟩,
   ⟨6, Tests.scratch, by decide +kernel, by decide +kernel⟩,
   ⟨6, ({ Tests.scratch with fail := { (Tests.scratch).fail with dies := tset FailState.reset.dies 6 { ComputeDie.reset 6 with mode := .starting } } } : State), by decide +kernel, by decide +kernel, by decide +kernel⟩,
   ⟨53, ({ Tests.scratch with fail := { (Tests.scratch).fail with dies := tset FailState.reset.dies 53 { ComputeDie.reset 53 with mode := .failed } } } : State), by decide +kernel, by decide +kernel, by decide +kernel, by decide +kernel⟩,
   ⟨53, _, List.replicate 32 608, _, ({ Tests.scratch with fail := { (Tests.scratch).fail with dies := tset FailState.reset.dies 53 { ComputeDie.reset 53 with mode := .measuring } } } : State), by decide +kernel, by decide +kernel, rfl, rfl⟩,
   ⟨53, [], ({ Tests.scratch with fail := { (Tests.scratch).fail with dies := tset FailState.reset.dies 53 { ComputeDie.reset 53 with mode := .starting, staleTable := true } } } : State), by decide +kernel, by decide +kernel, by decide +kernel⟩,
   ⟨53, _, Tests.scratch, by decide +kernel, by decide +kernel, rfl⟩,
   ⟨53, _, Tests.scratch, by decide +kernel, by decide +kernel, rfl⟩,
   ⟨53, _, ({ Tests.scratch with fail := { (Tests.scratch).fail with bases := tset FailState.reset.bases 53 { out := true, cause := 0, since := 0, firmware := 1 } } } : State), by decide +kernel, by decide +kernel, by decide +kernel, rfl, by decide +kernel, by decide +kernel, by decide +kernel⟩,
   ⟨3, Tests.scratch, by decide +kernel⟩⟩


end Sys2Proof
end

/-! PROOFS. Fields of a record (00 R4): a slice byte by byte, and little-endian bytes as a weighted sum. -/
namespace Sys2Proof.Machine
open Sys2Proof

theorem slice_getElem (b : List Byte) (o n i : Nat) (hi : i < (slice b o n).length) :
    (slice b o n)[i] = b.getD (o + i) 0 := by
  have hn : i < n := by rwa [slice_length] at hi
  have ht : ((b.drop o).take n).length = min n (b.length - o) := by rw [List.length_take, List.length_drop]
  by_cases h : o + i < b.length
  · have hlt : i < ((b.drop o).take n).length := by omega
    simp only [slice, List.getElem_append_left hlt, List.getElem_take, List.getElem_drop]
    rw [List.getD_eq_getElem?_getD, List.getElem?_eq_getElem h, Option.getD_some]
  · have hge : ((b.drop o).take n).length ≤ i := by omega
    simp only [slice, List.getElem_append_right hge, List.getElem_replicate]
    rw [List.getD_eq_getElem?_getD, List.getElem?_eq_none (Nat.le_of_not_lt h), Option.getD_none]

theorem slice_eq_map_getD (b : List Byte) (o n : Nat) :
    slice b o n = (List.range n).map fun i => b.getD (o + i) 0 := by
  apply List.ext_getElem
  · rw [slice_length, List.length_map, List.length_range]
  · intro i hi _
    rw [slice_getElem, List.getElem_map, List.getElem_range]

theorem slice_append_middle (before mid after : List Byte) :
    slice (before ++ mid ++ after) before.length mid.length = mid := by
  have htake : ((before ++ mid ++ after).drop before.length).take mid.length = mid := by
    rw [List.append_assoc, List.drop_left, List.take_left]
  simp only [slice, htake, Nat.sub_self, List.replicate_zero, List.append_nil]

theorem leNat_concat (l : List Byte) (b : Byte) : leNat (l ++ [b]) = leNat l + b.toNat * 256 ^ l.length := by
  induction l with
  | nil => simp only [List.nil_append, leNat, List.length_nil, Nat.pow_zero]; omega
  | cons x r ih =>
    have hshift : b.toNat * 256 ^ (r.length + 1) = 256 * (b.toNat * 256 ^ r.length) := by
      rw [Nat.pow_succ, Nat.mul_comm (256 ^ r.length) 256, Nat.mul_left_comm]
    rw [List.cons_append, leNat, leNat, ih, List.length_cons, hshift, Nat.mul_add, Nat.add_assoc]

/-- The induction takes off the last byte, whose weight is 256 to the number of bytes before it. -/
theorem leNat_map_range (f : Nat → Byte) (n : Nat) :
    leNat ((List.range n).map f) = ((List.range n).map fun i => (f i).toNat * 256 ^ i).sum := by
  induction n with
  | zero => rfl
  | succ n ih =>
    rw [List.range_succ, List.map_append, List.map_append, List.map_singleton, List.map_singleton, leNat_concat, ih,
      List.length_map, List.length_range, List.sum_append, List.sum_singleton]

theorem field_eq_sum (bytes : List Byte) (offset n : Nat) :
    field bytes offset n = ((List.range n).map fun i => (bytes.getD (offset + i) 0).toNat * 256 ^ i).sum := by
  rw [field, slice_eq_map_getD, leNat_map_range]

theorem field_append_leBytes (before after : List Byte) (n v : Nat) :
    field (before ++ leBytes n v ++ after) before.length n = v % 256 ^ n := by
  have hslice := slice_append_middle before (leBytes n v) after
  rw [leBytes_length] at hslice
  rw [field, hslice, leNat_leBytes]

/-- Settles O7: reading by the weights of the bytes, and the round trip of what was written at any offset. -/
theorem fieldsAreLittleEndian : Obligations.FieldsAreLittleEndian :=
  ⟨field_eq_sum, field_append_leBytes⟩

end Sys2Proof.Machine

/-! ### Stops: consequences of `exec_cases` -/

namespace Sys2Proof.Machine
open Sys2Proof

theorem exec_ne_refused (c : Instr) (s : State) (r : Refusal) : exec c s ≠ .refused r := by
  rcases exec_cases c s with ⟨t, hnext⟩ | ⟨hfault, -⟩
  · rw [hnext]; nofun
  · rw [hfault]; nofun

theorem exec_fault_inv {c : Instr} {s : State} {f : Fault} (h : exec c s = .fault f) :
    f = .noSuchUnit ∧ wellFormed c = false := by
  rcases exec_cases c s with ⟨t, hnext⟩ | ⟨hfault, hbad⟩
  · rw [hnext] at h; nomatch h
  · rw [hfault] at h
    cases h
    exact ⟨rfl, hbad⟩

theorem exec_next_of_wellFormed {c : Instr} (hc : wellFormed c = true) (s : State) :
    ∃ t, exec c s = .next t ∧ t.pending = s.pending := by
  rcases exec_cases c s with ⟨t, hnext⟩ | ⟨-, hbad⟩
  · exact ⟨_, hnext, rfl⟩
  · rw [hc] at hbad; nomatch hbad

/-- Settles O4: `exec_cases` leaves a next state or the one fault. That naming a missing unit faults is the model's choice (log entry
156), and so is that an event without its occasion changes nothing and does not stop (log entry 2); the cited rules give only the numbers
of units. -/
theorem onlyMissingUnitsStop : Obligations.OnlyMissingUnitsStop :=
  fun c s => ⟨exec_ne_refused c s, fun _ => exec_fault_inv⟩

theorem step_keeps_queueWellFormed {s : State} (h : queueWellFormed s = true) :
    ∃ t, step s = .next t ∧ queueWellFormed t = true := by
  cases hq : s.pending with
  | nil =>
    refine ⟨s.idle, by rw [step, hq], ?_⟩
    exact h
  | cons c rest =>
    rw [queueWellFormed, hq, List.all_cons, Bool.and_eq_true] at h
    obtain ⟨hc, hrest⟩ := h
    obtain ⟨t, hnext, hpending⟩ := exec_next_of_wellFormed hc { s with pending := rest }
    refine ⟨t, by rw [step, hq]; exact hnext, ?_⟩
    rw [queueWellFormed, hpending]
    exact hrest

theorem safeRun_of_queueWellFormed (n : Nat) (s : State) (h : queueWellFormed s = true) : safeRun n s = true := by
  induction n generalizing s with
  | zero => rfl
  | succ n ih =>
    obtain ⟨t, hstep, ht⟩ := step_keeps_queueWellFormed h
    rw [safeRun, hstep]
    exact ih t ht

/-- Settles O5: a step keeps the queue well formed and answers a next state, and the run follows by induction on the number of steps. That
only a command naming a missing unit stops, and that an event without its occasion goes on, are the model's choices (log entries 156 and
2). -/
theorem wellFormedCommandsNeverStop : Obligations.WellFormedCommandsNeverStop :=
  ⟨fun _ => step_keeps_queueWellFormed, safeRun_of_queueWellFormed⟩

end Sys2Proof.Machine

/-! ### Start-up and firmware: each stage where its conditions hold -/

namespace Sys2Proof.Machine
open Sys2Proof

theorem State.stage1_due {s : State} (hq : s.power.input.qualifiedAt.isSome = true) (hlit : s.boot.lit = false)
    (hf : s.boot.startFault = 0) :
    ¬(s.power.input.qualifiedAt.isNone = true ∨ s.boot.lit = true ∨ s.boot.startFault ≠ 0) := by
  simp [hlit, hf, Option.isSome_iff_ne_none.mp hq]

theorem State.edgeSelfTest_primary {s : State} (results : List EdgeResult) {t u : State} {e : Nat}
    (hq : s.power.input.qualifiedAt.isSome = true) (hlit : s.boot.lit = false) (hf : s.boot.startFault = 0)
    (ht : t = (List.range 4).foldl (fun v e => v.takeEdge results e) s) (hh : (List.range 4).any t.healthyEdge = true)
    (hu : u = State.startLinks (t.modBoot fun b => { b with lit := true }) (List.range 54))
    (he : (List.range 4).find? u.primaryAble = some e) :
    s.edgeSelfTest results =
      State.modBoot { u with fail := { u.fail with primary := e } } fun b => { b with stage1 := true } := by
  unfold State.edgeSelfTest
  rw [if_neg (State.stage1_due hq hlit hf)]
  simp only [← ht, hh, ← hu, he, Bool.not_true, Bool.false_eq_true, if_false]

theorem State.edgeSelfTest_noHealthy {s : State} (results : List EdgeResult) {t : State}
    (hq : s.power.input.qualifiedAt.isSome = true) (hlit : s.boot.lit = false) (hf : s.boot.startFault = 0)
    (ht : t = (List.range 4).foldl (fun v e => v.takeEdge results e) s) (hh : (List.range 4).any t.healthyEdge = false) :
    s.edgeSelfTest results = t.startFault 1 := by
  unfold State.edgeSelfTest
  rw [if_neg (State.stage1_due hq hlit hf)]
  simp only [← ht, hh, Bool.not_false, if_true]

theorem State.becomeLoadReady_eq {s : State} (h1 : s.boot.stage1 = true) (hl : s.boot.loadReady = false) :
    s.becomeLoadReady =
      if s.baseOut 5 = true ∧ s.baseOut 53 = true then s.startFault 2 else s.modBoot fun b => { b with loadReady := true } := by
  rw [State.becomeLoadReady, if_neg (by simp [h1, hl])]

theorem State.stackTraining_eq {s : State} (failed dies lanes : List Nat) {t : State} (h1 : s.boot.stage1 = true)
    (hn : s.boot.trained = false)
    (ht : t = (failed.foldl (fun u x => u.losePair (stackPair x)) (dies.foldl (fun u x => u.markDie (x / 32) (x % 32) 4)
      (lanes.foldl (fun u p => u.laneRepaired p) s))).modBoot (fun b => { b with trained := true })) :
    s.stackTraining failed dies lanes = if t.pairsOut = 2 ^ 10 - 1 then t.startFault 3 else t := by
  rw [State.stackTraining, if_neg (by simp [h1, hn]), ht]

theorem State.imageVerified_load {s : State} (hv : s.boot.verified = false) (hd : s.boot.load.verifying = true) :
    s.imageVerified = s.checkLoad := by
  rw [State.imageVerified, if_pos (by simp [hv, hd])]

theorem State.imageVerified_staging {s : State} (hv : s.boot.verified = true) (hd : s.boot.staging.verifying = true) :
    s.imageVerified = s.checkStaging := by
  rw [State.imageVerified, if_neg (by simp [hv]), if_pos hd]

theorem State.memoryFill_eq {s : State} (micros : Nat) (ht : s.boot.trained = true) (hn : s.boot.fillDone = false) :
    s.memoryFill micros =
      State.modBoot
        { s with mem := { s.mem with
          t1 := [], t2 := [], tags := [], deadBits := [], poison1 := [], raw := []
          pairs := s.mem.pairs.map fun p => { p with errors := [], poison := [] } } }
        fun b => { b with fillDone := true, fillTime := micros } := by
  rw [State.memoryFill, if_neg (by simp [ht, hn])]

theorem State.stationFwStarted_eq {s : State} (hv : s.boot.verified = true) (hd : s.boot.fillDone = true)
    (hn : s.boot.stationsStarted = false) :
    s.stationFwStarted =
      State.modBoot
        { s with fail := { s.fail with
          bases := tmapv s.fail.bases fun st b => if s.baseOut st then b else { b with firmware := s.newestImage }
          stationImage := s.newestImage } }
        fun b => { b with stationsStarted := true } := by
  rw [State.stationFwStarted, if_neg (by simp [hv, hd, hn])]

theorem State.computeSelfTest_eq {s : State} (failed : List Nat) (flash : Nat) {t : State}
    (hs : s.boot.stationsStarted = true) (hn : s.boot.diesTested = false)
    (ht : t = ((failed.filter fun st => (s.die st).mode == .inService).foldl (fun u st => u.dieLost st false) s).modBoot
      (fun b => { b with diesTested := true, flashRead := flash != 3, fellBack := flash == 1, floorMissing := flash == 2,
                         floor := if flash = 2 then 0 else b.floor })) :
    s.computeSelfTest failed flash = if flash = 3 then t.startFault 4 else t := by
  rw [State.computeSelfTest, if_neg (by simp [hs, hn]), ht]

theorem State.coreRelease_eq {s : State} {i : Image} (hn : s.boot.released = false) (hr : s.releasable = true)
    (hb : s.beat.running = true) (hnow : s.now = s.beat.start) (hi : s.boot.running = some i) (hp : s.peal.mode ≠ .asleep) :
    s.coreRelease =
      (s.modBoot fun b =>
        { b with released := true, floor := i.raise s.boot.floor
                 floorMissing := b.floorMissing && !i.raiseFloor }).createDeviceKit.createQueue0 := by
  have hawake (f : BootState → BootState) : (s.modBoot f).peal.mode ≠ .asleep := hp
  rw [State.coreRelease, if_neg (by simp [hn, hr, hb, hnow])]
  simp only [hi, Option.map_some, Option.getD_some, Option.any_some, hawake, if_false]

theorem State.liveUpdateCheck_keeps {s : State} {u : LiveUpdate} {at_ : Nat} {i : Image} (hu : s.boot.liveUpdate = some u)
    (ha : u.restartedAt = some at_) (hi : s.boot.staged = some i) :
    s.liveUpdateCheck true =
      ((((s.clockTo (at_ + 15000)).modBoot fun b => { b with liveUpdate := none }).modBoot fun b =>
        { b with running := some i, load := b.staging, floor := i.raise s.boot.floor
                 floorMissing := b.floorMissing && !i.raiseFloor }).completeId u.command stOk 0 0) := by
  simp only [State.liveUpdateCheck, hu, ha, hi]

theorem State.liveUpdateCheck_rejects {s : State} {u : LiveUpdate} {at_ : Nat} (hu : s.boot.liveUpdate = some u)
    (ha : u.restartedAt = some at_) :
    s.liveUpdateCheck false =
      ((((s.clockTo (at_ + 15000)).modBoot fun b => { b with liveUpdate := none }).rejectImage 9).completeId
        u.command stImageRejected 0 0) := by
  simp only [State.liveUpdateCheck, hu, ha]

theorem State.stationUpdateNext_cons {s : State} {u : StationUpdate} {st : Nat} {rest : List Nat}
    (hu : s.fail.stationUpdate = some u) (hr : u.restarting = none) (hrest : s.updateRest u = st :: rest) :
    s.stationUpdateNext =
      { s with fail := { s.fail with
        stationUpdate := some { u with restarting := some (st, s.now), again := u.again.filter (· != st) } } } := by
  simp only [State.stationUpdateNext, hu, hr, hrest, Option.isSome_none, Bool.false_eq_true, if_false]

theorem State.stationUpdateNext_nil {s : State} {u : StationUpdate} (hu : s.fail.stationUpdate = some u)
    (hr : u.restarting = none) (hrest : s.updateRest u = []) : s.stationUpdateNext = s.endUpdate := by
  simp only [State.stationUpdateNext, hu, hr, hrest, Option.isSome_none, Bool.false_eq_true, if_false]

theorem State.stationControllerRestart_fails {s : State} {u : StationUpdate} {st at_ : Nat} {b : BaseDie}
    (hu : s.fail.stationUpdate = some u) (hr : u.restarting = some (st, at_)) (hb : tget s.fail.bases st = some b) :
    s.stationControllerRestart false =
      State.completeId { s with fail := { s.fail with stationUpdate := none, stationImage := b.firmware } }
        u.command stImageRejected 0 0 := by
  simp only [State.stationControllerRestart, hu, hr, hb, Option.map_some, Option.getD_some, Bool.false_eq_true, if_false]

theorem State.stationControllerRestart_starts {s : State} {u v : StationUpdate} {st at_ : Nat} {t w : State}
    (hu : s.fail.stationUpdate = some u) (hr : u.restarting = some (st, at_))
    (hv : v = { u with restarting := none, next := max u.next (st + 1) })
    (ht : t = (s.modBase st fun b => { b with firmware := u.image }).logFailure 0x19 st 0xFF)
    (hw : w = { t with fail := { t.fail with stationUpdate := some v } }) :
    s.stationControllerRestart true = if (w.updateRest v).isEmpty then w.endUpdate else w := by
  subst hw ht hv
  simp only [State.stationControllerRestart, hu, hr, if_true]

/-- Settles O59: each clause is the equation of its event's own function under the clause's conditions. The clauses rest on choices of
the model: what the fill clears (log entries 50 and 112), and the order and the failed restart of a rolling station update (139). -/
theorem startUpEventsHappen : Obligations.StartUpEventsHappen := by
  refine ⟨?primary, ?noEdge, ?loadReady, ?training, ?load, ?staging, ?fill, ?stations, ?dies, ?release, ?kept, ?rejected,
    ?nextStation, ?lastStation, ?failedStation, ?startedStation⟩
  case primary =>
    intro results e t u s hq hlit hf ht hh hu he
    exact leads_of rfl (State.edgeSelfTest_primary results hq hlit hf ht hh hu he)
  case noEdge =>
    intro results t s hq hlit hf ht hh
    exact leads_of rfl (State.edgeSelfTest_noHealthy results hq hlit hf ht hh)
  case loadReady =>
    intro s h1 hl
    have heq := State.becomeLoadReady_eq h1 hl
    exact ⟨fun h5 h53 => leads_of rfl (heq.trans (if_pos ⟨h5, h53⟩)), fun hin => leads_of rfl (heq.trans (if_neg hin))⟩
  case training =>
    intro failed dies lanes t s h1 hn ht
    exact leads_of rfl (State.stackTraining_eq failed dies lanes h1 hn ht)
  case load => exact fun s hv hd => leads_of rfl (State.imageVerified_load hv hd)
  case staging => exact fun s hv hd => leads_of rfl (State.imageVerified_staging hv hd)
  case fill =>
    intro micros s ht hn
    exact ⟨_, leads_of rfl (State.memoryFill_eq micros ht hn), rfl, rfl, rfl, rfl, rfl, rfl, rfl, rfl⟩
  case stations =>
    intro s hv hd hn
    exact ⟨_, leads_of rfl (State.stationFwStarted_eq hv hd hn), rfl, rfl, rfl⟩
  case dies =>
    intro failed flash t s hs hn ht
    exact leads_of rfl (State.computeSelfTest_eq failed flash hs hn ht)
  case release =>
    rintro i t s hn hr hb hnow hi hp rfl
    exact leads_of rfl (State.coreRelease_eq hn hr hb hnow hi hp)
  case kept =>
    rintro u at_ i t s hu ha hi rfl
    exact leads_of rfl (State.liveUpdateCheck_keeps hu ha hi)
  case rejected =>
    rintro u at_ t s hu ha rfl
    exact leads_of rfl (State.liveUpdateCheck_rejects hu ha)
  case nextStation => exact fun u st rest s hu hr hrest => leads_of rfl (State.stationUpdateNext_cons hu hr hrest)
  case lastStation => exact fun u s hu hr hrest => leads_of rfl (State.stationUpdateNext_nil hu hr hrest)
  case failedStation => exact fun u st at_ b s hu hr hb => leads_of rfl (State.stationControllerRestart_fails hu hr hb)
  case startedStation =>
    intro u v st at_ t w s hu hr hv ht hw
    exact leads_of rfl (State.stationControllerRestart_starts hu hr hv ht hw)

end Sys2Proof.Machine

/-! ### The beat and the Almanac: commands (02) -/

namespace Sys2Proof.Machine
open Sys2Proof

/-- With nothing waiting the step is `State.idle`. -/
theorem step_of_pending_nil {s : State} (h : s.pending = []) : step s = .next s.idle := by
  rw [step, h]

/-- Settles O2: that the step of an empty queue is 10 ns of time is the model's choice (log entry 1). -/
theorem stepWithoutACommandLetsTimePass : Obligations.StepWithoutACommandLetsTimePass :=
  fun _ => step_of_pending_nil

/-- Settles O6: `State.reset` lists every field. Values at power-up that the spec does not give are the model's choice (log entry 7). -/
theorem resetHoldsNoWork : Obligations.ResetHoldsNoWork :=
  ⟨rfl, rfl, rfl, rfl, rfl, rfl, rfl, rfl, rfl, rfl, rfl, rfl, rfl, rfl, rfl, rfl, rfl, rfl, rfl, rfl, rfl⟩

/-- The two refusals for a block that parameter `k` names do not apply to one that is well placed and reachable. -/
theorem Call.noneApplies_block {c : Call} {s : State} {k n align : Nat} (hplace : c.blockBad s k n align = false)
    (hup : c.domainDown s k = false) :
    noneApplies [(c.blockBad s k n align, c.bad k), (c.domainDown s k, plain stCoherentDown)] :=
  noneApplies_cons.mpr ⟨hplace, noneApplies_cons.mpr ⟨hup, noneApplies_nil⟩⟩

theorem Call.takesResult.noneApplies {c : Call} {s : State} {k n : Nat} (h : c.takesResult s k n) :
    noneApplies (c.resultGuards s k n) :=
  Call.noneApplies_block h.1 h.2

theorem noneApplies_singleton {b : Bool} {v : Verdict} : noneApplies [(b, v)] ↔ b = false :=
  noneApplies_cons.trans (and_iff_left noneApplies_nil)

theorem almanacReadEffect_done {c : Call} {s : State} (hfirst : c.arg 0 < 65536) (hpos : 1 ≤ c.arg 1)
    (hend : c.arg 0 + c.arg 1 ≤ 65536)
    (howner : c.physical = true ∨ ∀ i, i < c.arg 1 → s.entryOwner (c.arg 0 + i) = c.partition)
    (hr : c.takesResult s 2 (32 * c.arg 1)) :
    almanacReadEffect c s = .done (s.writeResult (c.arg 2)
      ((List.range (c.arg 1)).flatMap fun i => (tgetD s.almanac.view (c.arg 0 + i) AlmanacEntry.zero).bytes)) 0 := by
  have hmin : min (c.arg 1) 65536 = c.arg 1 := by omega
  have hallowed (i : Nat) (hi : i < c.arg 1) : (!c.physical && s.entryOwner (c.arg 0 + i) != c.partition) = false := by
    rcases howner with hp | ho
    · simp [hp]
    · simp [ho i hi]
  have hnone : (List.range (c.arg 1)).any (fun i => !c.physical && s.entryOwner (c.arg 0 + i) != c.partition) = false :=
    List.any_eq_false.mpr fun i hi => by simp only [hallowed i (List.mem_range.mp hi), Bool.false_eq_true, not_false_eq_true]
  rw [almanacReadEffect]
  simp only [hmin]
  refine guards_of_none (noneApplies_append.mpr ⟨?_, hr.noneApplies⟩)
  refine noneApplies_cons.mpr ⟨?first, noneApplies_singleton.mpr ?count⟩
  case first => simp only [hallowed 0 hpos, Bool.or_false, decide_eq_false_iff_not]; omega
  case count => simp only [hnone, Bool.or_false, Bool.or_eq_false_iff, beq_eq_false_iff_ne, decide_eq_false_iff_not]; omega

theorem almanacDisarmEffect_done {c : Call} {s : State} (h : s.almanac.mode ≠ .disarmed) :
    almanacDisarmEffect c s = .done { s with almanac := { s.almanac with disarmAtDownbeat := true } } 0 :=
  guards_of_none (noneApplies_singleton.mpr (by simp [State.almanacOn, h]))

theorem timeSetSourceEffect_done {c : Call} {s : State} (hsource : c.arg 0 ≤ 1) (hdomain : c.arg 1 ≤ 127) (hon : c.arg 2 ≤ 1)
    (hlead : s.notLeader = none) :
    timeSetSourceEffect c s = .done
      (if s.beat.ptp.source = c.arg 0 ∧ s.beat.ptp.domain = c.arg 1 ∧ s.beat.ptp.enabled = (c.arg 2 == 1) then s
        else { s with beat := { s.beat with ptp :=
          { PtpState.reset with source := c.arg 0, domain := c.arg 1, enabled := c.arg 2 == 1 } } }) 0 := by
  have hparams : noneApplies [(decide (1 < c.arg 0), c.bad 0), (decide (127 < c.arg 1), c.bad 1), (decide (1 < c.arg 2), c.bad 2)] :=
    noneApplies_cons.mpr ⟨decide_eq_false (by omega),
      noneApplies_cons.mpr ⟨decide_eq_false (by omega), noneApplies_singleton.mpr (decide_eq_false (by omega))⟩⟩
  simp only [timeSetSourceEffect, hlead, List.append_nil]
  rw [guards_of_none hparams]
  by_cases hsame : s.beat.ptp.source = c.arg 0 ∧ s.beat.ptp.domain = c.arg 1 ∧ s.beat.ptp.enabled = (c.arg 2 == 1)
  · rw [if_pos hsame]
    simp [hsame]
  · rw [if_neg hsame]
    simp [and_assoc, hsame]

theorem overrunSetPolicyEffect_done {c : Call} {s : State} {k : Kit} (hk : s.kit (c.arg 0) = some k)
    (hkit : noneApplies (c.kitNamed s false ++ c.kitLost s)) (hpolicy : c.arg 1 ≤ 2) (hlimit : c.arg 2 ≠ 0)
    (hbatch : c.arg 1 = 2 → (∀ p, k.placement = some p → p.batch = none) ∧ ∀ p, k.next = some p → p.batch = none) :
    overrunSetPolicyEffect c s =
      .done (s.modKit (c.arg 0) fun x => { x with stagedPolicy := some (c.arg 1, c.arg 2) }) 0 := by
  obtain ⟨hnamed, hlost⟩ := noneApplies_append.mp hkit
  have hparams : noneApplies [(decide (2 < c.arg 1), c.bad 1), (c.arg 2 == 0, c.bad 2)] :=
    noneApplies_cons.mpr ⟨decide_eq_false (by omega), noneApplies_singleton.mpr (beq_eq_false_iff_ne.mpr hlimit)⟩
  have hnoBatch (o : Option Placement) (h : ∀ p, o = some p → p.batch = none) : (o.any fun p => p.batch.isSome) = false := by
    cases o with
    | none => rfl
    | some p => simp [h p rfl]
  have hconflict : ((s.kit (c.arg 0)).isNone || (c.arg 1 == 2 && (s.kit (c.arg 0)).any fun x =>
      x.placement.any (·.batch.isSome) || x.next.any (·.batch.isSome))) = false := by
    rw [hk]
    by_cases h2 : c.arg 1 = 2
    · simp [hnoBatch _ (hbatch h2).1, hnoBatch _ (hbatch h2).2]
    · simp [h2]
  exact guards_of_none (noneApplies_append.mpr ⟨noneApplies_append.mpr ⟨noneApplies_append.mpr ⟨hnamed, hparams⟩, hlost⟩,
    noneApplies_singleton.mpr hconflict⟩)

/-- Settles O23: each command's own effect is done once none of its refusals applies. The order of TIME_QUERY's fields is the model's
choice (log entry 76), and so are what ALMANAC_READ shows and that ALMANAC_DISARM conflicts in DISARMED (log entry 93). -/
theorem almanacAndBeatCommandsComplete : Obligations.AlmanacAndBeatCommandsComplete := by
  refine ⟨⟨?write, ?read, ?arm, ?disarm⟩, ?period, ?source, ?query, ?policy⟩
  case write => exact completes_of (fun _ _ _ => rfl) nofun fun _ _ h => guards_of_none h
  case read =>
    refine completes_of (fun _ _ _ => rfl) nofun ?_
    rintro c s ⟨hfirst, hpos, hend, howner, hr⟩
    exact almanacReadEffect_done hfirst hpos hend howner hr
  case arm => exact completes_of (fun _ _ _ => rfl) nofun fun _ _ h => guards_of_none h
  case disarm => exact completes_of (fun _ _ _ => rfl) nofun fun c _ h => almanacDisarmEffect_done (c := c) h
  case period => exact completes_of (fun _ _ _ => rfl) nofun fun _ _ h => guards_of_none h
  case source =>
    refine completes_of (fun _ _ _ => rfl) nofun ?_
    rintro c s ⟨hsource, hdomain, hon, hlead⟩
    exact timeSetSourceEffect_done hsource hdomain hon hlead
  case query => exact completes_of (fun _ _ _ => rfl) nofun fun _ _ h => guards_of_none h.noneApplies
  case policy =>
    refine completes_of (fun _ _ _ => rfl) nofun ?_
    rintro c s ⟨k, hk, hkit, hpolicy, hlimit, hbatch⟩
    exact overrunSetPolicyEffect_done hk hkit hpolicy hlimit hbatch

end Sys2Proof.Machine

/-! ### DMA_COPY and RING_SEND (11 R283, 16 R383) -/

namespace Sys2Proof.Machine
open Sys2Proof

theorem dmaCopyEffect_eq {c : Call} {s : State} (hplace : c.blockBad s 0 64 64 = false) (hup : c.domainDown s 0 = false) :
    dmaCopyEffect c s = if s.beat.phase = .guard then .defer s (.startTransfer false (c.arg 0)) 0 else c.startDma s :=
  guards_of_none (Call.noneApplies_block hplace hup)

theorem ringSendEffect_eq {c : Call} {s : State} (hplace : c.blockBad s 0 128 128 = false) (hup : c.domainDown s 0 = false) :
    ringSendEffect c s = if s.beat.phase = .guard then .defer s (.startTransfer true (c.arg 0)) 0 else c.startRing s :=
  guards_of_none (Call.noneApplies_block hplace hup)

/-- A property that no object of either of two handles has is that of none of the objects which they name. -/
theorem State.owners_any_false {s : State} {g h : Nat} {bad : Nat × Object → Bool}
    (hgood : ∀ x o, x = g ∨ x = h → s.objectOf x = some o → bad o = false) :
    ([g, h].filterMap fun x => s.objectOf x).any bad = false := by
  rw [List.any_eq_false]
  intro o hmem
  obtain ⟨x, hx, ho⟩ := List.mem_filterMap.mp hmem
  rw [hgood x o (by simpa using hx) ho]
  exact Bool.false_ne_true

theorem State.owners_find_none {s : State} {g h : Nat}
    (hserve : ∀ x, x = g ∨ x = h → ∀ i o, s.objectOf x = some (i, o) → s.lostContext o.context = false ∧ o.mode ≠ .retiring) :
    (([g, h].filterMap fun x => s.objectOf x).find? fun o => s.lostContext o.2.context || o.2.mode == .retiring) = none :=
  List.find?_eq_none.mpr <| List.any_eq_false.mp <| State.owners_any_false fun x o hx ho => by
    obtain ⟨hlost, hmode⟩ := hserve x hx o.1 o.2 ho
    rw [hlost, beq_eq_false_iff_ne.mpr hmode, Bool.or_self]

theorem Call.startDma_defer {c : Call} {s : State} {b : List Byte} (hb : b = s.sysRead (c.arg 0) 64)
    (hcheck : s.dmaCheck c.physical c.partition b = none) (hdown : s.dmaDomainDown b = false)
    (hserve : ∀ h, h = (descriptor b).srcHandle ∨ h = (descriptor b).dstHandle →
      ∀ i o, s.objectOf h = some (i, o) → s.lostContext o.context = false ∧ o.mode ≠ .retiring) :
    c.startDma s = .defer
      (s.beginTransfer { descriptor b with
        command := some c.cmd.id, context := c.context, partition := c.partition, function := c.function })
      (.transfer s.nextId) 0 := by
  subst hb
  simp only [Call.startDma, hcheck, hdown, Bool.false_eq_true, if_false, State.owners_find_none hserve]

theorem Call.startRing_defer {c : Call} {s : State} {b : List Byte} {t : Transfer} (hb : b = s.sysRead (c.arg 0) 128)
    (ht : t = s.ringTransfer b) (hcheck : s.ringCheck c.physical c.partition b = none)
    (hup : sideCoherent t.srcSpace 1 t.srcRow = true → s.cijan.mode = .up)
    (hserve : t.srcSpace = 1 → ∀ i o, s.objectOf t.srcHandle = some (i, o) → s.lostContext o.context = false ∧ o.mode ≠ .retiring)
    (hlock : s.beat.lock ≠ .free) (hpath : s.ringBlocked t = none) :
    c.startRing s = .defer
      (s.beginRing { t with command := some c.cmd.id, context := c.context, partition := c.partition, function := c.function })
      (.transfer s.nextId) 0 := by
  have hcoherent : (sideCoherent t.srcSpace 1 t.srcRow && s.cijan.mode != .up) = false := by
    cases hside : sideCoherent t.srcSpace 1 t.srcRow with
    | false => rfl
    | true => simp [hup hside]
  subst ht hb
  simp only [Call.startRing, hcheck, hcoherent, Bool.false_eq_true, if_false]
  split
  next i o hown =>
    obtain ⟨hspace, hobj⟩ := Option.ite_none_right_eq_some.mp hown
    obtain ⟨hlost, hmode⟩ := hserve hspace i o hobj
    simp only [hlost, hmode, hlock, hpath, Bool.false_eq_true, if_false]
  next => simp only [hlock, hpath, if_false]

/-- Settles O24: a transfer that is read in GUARD is deferred by the command itself, one read at another time by its start. -/
theorem transferCommandsComplete : Obligations.TransferCommandsComplete := by
  refine ⟨?dmaGuard, ?dmaNow, ?ringGuard, ?ringNow⟩
  case dmaGuard =>
    refine waits_of (fun _ _ _ => rfl) nofun ?_
    rintro c s ⟨hplace, hup, hguard⟩
    exact (dmaCopyEffect_eq hplace hup).trans (if_pos hguard)
  case dmaNow =>
    refine waits_of (fun _ _ _ => rfl) nofun ?_
    rintro c s ⟨hplace, hup, hphase, hcheck, hdown, hserve⟩
    exact ((dmaCopyEffect_eq hplace hup).trans (if_neg hphase)).trans (Call.startDma_defer rfl hcheck hdown hserve)
  case ringGuard =>
    refine waits_of (fun _ _ _ => rfl) nofun ?_
    rintro c s ⟨hplace, hup, hguard⟩
    exact (ringSendEffect_eq hplace hup).trans (if_pos hguard)
  case ringNow =>
    refine waits_of (fun _ _ _ => rfl) nofun ?_
    rintro c s ⟨hplace, hup, hphase, hcheck, hcoherent, hserve, hlock, hpath⟩
    exact ((ringSendEffect_eq hplace hup).trans (if_neg hphase)).trans
      (Call.startRing_defer rfl rfl hcheck hcoherent hserve hlock hpath)

end Sys2Proof.Machine

/-! ### The instants of a beat (02 R30 to R43, R53 to R56; 10 R247, R257) -/

namespace Sys2Proof.Machine
open Sys2Proof

theorem State.downbeat_eq (effect : Op → Call → State → Verdict) {s : State} (hr : s.beat.running = true)
    (hd : s.almanac.due = []) :
    s.downbeat effect =
      (let settled := s.endBeat.nextBeat.applyPeriod.settleOverruns s.beat.number
       let changed := settled.pealDownbeat.failureDownbeat.applySettings.applyKits.functionsDownbeat
       let launched := changed.applyPower.liveUpdateDownbeat.launchAll
       (((launched.almanacDownbeat launched.beat.number).startDeferred effect).startHeld effect).slewNext.snapshot) := by
  rw [State.downbeat, if_neg (by simp [hr, hd])]

theorem State.stepBuilderWalk_eq {s : State} (late : List Nat) (hr : s.beat.running = true) (hb : s.beat.building = false) :
    s.stepBuilderWalk late = (s.kits.map (·.1)).foldl (fun u k => u.walkKit (s.beat.number + 1) (late.contains k) k)
      (s.clockTo (max s.beat.start (s.nextDownbeat - s.nextBuildLen))).beginBuild := by
  rw [State.stepBuilderWalk, if_neg (by simp [hr, hb])]
  rfl

theorem State.selectionDeadline_eq {s : State} (hb : s.beat.building = true) :
    s.selectionDeadline = (s.kits.map (·.1)).foldl (fun s k => s.dropUnselected k) (s.clockTo (s.nextDownbeat - 100)) := by
  rw [State.selectionDeadline, if_neg (by simp [hb])]
  rfl

theorem State.selectionPublished_eq {s : State} {kit q : Nat} {k : Kit} {c : Composed} {p : Placement} {d : StepDesc}
    (hk : s.kit kit = some k) (hc : k.composed = some c) (hp : k.placement = some p)
    (hd : c.steps.find? (fun d => d.seq == q && d.sparse && !d.selected) = some d) :
    s.selectionPublished kit q =
      ((s.publishSelection k p d).modKit kit fun k =>
        { k with composed := some
                  { c with steps := c.steps.map fun x => if x.seq = q then { x with selected := true } else x } }).finalise kit := by
  simp only [State.selectionPublished, hk, hc, hp, hd]

theorem State.guardStart_eq {s : State} (hr : s.beat.running = true) (hw : s.beat.phase = .work) :
    s.guardStart =
      { s.clockTo (s.beat.start + s.beat.period - s.guardLen) with
        beat := { s.beat with phase := .guard }
        lists := s.lists.map fun l => if l.finished then { l with finishedAtGuard := true } else l } := by
  rw [State.guardStart, if_neg (by simp [hr, hw])]
  rfl

theorem State.transferDeadline_eq {s : State} {id : Nat} {x : Transfer} (hx : s.transfer id = some x) (ha : x.almanac ≠ none)
    (hl : x.late = false) (hk : x.kit = none) :
    s.transferDeadline id =
      (let t := s.modTransfer id fun t => { t with late := true }
       { t with beat := { t.beat with transferOverrun := t.beat.transferOverrun + 1 } }) := by
  simp only [State.transferDeadline, hx, hk]
  rw [if_neg (by simp [ha, hl])]

theorem State.holdoverTimeout_eq {s : State} (h : s.beat.lock = .holdover) :
    s.holdoverTimeout =
      State.notice { s.clockTo (s.beat.holdoverSince + 100000000) with beat := { s.beat with lock := .free } }
        .companion 0x000C stOk 65535 0 0 0 := by
  rw [State.holdoverTimeout, if_neg (not_not_intro h)]
  rfl

theorem State.timingLost_last {s : State} {direction : Nat} (hi : s.beat.timingInputs = [direction])
    (hl : s.beat.lock = .locked) (hp : 1 < s.pealSize) :
    s.timingLost direction =
      { s with beat := { s.beat with timingInputs := [], lock := .holdover, holdoverSince := s.now } } := by
  have hleft : [direction].filter (· != direction) = [] := by simp
  rw [State.timingLost, if_neg (by simp [hi])]
  simp only [hi, hleft, hl, hp, List.isEmpty_nil, BEq.rfl, decide_true, Bool.and_self, if_true]

theorem addOnce_ne_nil (l : List Nat) (k : Nat) : addOnce l k ≠ [] := by
  unfold addOnce
  split
  next h => exact List.ne_nil_of_mem (List.contains_iff_mem.mp h)
  next => exact List.concat_ne_nil k l

theorem State.relock_eq {s : State} (hl : s.beat.lock ≠ .locked) (hi : s.beat.timingInputs ≠ []) (ho : s.beat.offset.natAbs ≤ 8) :
    s.relock = { s with beat := { s.beat with lock := .locked } } := by
  rw [State.relock, if_pos ⟨hl, by simp [hi], ho⟩]

theorem State.timingRestored_locked {s : State} (direction : Nat) (hl : s.beat.lock ≠ .locked)
    (ho : s.beat.offset.natAbs ≤ 8) :
    s.timingRestored direction =
      { s with beat := { s.beat with timingInputs := addOnce s.beat.timingInputs direction, lock := .locked } } :=
  State.relock_eq hl (addOnce_ne_nil _ _) ho

theorem State.ptpMessage_twoStepSync {s : State} {m : PtpMessage} (he : s.beat.ptp.enabled = true)
    (hs : s.beat.ptp.source = 1) (hd : m.domain = s.beat.ptp.domain) (hk : m.kind = 0) (ht : m.twoStep = true) :
    s.ptpMessage m =
      { s with beat := { s.beat with ptp := { s.beat.ptp with
        syncSeq := m.sequence, syncRx := m.received, awaitFollowUp := true,
        port := if s.beat.ptp.port = PtpPort.listening then .uncalibrated else s.beat.ptp.port } } } := by
  rw [State.ptpMessage, if_neg (by simp [he, hs, hd])]
  simp only [hk, ht, if_true]

/-- Settles O45: each clause is the equation of its event's own function under the clause's conditions. The order of the downbeat's
effects and how HOLDOVER is left are the model's choices (log entries 95 and 98). The Sync is a two-step one: it is recorded, and its
Follow_Up awaited. -/
theorem beatEventsHappen : Obligations.BeatEventsHappen := by
  refine ⟨?downbeat, ?build, ?deadline, ?published, ?guard, ?late, ?free, ?lost, ?restored, ?sync⟩
  case downbeat => exact fun s hr hd => leads_of rfl (State.downbeat_eq effectOf hr hd)
  case build =>
    exact fun late s hr hb => ⟨_, leads_of rfl (congrArg State.settleInbounds (State.stepBuilderWalk_eq late hr hb)), rfl⟩
  case deadline => exact fun s hb => leads_of rfl (State.selectionDeadline_eq hb)
  case published => exact fun kit q k c p d s hk hc hp hd => leads_of rfl (State.selectionPublished_eq hk hc hp hd)
  case guard => exact fun s hr hw => ⟨_, leads_of rfl (State.guardStart_eq hr hw), rfl, rfl, rfl⟩
  case late => exact fun id x s hx ha hl hk => leads_of rfl (State.transferDeadline_eq hx ha hl hk)
  case free => exact fun s h => ⟨_, leads_of rfl (State.holdoverTimeout_eq h), rfl, rfl⟩
  case lost =>
    exact fun direction s hdir hi hl hp => leads_at rfl (decide_eq_true hdir) (State.timingLost_last hi hl hp)
  case restored =>
    exact fun direction s hdir hl ho => leads_at rfl (decide_eq_true hdir) (State.timingRestored_locked direction hl ho)
  case sync => exact fun m s he hs hd hk ht => leads_of rfl (State.ptpMessage_twoStepSync he hs hd hk ht)

end Sys2Proof.Machine

/-! ### The actions of the Almanac (02 R42, R45 to R47, R54) -/

namespace Sys2Proof.Machine
open Sys2Proof

/-- The action at the front of those that are due has its turn at its slot. -/
theorem State.turn_front {s : State} {x : AlmanacIssue} {rest : List AlmanacIssue} (hd : s.almanac.due = x :: rest) :
    s.turn x.index = some
      { s := { s.clockTo (s.beat.start + x.slot) with almanac := { s.almanac with due := rest } }
        entry := s.almanac.entry x.index
        late := decide (s.beat.start + x.slot + 25 < s.now) } := by
  simp only [State.turn, hd, ne_eq, not_true_eq_false, if_false]

/-- An action that has its turn in time, of its own kind and with its target in service, acts. -/
theorem State.issue_onTime {s : State} {i action : Nat} {u : Turn} (launches : Bool) (skip act : State → AlmanacEntry → State)
    (hu : s.turn i = some u) (ha : u.entry.action = action) (hon : u.s.actionOff u.entry = false) (hl : u.late = false) :
    s.issue i action launches skip act = act u.s u.entry := by
  simp only [State.issue, hu, ha, hon, hl, Turn.missed, ne_eq, not_true_eq_false, Bool.false_and, Bool.and_false,
    Bool.false_eq_true, if_false]

theorem State.launchAction_onTime {s : State} {i : Nat} {u : Turn} {k : Kit} (hu : s.turn i = some u) (ha : u.entry.action = 1)
    (hon : u.s.actionOff u.entry = false) (hl : u.late = false) (hk : u.s.targetKit u.entry = some k) (hm : k.mode = .admitted)
    (hh : k.heldFrom = none) (hf : u.s.lists.any (fun l => l.kit == k.id && l.repeat_ && l.cancelled) = false)
    (hr : u.s.repeating k.id = false) (hz : u.s.frozenKit k.id = false)
    (hg : u.s.listGood k u.entry.arg0 (u.entry.arg1 % 65536) [] = true) :
    s.launchAction i = u.s.launch k.id k.context u.entry.arg0
      ((u.s.listRecords u.entry.arg0 (u.entry.arg1 % 65536)).map TaskRecord.ofBytes) (.almanac i) [] 0 [] := by
  rw [State.launchAction, State.issue_onTime _ _ _ hu ha hon hl]
  simp only [hk]
  rw [if_neg (by simp [hm, hh, hf, hr, hz]), if_neg (by simp [hg])]

/-- A descriptor that fails its check gives its status to the Chime of the action. -/
theorem State.dmaAction_refused {s : State} {i st d : Nat} {u : Turn} (hu : s.turn i = some u) (ha : u.entry.action = 2)
    (hon : u.s.actionOff u.entry = false) (hl : u.late = false)
    (hp : u.s.descriptorPlace u.entry.partition u.entry.arg0 64 64 = true) (hc : isCoherent u.entry.arg0 = false)
    (hcheck : u.s.dmaCheck ((u.s.context u.entry.context).function == 0) u.entry.partition (u.s.sysRead u.entry.arg0 64) =
      some (st, d)) :
    s.dmaAction i = u.s.setError u.entry.arg1 st := by
  rw [State.dmaAction, State.issue_onTime _ _ _ hu ha hon hl]
  simp only [hp, hc, hcheck, Bool.not_true, Bool.false_and, Bool.false_eq_true, if_false]

theorem State.dmaAction_begins {s : State} {i : Nat} {u : Turn} {b : List Byte} (hu : s.turn i = some u)
    (ha : u.entry.action = 2) (hon : u.s.actionOff u.entry = false) (hl : u.late = false)
    (hp : u.s.descriptorPlace u.entry.partition u.entry.arg0 64 64 = true) (hc : isCoherent u.entry.arg0 = false)
    (hb : b = u.s.sysRead u.entry.arg0 64)
    (hcheck : u.s.dmaCheck ((u.s.context u.entry.context).function == 0) u.entry.partition b = none)
    (hdown : u.s.dmaDomainDown b = false)
    (hserve : ∀ h o, h = (Machine.descriptor b).srcHandle ∨ h = (Machine.descriptor b).dstHandle →
      u.s.objectOf h = some o → u.s.lostContext o.2.context = false ∧ o.2.mode ≠ .retiring) :
    s.dmaAction i = u.s.beginTransfer { Machine.descriptor b with
      almanac := some i, context := u.entry.context, partition := u.entry.partition
      function := (u.s.context u.entry.context).function, kit := some u.entry.target
      chime := some (u.entry.arg1,
        BitVec.ofNat 64 (field b 56 8 + if bit (field b 0 1) 1 then u.s.beat.number else 0))
      span := u.entry.span } := by
  subst hb
  have hlost := State.owners_any_false (bad := fun o => u.s.lostContext o.2.context) fun h o hh ho => (hserve h o hh ho).1
  have hretiring := State.owners_any_false (bad := fun o => o.2.mode == .retiring) fun h o hh ho =>
    beq_eq_false_iff_ne.mpr (hserve h o hh ho).2
  rw [State.dmaAction, State.issue_onTime _ _ _ hu ha hon hl]
  simp only [hp, hc, hcheck, hdown, hlost, hretiring, Bool.not_true, Bool.false_and, Bool.false_eq_true, if_false]

theorem State.ringAction_begins {s : State} {i : Nat} {u : Turn} {b : List Byte} (hu : s.turn i = some u)
    (ha : u.entry.action = 3) (hon : u.s.actionOff u.entry = false) (hl : u.late = false) (hb : b = u.s.sysRead u.entry.arg0 128)
    (hcheck : u.s.ringActionFault u.entry ((u.s.context u.entry.context).function == 0) b = none) :
    s.ringAction i = u.s.beginRing { u.s.ringTransfer b with
      almanac := some i, context := u.entry.context, partition := u.entry.partition
      function := (u.s.context u.entry.context).function, kit := some u.entry.target
      chime := some (u.entry.arg1,
        BitVec.ofNat 64 (field b 56 8 + if bit (field b 0 1) 1 then u.s.beat.number else 0))
      span := u.entry.span } := by
  subst hb
  rw [State.ringAction, State.issue_onTime _ _ _ hu ha hon hl]
  simp only [hcheck]

theorem State.signalAction_onTime {s : State} {i : Nat} {u : Turn} (hu : s.turn i = some u) (ha : u.entry.action = 4)
    (hon : u.s.actionOff u.entry = false) (hl : u.late = false) :
    s.signalAction i = u.s.issueSignal u.entry.target
      (BitVec.ofNat 64 (u.entry.arg0 + if bit u.entry.arg1 0 then u.s.beat.number else 0)) 0 :=
  State.issue_onTime _ _ _ hu ha hon hl

theorem State.sampleAction_onTime {s : State} {i : Nat} {u : Turn} (hu : s.turn i = some u) (ha : u.entry.action = 5)
    (hon : u.s.actionOff u.entry = false) (hl : u.late = false) :
    s.sampleAction i =
      (let n := tgetD u.s.almanac.samples i 0
       let bytes := u.s.telemetryBytes (u.entry.arg1 % 16) (if u.entry.targetKind = 0 then some u.entry.target else none) n
       let t := u.s.sysWrite (u.entry.arg0 + 128 * (n % (u.entry.arg1 / 65536))) bytes
       { t with almanac := { t.almanac with samples := tset t.almanac.samples i (n + 1) } }) :=
  State.issue_onTime _ _ _ hu ha hon hl

/-- A signal with no earlier one of its source for the same Chime on the way is applied. -/
theorem State.signalArrives_eq {s : State} {position : Nat} {g : Signal} (hg : s.signals[position]? = some g)
    (hfirst : g.source ≠ 0 → ∀ h ∈ s.signals.take position, h.source = g.source → h.chime ≠ g.chime) :
    s.signalArrives position = ({ s with signals := s.signals.eraseIdx position }).applySignal g := by
  have hnone : ¬(g.source ≠ 0 ∧ ((s.signals.take position).any fun h => h.source == g.source && h.chime == g.chime) = true) := by
    rintro ⟨hsource, hany⟩
    obtain ⟨h, hmem, heq⟩ := List.any_eq_true.mp hany
    obtain ⟨hs, hc⟩ := (Bool.and_eq_true _ _).mp heq
    exact hfirst hsource h hmem (beq_iff_eq.mp hs) (beq_iff_eq.mp hc)
  simp only [State.signalArrives, hg]
  rw [if_neg hnone]

/-- Settles O46: an action on time is what its own function does at its turn. That a transfer starts at its slot, whatever engines are
free, is the model's choice (log entry 94). -/
theorem almanacActionsHappen : Obligations.AlmanacActionsHappen := by
  refine ⟨?launch, ?dmaRefused, ?dma, ?ring, ?signal, ?sample, ?turn, ?applied⟩
  case launch =>
    exact fun i u k s hu ha hon hl hk hm hh hf hr hz hg =>
      leads_of rfl (State.launchAction_onTime hu ha hon hl hk hm hh hf hr hz hg)
  case dmaRefused =>
    rintro i st r u d s hu ha hon hl hp hc rfl hcheck
    exact leads_of rfl (State.dmaAction_refused hu ha hon hl hp hc hcheck)
  case dma =>
    exact fun i u s hu ha hon hl hp hc hcheck hdown hserve =>
      leads_of rfl (State.dmaAction_begins hu ha hon hl hp hc rfl hcheck hdown hserve)
  case ring => exact fun i u s hu ha hon hl hcheck => leads_of rfl (State.ringAction_begins hu ha hon hl rfl hcheck)
  case signal => exact fun i u s hu ha hon hl => leads_of rfl (State.signalAction_onTime hu ha hon hl)
  case sample =>
    rintro i n u s hu ha hon hl rfl
    exact leads_of rfl (State.sampleAction_onTime hu ha hon hl)
  case turn =>
    rintro i x rest s hd rfl
    exact ⟨_, State.turn_front hd, rfl, rfl, rfl⟩
  case applied => exact fun position g s hg hfirst => leads_of rfl (State.signalArrives_eq hg hfirst)

end Sys2Proof.Machine

/-! ### Membership of a peal (02 R52; 16 R371, R374 to R381, R388, R389) -/

namespace Sys2Proof.Machine
open Sys2Proof

/-- A module outside a peal counts no neighbour that is out of step. -/
theorem State.sync_outsidePeal {s : State} {lane : Nat} {l : Lane16} (f : SyncFields) (hl : s.peal.lanes[lane]? = some l)
    (hu : l.up = true) (hp : s.peal.inPeal = false) :
    s.sync lane f =
      ((s.returnCredit lane 4).setLane lane { l with
        syncAt := s.now, beatDifference := (f.beat : Int) - s.beat.number, neighbourEstimate := f.estimate,
        offsets := (f.offset :: l.offsets).take 64 }).steer.reportLocked := by
  have hout (x : Lane16) : ((s.returnCredit lane 4).setLane lane x).peal.inPeal = false := hp
  simp only [State.sync, hl, hu, hout, Bool.not_true, Bool.false_and, Bool.false_eq_true, if_false]

theorem State.ctrl_forming {s : State} (lane : Nat) (f : CtrlFields) (h : s.peal.mode = .forming) :
    s.ctrl lane f = (s.returnCredit lane 4).ctrlForming lane f := by
  simp only [State.ctrl, h]

theorem State.ctrl_joining {s : State} (lane : Nat) (f : CtrlFields) (h : s.peal.mode = .joining) :
    s.ctrl lane f = (s.returnCredit lane 4).ctrlJoining lane f := by
  simp only [State.ctrl, h]

theorem State.ctrl_inPeal {s : State} (lane : Nat) (f : CtrlFields) (h : s.peal.mode = .member ∨ s.peal.mode = .leaving) :
    s.ctrl lane f = (s.returnCredit lane 4).ctrlMember f := by
  rcases h with h | h <;> simp only [State.ctrl, h]

theorem State.ctrl_outside {s : State} (lane : Nat) (f : CtrlFields) (h : s.peal.mode = .alone ∨ s.peal.mode = .asleep) :
    s.ctrl lane f = s.returnCredit lane 4 := by
  rcases h with h | h <;> simp only [State.ctrl, h]

theorem State.elect_lower {s : State} {c beat : Nat} (hp : s.peal.inPeal = true) (ho : s.peal.officeBeat = some beat)
    (hm : s.peal.members.contains c = true) (hc : s.peal.candidate.any (· ≤ c) = false) :
    s.elect c = State.floodElect { s with peal := { s.peal with candidate := some c } } c := by
  rw [State.elect, if_neg (by simp only [hp, ho, hm, Option.isNone_some, Bool.not_true, Bool.false_eq_true, or_self, not_false_eq_true]),
    if_neg (by simp only [hc, Bool.false_eq_true, not_false_eq_true])]

/-- A candidate that is not below the one already known changes nothing. -/
theorem State.elect_known {s : State} {c : Nat} (hc : s.peal.candidate.any (· ≤ c) = true) : s.elect c = s := by
  rw [State.elect, if_pos hc, ite_self]

/-- A change that concerns another member of the peal that this module is in is not passed over. -/
theorem State.concerns_other {s : State} {m : Nat} (hp : s.peal.inPeal = true) (ho : m ≠ s.peal.coordinate)
    (hm : s.peal.members.contains m = true) :
    ¬((!s.peal.inPeal) = true ∨ m = s.peal.coordinate ∨ (!s.peal.members.contains m) = true) := by
  simp only [hp, ho, hm]; decide

theorem State.memberMapChange_present {s : State} {m lanes : Nat} {down : List (Nat × Nat)} (hp : s.peal.inPeal = true)
    (ho : m ≠ s.peal.coordinate) (hm : s.peal.members.contains m = true)
    (hd : down = s.peal.lanesDown.filter (·.1 != m) ++ ((List.range 24).filter fun i => !(bit lanes i)).map (fun i => (m, i)))
    (hn : down ≠ s.peal.lanesDown) :
    s.memberMapChange m lanes true =
      (State.rerouted { s with peal := { s.peal with lanesDown := down } } s).floodMap m lanes true := by
  rw [State.memberMapChange, if_neg (State.concerns_other hp ho hm)]
  simp only [← hd, Bool.not_true, Bool.false_eq_true, if_false, beq_eq_false_iff_ne.mpr hn]

theorem State.memberMapChange_absent {s : State} {m : Nat} (lanes : Nat) (hp : s.peal.inPeal = true)
    (ho : m ≠ s.peal.coordinate) (hm : s.peal.members.contains m = true) :
    s.memberMapChange m lanes false = s.memberLost m := by
  rw [State.memberMapChange, if_neg (State.concerns_other hp ho hm), if_pos Bool.not_false]

theorem State.memberLost_eq {s : State} {m : Nat} (hp : s.peal.inPeal = true) (ho : m ≠ s.peal.coordinate)
    (hm : s.peal.members.contains m = true) :
    s.memberLost m =
      (State.memberOut { s with peal := { s.peal with lost := addOnce s.peal.lost m } } m).floodMap m 0 false := by
  rw [State.memberLost, if_neg (State.concerns_other hp ho hm)]

theorem State.periodPropagated_inPeal {s : State} (period build guard_ beat : Nat) (hp : s.peal.inPeal = true) :
    s.periodPropagated period build guard_ beat = s.takePeriod 0 period build guard_ beat :=
  if_pos hp

theorem State.ringLinkDown_eq {s t : State} {lane : Nat} {l : Lane16} (hl : s.peal.lanes[lane]? = some l) (hu : l.up = true)
    (ht : t = (s.setLane lane { l.fresh with up := false, offsets := [] }).logFailure 0x17 0xFF lane) :
    s.ringLinkDown lane =
      if s.peal.inPeal then ((t.rerouted s).floodMap s.peal.coordinate t.laneMask true) else t := by
  subst ht
  simp only [State.ringLinkDown, hl, hu, Bool.not_true, Bool.false_eq_true, if_false]

theorem State.ringLinkRetrain_succeeds {s t : State} {lane : Nat} {l : Lane16} {e : EdgeDie}
    (hl : s.peal.lanes[lane]? = some l) (he : tget s.fail.edges (lane / 6) = some e) (hu : l.up = false) (heu : e.up = true)
    (hd : ¬(dimSize s.peal.sizes (lane % 6 / 2) ≤ 1 ∧ s.peal.inPeal = true))
    (ht : t = s.setLane lane { l.fresh with up := true }) :
    s.ringLinkRetrain lane true =
      if s.peal.inPeal then ((t.rerouted s).floodMap s.peal.coordinate t.laneMask true) else t := by
  subst ht
  simp only [State.ringLinkRetrain, hl, he, hu, heu, hd, Bool.not_true, Bool.false_eq_true, or_self, if_false]

theorem State.formationTimeout_eq {s : State} (hm : s.peal.mode = .forming ∨ s.peal.mode = .joining)
    (ha : s.peal.admitBeat = none) :
    s.formationTimeout = (s.clockTo (s.peal.since + 100000 * s.peal.timeout)).standAlone none stUnreachable :=
  if_pos ⟨hm, Option.isNone_iff_eq_none.mpr ha⟩

/-- Settles O56: each clause is the equation of its event's own function under the clause's conditions. That a CTRL at a module ALONE
or ASLEEP returns its credit alone, which candidates an election knows, and the medians over lanes are the model's choices (log entries
2, 127 and 129). -/
theorem membershipEventsHappen : Obligations.MembershipEventsHappen := by
  refine ⟨?sync, ?exchange, ?ctrl, ?lower, ?known, ?map, ?gone, ?period, ?down, ?up, ?timeout⟩
  case sync => exact fun lane f l s hlane hl hu hp => leads_at rfl (decide_eq_true hlane) (State.sync_outsidePeal f hl hu hp)
  case exchange => exact fun s => leads_of rfl rfl
  case ctrl =>
    intro lane f s hlane
    have hleads {t : State} (h : s.ctrl lane f = t) : Leads (.ctrl lane f) s t := leads_at rfl (decide_eq_true hlane) h
    exact ⟨fun h => hleads (State.ctrl_forming lane f h), fun h => hleads (State.ctrl_joining lane f h),
      fun h => hleads (State.ctrl_inPeal lane f h), fun h => hleads (State.ctrl_outside lane f h)⟩
  case lower =>
    exact fun lane candidate beat s hlane hp ho hm hc =>
      leads_at rfl (decide_eq_true hlane) (congrArg (·.returnCredit lane 4) (State.elect_lower hp ho hm hc))
  case known =>
    exact fun lane candidate s hlane _ hc =>
      leads_at rfl (decide_eq_true hlane) (congrArg (·.returnCredit lane 4) (State.elect_known hc))
  case map => exact fun m lanes down s hp ho hm hd hn => leads_of rfl (State.memberMapChange_present hp ho hm hd hn)
  case gone =>
    exact fun m s hp ho hm =>
      ⟨fun lanes => leads_of rfl (State.memberMapChange_absent lanes hp ho hm), leads_of rfl (State.memberLost_eq hp ho hm)⟩
  case period =>
    exact fun period build guard_ beat s hp => leads_of rfl (State.periodPropagated_inPeal period build guard_ beat hp)
  case down =>
    exact fun lane l t s hlane hl hu ht => leads_at rfl (decide_eq_true hlane) (State.ringLinkDown_eq hl hu ht)
  case up =>
    exact fun lane l e t s hlane hl he hu heu hd ht =>
      leads_at rfl (decide_eq_true hlane) (State.ringLinkRetrain_succeeds hl he hu heu hd ht)
  case timeout => exact fun s hm ha => leads_of rfl (State.formationTimeout_eq hm ha)

end Sys2Proof.Machine

/-! ### Kits and loading: commands (03) -/

namespace Sys2Proof.Machine
open Sys2Proof

/-- The state of the Kit in parameter 0 is one that the command accepts. -/
theorem Call.noneApplies_kitMode {c : Call} {s : State} {k : Kit} {ok : KitMode → Bool} (hk : s.kit (c.arg 0) = some k)
    (hok : ok k.mode = true) : noneApplies (c.kitMode s ok) :=
  noneApplies_singleton.mpr (by rw [hk, Option.any_some, hok, Bool.not_true])

/-- A Kit that a command made is neither the device Kit nor the top of the peal Kits (03 R60, R61). -/
theorem isTopKit_eq_false {k : Nat} (hdevice : k ≠ 0) (hpeal : k ≠ 2 ^ 27) : (k == 0 || k == 2 ^ 27) = false := by
  rw [beq_eq_false_iff_ne.mpr hdevice, beq_eq_false_iff_ne.mpr hpeal, Bool.or_self]

theorem kitCreateEffect_defer {c : Call} {s t : State} {peal : Bool} (hnone : noneApplies (kitCreateRefusals c s))
    (hpeal : isPealKit (field (c.kitBlock s) 0 4) = peal) (ht : t = if peal then c.askMembers s else s) :
    kitCreateEffect c s = .defer (c.awaitUnits t) (.kitCreate (c.newKit s).id) (c.newKit s).id := by
  subst ht hpeal
  exact guards_of_none hnone

theorem kitDestroyEffect_eq {c : Call} {s : State} {k : Kit} (hk : s.kit (c.arg 0) = some k)
    (hnamed : noneApplies (c.kitNamed s true)) (hdevice : c.arg 0 ≠ 0) (hpeal : c.arg 0 ≠ 2 ^ 27)
    (hmode : k.mode = .created ∨ k.mode = .lost) (hchild : s.hasChild (c.arg 0) = false)
    (hparent : s.heldParent (c.arg 0) = false) (hunit : s.heldUnit (.kit (c.arg 0)) = false) :
    kitDestroyEffect c s =
      if k.mode = .lost then .defer s (.kitDestroy (c.arg 0)) 0
      else if s.kitNamers (c.arg 0) c.cmd.id = [] then .done (s.removeKit (c.arg 0)) 0
      else .defer (s.modKit (c.arg 0) fun x => { x with mode := .retiring }) (.kitDestroy (c.arg 0)) 0 := by
  have hstate : (!(s.kit (c.arg 0)).any fun x => x.mode == .created || x.mode == .lost) = false := by
    rcases hmode with h | h <;> rw [hk, Option.any_some, h] <;> rfl
  have hfree : (s.hasChild (c.arg 0) || s.heldParent (c.arg 0) || s.heldUnit (.kit (c.arg 0))) = false := by
    rw [hchild, hparent, hunit]; rfl
  refine (guards_of_none (noneApplies_append.mpr ⟨hnamed, ?_⟩)).trans ?_
  · exact noneApplies_cons.mpr ⟨isTopKit_eq_false hdevice hpeal,
      noneApplies_cons.mpr ⟨hstate, noneApplies_singleton.mpr hfree⟩⟩
  · simp only [hk, Option.any_some, beq_iff_eq, List.isEmpty_iff]

theorem kitQueryEffect_done {c : Call} {s : State} {k : Kit} (hk : s.kit (c.arg 0) = some k)
    (hkit : noneApplies (c.kitNamed s false ++ c.kitLost s)) (hr : c.takesResult s 1 128) :
    kitQueryEffect c s = .done (s.writeResult (c.arg 1)
      ((s.withParent k).block ++ leBytes 1 k.mode.code ++ leBytes 1 (s.level (c.arg 0)) ++ leBytes 1 (b2n k.degraded))) 0 := by
  obtain ⟨hnamed, hlost⟩ := noneApplies_append.mp hkit
  obtain ⟨hplace, hup⟩ := hr
  refine (guards_of_none ?_).trans ?_
  · simp only [noneApplies_append, and_assoc]
    exact ⟨hnamed, noneApplies_singleton.mpr hplace, hlost, Call.noneApplies_kitMode hk rfl, noneApplies_singleton.mpr hup⟩
  · simp only [hk, Call.result]

theorem kitLaunchEffect_defer {c : Call} {s : State} {k : Kit} {p : Placement} (hk : s.kit (c.arg 0) = some k)
    (hkit : noneApplies (c.kitNamed s false ++ c.wrongQueue s ++ c.kitLost s)) (hdevice : c.arg 0 ≠ 0)
    (hmode : k.mode = .admitted) (hp : k.placement = some p)
    (hlist : ∃ l ∈ p.lists, l.address = c.arg 1 ∧ l.bytes = 64 * c.arg 2) (hgood : s.listGood k (c.arg 1) (c.arg 2) [] = true) :
    kitLaunchEffect c s = .defer s (.kitLaunch (c.arg 0) (c.arg 1) (c.arg 2)) 0 := by
  simp only [noneApplies_append, and_assoc] at hkit
  obtain ⟨hnamed, hqueue, hlost⟩ := hkit
  have hknown : (p.lists.any fun l => l.address == c.arg 1 && l.bytes == 64 * c.arg 2) = true := by
    obtain ⟨l, hl, ha, hb⟩ := hlist
    exact List.any_eq_true.mpr ⟨l, hl, by rw [ha, hb, beq_self_eq_true, beq_self_eq_true, Bool.and_self]⟩
  refine guards_of_none ?_
  simp only [noneApplies_append, and_assoc]
  refine ⟨hnamed, hqueue, ?lists, hlost, noneApplies_singleton.mpr (beq_eq_false_iff_ne.mpr hdevice),
    Call.noneApplies_kitMode hk (beq_iff_eq.mpr hmode)⟩
  refine noneApplies_cons.mpr ⟨?known, noneApplies_singleton.mpr ?good⟩
  case known => simp only [hk, Option.bind_some, hmode, if_true, hp, Option.any_some, hknown, Bool.not_true, Bool.and_false]
  case good => simp only [hk, Option.any_some, hgood, Bool.not_true, Bool.and_false]

/-- Settles O20: each command's own effect completes or waits once none of its refusals applies. That KIT_QUERY shows STATE, LEVEL and
DEGRADED in bytes 64 to 66 is the model's choice (log entry 76), and so is that KIT_DESTROY completes at once where no other command
names the Kit (log entry 81). -/
theorem kitCommandsComplete : Obligations.KitCommandsComplete := by
  refine ⟨?create, ?createPeal, ?destroyIdle, ?destroyNamed, ?destroyLost, ?query, ?launch⟩
  case create => exact waits_of (fun _ _ _ => rfl) nofun fun _ _ ⟨hnone, hpeal⟩ => kitCreateEffect_defer hnone hpeal rfl
  case createPeal => exact waits_of (fun _ _ _ => rfl) nofun fun _ _ ⟨hnone, hpeal⟩ => kitCreateEffect_defer hnone hpeal rfl
  case destroyIdle =>
    refine completes_of (fun _ _ _ => rfl) nofun ?_
    rintro c s ⟨k, hk, hnamed, hdevice, hpeal, hmode, hchild, hparent, hunit, hnamers⟩
    refine (kitDestroyEffect_eq hk hnamed hdevice hpeal (.inl hmode) hchild hparent hunit).trans ?_
    rw [if_neg (by rw [hmode]; nofun), if_pos hnamers]
  case destroyNamed =>
    refine waits_of (fun _ _ _ => rfl) nofun ?_
    rintro c s ⟨k, hk, hnamed, hdevice, hpeal, hmode, hchild, hparent, hunit, hnamers⟩
    refine (kitDestroyEffect_eq hk hnamed hdevice hpeal (.inl hmode) hchild hparent hunit).trans ?_
    rw [if_neg (by rw [hmode]; nofun), if_neg hnamers]
  case destroyLost =>
    refine waits_of (fun _ _ _ => rfl) nofun ?_
    rintro c s ⟨k, hk, hnamed, hdevice, hpeal, hmode, hchild, hparent, hunit⟩
    exact (kitDestroyEffect_eq hk hnamed hdevice hpeal (.inr hmode) hchild hparent hunit).trans (if_pos hmode)
  case query =>
    refine completes_of (fun _ _ _ => rfl) nofun ?_
    rintro c s ⟨k, hk, hkit, hr⟩
    exact (kitQueryEffect_done hk hkit hr).trans (by simp only [hk])
  case launch =>
    refine waits_of (fun _ _ _ => rfl) nofun ?_
    rintro c s ⟨k, p, hk, hkit, hdevice, hmode, hp, hlist, hgood⟩
    exact kitLaunchEffect_defer hk hkit hdevice hmode hp hlist hgood

theorem modelBeginEffect_done {c : Call} {s : State} {k : Kit} (hk : s.kit (c.arg 0) = some k)
    (hkit : noneApplies (c.kitNamed s true ++ c.wrongQueue s ++ c.kitLost s)) (hreplica : c.arg 1 ≤ 2) (hdevice : c.arg 0 ≠ 0)
    (hpeal : c.arg 0 ≠ 2 ^ 27) (hmode : k.mode = .created) :
    modelBeginEffect c s =
      .done (s.modKit (c.arg 0) fun x => { x with mode := .loading, load := some { replica := c.arg 1, records := [] } }) 0 := by
  simp only [noneApplies_append, and_assoc] at hkit
  obtain ⟨hnamed, hqueue, hlost⟩ := hkit
  refine guards_of_none ?_
  simp only [noneApplies_append, and_assoc]
  exact ⟨hnamed, hqueue, noneApplies_singleton.mpr (decide_eq_false (by omega)), hlost,
    noneApplies_singleton.mpr (isTopKit_eq_false hdevice hpeal), Call.noneApplies_kitMode hk (beq_iff_eq.mpr hmode)⟩

theorem getD_map_range {α : Type} {f : Nat → α} {n i : Nat} {d : α} (hi : i < n) : ((List.range n).map f).getD i d = f i := by
  simp [List.getD_eq_getElem?_getD, hi]

theorem modelDescribeEffect_done {c : Call} {s : State} {k : Kit} {l : Load} (hk : s.kit (c.arg 0) = some k)
    (hl : k.load = some l) (hmode : k.mode = .loading)
    (hkit : noneApplies (c.kitNamed s true ++ c.wrongQueue s ++ c.kitLost s)) (hpos : 1 ≤ c.arg 1) (hmax : c.arg 1 ≤ 1024)
    (hroom : l.records.length + c.arg 1 ≤ 65536) (hplace : c.blockBad s 2 (64 * c.arg 1) 64 = false)
    (hup : c.domainDown s 2 = false)
    (hgood : ∀ i, i < c.arg 1 → s.recordBad k.partition (s.sysRead (c.arg 2 + 64 * i) 64) = none)
    (hadmit : s.admitting (c.arg 0) = false) :
    modelDescribeEffect c s =
      .done (s.modKit (c.arg 0) fun x => { x with load := x.load.map fun l =>
        { l with records := l.records ++
            (List.range (c.arg 1)).map fun i => DescRecord.ofBytes (s.sysRead (c.arg 2 + 64 * i) 64) } }).rebind 0 := by
  simp only [noneApplies_append, and_assoc] at hkit
  obtain ⟨hnamed, hqueue, hlost⟩ := hkit
  have hrecords : ((List.range (c.arg 1)).findSome? fun i => (s.recordBad k.partition
      (((List.range (c.arg 1)).map fun i => s.sysRead (c.arg 2 + 64 * i) 64).getD i [])).map (· + 64 * i)) = none := by
    refine List.findSome?_eq_none_iff.mpr fun i hmem => ?_
    have hi := List.mem_range.mp hmem
    rw [getD_map_range hi, hgood i hi, Option.map_none]
  simp only [modelDescribeEffect, Nat.min_eq_left hmax, hk, Option.bind_some, hl, Option.map_some, Option.getD_some, hrecords,
    List.map_map]
  refine guards_of_none ?_
  simp only [noneApplies_append, and_assoc]
  refine ⟨hnamed, hqueue, ?params, hlost, Call.noneApplies_kitMode hk (beq_iff_eq.mpr hmode), ?now⟩
  case params =>
    refine noneApplies_cons.mpr ⟨?count, noneApplies_cons.mpr ⟨hplace, noneApplies_singleton.mpr rfl⟩⟩
    simp only [Bool.or_eq_false_iff, beq_eq_false_iff_ne, decide_eq_false_iff_not]
    omega
  case now => exact noneApplies_cons.mpr ⟨hadmit, noneApplies_singleton.mpr hup⟩

theorem modelCommitEffect_defer {c : Call} {s : State} {k : Kit} {l : Load} (hk : s.kit (c.arg 0) = some k)
    (hl : k.load = some l) (hmode : k.mode = .loading)
    (hkit : noneApplies (c.kitNamed s true ++ c.wrongQueue s ++ c.reportGuards s 1 ++ c.kitLost s))
    (hlists : s.loadListsGood k l = true) (hadmit : s.admitting (c.arg 0) = false)
    (hdrop : k.policy = 2 → l.batch = none) (hreserved : s.reserved (c.arg 0) = false) :
    modelCommitEffect c s =
      .defer (s.modKit (c.arg 0) fun x => { x with report := c.arg 1 }) (.commit (c.arg 0) (c.arg 1)) 0 := by
  simp only [noneApplies_append, and_assoc] at hkit
  obtain ⟨hnamed, hqueue, hreport, hlost⟩ := hkit
  have hnoDrop : (k.policy == 2 && l.batch.isSome) = false := by
    by_cases h : k.policy = 2
    · rw [hdrop h]; exact Bool.and_false _
    · rw [beq_eq_false_iff_ne.mpr h, Bool.false_and]
  simp only [modelCommitEffect, hk, Option.bind_some, hl, hlists, Option.any_some, hnoDrop, hadmit]
  refine guards_of_none ?_
  simp only [noneApplies_append, and_assoc]
  exact ⟨hnamed, hqueue, hreport, noneApplies_singleton.mpr (Bool.and_false _), hlost,
    Call.noneApplies_kitMode hk (beq_iff_eq.mpr hmode), noneApplies_cons.mpr ⟨rfl, noneApplies_singleton.mpr hreserved⟩⟩

theorem modelAbortEffect_done {c : Call} {s : State} {k : Kit} (hk : s.kit (c.arg 0) = some k) (hmode : k.mode = .loading)
    (hkit : noneApplies (c.kitNamed s true ++ c.wrongQueue s ++ c.kitLost s)) (hadmit : s.admitting (c.arg 0) = false) :
    modelAbortEffect c s = .done (s.modKit (c.arg 0) fun x => { x with mode := .created, load := none }).rebind 0 :=
  guards_of_none (noneApplies_append.mpr
    ⟨noneApplies_append.mpr ⟨hkit, Call.noneApplies_kitMode hk (beq_iff_eq.mpr hmode)⟩, noneApplies_singleton.mpr hadmit⟩)

theorem modelUnloadEffect_defer {c : Call} {s : State} {k : Kit} (hk : s.kit (c.arg 0) = some k) (hmode : k.mode = .admitted)
    (hkit : noneApplies (c.kitNamed s true ++ c.wrongQueue s ++ c.kitLost s)) :
    modelUnloadEffect c s =
      .defer ((s.closeSequences (c.arg 0)).modKit (c.arg 0) fun x =>
        { x with mode := .unloading, composed := none, queued := [], next := none }) (.unload (c.arg 0)) 0 :=
  guards_of_none (noneApplies_append.mpr ⟨hkit, Call.noneApplies_kitMode hk (beq_iff_eq.mpr hmode)⟩)

theorem placeQueryEffect_done {c : Call} {s : State} {k : Kit} {p : Placement} (hk : s.kit (c.arg 0) = some k)
    (hp : k.placement = some p) (hkit : noneApplies (c.kitNamed s true ++ c.kitLost s)) (hr : c.takesResult s 1 384) :
    placeQueryEffect c s = .done (s.writeResult (c.arg 1) (s.reportBytes (c.arg 0) 0xFFFFFFFF none p p.uses ++
      p.uses.flatMap fun u => leBytes 16 (Config.utilisation u.code u.demand u.capacity).toNat)) 0 := by
  obtain ⟨hnamed, hlost⟩ := noneApplies_append.mp hkit
  obtain ⟨hplace, hup⟩ := hr
  refine (guards_of_none ?_).trans ?_
  · simp only [noneApplies_append, and_assoc]
    refine ⟨hnamed, noneApplies_singleton.mpr hplace, hlost, noneApplies_cons.mpr ⟨?_, noneApplies_singleton.mpr hup⟩⟩
    rw [hk, Option.any_some, hp]; rfl
  · simp only [hk, Option.bind_some, hp, Call.result]

theorem placeReplaceEffect_defer {c : Call} {s : State} {k : Kit} (hk : s.kit (c.arg 0) = some k) (hmode : k.mode = .admitted)
    (hnext : k.next = none) (hkit : noneApplies (c.kitNamed s true ++ c.reportGuards s 3 ++ c.kitLost s))
    (hreplica : c.arg 1 ≤ 2) (hmargin : c.arg 2 ≤ 250) (hadmit : s.admitting (c.arg 0) = false)
    (hreserved : s.reserved (c.arg 0) = false) :
    placeReplaceEffect c s = .defer (s.modKit (c.arg 0) fun x => { x with report := c.arg 3 })
      (.replace (c.arg 0) (c.arg 3) (c.arg 1) (c.arg 2)) 0 := by
  simp only [noneApplies_append, and_assoc] at hkit
  obtain ⟨hnamed, hreport, hlost⟩ := hkit
  refine guards_of_none ?_
  simp only [noneApplies_append, and_assoc]
  refine ⟨hnamed, ?params, hreport, hlost, Call.noneApplies_kitMode hk (beq_iff_eq.mpr hmode), ?now⟩
  case params =>
    exact noneApplies_cons.mpr ⟨decide_eq_false (by omega), noneApplies_singleton.mpr (decide_eq_false (by omega))⟩
  case now =>
    refine noneApplies_cons.mpr ⟨?_, noneApplies_singleton.mpr hreserved⟩
    rw [hadmit, hk, Option.any_some, hnext]; rfl

/-- Settles O21: each command's own effect completes or waits once none of its refusals applies. The 16-byte utilisation records of
PLACE_QUERY are the model's choice (log entries 75 and 76). -/
theorem loadingCommandsComplete : Obligations.LoadingCommandsComplete := by
  refine ⟨?begin, ?describe, ?commit, ?abort, ?unload, ?query, ?replace⟩
  case begin =>
    refine completes_of (fun _ _ _ => rfl) nofun ?_
    rintro c s ⟨k, hk, hkit, hreplica, hdevice, hpeal, hmode⟩
    exact modelBeginEffect_done hk hkit hreplica hdevice hpeal hmode
  case describe =>
    refine completes_of (fun _ _ _ => rfl) nofun ?_
    rintro c s ⟨k, l, hk, hl, hmode, hkit, hpos, hmax, hroom, hplace, hup, hgood, hadmit⟩
    exact modelDescribeEffect_done hk hl hmode hkit hpos hmax hroom hplace hup hgood hadmit
  case commit =>
    refine waits_of (fun _ _ _ => rfl) nofun ?_
    rintro c s ⟨k, l, hk, hl, hmode, hkit, hlists, hadmit, hdrop, hreserved⟩
    exact modelCommitEffect_defer hk hl hmode hkit hlists hadmit hdrop hreserved
  case abort =>
    exact completes_of (fun _ _ _ => rfl) nofun fun _ _ ⟨_, hk, hmode, hkit, hadmit⟩ => modelAbortEffect_done hk hmode hkit hadmit
  case unload =>
    exact waits_of (fun _ _ _ => rfl) nofun fun _ _ ⟨_, hk, hmode, hkit⟩ => modelUnloadEffect_defer hk hmode hkit
  case query =>
    refine completes_of (fun _ _ _ => rfl) nofun ?_
    rintro c s ⟨k, p, hk, hp, hkit, hr⟩
    exact (placeQueryEffect_done hk hp hkit hr).trans (by simp only [hk, Option.bind_some, hp])
  case replace =>
    refine waits_of (fun _ _ _ => rfl) nofun ?_
    rintro c s ⟨k, hk, hmode, hnext, hkit, hreplica, hmargin, hadmit, hreserved⟩
    exact placeReplaceEffect_defer hk hmode hnext hkit hreplica hmargin hadmit hreserved

end Sys2Proof.Machine

/-! PROOFS. The instruction word (04 R102 to R104, Tables 4-3 and 4-10): CLASS and OP name one instruction, and its fields one word. -/
namespace Sys2Proof.Machine
open Sys2Proof

/-- The fields of 04 Table 4-3 put together: 64 bits. -/
def wordOfFields (cls : BitVec 4) (op : BitVec 8) (pneg : Bool) (pred : BitVec 3) (dst src0 src1 src2 : BitVec 7) (imm : BitVec 20) :
    BitVec (4 + 8 + 1 + 3 + 7 + 7 + 7 + 7 + 20) :=
  cls ++ op ++ BitVec.ofBool pneg ++ pred ++ dst ++ src0 ++ src1 ++ src2 ++ imm

theorem pipelineWord_of_opcodeWord {x : Instr} {cls op : Nat} {i : Ins} (h : opcodeWord x = some (cls, op, i)) :
    pipelineWord x = some (wordOfFields (BitVec.ofNat 4 cls) (BitVec.ofNat 8 op) i.pneg i.pred i.dst i.src0 i.src1 i.src2 i.imm) := by
  rw [pipelineWord, h]; rfl

/-- A word is the sequence of its fields. -/
theorem wordOfFields_extract (w : BitVec 64) :
    wordOfFields (w.extractLsb' 60 4) (w.extractLsb' 52 8) (w.getLsbD 51) (w.extractLsb' 48 3) (w.extractLsb' 41 7) (w.extractLsb' 34 7)
      (w.extractLsb' 27 7) (w.extractLsb' 20 7) (w.extractLsb' 0 20) = w := by
  have hbit : BitVec.ofBool (w.getLsbD 51) = w.extractLsb' 51 1 := by
    refine BitVec.eq_of_getLsbD_eq fun k hk => ?_
    obtain rfl : k = 0 := by omega
    simp
  rw [wordOfFields, hbit]
  iterate 8 rw [BitVec.extractLsb'_append_extractLsb'_eq_extractLsb' (by decide)]
  exact BitVec.extractLsb'_eq_self

/-- Each field is read at its place: the fields below it are dropped, those above it cut off. -/
theorem wordOfFields_fields (cls : BitVec 4) (op : BitVec 8) (pneg : Bool) (pred : BitVec 3) (dst src0 src1 src2 : BitVec 7)
    (imm : BitVec 20) {w : BitVec 64} (hw : wordOfFields cls op pneg pred dst src0 src1 src2 imm = w) :
    w.extractLsb' 60 4 = cls ∧ w.extractLsb' 52 8 = op ∧ w.getLsbD 51 = pneg ∧ w.extractLsb' 48 3 = pred ∧ w.extractLsb' 41 7 = dst ∧
      w.extractLsb' 34 7 = src0 ∧ w.extractLsb' 27 7 = src1 ∧ w.extractLsb' 20 7 = src2 ∧ w.extractLsb' 0 20 = imm := by
  subst hw
  simp (disch := decide) only [wordOfFields, BitVec.extractLsb'_append_eq_of_le, BitVec.extractLsb'_append_eq_of_add_le, Nat.reduceSub,
    BitVec.extractLsb'_eq_self, BitVec.getLsbD_append, Nat.reduceLT, decide_true, if_true, if_false, BitVec.getLsbD_ofBool,
    Bool.true_and, and_self]

/-- ICMP and FCMP have an OP for each of their relations. -/
theorem opcodeInstr_icmp (i : Ins) : ∀ {rel : Nat}, rel < 10 → opcodeInstr 0 (0x10 + rel) i = some (.icmp rel i)
  | 0, _ | 1, _ | 2, _ | 3, _ | 4, _ | 5, _ | 6, _ | 7, _ | 8, _ | 9, _ => rfl
  | _ + 10, h => absurd h (by omega)

theorem opcodeInstr_fcmp (i : Ins) : ∀ {rel : Nat}, rel < 8 → opcodeInstr 1 (0x10 + rel) i = some (.fcmp rel i)
  | 0, _ | 1, _ | 2, _ | 3, _ | 4, _ | 5, _ | 6, _ | 7, _ => rfl
  | _ + 8, h => absurd h (by omega)

/-- Most rows have one OP. The cases apart are LD (46), whose finding of its code is no part of the word, ICMP (64) and FCMP (65), with an
OP for each relation, and the atomics (66 to 76), with one for each form. -/
theorem opcodeInstr_of_opcodeWord {x : Instr} {cls op : Nat} {i : Ins} (h : opcodeWord x = some (cls, op, i))
    (hx : wellFormed x = true) (he : ∀ e j, x = .ld e j → e = 0) : opcodeInstr cls op i = some x ∧ cls < 16 ∧ op < 256 := by
  unfold opcodeWord at h
  split at h <;> cases h
  case h_46 _ e =>
    obtain rfl := he e _ rfl
    exact ⟨rfl, by decide, by decide⟩
  case h_64 _ rel =>
    have hrel : rel < 10 := of_decide_eq_true (Bool.and_eq_true_iff.mp hx).1
    exact ⟨opcodeInstr_icmp i hrel, by decide, by omega⟩
  case h_65 _ rel =>
    have hrel : rel < 8 := of_decide_eq_true (Bool.and_eq_true_iff.mp hx).1
    exact ⟨opcodeInstr_fcmp i hrel, by decide, by omega⟩
  case h_66 _ noret | h_67 _ noret | h_68 _ noret | h_69 _ noret | h_70 _ noret | h_71 _ noret | h_72 _ noret | h_73 _ noret |
      h_74 _ noret | h_75 _ noret | h_76 _ noret =>
    cases noret <;> exact ⟨rfl, by decide, by decide⟩
  all_goals exact ⟨rfl, by decide, by decide⟩

/-- A reserved CLASS and an OP that its class does not define name nothing; every other pair names the instruction whose pair it is.
ICMP (86) and FCMP (87) have a range of OPs. -/
theorem opcodeWord_of_opcodeInstr {x : Instr} {cls op : Nat} {i : Ins} (h : opcodeInstr cls op i = some x) :
    opcodeWord x = some (cls, op, i) := by
  unfold opcodeInstr at h
  split at h
  case h_86 | h_87 =>
    split at h
    case isTrue hop =>
      cases h
      rw [opcodeWord, Nat.add_sub_cancel' hop.1]
    case isFalse => nomatch h
  case h_88 => nomatch h
  all_goals cases h; rfl

/-- Settles O9: the word holds each field at its place, and CLASS and OP, which fit theirs, name the instruction. -/
theorem pipelineWordsRoundTrip : Obligations.PipelineWordsRoundTrip := by
  intro x cls op i h hx he
  obtain ⟨hinstr, hcls, hop⟩ := opcodeInstr_of_opcodeWord h hx he
  refine ⟨_, pipelineWord_of_opcodeWord h, ?_⟩
  obtain ⟨hw1, hw2, hpneg, hpred, hdst, hsrc0, hsrc1, hsrc2, himm⟩ :=
    wordOfFields_fields (BitVec.ofNat 4 cls) (BitVec.ofNat 8 op) i.pneg i.pred i.dst i.src0 i.src1 i.src2 i.imm rfl
  rw [pipelineInstr, hw1, hw2, hpneg, hpred, hdst, hsrc0, hsrc1, hsrc2, himm, BitVec.toNat_ofNat, BitVec.toNat_ofNat,
    Nat.mod_eq_of_lt hcls, Nat.mod_eq_of_lt hop]
  exact hinstr

/-- Settles O10: CLASS and OP of the instruction are those of the word, and a word is the sequence of its fields. -/
theorem pipelineWordsHaveOneMeaning : Obligations.PipelineWordsHaveOneMeaning := by
  intro core group w x h
  rw [pipelineWord_of_opcodeWord (opcodeWord_of_opcodeInstr h)]
  simp only [BitVec.ofNat_toNat, BitVec.setWidth_eq, wordOfFields_extract]

/-- Settles O8: each conjunct is the decoder evaluated on one word. -/
theorem wordsStandForInstructions : Obligations.WordsStandForInstructions :=
  ⟨rfl, rfl, rfl, rfl, rfl, rfl, rfl, rfl, rfl, rfl, rfl, rfl, rfl⟩

end Sys2Proof.Machine

/-! PROOFS. The classes INT, FP, SFU and MOVE (04 R103 to R107): each row of the tables is its class's rule with the row's own function. -/
namespace Sys2Proof.Machine
open Sys2Proof

/-! ### INT and the compares -/

theorem intTwo_writes {row : Ins → Instr} {f : Word → Word → Word} (hrow : ∀ i s, exec (row i) s = intTwo i s f) : IntTwo row f :=
  writesRegister_of hrow fun _ _ _ _ _ => rfl

theorem intThree_writes {row : Ins → Instr} {f : Word → Word → Word → Word} (hrow : ∀ i s, exec (row i) s = intThree i s f) :
    IntThree row f :=
  writesRegister_of hrow fun _ _ _ _ _ => rfl

theorem intOne_writes {row : Ins → Instr} {f : Word → Word} (hrow : ∀ i s, exec (row i) s = intOne i s f) : IntOne row f :=
  writesRegister_of hrow fun _ _ _ _ _ => rfl

/-- The upper half of a 64-bit number that stands for an integer is the quotient by 2^32. -/
theorem extractLsb'_ofInt_upper (x : Int) : (BitVec.ofInt 64 x).extractLsb' 32 32 = BitVec.ofInt 32 (x / 2 ^ 32) := by
  apply BitVec.eq_of_toNat_eq
  rw [BitVec.extractLsb'_toNat, BitVec.toNat_ofInt, BitVec.toNat_ofInt, Nat.shiftRight_eq_div_pow]
  omega

theorem upperSigned_eq (a b : Word) :
    BitVec.ofInt 32 (a.toInt * b.toInt / 2 ^ 32) = (a.signExtend 64 * b.signExtend 64).extractLsb' 32 32 := by
  rw [← extractLsb'_ofInt_upper, BitVec.ofInt_mul]
  rfl

theorem upperUnsigned_eq (a b : Word) :
    BitVec.ofNat 32 (a.toNat * b.toNat / 2 ^ 32) = (a.zeroExtend 64 * b.zeroExtend 64).extractLsb' 32 32 := by
  apply BitVec.eq_of_toNat_eq
  have hprod : a.toNat * b.toNat < 2 ^ 64 := by
    calc a.toNat * b.toNat < 2 ^ 32 * 2 ^ 32 := Nat.mul_lt_mul'' a.isLt b.isLt
      _ = 2 ^ 64 := by decide
  have hfit (x : Word) : x.toNat % 2 ^ 64 = x.toNat := Nat.mod_eq_of_lt (Nat.lt_trans x.isLt (by decide))
  simp only [BitVec.extractLsb'_toNat, BitVec.toNat_mul, BitVec.toNat_ofNat, BitVec.toNat_setWidth, hfit, Nat.mod_eq_of_lt hprod,
    Nat.shiftRight_eq_div_pow]

theorem exec_imulhs (i : Ins) (s : State) :
    exec (.imulhs i) s = intTwo i s fun a b => (a.signExtend 64 * b.signExtend 64).extractLsb' 32 32 := by
  show execImulhs i s = _
  simp only [execImulhs, upperSigned_eq]

theorem exec_imulhu (i : Ins) (s : State) :
    exec (.imulhu i) s = intTwo i s fun a b => (a.zeroExtend 64 * b.zeroExtend 64).extractLsb' 32 32 := by
  show execImulhu i s = _
  simp only [execImulhu, upperUnsigned_eq]

theorem exec_popc (i : Ins) (s : State) :
    exec (.popc i) s = intOne i s fun a => BitVec.ofNat 32 ((List.range 32).countP fun k => a.getLsbD k) := by
  show execPopc i s = _
  simp only [execPopc, popCount, List.countP_eq_length_filter]

/-- CLZ (04 Table 4-10): the bits above the highest that is set are 0, and it is the next. -/
theorem leadingZeros_spec (a : Word) :
    leadingZeros a ≤ 32 ∧ (∀ k, k < leadingZeros a → a.getLsbD (31 - k) = false) ∧
      (leadingZeros a < 32 → a.getLsbD (31 - leadingZeros a) = true) := by
  unfold leadingZeros
  cases h : (List.range 32).find? fun k => a.getLsbD (31 - k) with
  | none =>
    rw [Option.getD_none]
    refine ⟨Nat.le_refl _, fun k hk => ?_, fun h => absurd h (Nat.lt_irrefl _)⟩
    simpa using List.find?_eq_none.mp h k (List.mem_range.mpr hk)
  | some n =>
    obtain ⟨hn, hmem, hbelow⟩ := List.find?_range_eq_some.mp h
    rw [Option.getD_some]
    refine ⟨Nat.le_of_lt (List.mem_range.mp hmem), fun k hk => ?_, fun _ => hn⟩
    simpa using hbelow k hk

/-- A compare that raises no flag leaves FP_STATUS. -/
theorem Group.raise_none (g : Group) (l : List Nat) : g.raise (l.foldl (fun a _ => a ||| 0) 0) = g := by
  have hzero : l.foldl (fun a _ => a ||| 0) 0 = 0 := by
    induction l with
    | nil => rfl
    | cons _ l ih => exact ih
  rw [hzero, Group.raise]
  cases g
  simp

theorem Ins.predDst_of_lt {i : Ins} (h : i.d < 7) : i.predDst = some i.d := by
  rw [Ins.predDst, if_neg (by omega)]

theorem icmp_writes {rel : Nat} {r : Word → Word → Bool} (hr : intRelation rel = some r) :
    WritesPredicate (.icmp rel) (fun w => w.withSrc1 [w.a] [] ++ []) (fun _ _ _ => True) fun w _ g t =>
      (r (g.read w.a t) (w.src1Value g t), 0) := by
  refine writesPredicate_of (fun _ _ => rfl) fun i s b g hd _ => ?_
  simp only [hr, Ins.predDst_of_lt hd, Group.raise_none]

theorem beq_eq_decide_eq (a b : Word) : (a == b) = decide (a = b) :=
  Bool.eq_iff_iff.mpr (beq_iff_eq.trans decide_eq_true_iff.symm)

theorem bne_eq_decide_ne (a b : Word) : (a != b) = decide (a ≠ b) :=
  Bool.eq_iff_iff.mpr (bne_iff_ne.trans decide_eq_true_iff.symm)

/-- The relations of ICMP as the table words them (04 Table 4-10). -/
theorem intRelation_of_mem (rel : Nat) (r : Word → Word → Bool)
    (h : (rel, r) ∈ ([(0, fun a b => decide (a = b)), (1, fun a b => decide (a ≠ b)), (2, fun a b => decide (a.toInt < b.toInt)),
      (3, fun a b => decide (a.toInt ≤ b.toInt)), (4, fun a b => decide (b.toInt < a.toInt)),
      (5, fun a b => decide (b.toInt ≤ a.toInt)), (6, fun a b => decide (a.toNat < b.toNat)),
      (7, fun a b => decide (a.toNat ≤ b.toNat)), (8, fun a b => decide (b.toNat < a.toNat)),
      (9, fun a b => decide (b.toNat ≤ a.toNat))] : List (Nat × (Word → Word → Bool)))) : intRelation rel = some r := by
  simp only [List.mem_cons, Prod.mk.injEq, List.not_mem_nil, or_false] at h
  rcases h with ⟨rfl, rfl⟩ | ⟨rfl, rfl⟩ | ⟨rfl, rfl⟩ | ⟨rfl, rfl⟩ | ⟨rfl, rfl⟩ | ⟨rfl, rfl⟩ | ⟨rfl, rfl⟩ | ⟨rfl, rfl⟩ | ⟨rfl, rfl⟩ |
    ⟨rfl, rfl⟩
  case inl => exact congrArg some (funext fun a => funext fun b => beq_eq_decide_eq a b)
  case inr.inl => exact congrArg some (funext fun a => funext fun b => bne_eq_decide_ne a b)
  all_goals rfl

theorem fcmp_writes {rel : Nat} {r : FpRel} (hr : fpRelation rel = some r) (f : FpFormat) (rm : Rm) :
    WritesPredicate (.fcmp rel) (fun w => [w.a, w.b] ++ []) (fun w _ _ => w.fp = some (f, rm)) fun w _ g t =>
      let c := fpCompare f r (f.of (g.read w.a t)) (f.of (g.read w.b t))
      (c.1, c.2.bits) := by
  refine writesPredicate_of (fun _ _ => rfl) fun i s b g hd hfp => ?_
  simp only [hr, Ins.predDst_of_lt hd, hfp]

theorem fpRelation_of_mem : ∀ x ∈ [(0, FpRel.eq), (1, .ne), (2, .lt), (3, .le), (4, .gt), (5, .ge), (6, .un), (7, .ord)],
    fpRelation x.1 = some x.2 := by
  simp [fpRelation]

theorem Ins.moveGood_of_zero {i : Ins} (h : i.c = 0) : i.moveGood = true := beq_iff_eq.mpr h

theorem pset_writes :
    WritesPredicate .pset (fun w => w.withSrc1 [] [] ++ []) (fun w _ _ => w.c = 0) fun w _ g t => (decide (w.src1Value g t ≠ 0), 0) := by
  refine writesPredicate_of (fun _ _ => rfl) fun i s b g hd hc => ?_
  simp only [Ins.predDst_of_lt hd, Ins.moveGood_of_zero hc, Group.raise_none, Bool.not_true, Bool.false_eq_true, if_false, bne_eq_decide_ne]

/-- Settles O30: each row is its class's rule with the row's own function; the upper halves of products, POPC and CLZ are the model's
functions in the words of the table. -/
theorem integerAndPredicateInstructionsWrite : Obligations.IntegerAndPredicateInstructionsWrite := by
  refine ⟨⟨intTwo_writes fun _ _ => rfl, intTwo_writes fun _ _ => rfl, intTwo_writes fun _ _ => rfl, intTwo_writes exec_imulhs,
    intTwo_writes exec_imulhu, intThree_writes fun _ _ => rfl, intTwo_writes fun _ _ => rfl, intTwo_writes fun _ _ => rfl,
    intTwo_writes fun _ _ => rfl, intTwo_writes fun _ _ => rfl, intTwo_writes fun _ _ => rfl, intTwo_writes fun _ _ => rfl,
    intOne_writes fun _ _ => rfl, intOne_writes exec_popc, intOne_writes fun _ _ => rfl, leadingZeros_spec,
    intThree_writes fun _ _ => rfl⟩, ?icmp, ?fcmp, pset_writes⟩
  case icmp => exact fun rel r h => icmp_writes (intRelation_of_mem rel r h)
  case fcmp => exact fun rel r f rm h => fcmp_writes (fpRelation_of_mem (rel, r) h) f rm

/-! ### FP and SFU -/

theorem fpTwo_writes {row : Ins → Instr} {op : FpFormat → Rm → Nat → Nat → Nat × FpFlags}
    (hrow : ∀ i s, exec (row i) s = fpTwo i s op) : FpTwo row op := fun f rm =>
  writesRegister_of hrow fun i s b g hfp => by simp only [hfp]

theorem fmac_writes (f : FpFormat) (rm : Rm) :
    WritesRegister .fmac (fun w => [w.a, w.b, w.c] ++ [w.d]) (fun w _ _ => w.fp = some (f, rm)) fun w _ g t =>
      let r := fpMac f rm (f.of (g.read w.a t)) (f.of (g.read w.b t)) (f.of (g.read w.c t))
      (BitVec.ofNat 32 r.1, r.2.bits) :=
  writesRegister_of (fun _ _ => rfl) fun i s b g hfp => by simp only [hfp]

/-- Settles O31: each row is the rule of FP with the row's own function. -/
theorem floatInstructionsWrite : Obligations.FloatInstructionsWrite :=
  ⟨fpTwo_writes fun _ _ => rfl, fpTwo_writes fun _ _ => rfl, fpTwo_writes fun _ _ => rfl, fpTwo_writes fun _ _ => rfl,
    fpTwo_writes fun _ _ => rfl, fpTwo_writes fun _ _ => rfl, fpTwo_writes fun _ _ => rfl, fmac_writes⟩

theorem sfu_writes {row : Ins → Instr} {op : Nat → Nat × FpFlags} (hrow : ∀ i s, exec (row i) s = sfu i s op) : SfuOne row op :=
  writesRegister_of hrow fun i s b g ⟨hb, hc, himm⟩ => if_neg (by simp [hb, hc, himm])

/-- Settles O32: each row is the rule of SFU with the row's own function. -/
theorem functionUnitInstructionsWrite : Obligations.FunctionUnitInstructionsWrite :=
  ⟨sfu_writes fun _ _ => rfl, sfu_writes fun _ _ => rfl, sfu_writes fun _ _ => rfl, sfu_writes fun _ _ => rfl, sfu_writes fun _ _ => rfl,
    sfu_writes fun _ _ => rfl, sfu_writes fun _ _ => rfl, sfu_writes fun _ _ => rfl⟩

/-! ### MOVE -/

/-- A MOVE instruction with SRC2 0 that computes a value completes as `WritesRegister` says. -/
theorem moveEffect_eq {i : Ins} {s : State} {g : Group} {f : Nat → Word × Nat} (h : i.c = 0) :
    (if !i.moveGood then illegal else Issued.done s (g.compute i f)) = .done s (g.compute i f) := by
  rw [Ins.moveGood_of_zero h]; rfl

/-- The special registers as 04 Table 4-1 numbers them. -/
theorem specialRegister_of_mem (n : Nat) (f : Ins → Block → Group → Nat → Word)
    (h : (n, f) ∈ ([(0, fun _ _ _ t => BitVec.ofNat 32 t), (1, fun w _ _ _ => BitVec.ofNat 32 w.group),
      (2, fun _ b _ _ => BitVec.ofNat 32 b.groups.length), (3, fun _ _ g _ => g.active.extractLsb' 0 32),
      (4, fun _ _ g _ => g.active.extractLsb' 32 32), (5, fun _ _ g _ => g.fpStatus)] ++
      (List.range 8).map fun k => (16 + k, fun _ b _ _ => b.args.getD k 0) :
        List (Nat × (Ins → Block → Group → Nat → Word)))) (i : Ins) (b : Block) (g : Group) (t : Nat) :
    specialRegister b i.group g n t = some (f i b g t) := by
  simp only [List.mem_append, List.mem_cons, Prod.mk.injEq, List.not_mem_nil, or_false, List.mem_map, List.mem_range] at h
  rcases h with (⟨rfl, rfl⟩ | ⟨rfl, rfl⟩ | ⟨rfl, rfl⟩ | ⟨rfl, rfl⟩ | ⟨rfl, rfl⟩ | ⟨rfl, rfl⟩) | ⟨k, hk, rfl, rfl⟩
  case inr =>
    unfold specialRegister
    iterate 6 rw [if_neg (by omega)]
    rw [if_pos (by omega), Nat.add_sub_cancel_left]
  all_goals rfl

/-- The sum of the weights of some predicates, gathered one by one. -/
theorem foldl_add_pow_eq_sum (p : Nat → Bool) (l : List Nat) (a : Nat) :
    l.foldl (fun a k => a + if p k then 2 ^ k else 0) a = a + ((l.filter p).map (2 ^ ·)).sum := by
  induction l generalizing a with
  | nil => rfl
  | cons k l ih =>
    rw [List.foldl_cons, ih, List.filter_cons]
    cases p k
    · simp
    · simp [Nat.add_assoc]

/-- Settles O33: with SRC2 0 each row computes what the table says. That CVT raises its flags into FP_STATUS is the model's choice (log
entry 33). -/
theorem moveInstructionsWrite : Obligations.MoveInstructionsWrite := by
  refine ⟨?mov, ?movs, ?lxch, ?cvt, ?pget⟩
  case mov => exact writesRegister_of (fun _ _ => rfl) fun i s b g hc => moveEffect_eq hc
  case movs =>
    intro n f h
    refine writesRegister_of (fun _ _ => rfl) fun i s b g ⟨hc, hn⟩ => ?_
    simp only [hn, specialRegister_of_mem n f h i b g, Ins.moveGood_of_zero hc, Option.isNone_some, Option.getD_some, Bool.not_true,
      Bool.or_self, Bool.false_eq_true, if_false]
  case lxch => exact writesRegister_of (fun _ _ => rfl) fun i s b g hc => moveEffect_eq hc
  case cvt =>
    intro src dst hs1 hs7 hd1 hd7
    refine writesRegister_of (fun _ _ => rfl) fun i s b g ⟨hc, hsrc, hdst⟩ => ?_
    have hpair : cvtPair src dst = true := by simp [cvtPair, hs1, hs7, hd1, hd7]
    simp only [hsrc, hdst, hpair, Ins.moveGood_of_zero hc, Bool.not_true, Bool.or_self, Bool.false_eq_true, if_false]
  case pget =>
    refine writesRegister_of (fun _ _ => rfl) fun i s b g hc => (moveEffect_eq hc).trans ?_
    simp only [foldl_add_pow_eq_sum (fun p => (g.predMask p).getLsbD _), Nat.zero_add]

end Sys2Proof.Machine

/-! PROOFS. The start of a task (04 R93), the core store (04 R111 to R113) and the class SYNC (04 R119 to R121). -/
namespace Sys2Proof.Machine
open Sys2Proof

/-! ### The start of a task -/

@[simp] theorem Group.initial_read (entry r t : Nat) : (Group.initial entry).read r t = 0 := by
  show (List.replicate 64 (0 : Word)).getD t 0 = 0
  rw [List.getD_eq_getElem?_getD, List.getElem?_replicate]
  split <;> rfl

theorem Group.initial_predMask (entry n : Nat) (h : n < 7) : (Group.initial entry).predMask n = 0 := by
  rw [Group.predMask, if_neg (by omega)]
  show (List.replicate 7 (0 : U64)).getD n 0 = 0
  rw [List.getD_eq_getElem?_getD, List.getElem?_replicate, if_pos h]
  rfl

theorem State.startFresh_block {s : State} {list task core : Nat} {l : WorkList} {t : Task} (hl : s.list list = some l)
    (ht : l.tasks[task]? = some t) :
    ((s.startFresh list task core).core core).block =
      some (Block.ofTask list task l.kit (((s.kit l.kit).map (·.partition)).getD 0) s.now t.record) := by
  simp only [State.startFresh, hl, ht, State.runBlock, State.core_modCore, if_true]

/-- Settles O38: every group of the block is `Group.initial` at the task's entry. -/
theorem tasksStartClean : Obligations.TasksStartClean := by
  intro list task core l t s hl ht
  refine ⟨_, State.startFresh_block hl ht, List.length_replicate, fun g hg => ?_⟩
  obtain rfl := List.eq_of_mem_replicate hg
  exact ⟨fun r i => Group.initial_read t.record.entry r i, fun n hn => Group.initial_predMask t.record.entry n hn, rfl, rfl, rfl, rfl⟩

/-! ### The bytes of the core store -/

theorem Block.storeRead_one (b : Block) (a : Nat) : b.storeRead a 1 = [memGet zeroByte b.cstore a] := rfl

/-- A load takes its bytes one by one. -/
theorem Block.storeRead_eq_flatten (b : Block) (a k : Nat) :
    b.storeRead a k = ((List.range k).map fun i => b.storeRead (a + i) 1).flatten := by
  rw [← List.flatMap_def]
  exact List.map_eq_flatMap

/-- The writes of one CST, in the order of the threads. -/
def Block.storeAll (b : Block) (address : Nat → Nat) (value : Nat → List Byte) (l : List Nat) : Block :=
  l.foldl (fun b t => b.storeWrite (address t) (value t)) b

section
variable {address : Nat → Nat} {value : Nat → List Byte}

theorem Block.storeAll_wf (l : List Nat) : ∀ {b : Block}, Memory.wf zeroByte b.cstore = true →
    Memory.wf zeroByte (b.storeAll address value l).cstore = true := by
  induction l with
  | nil => exact id
  | cons t l ih => exact fun h => ih (memWrite_wf (value t) (address t) h)

/-- A byte that no thread of the list writes stays. -/
theorem Block.storeAll_byte_of_none {n a : Nat} (hlen : ∀ t, (value t).length = n) (l : List Nat) : ∀ {b : Block},
    Memory.wf zeroByte b.cstore = true → (∀ u ∈ l, ¬(address u ≤ a ∧ a < address u + n)) →
    (b.storeAll address value l).storeRead a 1 = b.storeRead a 1 := by
  induction l with
  | nil => exact fun _ _ => rfl
  | cons t l ih =>
    intro b h hnone
    have hstep : (b.storeWrite (address t) (value t)).storeRead a 1 = b.storeRead a 1 := by
      have hmiss := hnone t List.mem_cons_self
      rw [← hlen t] at hmiss
      rw [Block.storeRead_one, Block.storeRead_one]
      exact congrArg ([·]) ((memGet_memWrite zeroByte (value t) b.cstore (address t) a h).trans (if_neg hmiss))
    exact (ih (memWrite_wf (value t) (address t) h) fun u hu => hnone u (List.mem_cons_of_mem t hu)).trans hstep

/-- A byte that thread `t` writes, and none after it, is that of `t`. -/
theorem Block.storeAll_byte_of_last {n a t : Nat} {before after : List Nat} {b : Block} (hlen : ∀ t, (value t).length = n)
    (h : Memory.wf zeroByte b.cstore = true) (ht : address t ≤ a ∧ a < address t + n)
    (hafter : ∀ u ∈ after, ¬(address u ≤ a ∧ a < address u + n)) :
    (b.storeAll address value (before ++ t :: after)).storeRead a 1 = [(value t).getD (a - address t) 0] := by
  have hbefore := Block.storeAll_wf (address := address) (value := value) before h
  rw [Block.storeAll, List.foldl_append, List.foldl_cons]
  refine (Block.storeAll_byte_of_none hlen after (memWrite_wf (value t) (address t) hbefore) hafter).trans ?_
  rw [← hlen t] at ht
  exact congrArg ([·]) ((memGet_memWrite zeroByte (value t) _ (address t) a hbefore).trans (if_pos ht))

end

theorem mem_threadsOf {mask : U64} {t : Nat} : t ∈ threadsOf mask ↔ t < 64 ∧ mask.getLsbD t = true := by
  rw [threadsOf, List.mem_filter, List.mem_range]

theorem threadsOf_sorted (mask : U64) : (threadsOf mask).Pairwise (· < ·) := List.pairwise_lt_range.filter _

/-- Settles O36: the threads' writes are taken in ascending order, so what stands behind a thread in the list has a higher index. -/
theorem higherThreadsBytesLand : Obligations.HigherThreadsBytesLand := by
  rintro b out mask n address value hwf hlen rfl
  refine ⟨Block.storeAll_wf _ hwf, fun t a ht hmask hlo hhi habove => ?_, fun a hnone => ?_, fun a k => Block.storeRead_eq_flatten _ a k⟩
  · obtain ⟨before, after, hsplit⟩ := List.append_of_mem (mem_threadsOf.mpr ⟨ht, hmask⟩)
    have hsorted := threadsOf_sorted mask
    rw [hsplit, List.pairwise_append, List.pairwise_cons] at hsorted
    obtain ⟨-, ⟨hlater, -⟩, -⟩ := hsorted
    rw [hsplit]
    refine Block.storeAll_byte_of_last hlen hwf ⟨hlo, hhi⟩ fun u hu => ?_
    obtain ⟨hu64, humask⟩ := mem_threadsOf.mp (hsplit ▸ List.mem_append_right before (List.mem_cons_of_mem t hu))
    exact habove u (hlater u hu) hu64 humask
  · refine Block.storeAll_byte_of_none hlen _ hwf fun u hu => ?_
    obtain ⟨hu64, humask⟩ := mem_threadsOf.mp hu
    exact hnone u hu64 humask

/-! ### CLD and CST -/

/-- With no fault met, none is recorded. -/
@[simp] theorem worstFault_nil : worstFault [] = none := rfl

theorem storeFaults_eq_nil {l : List (Nat × Nat)} {n : Nat} (h : ∀ e ∈ l, e.2 % n = 0 ∧ e.2 < coreStoreSize) :
    storeFaults l n = [] := by
  refine List.flatMap_eq_nil_iff.mpr fun e he => ?_
  obtain ⟨halign, hrange⟩ := h e he
  rw [if_neg (not_not_intro halign), if_neg (Nat.not_le_of_lt hrange)]
  rfl

/-- Threads that may use the core store meet no fault there and wait for no tile instruction. -/
theorem State.mayStore_accesses {s : State} {w : Ins} {g : Group} {n : Nat} (h : s.mayStore w g n) :
    worstFault (storeFaults ((threadsOf (g.exec w)).map fun t => (t, w.storeAddress g n t)) n) = none ∧
      ((threadsOf (g.exec w)).map fun t => (t, w.storeAddress g n t)).any (fun e => s.storeHeld w.core e.2 n) = false := by
  constructor
  · rw [storeFaults_eq_nil, worstFault_nil]
    intro e he
    obtain ⟨t, ht, rfl⟩ := List.mem_map.mp he
    obtain ⟨halign, hrange, -⟩ := h t ht
    exact ⟨halign, hrange⟩
  · rw [List.any_eq_false]
    intro e he
    obtain ⟨t, ht, rfl⟩ := List.mem_map.mp he
    obtain ⟨-, -, hheld⟩ := h t ht
    simp [hheld]

/-- Settles O35: threads that may use the core store read or write there, in the order of their indexes. -/
theorem coreStoreInstructionsMove : Obligations.CoreStoreInstructionsMove := by
  refine ⟨fun n => ?cld, fun n => ?cst⟩
  case cld =>
    refine issuesAs_of (fun _ _ => rfl) fun w s b g ⟨hw, hb, hzero, haligned, hmay⟩ => ?_
    obtain ⟨hfault, hheld⟩ := State.mayStore_accesses hmay
    simp only [hw, hb, hzero, haligned, hfault, hheld, ne_eq, not_true_eq_false, Bool.not_true, Bool.false_eq_true, or_self, if_false]
  case cst =>
    refine issuesAs_of (fun _ _ => rfl) fun w s b g ⟨hw, hb, hzero, haligned, hmay⟩ => ?_
    obtain ⟨hfault, hheld⟩ := State.mayStore_accesses hmay
    simp only [hw, hb, hzero, haligned, hfault, hheld, ne_eq, not_true_eq_false, Bool.not_true, Bool.false_eq_true, or_self, if_false,
      List.foldl_map]

/-! ### SYNC -/

/-- What a fence's last part leaves (04 R120). -/
theorem State.fenceDone_of_device {s : State} {core scope kind : Nat} (h : 2 ≤ scope) :
    s.fenceDone core scope kind = if kind % 2 = 1 then s.modCore core Core.dropCaches else s := by
  simp only [State.fenceDone, h, and_true]

theorem State.inFlight_or (s : State) (core group : Nat) (f h : Request → Bool) :
    (s.inFlight core group fun r => f r || h r) = (s.inFlight core group f || s.inFlight core group h) := by
  rw [Bool.eq_iff_iff]
  simp only [State.inFlight, Bool.or_eq_true, List.any_eq_true, Bool.and_eq_true, and_or_left, exists_or]

/-- Settles O37: each row goes through its own tests as the clause's conditions answer them. That a barrier has each group's own count and
how a fence's release and acquire parts end are the model's choices (log entries 26 and 27). -/
theorem syncInstructionsComplete : Obligations.SyncInstructionsComplete := by
  refine ⟨?nop, ?fence, ?releaseWaits, ?releaseEnds, ?bar, fun t => ?chimeReady, fun t => ?chimeWaits, fun t => ?chset⟩
  case nop =>
    refine issuesAs_of (fun _ _ => rfl) fun w s b g ⟨hc, himm⟩ => ?_
    rw [if_neg (by simp [hc, himm])]
  case fence =>
    refine issuesAs_of (fun _ _ => rfl) fun w s b g ⟨hc, himm, hkind, hexec, hacquire, hrelease⟩ => ?_
    rw [if_neg (by simp [hc, hkind]; omega), if_neg hexec, if_neg (by simpa using hacquire), if_neg hrelease]
    rfl
  case releaseWaits =>
    refine issuesAs_of (fun _ _ => rfl) fun w s b g ⟨hc, himm, hexec, hkind, hscope, hreturns, hstores⟩ => ?_
    rw [if_neg (by simp [hc]; omega), if_neg hexec, if_neg (by simpa using fun h _ => hreturns h), if_pos ⟨hkind, hscope⟩,
      if_pos hstores]
  case releaseEnds =>
    refine issuesAs_of (fun _ _ => rfl) fun w s b g ⟨hc, himm, hexec, hkind, hscope, hnone⟩ => ?_
    rw [State.inFlight_or, Bool.or_eq_false_iff] at hnone
    obtain ⟨hreturns, hstores⟩ := hnone
    rw [if_neg (by simp [hc]; omega), if_neg hexec, if_neg (by simp [hreturns]), if_pos ⟨hkind, hscope⟩, hstores,
      State.fenceDone_of_device hscope]
    rfl
  case bar =>
    refine issuesAs_of (fun _ _ => rfl) fun w s b g ⟨hc, himm, hexec, hreturns⟩ => ?_
    rw [if_neg (by simp [hc]; omega), if_neg hexec, hreturns]
    rfl
  case chimeReady =>
    refine issuesAs_of (fun _ _ => rfl) fun w s b g ⟨hc, himm, heven, hlow, hin, hready⟩ => ?_
    simp only [hc, himm, heven, hlow, hready, Nat.not_le_of_lt hin, ne_eq, not_true_eq_false, Bool.not_true, Bool.false_eq_true,
      or_self, if_true, if_false]
  case chimeWaits =>
    refine issuesAs_of (fun _ _ => rfl) fun w s b g ⟨hc, himm, heven, hlow, hin, hready⟩ => ?_
    simp only [hc, himm, heven, hlow, hready, Nat.not_le_of_lt hin, ne_eq, not_true_eq_false, Bool.not_true, Bool.false_eq_true,
      or_self, if_false]
  case chset =>
    refine issuesAs_of (fun _ _ => rfl) fun w s b g ⟨hc, himm, heven, hlow, hin⟩ => ?_
    simp only [hc, himm, heven, hlow, Nat.not_le_of_lt hin, ne_eq, not_true_eq_false, Bool.not_true, Bool.false_eq_true,
      or_self, if_false]

end Sys2Proof.Machine

/-! PROOFS. The classes MEMORY and ATOMIC (04 R114 to R118), and the encodings that end a task (04 R103, R110). -/
namespace Sys2Proof.Machine
open Sys2Proof

/-! ### Requests -/

/-- A request whose accesses may be made is sent, and the group goes on. -/
theorem State.issueRequest_of_mayRequest {s : State} {w : Ins} {b : Block} {g : Group} {n : Nat} {read write : Bool}
    {lane : Nat × Place → Lane} (h : s.mayRequest w b g n read write lane) (kind : RequestKind) (txn : TxnKind) :
    s.issueRequest w b g (s.mapThreads w b g n read write) kind txn n ((s.mapThreads w b g n read write).places.map lane) =
      .done (s.sentFor w b g n read write lane kind txn) g.step := by
  obtain ⟨hfaults, hdown, hplaces, htags⟩ := h
  have hlanes : ((s.mapThreads w b g n read write).places.map lane).isEmpty = false := by
    rw [List.isEmpty_eq_false_iff, ne_eq, List.map_eq_nil_iff]; exact hplaces
  simp only [State.issueRequest, State.sentFor, hfaults, worstFault_nil, hdown, hlanes, htags, Bool.not_true, Bool.false_eq_true,
    if_false]

/-- An LD whose core finds no error is a load (04 R114). -/
theorem exec_ld_zero (w : Ins) (s : State) : exec (.ld 0 w) s = loadWords w s := by
  show execLd 0 w s = _
  rw [execLd]
  split
  · rw [loadWords, pipeline, if_pos (Or.inl ‹_›)]
  · rfl

theorem exec_ld_corrected {w : Ins} (s : State) (h : w.core < 1728) : exec (.ld 1 w) s = exec (.ld 0 w) (s.coreCorrected w.core) := by
  rw [exec_ld_zero]
  show execLd 1 w s = _
  rw [execLd, if_neg (by omega)]
  rfl

theorem exec_ld_uncorrectable {ecc : Nat} {w : Ins} (s : State) (h : w.core < 1728) (hecc : 2 ≤ ecc) :
    exec (.ld ecc w) s = .next { s.coreFailure w.core with pending := s.pending } := by
  show execLd ecc w s = _
  rw [execLd, if_neg (by omega), if_neg (by omega), if_neg (by omega)]

/-- Settles O39: accesses that may be made are sent as one request, and a constant load takes its lines one by one. The error operand of
the LD row and the sets of the constant cache are the model's choices (log entries 21 and 32). -/
theorem memoryInstructionsRequest : Obligations.MemoryInstructionsRequest := by
  refine ⟨fun n => ?ld, fun w s h => exec_ld_corrected s h, fun ecc w s h hecc => exec_ld_uncorrectable s h hecc, fun n => ?ldcRequest,
    fun n => ?ldcCache, fun n => ?st⟩
  case ld =>
    refine issuesAs_of exec_ld_zero fun w s b g ⟨hw, hgood, hmay⟩ => ?_
    simp only [hw, hgood, Bool.not_true, Bool.false_eq_true, if_false]
    exact State.issueRequest_of_mayRequest hmay .load .read
  case ldcRequest =>
    refine issuesAs_of (fun _ _ => rfl) fun w s b g ⟨hw, hgood, hthrough, hmay⟩ => ?_
    have hload : (w.vol || w.seg == 2) = true := by simpa using hthrough
    simp only [hw, hgood, hload, Bool.not_true, Bool.false_eq_true, if_false, if_true]
    exact State.issueRequest_of_mayRequest hmay .load .read
  case ldcCache =>
    refine issuesAs_of (fun _ _ => rfl) fun w s b g ⟨hw, hgood, hvol, hseg, hfaults, hreads⟩ => ?_
    have hcached : (w.vol || w.seg == 2) = false := by simp [hvol, hseg]
    simp only [hw, hgood, hcached, hfaults, hreads, worstFault_nil, Bool.not_true, Bool.false_eq_true, if_false]
  case st =>
    refine issuesAs_of (fun _ _ => rfl) fun w s b g ⟨hw, hgood, hmay, hwide⟩ => ?_
    simp only [hw, hgood, hwide, Bool.and_false, Bool.not_true, Bool.false_eq_true, if_false]
    exact State.issueRequest_of_mayRequest hmay .store .write

theorem atomic_issues {row : Bool → Ins → Instr} {op : AtomicOp} (hrow : ∀ noret i s, exec (row noret i) s = atomic op noret i s)
    (noret : Bool) (n : Nat) :
    IssuesAs (row noret) (fun w => w.atomicSources op) (fun w => w.atomicDests noret)
      (fun w s b g => w.width = some n ∧ w.atomicGood op noret = true ∧ s.mayRequest w b g n true true (w.atomicLane g op n))
      (fun w s b g => s.sentFor w b g n true true (w.atomicLane g op n) (.atomic op (!noret)) .readExcl) (fun _ _ _ g => g.step) := by
  refine issuesAs_of (hrow noret) fun w s b g ⟨hw, hgood, hmay⟩ => ?_
  simp only [hw, hgood, Option.getD_some, Bool.not_true, Bool.false_eq_true, if_false]
  exact State.issueRequest_of_mayRequest hmay (.atomic op (!noret)) .readExcl

/-- Settles O40: each row is the rule of atomics with the row's own operation. -/
theorem atomicInstructionsRequest : Obligations.AtomicInstructionsRequest := by
  intro row op h
  simp only [List.mem_cons, Prod.mk.injEq, List.not_mem_nil, or_false] at h
  rcases h with ⟨rfl, rfl⟩ | ⟨rfl, rfl⟩ | ⟨rfl, rfl⟩ | ⟨rfl, rfl⟩ | ⟨rfl, rfl⟩ | ⟨rfl, rfl⟩ | ⟨rfl, rfl⟩ | ⟨rfl, rfl⟩ | ⟨rfl, rfl⟩ |
    ⟨rfl, rfl⟩ | ⟨rfl, rfl⟩ <;>
  exact atomic_issues fun _ _ _ => rfl

/-! ### Encodings outside the tables -/

theorem Ins.predDst_of_le {i : Ins} (h : 7 ≤ i.d) : i.predDst = none := by
  rw [Ins.predDst, if_pos (by omega)]

/-- A format code of 3, and an unused bit set, stand for no format (04 Table 4-5). -/
theorem Ins.fp_of_le {i : Ins} (h : 12 ≤ i.imm.toNat) : i.fp = none := by
  by_cases hbits : 16 ≤ i.imm.toNat
  · exact if_pos hbits
  · have hcode : i.imm.toNat / 4 = 3 := by omega
    simp only [Ins.fp, hbits, hcode, if_false]

theorem intRelation_of_le {rel : Nat} (h : 10 ≤ rel) : intRelation rel = none :=
  match rel, h with
  | _ + 10, _ => rfl

theorem fpRelation_of_le {rel : Nat} (h : 8 ≤ rel) : fpRelation rel = none :=
  match rel, h with
  | _ + 8, _ => rfl

theorem fpTwo_faults {row : Ins → Instr} {op : FpFormat → Rm → Nat → Nat → Nat × FpFlags} (hrow : ∀ i s, exec (row i) s = fpTwo i s op) :
    FaultsAs row (fun w => [w.a, w.b] ++ [w.d]) (fun w _ _ _ => 12 ≤ w.imm.toNat) stIllegal :=
  faultsAs_of hrow fun w s b g h => by simp only [Ins.fp_of_le h]; rfl

theorem sfu_faults {row : Ins → Instr} {op : Nat → Nat × FpFlags} (hrow : ∀ i s, exec (row i) s = sfu i s op) :
    FaultsAs row (fun w => [w.a] ++ [w.d]) (fun w _ _ _ => w.b ≠ 0 ∨ w.c ≠ 0 ∨ w.imm ≠ 0) stIllegal :=
  faultsAs_of hrow fun _ _ _ _ h => if_pos h

theorem specialRegister_of_reserved (b : Block) (group : Nat) (g : Group) {n : Nat} (t : Nat) (h : 24 ≤ n ∨ (6 ≤ n ∧ n < 16)) :
    specialRegister b group g n t = none := by
  unfold specialRegister
  iterate 7 rw [if_neg (by omega)]

/-- A stack without room takes no entries (04 R108). -/
theorem Group.push_of_full {g : Group} {l : List StackEntry} (h : 32 < g.stack.length + l.length) : g.push l = none := if_pos h

/-- A BRC whose threads part pushes two entries. -/
theorem Group.brc_of_full {g : Group} {w : Ins} (target join : Nat) (hfalls : g.falls w ≠ 0) (htaken : g.taken w ≠ 0)
    (hfull : 31 ≤ g.stack.length) :
    g.brc (if w.pneg then ~~~(g.predMask w.pred.toNat) else g.predMask w.pred.toNat) target join = none := by
  have hpush (x y : StackEntry) : g.push [x, y] = none :=
    Group.push_of_full (show 32 < g.stack.length + 2 by omega)
  rw [Group.falls] at hfalls
  rw [Group.taken] at htaken
  simp only [Group.brc, hfalls, htaken, hpush, Option.map_none, if_false, ite_self]

/-- Settles O43: each row's own tests stop it. That unused fields are zero, and that ICMP and FCMP have no further relations, are the
model's choices (log entries 19 and 20). -/
theorem undefinedEncodingsFault : Obligations.UndefinedEncodingsFault := by
  refine ⟨fun rel => ?icmp, fun rel => ?fcmp, ?fp, ?sfu, ?mov, ?movs, ?fence, ?bra, ?brc, ?brcFull, ?callFull, ?ldc, ?mbegin⟩
  case icmp =>
    refine faultsAs_of (fun _ _ => rfl) fun w s b g h => ?_
    rcases h with hrel | hd
    · simp only [intRelation_of_le hrel]; rfl
    · simp only [Ins.predDst_of_le hd]; cases intRelation rel <;> rfl
  case fcmp =>
    refine faultsAs_of (fun _ _ => rfl) fun w s b g h => ?_
    rcases h with hrel | hd | hfp
    · simp only [fpRelation_of_le hrel]; rfl
    · simp only [Ins.predDst_of_le hd]; cases fpRelation rel <;> rfl
    · simp only [Ins.fp_of_le hfp]; cases fpRelation rel <;> cases w.predDst <;> rfl
  case fp =>
    simp only [List.mem_cons, List.not_mem_nil, or_false, forall_eq_or_imp, forall_eq]
    exact ⟨fpTwo_faults fun _ _ => rfl, fpTwo_faults fun _ _ => rfl, fpTwo_faults fun _ _ => rfl, fpTwo_faults fun _ _ => rfl,
      fpTwo_faults fun _ _ => rfl, fpTwo_faults fun _ _ => rfl, fpTwo_faults fun _ _ => rfl⟩
  case sfu =>
    simp only [List.mem_cons, List.not_mem_nil, or_false, forall_eq_or_imp, forall_eq]
    exact ⟨sfu_faults fun _ _ => rfl, sfu_faults fun _ _ => rfl, sfu_faults fun _ _ => rfl, sfu_faults fun _ _ => rfl,
      sfu_faults fun _ _ => rfl, sfu_faults fun _ _ => rfl, sfu_faults fun _ _ => rfl, sfu_faults fun _ _ => rfl⟩
  case mov =>
    refine faultsAs_of (fun _ _ => rfl) fun w s b g hc => ?_
    rw [Ins.moveGood, beq_false_of_ne hc]; rfl
  case movs =>
    refine faultsAs_of (fun _ _ => rfl) fun w s b g h => ?_
    simp only [specialRegister_of_reserved b w.group g 0 h, Option.isNone_none, Bool.or_true, if_true]; rfl
  case fence =>
    refine faultsAs_of (fun _ _ => rfl) fun w s b g h => ?_
    rw [if_pos (Or.inr h)]; rfl
  case bra =>
    refine faultsAs_of (fun _ _ => rfl) fun w s b g h => ?_
    simp only [Ins.noFields, Classical.not_and_iff_not_or_not] at h
    rw [if_pos h]; rfl
  case brc =>
    refine faultsAs_of (fun _ _ => rfl) fun w s b g h => ?_
    rw [if_pos h]; rfl
  case brcFull =>
    refine faultsAs_of (fun _ _ => rfl) fun w s b g ⟨hd, ha, hjoin, hfalls, htaken, hfull⟩ => ?_
    rw [if_neg (by simp [hd, ha, hjoin])]
    simp only [Group.brc_of_full _ _ hfalls htaken hfull]
  case callFull =>
    refine faultsAs_of (fun _ _ => rfl) fun w s b g ⟨⟨hd, ha, hb, hc⟩, hfull⟩ => ?_
    rw [if_neg (by simp [hd, ha, hb, hc])]
    have hpush (e : StackEntry) : g.push [e] = none := Group.push_of_full (show 32 < g.stack.length + 1 by omega)
    simp only [hpush]
  case ldc =>
    refine faultsAs_of (fun _ _ => rfl) fun w s b g h => ?_
    simp only [h]; rfl
  case mbegin =>
    refine faultsAs_of (fun _ _ => rfl) fun w s b g ⟨hexec, hbase⟩ => ?_
    rw [if_neg hexec]
    split
    · rfl
    · exact if_pos hbase

end Sys2Proof.Machine

/-! PROOFS. Dispatch and switching (04 R96, 13 R306 to R315, 19 R435, R439): each event where its occasion holds. -/
namespace Sys2Proof.Machine
open Sys2Proof

/-! ### The first of the groups that are ready -/

/-- What is kept of a list is one of it, or what was there before, and no other became ready earlier. -/
theorem foldl_earlier_some {x y : Nat × Nat} (l : List (Nat × Nat)) (h : l.foldl earlier (some x) = some y) :
    (y = x ∨ y ∈ l) ∧ y.1 ≤ x.1 ∧ ∀ e ∈ l, y.1 ≤ e.1 := by
  induction l generalizing x with
  | nil =>
    cases h
    exact ⟨.inl rfl, Nat.le_refl _, nofun⟩
  | cons e l ih =>
    rw [List.foldl_cons, earlier] at h
    split at h
    case isTrue hlt =>
      obtain ⟨hmem, hle, hall⟩ := ih h
      refine ⟨.inr (List.mem_cons.mpr hmem), by omega, List.forall_mem_cons.mpr ⟨hle, hall⟩⟩
    case isFalse hge =>
      obtain ⟨hmem, hle, hall⟩ := ih h
      exact ⟨hmem.imp_right (List.mem_cons_of_mem e), hle, List.forall_mem_cons.mpr ⟨by omega, hall⟩⟩

theorem firstReady_spec {l : List (Nat × Nat)} {k : Nat} (h : firstReady l = some k) : ∃ r, (r, k) ∈ l ∧ ∀ e ∈ l, r ≤ e.1 := by
  obtain ⟨y, hy, rfl⟩ := Option.map_eq_some_iff.mp h
  cases l with
  | nil => nomatch hy
  | cons e l =>
    obtain ⟨hmem, hle, hall⟩ := foldl_earlier_some l hy
    exact ⟨y.1, List.mem_cons.mpr hmem, List.forall_mem_cons.mpr ⟨hle, hall⟩⟩

/-! ### Each event's own function under its occasion -/

theorem State.windowSwap_eq {s : State} {core slot n k : Nat} {b : Block} {g : Group} (hb : (s.core core).block = some b)
    (hphase : (s.core core).phase = .running) (hslot : (s.core core).window[slot]? = some (some n)) (hg : b.groups[n]? = some g)
    (hleaves : g.finished = true ∨ g.wait ≠ .none ∨ s.inFlight core n Request.returns = true)
    (hk : firstReady (s.readyOutside core b) = some k) :
    s.windowSwap core slot =
      ((s.modGroup core n fun g => { g with regCache := [] }).modGroup core k fun g => { g with regCache := [] }).modCore core fun c =>
        { c with window := lmod c.window slot fun _ => some k } := by
  have hgives : s.givesWay core n g = true := by simpa [State.givesWay, or_assoc] using hleaves
  simp only [State.windowSwap, hb, hslot, hg, hphase, hk, hgives, Option.any_some, beq_self_eq_true, Bool.and_self]

theorem State.taskStart_eq {s : State} {list task core : Nat} {a : ReadyTask × Nat} (ha : a ∈ s.assignments) (hlist : a.1.list = list)
    (htask : a.1.task = task) (hcore : a.2 = core) :
    s.taskStart list task core = (s.modCore core fun c => { c with switchAt := c.freeSince }).takeCore list task core :=
  if_pos (List.any_eq_true.mpr ⟨a, ha, by simp [hlist, htask, hcore]⟩)

theorem State.taskRetire_eq {s : State} {core : Nat} {b : Block} (hb : (s.core core).block = some b)
    (hphase : (s.core core).phase = .running) (hdone : b.groups.all (·.finished) = true) (hdrained : s.drained core = true) :
    s.taskRetire core = ((s.modTask b.list b.task fun t => { t with mode := .retired }).freeCore core).finishList b.list := by
  simp only [State.taskRetire, hb, hphase, hdone, hdrained, Bool.not_true, Bool.or_self, Bool.false_eq_true, if_false]

theorem State.switchRequest_eq {s : State} {list task core : Nat} {r : Request13}
    (hr : s.switchRequests.find? (fun r => r.ready.list == list && r.ready.task == task) = some r) (hvictim : r.victim = some core)
    (hpassed : r.passed = none) :
    s.switchRequest list task core = s.modCore core fun c => { c with phase := .draining list task, switchAt := s.now } := by
  simp only [State.switchRequest, hr, hvictim, hpassed, Option.isSome_none, Bool.false_and, Bool.false_eq_true, if_false, if_true]

theorem State.drainComplete_eq {s : State} {core list task : Nat} (hphase : (s.core core).phase = .draining list task)
    (hdrained : s.drained core = true) :
    s.drainComplete core =
      (s.modCore core fun c => { c with phase := .saving list task }).modBlock core fun b =>
        { b with groups := b.groups.map fun g => { g with regCache := [] } } := by
  simp only [State.drainComplete, hphase, hdrained, if_true]

theorem State.restoreComplete_eq {s : State} {core list task : Nat} {l : WorkList} {x : Task} {k : Kit}
    (hphase : (s.core core).phase = .restoring list task) (hl : s.list list = some l) (hx : s.task list task = some x)
    (hk : s.kit l.kit = some k) (hgood : s.saveBad x = false) {b : Block} {t : State} {h : List Byte}
    (hb : b = s.readSave x.record.saveArea list task l.kit k.partition x) (ht : t = s.useFree.runBlock core l.context b)
    (hh : h = t.readT1 x.record.saveArea 128) :
    s.restoreComplete core =
      ((t.writeT1 x.record.saveArea (h.take 17 ++ [0] ++ h.drop 18)).resumeWaits core k.chimeBase b.groups).countSwitch l.kit 0 0
        (s.now - (s.core core).switchAt) := by
  subst hh ht hb
  simp only [State.restoreComplete, hphase, hl, hx, hk, hgood, Option.map_some, Option.getD_some, Bool.false_eq_true, if_false]

theorem State.repetition_eq {s : State} {kit : Nat} {k : Kit} (hrun : s.beat.running = true) (hnow : s.now = s.beat.start)
    (hk : s.kit kit = some k) (hmode : k.mode = .admitted)
    (hagain : (s.lists.filter fun l => l.kit == kit && l.repeat_ && l.cancelled) ≠ []) (hfrozen : s.frozenKit kit = false)
    (hin : s.stationsIn kit = true) :
    s.repetition kit = (s.lists.filter fun l => l.kit == kit && l.repeat_ && l.cancelled).foldl (fun t l =>
      (t.modList l.id fun l => { l with tasks := l.tasks.map t.repeatTask }).relaunch l.id) s := by
  have hsome : (s.lists.filter fun l => l.kit == kit && l.repeat_ && l.cancelled).isEmpty = false := List.isEmpty_eq_false_iff.mpr hagain
  simp only [State.repetition, hrun, hnow, hk, hmode, hsome, hfrozen, hin, Option.any_some, beq_self_eq_true, Bool.true_or, Bool.not_true,
    Bool.false_eq_true, ne_eq, not_true_eq_false, or_self, if_false]

/-- Settles O47: each clause is the equation of its event's own function under the clause's conditions. That a repetition is a step right
after the downbeat, and that waits are kept beside the saved task, are the model's choices (log entries 101 and 148). -/
theorem coreEventsHappen : Obligations.CoreEventsHappen := by
  refine ⟨?swap, fun l k h => firstReady_spec h, ?start, ?retire, ?request, ?drain, ?save, ?restore, ?timeout, ?repetition⟩
  case swap =>
    intro core slot n k b g s hcore hb hphase hslot hg hleaves hk
    exact leads_at rfl (decide_eq_true hcore) (State.windowSwap_eq hb hphase hslot hg hleaves hk)
  case start =>
    intro list task core a s hcore ha hlist htask hat
    exact leads_at rfl (decide_eq_true hcore) (State.taskStart_eq ha hlist htask hat)
  case retire =>
    intro core b s hcore hb hphase hdone hdrained
    exact leads_at rfl (decide_eq_true hcore) (State.taskRetire_eq hb hphase hdone hdrained)
  case request =>
    intro list task core r s hcore hr hvictim hpassed
    exact leads_at rfl (decide_eq_true hcore) (State.switchRequest_eq hr hvictim hpassed)
  case drain =>
    intro core list task s hcore hphase hdrained
    exact leads_at rfl (decide_eq_true hcore) (State.drainComplete_eq hphase hdrained)
  case save =>
    intro core list task b out l s hcore hphase hb hout hl
    refine leads_at rfl (decide_eq_true hcore) ?_
    simp only [State.saveComplete, hphase, hb, hout, hl, ← Bool.not_eq_true, ite_not]
  case restore =>
    intro core list task l x k s hcore hphase hl hx hk hgood
    exact leads_at rfl (decide_eq_true hcore) (State.restoreComplete_eq hphase hl hx hk hgood rfl rfl rfl)
  case timeout =>
    intro core s hcore hphase
    exact leads_at rfl (decide_eq_true hcore) (if_neg hphase)
  case repetition =>
    intro kit k s hrun hnow hk hmode hagain hfrozen hin
    exact leads_of rfl (State.repetition_eq hrun hnow hk hmode hagain hfrozen hin)

end Sys2Proof.Machine

/-! PROOFS. What happens at slices and home ports (04 R97, R122; 06 R151 to R154; 07 R171 to R173; 08 R202, R207; 09 R217, R227). -/
namespace Sys2Proof.Machine
open Sys2Proof

/-! ### Returns and acknowledgements -/

theorem State.loadReturn_eq {s : State} {id : Nat} {r : Request} (hr : s.request id = some r) (hkind : r.kind = .load)
    (hlanes : r.lanes = []) (herror : r.error = 0) :
    s.loadReturn id =
      ((((s.dropRequest id).modGroup r.core r.group fun g =>
        g.writeMany r.dst (r.width / 4) (BitVec.ofNat 64 (maskOf (r.returned.map (·.1)))) fun t =>
          ((r.returned.find? fun w => w.1 == t).map (·.2)).getD []).gotValue r.core r.group).endFence r.core r.group) := by
  simp [State.loadReturn, hr, Request.returns, Request.plain, hkind, hlanes, herror]

theorem State.storeAck_eq {s : State} {id : Nat} {r : Request} (hr : s.request id = some r) (hkind : r.kind = .store)
    (hlanes : r.lanes = []) :
    s.storeAck id = if r.error ≠ 0 then
      (s.dropRequest id).accessFault r.core r.group (some r.errorThread) r.error r.errorAddress r.pc r.active r.errorLine
      else (s.dropRequest id).endFence r.core r.group := by
  simp [State.storeAck, hr, Request.returns, Request.stores, hkind, hlanes]

theorem State.tileReturn_eq {s : State} {id c f l : Nat} {soft : Bool} {words : List Word} {r : Request} (hr : s.request id = some r)
    (hkind : r.kind = .tileLoad c soft f) (hlanes : r.lanes = []) (herror : r.error = 0) (hreturned : r.returned = [(l, words)]) :
    s.tileReturn id =
      (((((s.dropRequest id).modBlock r.core fun b =>
        b.storeWrite c ((words.take 1024).flatMap fun w => leBytes 4 w.toNat)).modGroup r.core r.group fun g =>
          (g.write r.dst r.mask fun _ => words.getD 1024 0).write (r.dst + 1) r.mask fun _ => 0).gotValue r.core r.group).endFence
            r.core r.group) := by
  simp only [State.tileReturn, hr, hkind, hlanes, herror, hreturned, if_true]
  rfl

/-! ### Tiles -/

theorem State.tilePublication_eq {s : State} {id c a : Nat} {payload tag : List Byte} {l : Lane} {rest : List Lane} {r : Request}
    (hr : s.request id = some r) (hkind : r.kind = .tileStore c payload tag) (hlanes : r.lanes = l :: rest) (hplace : l.place = .tier1 a)
    (hfirst : s.barred r (s.tileStation r) = false) :
    s.tilePublication id =
      State.doneLanes { s with mem := s.mem.publish (a / 4096) payload (Tag.ofBytes tag),
                               fail := { s.fail with written := addOnce s.fail.written (a / 2 ^ 23) } } id [l] [] := by
  simp only [State.tilePublication, hr, hkind, hlanes, hplace, hfirst, Bool.false_eq_true, if_false]

theorem State.tileRead_eq {s : State} {id c f a : Nat} {soft : Bool} (upsets : List Upset) {l : Lane} {rest : List Lane} {r : Request}
    (hr : s.request id = some r) (hkind : r.kind = .tileLoad c soft f) (hlanes : r.lanes = l :: rest) (hplace : l.place = .tier1 a)
    (hfirst : s.barred r (s.tileStation r) = false) (hwaits : s.waitsFill r l = false)
    (hlive : (s.observe upsets).mem.deadBits.contains (a / 4096) = false) :
    s.tileRead id upsets =
      (s.observe upsets).performTile r [l] (a / 4096) ((s.observe upsets).lineData (a / 4096)) ((s.observe upsets).tag (a / 4096))
        none := by
  simp only [State.tileRead, hr, hkind, hlanes, hplace, hfirst, hwaits, hlive, Bool.or_self, Bool.false_eq_true, if_false]

theorem State.homePortTileWrite_eq {s t : State} {id : Nat} (upsets : List Upset) {e : PendingTile} {x : Object} {r : Request}
    {w : State × Nat} (hid : id ≠ 0) (he : s.mem.pendingTiles.find? (fun e => e.id == id) = some e)
    (hx : tget (s.observe upsets).objects e.object = some x)
    (ht : t = { s.observe upsets with mem := { (s.observe upsets).mem with
      pendingTiles := (s.observe upsets).mem.pendingTiles.filter (·.id != id) } })
    (hw : w = t.writeTile e.object x e.tile e.payload e.tag) (hr : w.1.request id = some r) (hok : w.2 = stOk) :
    s.homePortTileWrite id upsets = w.1.doneLanes id r.lanes [] := by
  have hfind : s.mem.pendingTiles.find? (fun e => e.id == id && id != 0) = some e := by
    simpa only [bne_iff_ne.mpr hid, Bool.and_true] using he
  subst hw ht
  simp only [State.homePortTileWrite, hfind, hx, hr, hok, if_true]

/-! ### Accesses, fills, transfers and scrub -/

theorem State.sliceAccess_eq {s : State} {id station : Nat} (upsets : List Upset) {r : Request} (hr : s.request id = some r)
    (hplain : r.plain = true) (hfirst : s.barred r station = false) :
    s.sliceAccess id station upsets = (s.observe upsets).serveAt r station := by
  simp only [State.sliceAccess, hr, hplain, hfirst, Bool.not_true, Bool.false_eq_true, or_self, if_false]

theorem State.fillReturns_eq {s : State} {station object line : Nat} {slot : Nat × Line} (upsets : List Upset) {f : Fill}
    (hf : s.mem.fills.find? (fun f => f.station == station && f.object == object && f.line == line) = some f)
    (hline : (s.fillComplete station object line upsets).findLine object line = some slot)
    (hnone : (s.fillComplete station object line upsets).mem.fills.any (fun g => g.object == object && g.line == line) = false) :
    s.fillReturns station object line upsets = (s.fillComplete station object line upsets).sendFill station f.requesters := by
  simp only [State.fillReturns, hf, hline, hnone, Bool.false_eq_true, if_false]

theorem State.transferComplete_eq {s : State} {id : Nat} {x : Transfer} (hx : s.transfer id = some x) (hring : x.ring = false) :
    s.transferComplete id = (s.moveAll x).1.endTransfer x (s.moveAll x).2 := by
  simp only [State.transferComplete, hx, hring, Bool.false_eq_true, if_false]

theorem State.scrubStep_eq {s : State} {tier unit : Nat} {symbols : List Nat} {w : WordPlace}
    (hw : w = scrubPlace tier unit (s.scrubNext tier unit)) (hdiagnostic : s.diagnostic w = false) (hsound : s.isPoisoned w = false)
    (hseen : (s.seeWord w symbols 1).isPoisoned w = false) :
    s.scrubStep tier unit symbols = (s.seeWord w symbols 1).scrubTo tier unit (s.scrubNext tier unit + 1) := by
  subst hw
  simp only [State.scrubStep, hdiagnostic, hsound, hseen, Bool.or_self, Bool.false_eq_true, if_false]

theorem State.partRebuilt_eq {s : State} {station bank m : Nat} (hm : (s.bank station bank).rebuilding = some m) :
    s.partRebuilt station bank =
      (s.modBank station bank fun b => { b with rebuilding := none }).logEvent 0x07 5 station 0xFF 0 (bank * 2 ^ 23) 0xFF m := by
  simp only [State.partRebuilt, hm]

/-- Settles O49: each clause is the equation of its event's own function under the clause's conditions. That the bytes of a transfer move
when it completes is the model's choice (log entry 15). -/
theorem memoryEventsHappen : Obligations.MemoryEventsHappen := by
  refine ⟨?load, ?ack, ?ackFault, ?publication, ?tileRead, ?tileReturn, ?homePort, ?access, ?fill, ?transfer, ?scrub, ?rebuilt⟩
  case load =>
    intro id r s harrived hr hkind hlanes herror
    refine leads_of rfl ((if_neg (by simp [harrived])).trans ((if_pos ?_).trans (State.loadReturn_eq hr hkind hlanes herror)))
    simp only [hr, Option.any_some, Request.plain, hkind]
  case ack =>
    intro id r s hr hkind hlanes herror
    exact leads_of rfl ((State.storeAck_eq hr hkind hlanes).trans (if_neg (not_not_intro herror)))
  case ackFault =>
    intro id r s hr hkind hlanes herror
    exact leads_of rfl ((State.storeAck_eq hr hkind hlanes).trans (if_pos herror))
  case publication =>
    intro id c a payload tag l rest r s hr hkind hlanes hplace hfirst
    exact leads_of rfl (State.tilePublication_eq hr hkind hlanes hplace hfirst)
  case tileRead =>
    intro id c f a soft upsets l rest r s hr hkind hlanes hplace hfirst hwaits hlive
    exact leads_of rfl (State.tileRead_eq upsets hr hkind hlanes hplace hfirst hwaits hlive)
  case tileReturn =>
    intro id c f soft words l r s harrived hr hkind hlanes herror hreturned
    refine leads_of rfl ((if_neg (by simp [harrived])).trans ((if_neg ?_).trans
      (State.tileReturn_eq hr hkind hlanes herror hreturned)))
    simp only [hr, Option.any_some, Request.plain, hkind, Bool.false_eq_true, not_false_eq_true]
  case homePort =>
    intro id upsets e x r w s hid he hx hw hr hok
    exact leads_of rfl (State.homePortTileWrite_eq upsets hid he hx rfl hw hr hok)
  case access =>
    intro id station upsets r s hstation hin hr hplain hfirst
    exact leads_at rfl (decide_eq_true hstation) ((if_neg (by simp [hin])).trans (State.sliceAccess_eq upsets hr hplain hfirst))
  case fill =>
    intro station object line slot upsets f s hstation hin hf hline hnone
    exact leads_at rfl (decide_eq_true hstation) ((if_neg (by simp [hin])).trans (State.fillReturns_eq upsets hf hline hnone))
  case transfer =>
    intro id upsets x s hx hring
    exact leads_of rfl (State.transferComplete_eq hx hring)
  case scrub =>
    intro tier unit symbols s hwaits hdiagnostic hsound hseen
    exact leads_of rfl ((if_neg (by simp [hwaits])).trans (State.scrubStep_eq rfl hdiagnostic hsound hseen))
  case rebuilt =>
    intro station bank m s hstation hm
    exact leads_at rfl (decide_eq_true hstation) (State.partRebuilt_eq hm)

end Sys2Proof.Machine

/-! PROOFS. The class MATRIX (05 R126 to R143): what each instruction does once its tests let it go on. -/
namespace Sys2Proof.Machine
open Sys2Proof

/-! ### Issue -/

/-- A matrix instruction with an executing thread and a defined encoding completes as its own function does (05 R139, R142). -/
theorem matrixIssuesAs_of {row : Ins → Instr} {src dst : Ins → List Nat} {ok : Ins → Bool}
    {good : Ins → State → Block → Group → Prop} {t : Ins → State → Block → Group → State} {h : Ins → State → Block → Group → Group}
    {f : Ins → State → Block → Group → Issued} (hrow : ∀ i s, exec (row i) s = matrixIssue i s (src i) (dst i) (ok i) (f i))
    (hf : ∀ i s b g, good i s b g → g.exec i ≠ 0 ∧ ok i = true ∧ f i s b g = .done (t i s b g) (h i s b g)) :
    IssuesAs row src dst good t h := by
  refine issuesAs_of hrow fun i s b g hgood => ?_
  obtain ⟨hexec, henc, hdone⟩ := hf i s b g hgood
  rw [if_neg hexec, if_neg (by simp [henc])]
  exact hdone

/-! ### Operands -/

/-- Operands that are aligned and lie within the core store meet no fault (05 R129, R139). -/
theorem panelFaults_eq_nil {a n align : Nat} (t : Nat) (halign : a % align = 0) (hrange : a + n ≤ coreStoreSize) :
    panelFaults t a n align = [] := by
  rw [panelFaults, if_neg (not_not_intro halign), if_neg (Nat.not_lt_of_le hrange), List.append_nil]

/-- Divergence of a group-wide instruction is no fault where RELAX is 1 (05 R142). -/
theorem divergedFaults_eq_nil {g : Group} {w : Ins} (h : g.diverged w = true → w.relax = true) : divergedFaults g w = [] :=
  if_neg (by simpa using h)

/-! ### Chunks (05 R135) -/

/-- Chunks appended one by one count one each, and leave BASE. -/
theorem Accumulator.foldl_append_count_base (value : Nat → List Word) (afmt bfmt free : Nat) (l : List Nat) : ∀ a : Accumulator,
    (l.foldl (fun x k => x.append (value k) afmt bfmt free) a).count = a.count + l.length ∧
      (l.foldl (fun x k => x.append (value k) afmt bfmt free) a).base = a.base := by
  induction l with
  | nil => exact fun _ => ⟨rfl, rfl⟩
  | cons k l ih =>
    intro a
    obtain ⟨hcount, hbase⟩ := ih (a.append (value k) afmt bfmt free)
    refine ⟨hcount.trans ?_, hbase⟩
    rw [List.length_cons, Nat.add_comm l.length, ← Nat.add_assoc]
    rfl

theorem Block.stepped_count_base (b : Block) (w : Ins) (g : Group) (sparse : Bool) (free : Nat) :
    (b.stepped w g sparse free).count = (b.accumulator w.acc).count + stepChunks sparse ∧
      (b.stepped w g sparse free).base = (b.accumulator w.acc).base := by
  have h := Accumulator.foldl_append_count_base
    (stepValues { g, mask := g.exec w, start := w.a, scales := w.b, code := w.afmt, per := 8 * stepChunks sparse }
      (b.stepPanel w g sparse) w.bfmt sparse)
    w.afmt w.bfmt free (List.range (stepChunks sparse)) (b.accumulator w.acc)
  rwa [List.length_range] at h

/-! ### The instructions -/

/-- MMA and MMAS are one rule, which `sparse` tells apart. -/
theorem exec_matrixStep (sparse : Bool) (i : Ins) (s : State) :
    exec ((if sparse then Instr.mmas else Instr.mma) i) s = matrixStep sparse i s := by
  cases sparse <;> rfl

/-- Settles O41: each row goes through its own tests as the clause's conditions answer them. That the inputs of MSTORE, MRED and MQUANT are
read before any byte is written, and that a matrix step takes effect whole at its issue, are the model's choices (log entries 40 and 41). -/
theorem matrixInstructionsComplete : Obligations.MatrixInstructionsComplete := by
  refine ⟨?mbegin, fun sparse => ?step, fun b w g sparse free => Block.stepped_count_base b w g sparse free, ?mread, ?mstore, ?mloadp,
    ?mred, ?mquant⟩
  case mbegin =>
    refine matrixIssuesAs_of (fun _ _ => rfl) fun w s b g ⟨hexec, hd, hb, hc, hbits, hbase⟩ => ⟨hexec, ?_, ?_⟩
    · simp [hd, hb, hc, hbits]
    · exact if_neg (Nat.not_le_of_lt hbase)
  case step =>
    refine matrixIssuesAs_of (exec_matrixStep sparse) fun w s b g ⟨hexec, hgood, hfaults, hheld⟩ => ⟨hexec, hgood, ?_⟩
    simp only [hfaults, worstFault_nil, hheld, Bool.false_eq_true, if_false]
  case mread =>
    refine matrixIssuesAs_of (fun _ _ => rfl) fun w s b g ⟨hexec, hgood, hrelax⟩ => ⟨hexec, hgood, ?_⟩
    simp only [divergedFaults_eq_nil hrelax, worstFault_nil]
  case mstore =>
    refine matrixIssuesAs_of (fun _ _ => rfl) fun w s b g ⟨hexec, hgood, hfaults, hheld⟩ => ⟨hexec, hgood, ?_⟩
    simp only [hfaults, worstFault_nil, hheld, Bool.false_eq_true, if_false]
  case mloadp =>
    refine matrixIssuesAs_of (fun _ _ => rfl)
      fun w s b g ⟨hexec, hd, hb, hc, hbits, halign, hrange, hsound, hheld⟩ => ⟨hexec, ?_, ?_⟩
    · simp [hd, hb, hc, hbits]
    · simp only [panelFaults_eq_nil _ halign hrange, hsound, hheld, List.append_nil, worstFault_nil, Bool.false_eq_true, if_false]
  case mred =>
    refine matrixIssuesAs_of (fun _ _ => rfl) fun w s b g ⟨hexec, hd, hbits, hfaults, hleft, hright, hout⟩ => ⟨hexec, ?_, ?_⟩
    · simp [hd, hbits]
    · simp only [hfaults, worstFault_nil, hleft, hright, hout, Bool.or_self, Bool.false_eq_true, if_false]
  case mquant =>
    refine matrixIssuesAs_of (fun _ _ => rfl)
      fun w s b g ⟨hexec, hgood, hsource, htarget, hread, hwritten⟩ => ⟨hexec, hgood, ?_⟩
    simp only [hsource, htarget, hread, hwritten, List.append_nil, worstFault_nil, Bool.or_self, Bool.false_eq_true, if_false]

end Sys2Proof.Machine

/-! PROOFS. The class TILE (06 R158, R159) and the tile that stands in for a dead one (06 R147, R157). -/
namespace Sys2Proof.Machine
open Sys2Proof

/-! ### TLOAD and TSTORE -/

/-- Settles O42: the clause's conditions take both instructions through the tests of a tile instruction to its request. -/
theorem tileInstructionsRequest : Obligations.TileInstructionsRequest := by
  refine ⟨fun p => ?tload, fun p => ?tstore⟩
  case tload =>
    refine matrixIssuesAs_of (fun _ _ => rfl) fun w s b g ⟨hexec, hgood, hdst, hfaults, hplace, hroom, hheld⟩ => ⟨hexec, ?_, ?_⟩
    · rw [hgood, hdst, Bool.and_self]
    · simp only [hfaults, hplace, worstFault_nil, Nat.not_le_of_lt hroom, hheld, decide_false, Bool.or_self, Bool.false_eq_true, if_false]
  case tstore =>
    refine matrixIssuesAs_of (fun _ _ => rfl) fun w s b g ⟨hexec, hgood, hdst, hfaults, hplace, hroom, hheld⟩ => ⟨hexec, ?_, ?_⟩
    · rw [hgood, hdst, BEq.rfl, Bool.and_self]
    · simp only [hfaults, hplace, worstFault_nil, Nat.not_le_of_lt hroom, hheld, decide_false, Bool.or_self, Bool.false_eq_true, if_false]

/-! ### The zero-filled tile -/

/-- The CRC and VERSION of a tag take its first 8 bytes (06 Table 6-1). -/
theorem Tag.bytes_drop_eight (t : Tag) :
    t.bytes.drop 8 = leBytes 1 t.format ++ leBytes 1 t.flags ++ zeros 2 ++ leBytes 4 t.producer.toNat := rfl

/-- A tile's CRC covers neither the CRC of its tag nor VERSION (06 R147). -/
theorem tileCrcOf_congr (payload : List Byte) {t u : Tag} (hformat : t.format = u.format) (hflags : t.flags = u.flags)
    (hproducer : t.producer = u.producer) : tileCrcOf payload t = tileCrcOf payload u := by
  rw [tileCrcOf, tileCrcOf, Tag.bytes_drop_eight, Tag.bytes_drop_eight, hformat, hflags, hproducer]

/-- The tag but for its CRC, kept as a variable: the kernel would compute the CRC of 4,096 zeros if it compared whole tags. -/
theorem zeroTile_eq (t : Tag) :
    ∃ c, zeroTile t = { crc := c, version := t.version, format := t.format, flags := 3, producer := 0 } := ⟨_, rfl⟩

@[simp] theorem zeroTile_flags (t : Tag) : (zeroTile t).flags = 3 := rfl

@[simp] theorem zeroTile_format (t : Tag) : (zeroTile t).format = t.format := by
  obtain ⟨c, h⟩ := zeroTile_eq t
  rw [h]

@[simp] theorem zeroTile_version (t : Tag) : (zeroTile t).version = t.version := by
  obtain ⟨c, h⟩ := zeroTile_eq t
  rw [h]

@[simp] theorem zeroTile_producer (t : Tag) : (zeroTile t).producer = 0 := rfl

theorem zeroTile_crc (t : Tag) : (zeroTile t).crc = tileCrcOf (zeros 4096) (zeroTile t) :=
  tileCrcOf_congr (zeros 4096) (zeroTile_format t).symm (zeroTile_flags t).symm (zeroTile_producer t).symm

theorem tileSound_zeroTile (t : Tag) : tileSound (zeros 4096) (zeroTile t) = true := by
  rw [tileSound, ← zeroTile_crc, BEq.rfl, zeroTile_flags]
  rfl

/-- A transfer that reads a dead tile of tier 1 by its address counts the read, and where the partition is not strict it is given the
zero-filled tile (07 R183). -/
theorem State.tileGet_of_dead {s : State} {space a : Nat} (handle : Nat) (hspace : space ≠ 1) (hregion : region a = .tier1)
    (hdead : s.mem.deadBits.contains (s.spreadMap a / 4096) = true)
    (hlax : (s.partition (s.granule (a / 2 ^ 23)).partition).deadStrict = false) :
    s.tileGet space handle a =
      ⟨s.count (slotStation (s.spreadMap a / 4096)) (s.granule (a / 2 ^ 23)).partition fun k => { k with deadReads := k.deadReads + 1 },
        stOk, zeros 4096, zeroTile (s.tag (s.spreadMap a / 4096)), slotStation (s.spreadMap a / 4096)⟩ := by
  simp only [State.tileGet, hspace, hregion, hdead, hlax, Bool.false_eq_true, if_false, if_true]

/-- Settles O44: no field of the tag but the CRC itself depends on the CRC, and a dead tile's read answers with that tag. -/
theorem deadTilesReadAsZeros : Obligations.DeadTilesReadAsZeros := by
  refine ⟨fun t => ⟨zeroTile_flags t, zeroTile_format t, zeroTile_version t, zeroTile_producer t, zeroTile_crc t, tileSound_zeroTile t⟩, ?_⟩
  intro a handle slot space s hspace hregion hslot hdead hlax
  subst hslot
  rw [State.tileGet_of_dead handle hspace hregion hdead hlax]
  exact ⟨rfl, rfl, rfl⟩

end Sys2Proof.Machine

/-! PROOFS. Tier-1 commands (07 R169, R178 to R187, Tables 7-1 and 7-4). -/
namespace Sys2Proof.Machine
open Sys2Proof

/-! ### Pins and dead lines -/

/-- A dry run reports and changes nothing else (07 R178). -/
theorem tier1PinEffect_dryRun {c : Call} {s : State} {i : Nat} {o : Object} (hobj : s.objectOf (c.arg 0) = some (i, o))
    (hnone : noneApplies (c.pinRefusals s i o)) (hdry : c.arg 3 = 1) :
    tier1PinEffect c s = .done (c.pinReport s i o s) 0 := by
  rw [tier1PinEffect, hobj]
  exact (guards_of_none hnone).trans (if_pos hdry)

/-- A TIER1_PIN that every slice has room for pins what tier 1 holds and waits for the lines that are missing, if any are. -/
theorem tier1PinEffect_pins {c : Call} {s : State} {i : Nat} {o : Object} (hobj : s.objectOf (c.arg 0) = some (i, o))
    (hnone : noneApplies (c.pinRefusals s i o)) (hreal : c.arg 3 = 0) (hcache : s.cacheStations o.partition ≠ [])
    (hroom : c.pinFailing s i o = none) :
    tier1PinEffect c s =
      let t := c.pinReport s i o (c.pinResident s i o)
      if c.pinMissing s i o = [] then .done t 0
      else .defer { t with mem := { t.mem with pinnings := t.mem.pinnings ++
        [{ id := c.cmd.id, object := i, lines := c.pinMissing s i o, command := c.cmd.id }] } } (.pin c.cmd.id) 0 := by
  rw [tier1PinEffect, hobj]
  refine (guards_of_none hnone).trans ?_
  simp only [hreal, Nat.zero_ne_one, if_false, List.isEmpty_iff, hcache, hroom]

/-- Handle 0 names scratch lines by their address (07 R182). -/
theorem tier1DeadEffect_scratch {c : Call} {s : State} (hscratch : c.arg 0 = 0)
    (husable : c.physical = true ∨ s.usable c.function (s.granule (c.arg 1 / 2 ^ 23)).partition = true)
    (haddress : c.arg 1 % 4096 = 0) (hpos : c.arg 2 ≠ 0) (hbytes : c.arg 2 % 4096 = 0)
    (hin : s.inScratch (if c.physical then (s.granule (c.arg 1 / 2 ^ 23)).partition else c.partition)
      (c.arg 1) (c.arg 2) = true) :
    tier1DeadEffect c s =
      .done ((linePieces (c.arg 1) (c.arg 2)).foldl (fun t x => t.deadSlot (t.spreadMap x.1 / 4096)) s) 0 := by
  rw [tier1DeadEffect, if_pos hscratch]
  refine guards_of_none (noneApplies_cons.mpr ⟨?permitted, noneApplies_cons.mpr ⟨?place, noneApplies_singleton.mpr ?length⟩⟩)
  case permitted =>
    rcases husable with h | h
    · rw [h]; rfl
    · rw [h, Bool.not_true, Bool.and_false]
  case place =>
    have hmax : max (c.arg 2) 1 = c.arg 2 := by omega
    rw [haddress, hmax, hin]; rfl
  case length => rw [hbytes, beq_eq_false_iff_ne.mpr hpos]; rfl

theorem tier1DeadEffect_object {c : Call} {s : State} {i : Nat} {o : Object} (hhandle : c.arg 0 ≠ 0)
    (hobj : s.objectOf (c.arg 0) = some (i, o))
    (hnone : noneApplies (c.handleGuards s 0 ++ c.lineGuards o ++ c.objectGuards s 0)) :
    tier1DeadEffect c s =
      let r := (c.lineRun o).foldl (fun (x : State × Nat) l =>
        let y := x.1.deadLine i l
        (y.1, x.2 + y.2)) (s, 0)
      .done r.1 r.2 := by
  rw [tier1DeadEffect, if_neg hhandle, hobj]
  exact guards_of_none hnone

/-! ### Settings, counters and read-only copies -/

theorem tier1ConfigEffect_defer {c : Call} {s : State} (hpartition : noneApplies (c.partitionGuards s 0)) (hyoung : 1 ≤ c.arg 1)
    (hstrict : c.arg 3 ≤ 1) : tier1ConfigEffect c s = .defer s .downbeat 0 :=
  guards_of_none (noneApplies_append.mpr ⟨hpartition, noneApplies_cons.mpr
    ⟨decide_eq_false (Nat.not_lt.mpr hyoung), noneApplies_singleton.mpr (decide_eq_false (Nat.not_lt.mpr hstrict))⟩⟩)

theorem tier1CountersEffect_done {c : Call} {s : State} (hpartition : noneApplies (c.partitionGuards s 0)) (hfirst : c.arg 1 ≤ 53)
    (hpos : 1 ≤ c.arg 2) (hend : c.arg 1 + c.arg 2 ≤ 54) (hr : c.takesResult s 3 (64 * c.arg 2)) :
    tier1CountersEffect c s = .done (s.writeResult (c.arg 3)
      ((List.range (c.arg 2)).flatMap fun i => s.counterBytes (c.arg 1 + i) (c.arg 0))) 0 := by
  have hmin : min (c.arg 2) 54 = c.arg 2 := by omega
  have hstations : noneApplies
      [(decide (53 < c.arg 1), c.bad 1), (decide (c.arg 2 < 1) || decide (54 < c.arg 1 + c.arg 2), c.bad 2)] :=
    noneApplies_cons.mpr ⟨decide_eq_false (Nat.not_lt.mpr hfirst), noneApplies_singleton.mpr (Bool.or_eq_false_iff.mpr
      ⟨decide_eq_false (Nat.not_lt.mpr hpos), decide_eq_false (Nat.not_lt.mpr hend)⟩)⟩
  simp only [tier1CountersEffect, hmin]
  exact guards_of_none (noneApplies_append.mpr ⟨noneApplies_append.mpr ⟨hpartition, hstations⟩, hr.noneApplies⟩)

theorem roInvalidateEffect_defer {c : Call} {s : State} {k : Kit} (hk : s.kit (c.arg 0) = some k)
    (hkit : noneApplies (c.kitGuards s 0)) (hlost : s.lostContext k.context = false) :
    roInvalidateEffect c s = .defer s (.roInvalidate (c.arg 0)) 0 :=
  guards_of_none (noneApplies_append.mpr ⟨hkit, noneApplies_singleton.mpr (by rw [hk, Option.any_some, hlost])⟩)

/-- Settles O18: each command's own effect completes or waits once none of its refusals applies. That TIER1_CONFIG waits and completes at
its downbeat is the model's choice (log entry 66), and so are the test of room and the report of TIER1_PIN before its missing lines are
filled (log entry 67). -/
theorem tier1CommandsComplete : Obligations.Tier1CommandsComplete := by
  refine ⟨?region, ?config, ?pinDry, ?pinHeld, ?pinFills, ?unpin, ?deadScratch, ?deadObject, ?counters, ?invalidate⟩
  case region => exact waits_of (fun _ _ _ => rfl) nofun fun _ _ hnone => guards_of_none hnone
  case config =>
    exact waits_of (fun _ _ _ => rfl) nofun fun _ _ ⟨hpartition, hyoung, hstrict⟩ => tier1ConfigEffect_defer hpartition hyoung hstrict
  case pinDry =>
    refine completes_of (fun _ _ _ => rfl) nofun ?_
    rintro c s ⟨i, o, hobj, hnone, hdry⟩
    exact (tier1PinEffect_dryRun hobj hnone hdry).trans (by rw [hobj])
  case pinHeld =>
    refine completes_of (fun _ _ _ => rfl) nofun ?_
    rintro c s ⟨i, o, hobj, hnone, hreal, hcache, hroom, hmissing⟩
    exact (tier1PinEffect_pins hobj hnone hreal hcache hroom).trans (by rw [if_pos hmissing, hobj])
  case pinFills =>
    refine waits_of (fun _ _ _ => rfl) nofun ?_
    rintro c s ⟨i, o, hobj, hnone, hreal, hcache, hroom, hmissing⟩
    exact (tier1PinEffect_pins hobj hnone hreal hcache hroom).trans (by rw [if_neg hmissing, hobj])
  case unpin =>
    refine completes_of (fun _ _ _ => rfl) nofun ?_
    rintro c s ⟨i, o, hobj, hnone⟩
    rw [ownEffectOf, tier1UnpinEffect, hobj]
    exact guards_of_none hnone
  case deadScratch =>
    refine completes_of (fun _ _ _ => rfl) nofun ?_
    rintro c s ⟨hscratch, husable, haddress, hpos, hbytes, hin⟩
    exact tier1DeadEffect_scratch hscratch husable haddress hpos hbytes hin
  case deadObject =>
    refine completes_of (fun _ _ _ => rfl) nofun ?_
    rintro c s ⟨hhandle, i, o, hobj, hnone⟩
    exact (tier1DeadEffect_object hhandle hobj hnone).trans (by rw [hobj])
  case counters =>
    refine completes_of (fun _ _ _ => rfl) nofun ?_
    rintro c s ⟨hpartition, hfirst, hpos, hend, hr⟩
    exact tier1CountersEffect_done hpartition hfirst hpos hend hr
  case invalidate =>
    refine waits_of (fun _ _ _ => rfl) nofun ?_
    rintro c s ⟨k, hk, hkit, hlost⟩
    exact roInvalidateEffect_defer hk hkit hlost

end Sys2Proof.Machine

/-! PROOFS. The data-protection commands (08 R198, R205, R211 to R214, Tables 8-4, 8-6 and 8-7). -/
namespace Sys2Proof.Machine
open Sys2Proof

/-! ### Diagnostic mode and raw words -/

/-- A granule of either tier that is named within its range, and is fit to enter where it is to enter, is switched. -/
theorem eccDiagModeEffect_eq {c : Call} {s : State} (hgranule : (c.arg 0 = 1 ∧ c.arg 1 < 2048) ∨ (c.arg 0 = 2 ∧ c.arg 1 < 1024))
    (hswitch : c.arg 2 ≤ 1) (hfit : c.arg 2 = 1 → s.diagFit (c.arg 0) (c.arg 1) = true) :
    eccDiagModeEffect c s =
      if c.arg 2 = 1 then .done (s.setDiag (c.arg 0) (c.arg 1) true) 0
      else if (if c.arg 0 = 1 then (s.granule (c.arg 1)).diag else (s.granule2 (c.arg 1)).diag) = true then
        .done ((s.setDiag (c.arg 0) (c.arg 1) false).refillGranule (c.arg 0) (c.arg 1)) 0
      else .done s 0 := by
  refine guards_of_none (noneApplies_cons.mpr ⟨?tier, noneApplies_cons.mpr ⟨?index, noneApplies_cons.mpr
    ⟨decide_eq_false (Nat.not_lt.mpr hswitch), noneApplies_singleton.mpr ?fit⟩⟩⟩)
  case tier => rcases hgranule with ⟨htier, -⟩ | ⟨htier, -⟩ <;> rw [htier] <;> rfl
  case index => exact decide_eq_false (by split <;> omega)
  case fit => simpa using hfit

theorem eccRawWriteEffect_done {c : Call} {s : State} {w : WordPlace} (hw : rawPlace (c.arg 0) = some w)
    (hplace : c.blockBad s 1 ((codeOf w.tier).symbols * (codeOf w.tier).size) 64 = false) (hup : c.domainDown s 1 = false)
    (hdiag : s.diagnostic w = true) :
    eccRawWriteEffect c s = .done (s.setRaw w (s.sysRead (c.arg 1) ((codeOf w.tier).symbols * (codeOf w.tier).size))) 0 := by
  rw [eccRawWriteEffect, hw]
  exact guards_of_none (noneApplies_cons.mpr ⟨hplace, noneApplies_cons.mpr ⟨by rw [hdiag]; rfl, noneApplies_singleton.mpr hup⟩⟩)

theorem eccRawReadEffect_done {c : Call} {s : State} {w : WordPlace} (hw : rawPlace (c.arg 0) = some w)
    (hr : c.takesResult s 1 1280) :
    eccRawReadEffect c s = .done (State.writeResult { s with freeCount := s.freeCount + 640 } (c.arg 1) (s.rawRecord w)) 0 := by
  rw [eccRawReadEffect, hw]
  exact guards_of_none hr.noneApplies

/-! ### Scrubbing, die marks and the error log -/

theorem eccScrubSetEffect_done {c : Call} {s : State}
    (h : (c.arg 0 = 1 ∧ 1 ≤ c.arg 1 ∧ c.arg 1 ≤ 256) ∨ (c.arg 0 = 2 ∧ 16 ≤ c.arg 1 ∧ c.arg 1 ≤ 1024)) :
    eccScrubSetEffect c s =
      .done (if c.arg 0 = 2 then { s with mem := { s.mem with scrubInterval2 := c.arg 1 * 100 } }
        else { s with mem := { s.mem with scrubInterval1 := c.arg 1 * 25 } }) 0 := by
  rw [eccScrubSetEffect]
  refine (guards_of_none (noneApplies_cons.mpr ⟨?tier, noneApplies_singleton.mpr ?interval⟩)).trans ?interval_kept
  case tier => rcases h with ⟨htier, -⟩ | ⟨htier, -⟩ <;> rw [htier] <;> rfl
  case interval => rcases h with ⟨htier, hlo, hhi⟩ | ⟨htier, hlo, hhi⟩ <;> simp [htier, hlo, hhi]
  case interval_kept => split <;> rfl

/-- A pair die that is named within its range is marked or cleared. -/
theorem eccDieMarkEffect_eq {c : Call} {s : State} (hpair : c.arg 0 < 10) (hdie : c.arg 1 < 32) (hmark : c.arg 2 ≤ 1) :
    eccDieMarkEffect c s =
      if c.arg 2 = 1 then .done (s.markDie (c.arg 0) (c.arg 1) 3).redecode 0
      else .done (State.redecode { s with mem := { s.mem with pairs := lmod s.mem.pairs (c.arg 0) fun p =>
        { p with failedDies := p.failedDies.filter (· != c.arg 1) } } }) 0 :=
  guards_of_none (noneApplies_cons.mpr ⟨decide_eq_false (Nat.not_le.mpr hpair), noneApplies_cons.mpr
    ⟨decide_eq_false (Nat.not_le.mpr hdie), noneApplies_singleton.mpr (decide_eq_false (Nat.not_lt.mpr hmark))⟩⟩)

theorem eccLogReadEffect_done {c : Call} {s : State} (hfirst : c.arg 0 < 65536) (hpos : 1 ≤ c.arg 1)
    (hend : c.arg 0 + c.arg 1 ≤ 65536) (hr : c.takesResult s 2 (32 * c.arg 1)) :
    eccLogReadEffect c s =
      .done (s.writeResult (c.arg 2) ((List.range (c.arg 1)).flatMap fun i => s.logRecordBytes (c.arg 0 + i))) 0 := by
  have hmin : min (c.arg 1) 65536 = c.arg 1 := by omega
  have hrecords : noneApplies [(decide (65536 ≤ c.arg 0), c.bad 0),
      (decide (c.arg 1 < 1) || decide (65536 < c.arg 0 + c.arg 1), c.bad 1)] :=
    noneApplies_cons.mpr ⟨decide_eq_false (Nat.not_le.mpr hfirst), noneApplies_singleton.mpr (Bool.or_eq_false_iff.mpr
      ⟨decide_eq_false (Nat.not_lt.mpr hpos), decide_eq_false (Nat.not_lt.mpr hend)⟩)⟩
  simp only [eccLogReadEffect, hmin]
  exact guards_of_none (noneApplies_append.mpr ⟨hrecords, hr.noneApplies⟩)

/-- Settles O27: each command's own effect is done once none of its refusals applies. What ECC_RAW_READ shows of a poisoned word outside
raw mode is free, by the model's choice (log entry 46). -/
theorem protectionCommandsComplete : Obligations.ProtectionCommandsComplete := by
  refine ⟨?diagOn, ?diagOff, ?rawWrite, ?rawRead, ?scrubSet, ?dieMarked, ?dieCleared, ?logRead⟩
  case diagOn =>
    refine completes_of (fun _ _ _ => rfl) nofun ?_
    rintro c s ⟨hgranule, hon, hfit⟩
    exact (eccDiagModeEffect_eq hgranule (Nat.le_of_eq hon) fun _ => hfit).trans (if_pos hon)
  case diagOff =>
    refine completes_of (fun _ _ _ => rfl) nofun ?_
    rintro c s ⟨hgranule, hoff⟩
    have hne : c.arg 2 ≠ 1 := by omega
    exact (eccDiagModeEffect_eq hgranule (by omega) fun hon => absurd hon hne).trans
      ((if_neg hne).trans (apply_ite (Verdict.done · 0) ..).symm)
  case rawWrite =>
    refine completes_of (fun _ _ _ => rfl) nofun ?_
    rintro c s ⟨w, hw, hplace, hup, hdiag⟩
    exact (eccRawWriteEffect_done hw hplace hup hdiag).trans (by rw [hw])
  case rawRead =>
    refine completes_of (fun _ _ _ => rfl) nofun ?_
    rintro c s ⟨hnamed, hr⟩
    obtain ⟨w, hw⟩ := Option.isSome_iff_exists.mp hnamed
    exact (eccRawReadEffect_done hw hr).trans (by rw [hw])
  case scrubSet => exact completes_of (fun _ _ _ => rfl) nofun fun _ _ => eccScrubSetEffect_done
  case dieMarked =>
    refine completes_of (fun _ _ _ => rfl) nofun ?_
    rintro c s ⟨hpair, hdie, hmark⟩
    exact (eccDieMarkEffect_eq hpair hdie (Nat.le_of_eq hmark)).trans (if_pos hmark)
  case dieCleared =>
    refine completes_of (fun _ _ _ => rfl) nofun ?_
    rintro c s ⟨hpair, hdie, hclear⟩
    exact (eccDieMarkEffect_eq hpair hdie (by omega)).trans (if_neg (by omega))
  case logRead =>
    refine completes_of (fun _ _ _ => rfl) nofun ?_
    rintro c s ⟨hfirst, hpos, hend, hr⟩
    exact eccLogReadEffect_done hfirst hpos hend hr

end Sys2Proof.Machine

/-! PROOFS. The Sequence commands (10 R240 to R244, R254, Tables 10-1 to 10-3). -/
namespace Sys2Proof.Machine
open Sys2Proof

/-! ### The refusals that the Sequence commands share -/

/-- The state of the Sequence in parameter 0 is one that the command accepts. -/
theorem Call.noneApplies_seqMode {c : Call} {s : State} {x : Sequence} {ok : Sequence → Bool} (hx : s.seq (c.arg 0) = some x)
    (hok : ok x = true) : noneApplies (c.seqMode s ok) :=
  noneApplies_singleton.mpr (by rw [hx, Option.any_some, hok, Bool.not_true])

/-- A command whose Sequence is named, held here and in a state that accepts it meets no refusal. -/
theorem Call.noneApplies_seqAccepts {c : Call} {s : State} {x : Sequence} {ok : Sequence → Bool} {lostOk : Bool}
    (hx : s.seq (c.arg 0) = some x) (hseq : noneApplies (c.seqNamed s ++ c.seqHeld s lostOk)) (hok : ok x = true) :
    noneApplies (c.seqNamed s ++ c.seqHeld s lostOk ++ c.seqMode s ok) :=
  noneApplies_append.mpr ⟨hseq, Call.noneApplies_seqMode hx hok⟩

/-- The same for a command that tests further parameters after the Sequence is named. -/
theorem Call.noneApplies_seqAcceptsWith {c : Call} {s : State} {x : Sequence} {ok : Sequence → Bool} {lostOk : Bool}
    {params : List (Bool × Verdict)} (hx : s.seq (c.arg 0) = some x) (hseq : noneApplies (c.seqNamed s ++ c.seqHeld s lostOk))
    (hparams : noneApplies params) (hok : ok x = true) :
    noneApplies (c.seqNamed s ++ params ++ c.seqHeld s lostOk ++ c.seqMode s ok) := by
  obtain ⟨hnamed, hheld⟩ := noneApplies_append.mp hseq
  simp only [noneApplies_append, and_assoc]
  exact ⟨hnamed, hparams, hheld, Call.noneApplies_seqMode hx hok⟩

/-- A Sequence that waits, fills or decodes runs (10 Table 10-2). -/
theorem SeqMode.beq_runs {m : SeqMode} (h : m = .waiting ∨ m = .prefill ∨ m = .decode) :
    (m == .waiting || m == .prefill || m == .decode) = true := by
  rcases h with rfl | rfl | rfl <;> rfl

/-! ### Each command's own effect -/

theorem seqAppendEffect_defer {c : Call} {s : State} {k : Kit} {x : Sequence} (hk : s.rangeKit (c.arg 0) = some k)
    (hx : s.seq (c.arg 0) = some x) (hseq : noneApplies (c.seqNamed s ++ c.seqHeld s false)) (haddress : c.arg 1 % 4 = 0)
    (hpos : 1 ≤ c.arg 2) (hmax : c.arg 2 ≤ 1048576) (hin : s.inScratch k.partition (c.arg 1) (4 * c.arg 2) = true)
    (hmode : x.mode = .waiting ∨ x.mode = .prefill ∨ x.mode = .decode) (hroom : x.appends.length < 4)
    (hlimit : x.position + x.pending + c.arg 2 ≤ k.seqPolicy.limit) :
    seqAppendEffect c s =
      .defer ((s.modSeq (c.arg 0) fun x => x.addAppend (c.arg 1) (c.arg 2) s.beat.number c.cmd.id).forwardedSeq c)
        (.append (c.arg 0)) 0 := by
  have hcount : (decide (1 ≤ c.arg 2) && decide (c.arg 2 ≤ 1048576)) = true := by simp only [hpos, hmax, decide_true, Bool.and_self]
  have hfits : decide (k.seqPolicy.limit < x.position + x.pending + c.arg 2) = false := decide_eq_false (Nat.not_lt.mpr hlimit)
  simp only [seqAppendEffect, hk, Option.map_some, Option.getD_some, hcount, if_true]
  refine guards_of_none (noneApplies_append.mpr ⟨Call.noneApplies_seqAcceptsWith hx hseq ?params ?state, ?length⟩)
  case params => exact noneApplies_cons.mpr ⟨by rw [haddress, hin]; rfl, noneApplies_singleton.mpr rfl⟩
  case state => simp only [SeqMode.beq_runs hmode, hroom, decide_true, Bool.true_or, Bool.and_self]
  case length => exact noneApplies_singleton.mpr (by rw [hx, Option.any_some, hfits])

theorem seqSetEffect_done {c : Call} {s : State} {x : Sequence} (hx : s.seq (c.arg 0) = some x)
    (hseq : noneApplies (c.seqNamed s ++ c.seqHeld s false)) (hopen : x.isOpen = true) (hpriority : c.arg 1 ≤ 7)
    (hinterval : c.arg 2 ≠ 0) (hauto : c.arg 4 ≤ 1) :
    seqSetEffect c s = .done ((s.modSeq (c.arg 0) fun x =>
      { x with priority := c.arg 1, stepInterval := c.arg 2, genLimit := c.arg 3, autoDecode := c.arg 4 == 1 }).forwardedSeq c) 0 :=
  guards_of_none (Call.noneApplies_seqAcceptsWith hx hseq
    (noneApplies_cons.mpr ⟨decide_eq_false (Nat.not_lt.mpr hpriority), noneApplies_cons.mpr
      ⟨beq_eq_false_iff_ne.mpr hinterval, noneApplies_singleton.mpr (decide_eq_false (Nat.not_lt.mpr hauto))⟩⟩) hopen)

theorem seqPauseEffect_done {c : Call} {s : State} {x : Sequence} (hx : s.seq (c.arg 0) = some x)
    (hseq : noneApplies (c.seqNamed s ++ c.seqHeld s false)) (hmode : x.mode = .waiting ∨ x.mode = .prefill ∨ x.mode = .decode) :
    seqPauseEffect c s = .done ((s.modSeq (c.arg 0) fun x => { x with mode := .paused }).forwardedSeq c) 0 :=
  guards_of_none (Call.noneApplies_seqAccepts hx hseq (SeqMode.beq_runs hmode))

theorem seqResumeEffect_done {c : Call} {s : State} {x : Sequence} (hx : s.seq (c.arg 0) = some x)
    (hseq : noneApplies (c.seqNamed s ++ c.seqHeld s false)) (hmode : x.mode = .paused) :
    seqResumeEffect c s = .done ((s.modSeq (c.arg 0) fun x =>
      { x with mode := if 0 < x.pending then .prefill else if x.autoDecode ∧ x.endReason = 0 then .decode else .waiting }).forwardedSeq
        c) 0 :=
  guards_of_none (Call.noneApplies_seqAccepts hx hseq (beq_iff_eq.mpr hmode))

theorem seqTruncateEffect_done {c : Call} {s : State} {x : Sequence} (hx : s.seq (c.arg 0) = some x)
    (hseq : noneApplies (c.seqNamed s ++ c.seqHeld s false)) (hshorter : c.arg 1 < x.position)
    (hmode : x.mode = .waiting ∨ x.mode = .paused) (hidle : s.seqBusy (c.arg 0) = false) (hpending : x.pending = 0) :
    seqTruncateEffect c s =
      .done (((s.freePages (c.arg 0) (ceilDiv (c.arg 1) 64)).modSeq (c.arg 0) fun x => { x with position := c.arg 1 }).forwardedSeq
        c) 0 := by
  refine guards_of_none (Call.noneApplies_seqAcceptsWith hx hseq (noneApplies_singleton.mpr ?length) ?state)
  case length => rw [hx, Option.any_some, decide_eq_false (Nat.not_le.mpr hshorter)]
  case state => rcases hmode with h | h <;> simp only [h, hidle, hpending] <;> rfl

/-- SEQ_CLOSE frees a Sequence that is lost or has no work in flight, and has any other wait for its work (10 Table 10-2). -/
theorem seqCloseEffect_eq {c : Call} {s : State} {x : Sequence} (hx : s.seq (c.arg 0) = some x)
    (hseq : noneApplies (c.seqNamed s ++ c.seqHeld s true)) (hmode : x.isOpen = true ∨ x.mode = .lost) :
    seqCloseEffect c s =
      if x.mode = .lost ∨ s.seqBusy (c.arg 0) = false then .done ((s.forwardedSeq c).freeSeq (c.arg 0)) 0
      else .defer ((s.forwardedSeq c).modSeq (c.arg 0) fun x => { x with mode := .closing }) (.seqClose (c.arg 0)) 0 := by
  refine (guards_of_none (Call.noneApplies_seqAccepts hx hseq ?state)).trans ?_
  case state => simpa only [Bool.or_eq_true, beq_iff_eq] using hmode
  simp only [hx, Option.any_some, Bool.or_eq_true, beq_iff_eq, Bool.not_eq_true']

/-- An open Sequence is not lost (10 Table 10-2). -/
theorem Sequence.isOpen_not_lost {x : Sequence} (h : x.isOpen = true) : x.mode ≠ .lost := by
  intro hlost
  rw [Sequence.isOpen, hlost] at h
  exact absurd h (by decide)

theorem seqQueryEffect_done {c : Call} {s : State} (hseq : noneApplies (c.seqNamed s ++ c.seqHeld s false))
    (hr : c.takesResult s 1 512) :
    seqQueryEffect c s =
      .done (s.writeResult (c.arg 1) (match s.seq (c.arg 0) with | some x => x.bytes | none => zeros 512)) 0 := by
  obtain ⟨hnamed, hheld⟩ := noneApplies_append.mp hseq
  obtain ⟨hplace, hup⟩ := hr
  refine guards_of_none ?_
  simp only [noneApplies_append, and_assoc]
  exact ⟨hnamed, noneApplies_singleton.mpr hplace, hheld, noneApplies_singleton.mpr hup⟩

/-- Settles O22: each command's own effect completes or waits once none of its refusals applies. That a composed or queued
step counts as work in flight for SEQ_TRUNCATE and SEQ_CLOSE is the model's choice (log entry 84), and so is that a physical queue of
partition 0 reaches every Sequence (log entry 150). -/
theorem sequenceCommandsComplete : Obligations.SequenceCommandsComplete := by
  refine ⟨?opens, ?append, ?set, ?pause, ?resume, ?truncate, ?closeIdle, ?closeBusy, ?query, ?policy⟩
  case opens => exact completes_of (fun _ _ _ => rfl) nofun fun _ _ hnone => guards_of_none hnone
  case append =>
    refine waits_of (fun _ _ _ => rfl) nofun ?_
    rintro c s ⟨k, x, hk, hx, hseq, haddress, hpos, hmax, hin, hmode, hroom, hlimit⟩
    exact seqAppendEffect_defer hk hx hseq haddress hpos hmax hin hmode hroom hlimit
  case set =>
    refine completes_of (fun _ _ _ => rfl) nofun ?_
    rintro c s ⟨x, hx, hseq, hopen, hpriority, hinterval, hauto⟩
    exact seqSetEffect_done hx hseq hopen hpriority hinterval hauto
  case pause => exact completes_of (fun _ _ _ => rfl) nofun fun _ _ ⟨_, hx, hseq, hmode⟩ => seqPauseEffect_done hx hseq hmode
  case resume => exact completes_of (fun _ _ _ => rfl) nofun fun _ _ ⟨_, hx, hseq, hmode⟩ => seqResumeEffect_done hx hseq hmode
  case truncate =>
    refine completes_of (fun _ _ _ => rfl) nofun ?_
    rintro c s ⟨x, hx, hseq, hshorter, hmode, hidle, hpending⟩
    exact seqTruncateEffect_done hx hseq hshorter hmode hidle hpending
  case closeIdle =>
    refine completes_of (fun _ _ _ => rfl) nofun ?_
    rintro c s ⟨x, hx, hseq, hmode⟩
    exact (seqCloseEffect_eq hx hseq (hmode.imp_left And.left)).trans (if_pos (hmode.symm.imp_right And.right))
  case closeBusy =>
    refine waits_of (fun _ _ _ => rfl) nofun ?_
    rintro c s ⟨x, hx, hseq, hopen, hbusy⟩
    refine (seqCloseEffect_eq hx hseq (.inl hopen)).trans (if_neg ?_)
    exact not_or_intro (Sequence.isOpen_not_lost hopen) (ne_false_of_eq_true hbusy)
  case query => exact completes_of (fun _ _ _ => rfl) nofun fun _ _ ⟨hseq, hr⟩ => seqQueryEffect_done hseq hr
  case policy =>
    refine completes_of (fun _ _ _ => rfl) nofun fun c s hnone => (guards_of_none hnone).trans ?_
    simp only [ne_eq, ite_not]

end Sys2Proof.Machine

/-! PROOFS. Ring messages and their transfers (10 R251, R252; 16 R369, R370, R372, R374, R384 to R386). -/
namespace Sys2Proof.Machine
open Sys2Proof

/-! ### What a target does -/

section NewTransfer
/-! An OPEN of a transfer that the target neither holds nor has finished, for no partition under reset (16 R385; 17 R398 (c)). -/

variable {s : State} {source transfer : Nat} {f : OpenFields} (hnew : s.inbound source transfer = none)
  (hunfinished : s.peal.finished.contains (source, transfer) = false)
  (hfunctions : (s.functions.any fun v => v.2.mode == .resetting && v.2.partitions.contains f.partition) = false)
include hnew hunfinished hfunctions

theorem State.openTransfer_full (hfull : 1024 ≤ s.peal.inbound.length ∨ s.frozenPartition f.partition = true) :
    s.openTransfer source transfer f = s.toMember source 0 .ringNack [transfer, 0] [] := by
  simp only [State.openTransfer, hnew, hunfinished, hfunctions, Option.isSome_none, Bool.false_eq_true, if_false, if_pos hfull]

variable (hroom : s.peal.inbound.length < 1024) (hfrozen : s.frozenPartition f.partition = false)
include hroom hfrozen

/-- Where there is room, what is wrong with the OPEN decides. -/
theorem State.openTransfer_roomy :
    s.openTransfer source transfer f =
      (s.openFault f).elim
        { s with peal := { s.peal with inbound := s.peal.inbound ++
          [{ source, transfer, partition := f.partition, tile := f.tile, space := f.space, dst := f.dst, handle := f.handle,
             length := f.length, taken := [], chime := f.chime, error := 0, batchKit := f.handoff, batch := [] }] } }
        fun status => s.toMember source 0 .ringNack [transfer, status] [] := by
  have hplace : ¬1024 ≤ s.peal.inbound.length := Nat.not_le.mpr hroom
  simp only [State.openTransfer, hnew, hunfinished, hfunctions, hplace, hfrozen, Option.isSome_none, Bool.false_eq_true, or_self,
    if_false]
  cases s.openFault f <;> rfl

end NewTransfer

theorem State.ringDataIn_writes {s t : State} {source transfer index lane channel error : Nat} {missing : List Nat}
    {payload tags : List Byte} {x : Inbound} (hx : (s.returnCredit lane channel).inbound source transfer = some x)
    (hfresh : x.taken.contains index = false) (hindex : index < x.messages) (hplain : x.batchKit = none)
    (hw : (s.returnCredit lane channel).takeUnits x lane index missing payload tags = (t, error)) :
    s.ringDataIn source transfer index missing payload tags lane channel =
      (t.modInbound source transfer fun _ => { x with taken := x.taken ++ [index], error := error, batch := [] }).settleInbound
        { x with taken := x.taken ++ [index], error := error, batch := [] } := by
  have hlast : ¬x.messages ≤ index := Nat.not_le.mpr hindex
  simp only [State.ringDataIn, hx, hfresh, hlast, hplain, hw, Option.isSome_none, Bool.false_eq_true, or_self, if_false]

/-- A message that the target holds is not written again (16 R374). -/
theorem State.ringDataIn_held {s : State} {source transfer index lane channel : Nat} (missing : List Nat)
    (payload tags : List Byte) {x : Inbound} (hx : (s.returnCredit lane channel).inbound source transfer = some x)
    (hheld : x.taken.contains index = true) :
    s.ringDataIn source transfer index missing payload tags lane channel = s.returnCredit lane channel := by
  simp only [State.ringDataIn, hx, hheld, true_or, if_true]

/-! ### What a source and its lanes do -/

theorem State.openRetry_eq {s : State} {transfer : Nat} {x : Transfer} (hx : s.transfer transfer = some x) (hring : x.ring = true)
    (hnacked : x.nacked ≠ []) : s.openRetry transfer = s.sendRing transfer x.nacked := by
  have hsome : x.nacked.isEmpty = false := List.isEmpty_eq_false_iff.mpr hnacked
  simp only [State.openRetry, hx, hring, hsome, Bool.not_false, Bool.and_self, if_true]

theorem State.laneCredit_eq {s : State} {lane channel count : Nat} {l out : Lane16} (hl : s.peal.lanes[lane]? = some l)
    (hout : out = (List.range (min count ((l.kept.filter (·.1 == channel)).length))).foldl
      (fun (l : Lane16) _ => { l.give channel with kept := dropKept channel l.kept }) l) :
    s.laneCredit lane channel count = (s.setLane lane out).flushLane lane out.waiting.length := by
  subst hout
  simp only [State.laneCredit, hl]

theorem State.laneRetry_eq {s : State} {lane sequence channel : Nat} {l : Lane16} {m : Msg} (hl : s.peal.lanes[lane]? = some l)
    (hm : l.kept[sequence]? = some (channel, m)) :
    s.laneRetry lane sequence = (s.setLane lane { l with retries := l.retries + 1 }).send m := by
  simp only [State.laneRetry, hl, hm]

/-! ### Messages for other members -/

/-- A message that makes no detour leaves in the direction of its target (16 R372 (a), R373). -/
theorem State.cutThrough_direct {s : State} {lane target channel flits d : Nat} {rest : List Nat} (hchannel : channel < 4)
    (hpath : torusPath s.peal.sizes s.peal.coordinate target = d :: rest) :
    s.cutThrough lane target none channel flits =
      (State.onLane { s with peal := { s.peal with forwarded := s.peal.forwarded + 1 } } (6 * (lane / 6) + d)
        (nextChannel s.peal.sizes s.peal.coordinate (opposite (lane % 6)) d channel)
        ⟨.ringForward, target,
          [6 * (lane / 6) + d, nextChannel s.peal.sizes s.peal.coordinate (opposite (lane % 6)) d channel, flits], []⟩).returnCredit
        lane channel := by
  have hdata : ¬4 ≤ channel := Nat.not_le.mpr hchannel
  have hstraight : (none == some s.peal.coordinate) = false := rfl
  simp only [State.cutThrough, hpath, hdata, hstraight, Bool.false_and, Bool.false_eq_true, if_false]

/-- At the intermediate member of its detour a message moves to the second channel set (16 R372 (b)). -/
theorem State.cutThrough_atVia {s : State} {lane target channel flits d : Nat} {rest : List Nat} (hchannel : channel < 2)
    (hpath : torusPath s.peal.sizes s.peal.coordinate target = d :: rest) :
    s.cutThrough lane target (some s.peal.coordinate) channel flits =
      (State.onLane { s with peal := { s.peal with forwarded := s.peal.forwarded + 1 } } (6 * (lane / 6) + d) 2
        ⟨.ringForward, target, [6 * (lane / 6) + d, 2, flits], []⟩).returnCredit lane channel := by
  have hdata : ¬4 ≤ channel := by omega
  simp only [State.cutThrough, hpath, hdata, hchannel, bne_self_eq_false, Bool.and_false, Bool.false_eq_true, if_false, beq_self_eq_true,
    decide_true, Bool.and_self, if_true]

/-! ### Batches of a peal Kit -/

theorem State.stepDoneIn_eq {s : State} {kit beat : Nat} {records : List Byte} {k : Kit} {b : Batch} {live : List (Nat × StepDesc)}
    (hk : s.kit kit = some k) (hb : k.batches.find? (·.beat == beat) = some b) (hpeal : isPealKit kit = true)
    (hhead : s.isHead k = true)
    (hlive : live = ((List.range b.steps.length).zip b.steps).filter fun e => (s.seq e.2.seq).any fun x => x.mode != .lost) :
    s.stepDoneIn kit beat records =
      live.foldl (fun u e => u.stepDone e.2.seq)
        (s.modKit kit fun k =>
          { k with results := k.results ++ (live.filter fun e => e.2.produces).map fun e =>
                    ({ step := e.2, bytes := padTo 128 (slice records (128 * e.1) 128) } : PendingResult)
                   batches := k.batches.filter (·.beat != beat) }) := by
  subst hlive
  simp only [State.stepDoneIn, hk, hb, hpeal, hhead, Bool.not_true, Bool.or_self, Bool.false_eq_true, if_false]

/-- Settles O55: each clause is the equation of its event's own function under the clause's conditions. That a STEP_DONE is applied
by its own row, and that CREDIT and RETRY take no credit, are the model's choices (log entries 124 and 128). -/
theorem ringTransferEventsHappen : Obligations.RingTransferEventsHappen := by
  have hopened {source transfer lane channel : Nat} {f : OpenFields} {s t : State} (hlane : lane < 24)
      (h : s.openTransfer source transfer f = t) :
      Leads (.openTransfer source transfer f lane channel) s (t.returnCredit lane channel) :=
    leads_at rfl (decide_eq_true hlane) (congrArg (State.returnCredit · lane channel) h)
  refine ⟨?taken, ?noRoom, ?faulty, ?data, ?held, ?done, ?nack, ?again, ?credit, ?retry, ?direct, ?via, ?steps⟩
  case taken =>
    intro source transfer lane channel f s hlane hnew hunfinished hfunctions hroom hfrozen hfault
    refine hopened hlane ?_
    rw [State.openTransfer_roomy hnew hunfinished hfunctions hroom hfrozen, hfault, Option.elim_none]
  case noRoom =>
    intro source transfer lane channel f s hlane hnew hunfinished hfunctions hfull
    exact hopened hlane (State.openTransfer_full hnew hunfinished hfunctions hfull)
  case faulty =>
    intro source transfer lane channel status f s hlane hnew hunfinished hfunctions hroom hfrozen hfault
    refine hopened hlane ?_
    rw [State.openTransfer_roomy hnew hunfinished hfunctions hroom hfrozen, hfault, Option.elim_some]
  case data =>
    intro source transfer index lane channel error missing payload tags x s t hlane hx hfresh hindex hplain hw
    exact leads_at rfl (decide_eq_true hlane) (State.ringDataIn_writes hx hfresh hindex hplain hw)
  case held =>
    intro source transfer index lane channel missing payload tags x s hlane hx hheld
    exact leads_at rfl (decide_eq_true hlane) (State.ringDataIn_held missing payload tags hx hheld)
  case done => exact fun target transfer status lane channel s hlane => leads_at rfl (decide_eq_true hlane) rfl
  case nack => exact fun target transfer reason lane channel s hlane => leads_at rfl (decide_eq_true hlane) rfl
  case again => exact fun transfer x s hx hring hnacked => leads_of rfl (State.openRetry_eq hx hring hnacked)
  case credit =>
    exact fun lane channel count l out s hlane hl hout => leads_at rfl (decide_eq_true hlane) (State.laneCredit_eq hl hout)
  case retry =>
    exact fun lane sequence channel l m s hlane hl hm => leads_at rfl (decide_eq_true hlane) (State.laneRetry_eq hl hm)
  case direct =>
    exact fun lane target channel flits d rest s hlane hchannel hpath =>
      leads_at rfl (decide_eq_true hlane) (State.cutThrough_direct hchannel hpath)
  case via =>
    exact fun lane channel flits d target rest s hlane hchannel hpath =>
      leads_at rfl (decide_eq_true hlane) (State.cutThrough_atVia hchannel hpath)
  case steps =>
    exact fun kit beat records k b live s hk hb hpeal hhead hlive => leads_of rfl (State.stepDoneIn_eq hk hb hpeal hhead hlive)

end Sys2Proof.Machine

/-! ### Commands in order, and the refusal of packets (11 R259, R260, R267 to R270, R278) -/

namespace Sys2Proof.Machine
open Sys2Proof

theorem exec_next_keeps_pending {c : Instr} {s t : State} (h : exec c s = .next t) : t.pending = s.pending := by
  rcases exec_cases c s with ⟨u, hnext⟩ | ⟨hfault, -⟩
  · rw [hnext] at h
    cases h
    rfl
  · rw [hfault] at h
    nomatch h

theorem step_next_pending {c : Instr} {rest : List Instr} {s t : State} (hq : s.pending = c :: rest) (h : step s = .next t) :
    t.pending = rest := by
  rw [step, hq] at h
  exact exec_next_keeps_pending h

/-- Settles O3: by `exec_cases` every next state has the queue of the state before. That all that happens is a command of one queue, which
no command changes, is the model's choice (log entry 3). -/
theorem commandsRunInOrder : Obligations.CommandsRunInOrder :=
  ⟨fun _ _ _ => exec_next_keeps_pending, fun _ _ _ _ => step_next_pending⟩

/-- Every row of a packet is the reading of that packet at HEAD, under the row's own opcode. -/
theorem exec_row (op : Op) (q : Nat) (p : Packet) (s : State) : exec (op.row q p) s = packetCommand op q p s := by
  cases op <;> rfl

theorem packetCommand_reads {s : State} {op : Op} {q : Nat} {p : Packet} {v : Verdict} (h : s.reads op q p = true)
    (hv : judge (effectOf op) (s.callOf op q p) (s.onRead op q p) = v) :
    packetCommand op q p s = .next (s.after (s.concluded op q p v)) := by
  rw [packetCommand, State.runCommand_reads h, hv]

/-- Reading moves HEAD and LEAF of the queue and nothing else of it; a queue that is not listed is FREE before and after. -/
theorem State.callOf_keeps_function_context (s : State) (op : Op) (q : Nat) (p : Packet) :
    (s.callOf op q p).queue.function = (s.queue q).function ∧ (s.callOf op q p).queue.context = (s.queue q).context := by
  have hget : (s.callOf op q p).queue = ((tget s.queues q).map fun k =>
      { k with head := k.head + 1, leaf := decide (k.head + 1 < k.tail) }).getD Queue.free := by
    rw [← (tget_tmod s.queues q q _).trans (if_pos rfl)]
    rfl
  rw [hget, State.queue, tgetD]
  cases tget s.queues q <;> exact ⟨rfl, rfl⟩

theorem State.callOf_function (s : State) (op : Op) (q : Nat) (p : Packet) :
    (s.callOf op q p).function = (s.queue q).function := (s.callOf_keeps_function_context op q p).1

theorem State.callOf_context (s : State) (op : Op) (q : Nat) (p : Packet) :
    (s.callOf op q p).context = (s.queue q).context := (s.callOf_keeps_function_context op q p).2

/-- The permission is judged before the effect is asked (11 R268, R269). -/
theorem judge_of_forbidden {effect : Call → State → Verdict} {k : Call} {s : State} (hop : ∀ n, k.cmd.op ≠ .undefinedOpcode n)
    (hp : permitted k.cmd.op k.function = false) : judge effect k s = plain stNotPermitted := by
  unfold judge
  split
  case h_1 n h => exact absurd h (hop n)
  case h_2 => rw [hp]; rfl

/-- What nothing else refuses is refused for its reserved field (11 R269), before the loss of its Context is looked at. -/
theorem judge_of_malformed {effect : Call → State → Verdict} {k : Call} {s : State} {o : Nat}
    (hop : ∀ n, k.cmd.op ≠ .undefinedOpcode n) (hp : permitted k.cmd.op k.function = true) (hm : malformed k.cmd = some o)
    (hr : ∀ st d r, effect k s ≠ .refuse st d r) : judge effect k s = .refuse stBadParam o 0 := by
  unfold judge
  split
  case h_1 n h => exact absurd h (hop n)
  case h_2 =>
    cases hv : effect k s with
    | refuse st d r => exact absurd hv (hr st d r)
    | done | fail | defer => simp [hp, hm]

theorem judge_of_lostContext {effect : Call → State → Verdict} {k : Call} {s : State}
    (hop : ∀ n, k.cmd.op ≠ .undefinedOpcode n) (hp : permitted k.cmd.op k.function = true) (hm : malformed k.cmd = none)
    (hl : s.lostContext k.context = true) (he : s.lossExempt k.cmd = false) (hr : ∀ st d r, effect k s ≠ .refuse st d r) :
    judge effect k s = plain stContextLost := by
  unfold judge
  split
  case h_1 n h => exact absurd h (hop n)
  case h_2 =>
    cases hv : effect k s with
    | refuse st d r => exact absurd hv (hr st d r)
    | done | fail | defer => simp [hp, hm, hl, he]

/-- Settles O11: the opcode and then the permission decide before the effect is asked. -/
theorem packetsAreRefusedByOpcode : Obligations.PacketsAreRefusedByOpcode := by
  refine ⟨?undefined, ?forbidden⟩
  case undefined => exact fun q code p s h => packetCommand_reads h rfl
  case forbidden =>
    intro op q p s hop h hp
    rw [exec_row]
    exact packetCommand_reads h (judge_of_forbidden hop (by rw [State.callOf_function]; exact hp))

/-- Settles O12: where the effect refuses nothing, the reserved fields are judged and then the Context of the queue. The place of these
two among the checks of a packet is log entry 51. -/
theorem packetsAreRefusedAfterTheirParameters : Obligations.PacketsAreRefusedAfterTheirParameters := by
  refine ⟨?reserved, ?lost⟩
  case reserved =>
    intro op q p s o hop h hp hm hr
    rw [exec_row]
    exact packetCommand_reads h (judge_of_malformed hop (by rw [State.callOf_function]; exact hp) hm hr)
  case lost =>
    intro op q p s hop h hp hm hl he hr
    rw [exec_row]
    exact packetCommand_reads h (judge_of_lostContext hop (by rw [State.callOf_function]; exact hp) hm
      (by rw [State.callOf_context]; exact hl) he hr)

end Sys2Proof.Machine

/-! ### Queues, completion rings and Contexts: commands (11 R267, R271, R272, R275, 12 R286 to R288) -/

namespace Sys2Proof.Machine
open Sys2Proof

theorem firstFrom_eq_some {p : Nat → Bool} {k fuel n : Nat} (h : firstFrom p k fuel = some n) :
    p n = true ∧ ∀ m, k ≤ m → m < n → p m = false := by
  induction fuel generalizing k with
  | zero => nomatch h
  | succ fuel ih =>
    rw [firstFrom] at h
    split at h
    case isTrue hk =>
      cases h
      exact ⟨hk, fun m hkm hmk => absurd hkm (Nat.not_le.mpr hmk)⟩
    case isFalse hk =>
      obtain ⟨hn, hbelow⟩ := ih h
      refine ⟨hn, fun m hkm hmn => ?_⟩
      rcases Nat.eq_or_lt_of_le hkm with rfl | hlt
      · exact Bool.eq_false_iff.mpr hk
      · exact hbelow m hlt hmn

/-- Settles O14: `State.lowestFreeQueue` searches upward from the first queue of the range. -/
theorem lowestFreeQueueIsTheLowest : Obligations.LowestFreeQueueIsTheLowest := by
  intro s f n h
  obtain ⟨hn, hbelow⟩ := firstFrom_eq_some h
  obtain ⟨hfree, hrange⟩ := (Bool.and_eq_true _ _).mp hn
  refine ⟨Option.isNone_iff_eq_none.mp hfree, hrange, ?_⟩
  rintro m hfirst hmn ⟨hmfree, hmrange⟩
  have hm := hbelow m hfirst hmn
  rw [hmfree, hmrange] at hm
  nomatch hm

theorem Call.noneApplies_queueGuards {c : Call} {s : State} (hrange : c.queueDenied s (c.arg 0) = false) (hq : c.arg 0 < 1048576) :
    noneApplies (c.queueGuards s) :=
  noneApplies_cons.mpr ⟨hrange, noneApplies_singleton.mpr (decide_eq_false (Nat.not_le.mpr hq))⟩

theorem Call.noneApplies_queueLost {c : Call} {s : State}
    (h : (s.queue (c.arg 0)).mode = .free ∨ s.lostContext (s.queue (c.arg 0)).context = false) : noneApplies (c.queueLost s) := by
  refine noneApplies_singleton.mpr ?_
  rcases h with h | h
  · rw [h]; rfl
  · rw [h, Bool.and_false]

theorem queueStopEffect_done {c : Call} {s : State} (hrange : c.queueDenied s (c.arg 0) = false) (hq : c.arg 0 < 1048576)
    (hmode : (s.queue (c.arg 0)).mode = .active) (hlost : s.lostContext (s.queue (c.arg 0)).context = false) :
    queueStopEffect c s = .done (s.modQueue (c.arg 0) fun k => { k with mode := .stopped, leaf := false }) 0 := by
  refine guards_of_none ?_
  simp only [noneApplies_append, and_assoc]
  exact ⟨Call.noneApplies_queueGuards hrange hq, Call.noneApplies_queueLost (.inr hlost),
    noneApplies_singleton.mpr (bne_eq_false_iff_eq.mpr hmode)⟩

theorem queueStartEffect_done {c : Call} {s : State} (hrange : c.queueDenied s (c.arg 0) = false) (hq : c.arg 0 < 1048576)
    (hmode : (s.queue (c.arg 0)).mode = .stopped ∨ (s.queue (c.arg 0)).mode = .broken)
    (hlost : s.lostContext (s.queue (c.arg 0)).context = false) :
    queueStartEffect c s =
      .done (s.modQueue (c.arg 0) fun k => { k with mode := .active, head := c.arg 1, tail := c.arg 1 }) 0 := by
  refine guards_of_none ?_
  simp only [noneApplies_append, and_assoc]
  refine ⟨Call.noneApplies_queueGuards hrange hq, Call.noneApplies_queueLost (.inr hlost), noneApplies_singleton.mpr ?_⟩
  rcases hmode with h | h <;> rw [h] <;> rfl

theorem queueDestroyEffect_defer {c : Call} {s : State} (hrange : c.queueDenied s (c.arg 0) = false) (hq : c.arg 0 < 1048576)
    (hfree : (s.queue (c.arg 0)).mode ≠ .free) (hdraining : (s.queue (c.arg 0)).mode ≠ .draining)
    (hbound : (s.queue (c.arg 0)).bound = false) :
    queueDestroyEffect c s =
      .defer (if s.outstanding (c.arg 0) c.cmd.id = 0 then s
        else s.modQueue (c.arg 0) fun k => { k with mode := .draining, leaf := false }) (.queueDestroy (c.arg 0)) 0 := by
  refine guards_of_none (noneApplies_append.mpr ⟨Call.noneApplies_queueGuards hrange hq, noneApplies_singleton.mpr ?_⟩)
  rw [beq_eq_false_iff_ne.mpr hfree, beq_eq_false_iff_ne.mpr hdraining, hbound]
  rfl

theorem queueQueryEffect_done {c : Call} {s : State} (hrange : c.queueDenied s (c.arg 0) = false) (hq : c.arg 0 < 1048576)
    (hr : c.takesResult s 1 128)
    (hlost : (s.queue (c.arg 0)).mode = .free ∨ s.lostContext (s.queue (c.arg 0)).context = false) :
    queueQueryEffect c s = .done (s.writeResult (c.arg 1) (s.queueBytes (c.arg 0))) 0 := by
  obtain ⟨hplace, hup⟩ := hr
  refine guards_of_none ?_
  simp only [noneApplies_append, and_assoc]
  exact ⟨Call.noneApplies_queueGuards hrange hq, noneApplies_singleton.mpr hplace, Call.noneApplies_queueLost hlost,
    noneApplies_singleton.mpr hup⟩

/-- What 11 R268, R271 and R272 and Table 11-11 ask of a QUEUE_CREATE: parameter by parameter, then of the Context and of room. -/
structure Call.MayCreateQueue (c : Call) (s : State) : Prop where
  issuer : c.physical = true ∨ (c.arg 7 = c.function ∧ (c.arg 0 = 0xFFFFFFFF ∨ s.inRange c.function (c.arg 0) = true))
  queue : (c.arg 0 = 0xFFFFFFFF ∧ (s.lowestFreeQueue (c.arg 7)).isSome = true) ∨
    (c.arg 0 < 1048576 ∧ s.inRange (c.arg 7) (c.arg 0) = true ∧ tget s.queues (c.arg 0) = none)
  minSize : 4 ≤ c.arg 1
  maxSize : c.arg 1 ≤ 16
  management : c.arg 2 = 1 → c.arg 1 ≤ 10 ∧ c.arg 7 = 0 ∧ c.arg 5 = 0 ∧ (s.queues.filter (·.2.management)).length < 256
  interface : c.arg 2 ≤ 1
  minWeight : 1 ≤ c.arg 3
  maxWeight : c.arg 3 ≤ 64
  ring : c.arg 4 ≤ 31
  base : c.arg 2 ≠ 1 →
    c.arg 5 % 4096 = 0 ∧ s.nameable false (s.context (c.arg 6)).partition (c.arg 5) (64 * 2 ^ c.arg 1) = true
  active : (s.context (c.arg 6)).mode = .active
  owner : (s.context (c.arg 6)).function = c.arg 7 ∨ c.arg 6 = 65535
  function : c.arg 7 ≤ 4095
  ownContext : c.physical = true ∨ (s.context (c.arg 6)).function = c.function
  chimes : s.chimesInside (s.context (c.arg 6)).partition (c.arg 8) (c.arg 9) = true
  minChimes : 1 ≤ c.arg 9
  maxChimes : c.arg 9 ≤ 4194304
  kept : s.lostContext (c.arg 6) = false

/-- The queue to create: the one named, or the lowest FREE one of the function's range for FFFFFFFFh (11 R271). -/
def Call.createdQueue (c : Call) (s : State) : Nat :=
  if c.arg 0 = 0xFFFFFFFF then (s.lowestFreeQueue (c.arg 7)).getD 0 else c.arg 0

/-- A new queue: ACTIVE with HEAD and TAIL 0, bound to no Kit, in the partition of its Context (11 R272, Table 11-10). -/
def Call.newQueue (c : Call) (s : State) : Queue :=
  { ringBase := c.arg 5, head := 0, tail := 0, kit := 0xFFFFFFFF, context := c.arg 6,
    partition := (s.context (c.arg 6)).partition, log2Size := c.arg 1, function := c.arg 7, completionRing := c.arg 4,
    mode := .active, chimeBase := c.arg 8, chimeCount := c.arg 9, ownChimeBase := c.arg 8, ownChimeCount := c.arg 9,
    weight := c.arg 3, management := c.arg 2 == 1, leaf := false, returned := 0, recent := [], peer := c.queue.peer }

namespace Call.MayCreateQueue
variable {c : Call} {s : State}

theorem issuer_permitted (h : c.MayCreateQueue s) :
    (!c.physical && (c.arg 7 != c.function || (c.arg 0 != 0xFFFFFFFF && !(s.inRange c.function (c.arg 0))))) = false := by
  rcases h.issuer with hp | ⟨hown, hany | hrange⟩
  · simp [hp]
  · simp [hown, hany]
  · simp [hown, hrange]

theorem context_permitted (h : c.MayCreateQueue s) :
    (!c.physical && (s.context (c.arg 6)).mode != .free && (s.context (c.arg 6)).function != c.function) = false := by
  rcases h.ownContext with hp | hown
  · simp [hp]
  · simp [hown]

theorem queue_inRange (h : c.MayCreateQueue s) :
    (c.arg 0 != 0xFFFFFFFF && (decide (1048576 ≤ c.arg 0) || !(s.inRange (c.arg 7) (c.arg 0)))) = false := by
  rcases h.queue with ⟨hany, -⟩ | ⟨hq, hrange, -⟩
  · simp [hany]
  · simp [hq, hrange]

theorem queue_free (h : c.MayCreateQueue s) : (c.arg 0 != 0xFFFFFFFF && (tget s.queues (c.arg 0)).isSome) = false := by
  rcases h.queue with ⟨hany, -⟩ | ⟨-, -, hfree⟩
  · simp [hany]
  · simp [hfree]

theorem queue_chosen (h : c.MayCreateQueue s) :
    (if c.arg 0 = 0xFFFFFFFF then s.lowestFreeQueue (c.arg 7) else some (c.arg 0)) = some (c.createdQueue s) := by
  rw [createdQueue]
  rcases h.queue with ⟨hany, hsome⟩ | ⟨hq, -, -⟩
  · obtain ⟨n, hn⟩ := Option.isSome_iff_exists.mp hsome
    rw [if_pos hany, if_pos hany, hn, Option.getD_some]
  · have hnamed : c.arg 0 ≠ 0xFFFFFFFF := by omega
    rw [if_neg hnamed, if_neg hnamed]

theorem base_good (h : c.MayCreateQueue s) :
    (if c.arg 2 = 1 then c.arg 5 != 0 else c.arg 5 % 4096 != 0 || ((s.context (c.arg 6)).mode != .free &&
      !(s.nameable false (s.context (c.arg 6)).partition (c.arg 5) (64 * 2 ^ c.arg 1)))) = false := by
  by_cases hm : c.arg 2 = 1
  · obtain ⟨-, -, hbase, -⟩ := h.management hm
    rw [if_pos hm, hbase, bne_self_eq_false]
  · obtain ⟨halign, hname⟩ := h.base hm
    rw [if_neg hm, halign, hname, bne_self_eq_false, Bool.not_true, Bool.and_false, Bool.or_false]

theorem context_owned (h : c.MayCreateQueue s) :
    ((s.context (c.arg 6)).mode != .free && (s.context (c.arg 6)).function != c.arg 7 && c.arg 6 != 65535) = false := by
  rcases h.owner with hown | hdevice
  · simp [hown]
  · simp [hdevice]

theorem size_good (h : c.MayCreateQueue s) :
    (decide (c.arg 1 < 4) || decide (16 < c.arg 1) || (c.arg 2 == 1 && decide (10 < c.arg 1))) = false := by
  have hmin := h.minSize
  have hmax := h.maxSize
  have hmanagement : c.arg 2 = 1 → c.arg 1 ≤ 10 := fun hm => (h.management hm).1
  simp only [Bool.or_eq_false_iff, Bool.and_eq_false_imp, decide_eq_false_iff_not, beq_iff_eq]
  omega

theorem interface_good (h : c.MayCreateQueue s) : (decide (1 < c.arg 2) || (c.arg 2 == 1 && c.arg 7 != 0)) = false := by
  have hinterface := h.interface
  have hphysical : c.arg 2 = 1 → c.arg 7 = 0 := fun hm => (h.management hm).2.1
  simp only [Bool.or_eq_false_iff, Bool.and_eq_false_imp, decide_eq_false_iff_not, beq_iff_eq, bne_eq_false_iff_eq]
  omega

theorem management_room (h : c.MayCreateQueue s) :
    (c.arg 2 == 1 && decide (256 ≤ (s.queues.filter (·.2.management)).length)) = false := by
  simp only [Bool.and_eq_false_imp, decide_eq_false_iff_not, beq_iff_eq]
  intro hm
  obtain ⟨-, -, -, hroom⟩ := h.management hm
  omega

/-- None of the refusals of a QUEUE_CREATE applies; the queue it creates is the one chosen. -/
theorem effect_done (h : c.MayCreateQueue s) :
    queueCreateEffect c s =
      .done { s with queues := tset s.queues (c.createdQueue s) (c.newQueue s) } (c.createdQueue s) := by
  simp only [queueCreateEffect, h.queue_chosen, Option.getD_some]
  refine guards_of_none ?_
  simp only [noneApplies_cons]
  refine ⟨h.issuer_permitted, h.context_permitted, h.queue_inRange, h.size_good, h.interface_good, ?weight,
    decide_eq_false (Nat.not_lt.mpr h.ring), h.base_good, h.context_owned, decide_eq_false (Nat.not_lt.mpr h.function), ?chimes,
    ?count, h.kept, bne_eq_false_iff_eq.mpr h.active, h.queue_free, ?room, noneApplies_nil⟩
  case weight => rw [decide_eq_false (Nat.not_lt.mpr h.minWeight), decide_eq_false (Nat.not_lt.mpr h.maxWeight)]; rfl
  case chimes => rw [h.chimes, Bool.not_true, Bool.and_false]
  case count => rw [decide_eq_false (Nat.not_lt.mpr h.minChimes), decide_eq_false (Nat.not_lt.mpr h.maxChimes)]; rfl
  case room => rw [h.management_room]; rfl

end Call.MayCreateQueue

/-- Settles O13: each command's own effect completes or waits once none of its refusals applies. -/
theorem queueCommandsComplete : Obligations.QueueCommandsComplete := by
  refine ⟨?nop, ?stop, ?start, ?create, ?destroy, ?query⟩
  case nop => exact completes_of (fun _ _ _ => rfl) nofun fun _ _ _ => rfl
  case stop =>
    exact completes_of (fun _ _ _ => rfl) nofun fun _ _ ⟨hrange, hq, hmode, hlost⟩ => queueStopEffect_done hrange hq hmode hlost
  case start =>
    exact completes_of (fun _ _ _ => rfl) nofun fun _ _ ⟨hrange, hq, hmode, hlost⟩ => queueStartEffect_done hrange hq hmode hlost
  case create =>
    refine completes_of (fun _ _ _ => rfl) nofun ?_
    rintro c s ⟨issuer, queue, minSize, maxSize, management, interface, minWeight, maxWeight, ring, base, active, owner, function,
      ownContext, chimes, minChimes, maxChimes, kept⟩
    exact Call.MayCreateQueue.effect_done
      { issuer, queue, minSize, maxSize, management, interface, minWeight, maxWeight, ring, base, active, owner, function,
        ownContext, chimes, minChimes, maxChimes, kept }
  case destroy =>
    exact waits_of (fun _ _ _ => rfl) nofun fun _ _ ⟨hrange, hq, hfree, hdraining, hbound⟩ =>
      queueDestroyEffect_defer hrange hq hfree hdraining hbound
  case query =>
    exact completes_of (fun _ _ _ => rfl) nofun fun _ _ ⟨hrange, hq, hr, hlost⟩ => queueQueryEffect_done hrange hq hr hlost

theorem State.ringPlace_any {s : State} {f base bytes : Nat}
    (h : ∃ p, p < 64 ∧ s.usable f p = true ∧ s.nameable false p base bytes = true) :
    ((List.range 64).any fun p => s.usable f p && s.nameable false p base bytes) = true := by
  obtain ⟨p, hp, husable, hname⟩ := h
  exact List.any_eq_true.mpr ⟨p, List.mem_range.mpr hp, by rw [husable, hname, Bool.and_self]⟩

/-- A function other than the physical one names itself alone. -/
theorem Call.ownFunction {c : Call} (h : c.physical = true ∨ c.arg 0 = c.function) :
    (!c.physical && c.arg 0 != c.function) = false := by
  rcases h with h | h <;> simp [h]

theorem cringSetEffect_done {c : Call} {s : State} {r : CRing} (hr : s.cring (c.arg 0) (c.arg 1) = r)
    (hown : c.physical = true ∨ c.arg 0 = c.function) (hfunction : c.arg 0 ≤ 4095) (hring : c.arg 1 ≤ 31) (hmin : 6 ≤ c.arg 2)
    (hmax : c.arg 2 ≤ 16)
    (hbase : c.arg 6 = 0 ∨ (c.arg 6 % 128 = 0 ∧
      ∃ p, p < 64 ∧ s.usable (c.arg 0) p = true ∧ s.nameable false p (c.arg 6) (32 * 2 ^ c.arg 2) = true))
    (hread : r.produced ≤ r.consumed ∨ s.ringNamer (c.arg 0) (c.arg 1) = none) :
    cringSetEffect c s =
      .done ((s.setCring (c.arg 0) (c.arg 1)
        { r with base := c.arg 6, produced := 0, consumed := 0, log2Size := c.arg 2, irqCount := c.arg 3, irqDelay := c.arg 4,
                 vector := c.arg 5, unsignalled := 0, unit := [] }).flushRing (c.arg 0) (c.arg 1) (r.waiting.length + 1)) 0 := by
  subst hr
  refine guards_of_none ?_
  simp only [noneApplies_cons]
  refine ⟨Call.ownFunction hown, decide_eq_false (Nat.not_lt.mpr hfunction), decide_eq_false (Nat.not_lt.mpr hring), ?size, ?base,
    ?unread, noneApplies_nil⟩
  case size => rw [decide_eq_false (Nat.not_lt.mpr hmin), decide_eq_false (Nat.not_lt.mpr hmax)]; rfl
  case base =>
    rcases hbase with hunset | ⟨halign, hplace⟩
    · rw [hunset]; rfl
    · rw [halign, State.ringPlace_any hplace]; exact Bool.and_false _
  case unread =>
    rcases hread with hread | hnamer
    · rw [decide_eq_false (Nat.not_lt.mpr hread), Bool.false_and]
    · rw [hnamer]; exact Bool.and_false _

/-- A pending PARTITION_SET with a limit above what the partition has does not stand in the way of a new Context. -/
theorem State.changeLeavesRoom {s : State} {p : Nat}
    (h : ∀ x ∈ s.partitionChanges, x.partition = p → s.contextCount p < x.contextLimit) :
    ((s.partitionChanges.find? (·.partition == p)).any fun x => decide (x.contextLimit ≤ s.contextCount p)) = false := by
  cases hx : s.partitionChanges.find? (·.partition == p) with
  | none => rfl
  | some x =>
    have hpartition : x.partition = p := eq_of_beq (List.find?_some (p := fun y : PartitionChange => y.partition == p) hx)
    exact decide_eq_false (Nat.not_le.mpr (h x (List.mem_of_find?_eq_some hx) hpartition))

/-- The Context that CONTEXT_CREATE creates (12 Table 12-3). -/
def Call.newContext (c : Call) : Context :=
  { mode := .active, partition := c.arg 1, function := c.arg 0, noticeRing := c.arg 2, lossStatus := 0, lossBeat := 0,
    lossOffset := 0, viaQueue := if c.queue.management then some c.cmd.queue else none }

theorem contextCreateEffect_done {c : Call} {s : State} (hown : c.physical = true ∨ c.arg 0 = c.function) (hfunction : c.arg 0 ≤ 4095)
    (hpartition : c.arg 1 ≤ 63) (husable : s.usable (c.arg 0) (c.arg 1) = true) (hring : c.arg 2 ≤ 31)
    (hset : c.queue.management = true ∨ (s.cring (c.arg 0) (c.arg 2)).base ≠ 0) (henabled : s.functionMode (c.arg 0) = .enabled)
    (hchange : ∀ x ∈ s.partitionChanges, x.partition = c.arg 1 → s.contextCount (c.arg 1) < x.contextLimit)
    (hfree : tfree s.contexts 0 < 65535)
    (hlimit : c.arg 1 = 0 ∨ s.contextCount (c.arg 1) < (s.partition (c.arg 1)).contextLimit) :
    contextCreateEffect c s =
      .done { s with contexts := tset s.contexts (tfree s.contexts 0) c.newContext } (tfree s.contexts 0) := by
  simp only [contextCreateEffect, henabled]
  refine guards_of_none ?_
  simp only [noneApplies_cons]
  refine ⟨Call.ownFunction hown, decide_eq_false (Nat.not_lt.mpr hfunction), ?partition, ?ring, rfl, State.changeLeavesRoom hchange,
    ?room, noneApplies_nil⟩
  case partition => rw [decide_eq_false (Nat.not_lt.mpr hpartition), husable]; rfl
  case ring =>
    rw [decide_eq_false (Nat.not_lt.mpr hring)]
    rcases hset with hm | hbase
    · rw [hm]; rfl
    · rw [beq_eq_false_iff_ne.mpr hbase, Bool.and_false, Bool.or_false]
  case room =>
    rw [decide_eq_false (Nat.not_le.mpr hfree), Bool.false_or]
    rcases hlimit with hdevice | hlimit
    · rw [hdevice]; rfl
    · rw [decide_eq_false (Nat.not_le.mpr hlimit), Bool.and_false]

theorem contextDestroyEffect_defer {c : Call} {s : State} (hdenied : c.contextDenied s (c.arg 0) = false) (hdevice : c.arg 0 ≠ 65535)
    (hown : c.queue.context ≠ c.arg 0)
    (hmode : (s.context (c.arg 0)).mode = .lost ∨ ((s.context (c.arg 0)).mode = .active ∧
      s.kitsOf (c.arg 0) = [] ∧ s.queuesOf (c.arg 0) = [] ∧ s.seqsOf (c.arg 0) = [])) :
    contextDestroyEffect c s = .defer ((s.disown (c.arg 0)).modContext (c.arg 0) fun k => { k with mode := .destroying })
      (.contextDestroy (c.arg 0)) 0 := by
  refine guards_of_none (noneApplies_cons.mpr ⟨hdenied, noneApplies_cons.mpr ⟨?named, noneApplies_singleton.mpr ?mode⟩⟩)
  case named => rw [beq_eq_false_iff_ne.mpr hdevice, beq_eq_false_iff_ne.mpr hown]; rfl
  case mode =>
    rcases hmode with hlost | ⟨hactive, hkits, hqueues, hseqs⟩
    · rw [hlost]; rfl
    · rw [hactive, hkits, hqueues, hseqs]; rfl

theorem contextQueryEffect_done {c : Call} {s : State} (hdenied : c.contextDenied s (c.arg 0) = false) (hr : c.takesResult s 1 64) :
    contextQueryEffect c s = .done (s.writeResult (c.arg 1) (s.contextBytes (c.arg 0))) 0 :=
  guards_of_none (noneApplies_cons.mpr ⟨hdenied, hr.noneApplies⟩)

/-- Settles O15: each command's own effect completes or waits once none of its refusals applies. -/
theorem contextCommandsComplete : Obligations.ContextCommandsComplete := by
  refine ⟨?ring, ?create, ?destroy, ?query⟩
  case ring =>
    exact completes_of (fun _ _ _ => rfl) nofun fun _ _ ⟨hown, hfunction, hring, hmin, hmax, hbase, hread⟩ =>
      cringSetEffect_done rfl hown hfunction hring hmin hmax hbase hread
  case create =>
    refine completes_of (fun _ _ _ => rfl) nofun ?_
    rintro c s ⟨hown, hfunction, hpartition, husable, hring, hset, henabled, hchange, hfree, hlimit⟩
    exact contextCreateEffect_done hown hfunction hpartition husable hring hset henabled hchange hfree hlimit
  case destroy =>
    exact waits_of (fun _ _ _ => rfl) nofun fun _ _ ⟨hdenied, hdevice, hown, hmode⟩ =>
      contextDestroyEffect_defer hdenied hdevice hown hmode
  case query => exact completes_of (fun _ _ _ => rfl) nofun fun _ _ ⟨hdenied, hr⟩ => contextQueryEffect_done hdenied hr

end Sys2Proof.Machine

/-! ### The management ports (11 R277, 18 R432, 19 R447, 20 R456, R457) -/

namespace Sys2Proof.Machine
open Sys2Proof

/-- A port that is up, of a module that is not asleep, hears what reaches it. -/
theorem State.port_hears {s : State} {e : Nat} (hu : s.portUp e = true) (ha : s.portAwake = true) :
    ¬((!s.portUp e) = true ∨ (!s.portAwake) = true) := by
  rw [hu, ha]; decide

/-- A good header at the primary, once its control cores read, leaves only its queue to test. -/
theorem State.managementDatagram_atPrimary {s : State} {e : Nat} (source port : Nat) {b : List Byte} (hu : s.portUp e = true)
    (ha : s.portAwake = true) (h1 : s.boot.stage1 = true) (he : e = s.fail.primary) (hb : headerGood b = true) :
    s.managementDatagram e source port b =
      if (s.queue (field b 4 4)).mode = .free ∨ (s.queue (field b 4 4)).mode = .draining ∨ (!(s.queue (field b 4 4)).management) = true
      then s.dropDatagram (field b 2 2) else s.takePackets source port b := by
  rw [State.managementDatagram, if_neg (State.port_hears hu ha), if_neg (by simp [h1, he, hb])]

theorem State.statusDatagram_request {s : State} {e : Nat} (source port : Nat) {b : List Byte} (hu : s.portUp e = true)
    (ha : s.portAwake = true) (hk : field b 0 2 = 0x8001) (hr : field b 2 1 = 1) (hl : b.length = 64) :
    s.statusDatagram e source port b = s.send ⟨.statusDatagram, source, [e, port], s.statusBytes e⟩ := by
  rw [State.statusDatagram, if_neg (State.port_hears hu ha), if_neg (by simp [hk, hr, hl])]

theorem State.statusBroadcast_due {s : State} (h1 : s.boot.stage1 = true) (hu : s.portUp s.fail.primary = true)
    (ha : s.portAwake = true) (hd : (s.queue 1).head = 0 ∨ s.boot.startFault ≠ 0) :
    s.statusBroadcast = s.send ⟨.statusDatagram, allNodes, [s.fail.primary, 47100], s.statusBytes s.fail.primary⟩ := by
  have hdue : ¬((s.queue 1).head ≠ 0 ∧ s.boot.startFault = 0) := by omega
  simp only [State.statusBroadcast, h1, hu, ha, hdue, Bool.not_true, Bool.false_eq_true, or_self, if_false]

/-- What an open port does with a message depends on the message's kind alone. -/
theorem State.icmpv6Message_heard {s : State} {e : Nat} (source kind : Nat) (b : List Byte) (hu : s.portUp e = true)
    (ha : s.portAwake = true) :
    s.icmpv6Message e source kind b =
      if kind = 128 then s.send ⟨.icmpv6, source, [e, 129], b⟩
      else if kind = 135 then s.send ⟨.neighbourAdvertisement, e, [ownDigest, source], []⟩
      else if kind = 130 then s.send ⟨.icmpv6, source, [e, 143], []⟩
      else s := by
  rw [State.icmpv6Message, if_neg (State.port_hears hu ha)]

/-- The VIGIL_WAKE of a wake datagram, at the TAIL of queue 1. -/
def State.wakeCommand (s : State) (b : List Byte) : Command :=
  { id := s.nextId, queue := 1, index := (s.queue 1).tail, op := .vigilWake, packet := Packet.ofBytes (slice b 16 64), wait := .wake
    readBeat := s.beat.number, readAt := s.now, beforeBuild := true, result := 0, context := (s.queue 1).context }

/-- A wake datagram for the TAIL of queue 1 begins the wake, where queue 1 has room. -/
theorem State.wakeDatagram_wakes {s : State} (source port : Nat) {b : List Byte} (hv : s.power.vigil = .vigil)
    (hb : headerGood b = true) (hq : field b 4 4 = 1) (ht : field b 8 8 = (s.queue 1).tail) (ho : field b 16 2 = 0x9011)
    (hroom : (s.queue 1).tail < (s.queue 1).head + 2 ^ (s.queue 1).log2Size) :
    (s.wakeDatagram source port b).power.vigil = .waking ∧
      (s.wakeDatagram source port b).commands = (s.takePackets source port b).commands ++ [s.wakeCommand b] := by
  rw [State.wakeDatagram, if_neg (by simp [hv, hb, hq, ht, ho, hroom])]
  refine ⟨rfl, ?_⟩
  dsimp only
  split <;> rfl

theorem State.mgmtLinkUp_eq {s : State} {e : Nat} (hlit : s.boot.lit = true) (hh : s.healthyEdge e = true) :
    s.mgmtLinkUp e = s.modEdge e fun x => { x with mgmtUp := true, mgmtDownSince := none } := by
  rw [State.mgmtLinkUp, if_neg (by simp [hlit, hh])]

theorem State.mgmtLinkLoss_handsOver {s : State} {n : Nat} (hh : s.healthyEdge s.fail.primary = true)
    (hn : (s.modEdge s.fail.primary fun x => { x with mgmtUp := false }).nextEdge s.fail.primary = some n) :
    s.mgmtLinkLoss = (s.modEdge s.fail.primary fun x => { x with mgmtUp := false }).movePrimary n := by
  simp only [State.mgmtLinkLoss, hh, hn, Bool.not_true, Bool.false_eq_true, if_false]

/-- Settles O52: each clause is the equation of its event's own function under the clause's conditions. The payloads of ICMPv6 answers
and of advertisements are the model's choice (log entry 114), and so is what a wake datagram does with packets of queue 1 that have not
been read (log entry 115). -/
theorem managementEventsHappen : Obligations.ManagementEventsHappen := by
  refine ⟨?taken, ?dropped, ?status, ?broadcast, ?icmp, ?wake, ?up, ?loss⟩
  case taken =>
    intro e source port b s hlt hu ha h1 he hb hm hmode
    refine leads_at rfl (decide_eq_true hlt) ((State.managementDatagram_atPrimary source port hu ha h1 he hb).trans (if_neg ?_))
    rw [hmode, hm]; decide
  case dropped =>
    intro e source port b s hlt hu ha h1 he hb hm
    refine leads_at rfl (decide_eq_true hlt) ((State.managementDatagram_atPrimary source port hu ha h1 he hb).trans (if_pos ?_))
    exact .inr (.inr (by rw [hm]; rfl))
  case status =>
    exact fun e source port b s hlt hu ha hk hr hl =>
      leads_at rfl (decide_eq_true hlt) (State.statusDatagram_request source port hu ha hk hr hl)
  case broadcast => exact fun s h1 hu ha hd => leads_of rfl (State.statusBroadcast_due h1 hu ha hd)
  case icmp =>
    intro e source b s hlt hu ha
    have hleads (kind : Nat) : Leads (.icmpv6Message e source kind b) s _ :=
      leads_at rfl (decide_eq_true hlt) (State.icmpv6Message_heard source kind b hu ha)
    exact ⟨hleads 128, hleads 135, hleads 130⟩
  case wake =>
    intro source port b s hv hb hq ht ho hroom
    obtain ⟨hvigil, hcommands⟩ := State.wakeDatagram_wakes source port hv hb hq ht ho hroom
    exact ⟨_, leads_of rfl rfl, hvigil, s.wakeCommand b, hcommands, rfl, rfl, rfl⟩
  case up => exact fun e s hlt hlit hh => leads_at rfl (decide_eq_true hlt) (State.mgmtLinkUp_eq hlit hh)
  case loss => exact fun n s hh hn => leads_of rfl (State.mgmtLinkLoss_handsOver hh hn)

end Sys2Proof.Machine

/-! ### A step with a command waiting -/

namespace Sys2Proof.Machine
open Sys2Proof

/-- Settles O1: by the branch of `step` for a queue with a front. -/
theorem stepRunsTheFrontCommand : Obligations.StepRunsTheFrontCommand := by
  intro c rest s hq
  rw [step, hq]

end Sys2Proof.Machine

/-! ### Chimes, memory objects and partitions: commands (12 R284, R285, R292 to R302, Tables 12-1 and 12-4 to 12-7) -/

namespace Sys2Proof.Machine
open Sys2Proof

/-- A range of Chimes in the queue's namespace, of a size from 1 to 65,536, passes the tests of its two parameters. -/
theorem Call.noneApplies_chimeRange {c : Call} (hin : c.arg 0 + c.arg 1 ≤ c.queue.chimeCount) (hpos : 1 ≤ c.arg 1)
    (hmax : c.arg 1 ≤ 65536) :
    noneApplies [(!(c.inNamespace (c.arg 0) (c.arg 1)), c.bad 0),
      (decide (c.arg 1 < 1) || decide (65536 < c.arg 1), c.bad 1)] := by
  refine noneApplies_cons.mpr ⟨?_, noneApplies_singleton.mpr ?_⟩
  · rw [Call.inNamespace, decide_eq_true hin]; rfl
  · rw [decide_eq_false (Nat.not_lt.mpr hpos), decide_eq_false (Nat.not_lt.mpr hmax)]; rfl

theorem Call.noneApplies_chime {c : Call} (hin : c.arg 0 < c.queue.chimeCount) :
    noneApplies [(!(c.inNamespace (c.arg 0) 1), c.bad 0)] :=
  noneApplies_singleton.mpr (by rw [Call.inNamespace, decide_eq_true (Nat.succ_le_iff.mpr hin)]; rfl)

theorem chimeInitEffect_done {c : Call} {s : State} (hin : c.arg 0 + c.arg 1 ≤ c.queue.chimeCount) (hpos : 1 ≤ c.arg 1)
    (hmax : c.arg 1 ≤ 65536)
    (hctx : c.arg 3 = 65535 ∨ ((s.context (c.arg 3)).mode ≠ .free ∧ (s.context (c.arg 3)).partition = c.partition ∧
      s.lostContext (c.arg 3) = false ∧ ∀ h ∈ c.chimes (c.arg 0) (c.arg 1), s.chimeMoves h = false))
    (hwait : ∀ h ∈ c.chimes (c.arg 0) (c.arg 1), ∀ w ∈ s.waiters, w.chime ≠ h) :
    chimeInitEffect c s = .done ((c.chimes (c.arg 0) (c.arg 1)).foldl (fun t h => t.setChime h
      { counter := BitVec.ofNat 64 (c.arg 2), error := 0, lowCount := 0, context := c.arg 3,
        partition := if c.arg 3 = 65535 then 0 else (s.context (c.arg 3)).partition }) s) 0 := by
  have hnoWaiter : ((c.chimes (c.arg 0) (c.arg 1)).find? fun h => s.waiters.any (·.chime == h)) = none :=
    List.find?_eq_none.mpr fun h hh => by simpa using hwait h hh
  simp only [chimeInitEffect, Nat.min_eq_left hmax, hnoWaiter]
  refine guards_of_none (noneApplies_append.mpr ⟨Call.noneApplies_chimeRange hin hpos hmax, ?_⟩)
  simp only [noneApplies_cons]
  rcases hctx with hdevice | ⟨hmode, hpartition, hlost, hmoves⟩
  · rw [hdevice]
    exact ⟨rfl, rfl, rfl, rfl, noneApplies_nil⟩
  · have hnoneMoves : ((c.chimes (c.arg 0) (c.arg 1)).find? fun h => s.chimeMoves h) = none :=
      List.find?_eq_none.mpr fun h hh => Bool.eq_false_iff.mp (hmoves h hh)
    refine ⟨?owner, ?kept, rfl, ?moves, noneApplies_nil⟩
    case owner => rw [beq_eq_false_iff_ne.mpr hmode, hpartition, bne_self_eq_false, Bool.or_self, Bool.and_false]
    case kept => rw [hlost, Bool.and_false]
    case moves => rw [hnoneMoves]; exact Bool.and_false _

theorem chimeWaitEffect_eq {c : Call} {s : State} (hin : c.arg 0 < c.queue.chimeCount)
    (herror : (s.chime (c.queue.deviceChime (c.arg 0))).error = 0) :
    chimeWaitEffect c s =
      if reached (s.chime (c.queue.deviceChime (c.arg 0))).counter (BitVec.ofNat 64 (c.arg 1)) then .done s 0
      else .defer { s with waiters := s.waiters ++
          [{ chime := c.queue.deviceChime (c.arg 0), target := BitVec.ofNat 64 (c.arg 1), waiter := .command c.cmd.id }] }
        (.chime (c.queue.deviceChime (c.arg 0)) (c.arg 1)) 0 :=
  (guards_of_none (Call.noneApplies_chime hin)).trans (if_neg (not_not_intro herror))

/-- Settles O16: each command's own effect completes or waits once none of its refusals applies; a CHIME_WAIT asks last whether the target
is reached. -/
theorem chimeCommandsComplete : Obligations.ChimeCommandsComplete := by
  refine ⟨?init, ?signal, ?reached, ?holds, ?query, ?clear⟩
  case init =>
    exact completes_of (fun _ _ _ => rfl) nofun fun _ _ ⟨hin, hpos, hmax, hctx, hwait⟩ => chimeInitEffect_done hin hpos hmax hctx hwait
  case signal => exact completes_of (fun _ _ _ => rfl) nofun fun _ _ hin => guards_of_none (Call.noneApplies_chime hin)
  case reached =>
    exact completes_of (fun _ _ _ => rfl) nofun fun _ _ ⟨hin, herror, hreached⟩ =>
      (chimeWaitEffect_eq hin herror).trans (if_pos hreached)
  case holds =>
    exact waits_of (fun _ _ _ => rfl) nofun fun _ _ ⟨hin, herror, hbelow⟩ =>
      (chimeWaitEffect_eq hin herror).trans (if_neg (Bool.eq_false_iff.mp hbelow))
  case query =>
    exact completes_of (fun _ _ _ => rfl) nofun fun _ _ ⟨hin, hr⟩ =>
      guards_of_none (noneApplies_append.mpr ⟨Call.noneApplies_chime hin, hr.noneApplies⟩)
  case clear =>
    exact completes_of (fun _ _ _ => rfl) nofun fun _ _ ⟨hin, hpos, hmax⟩ =>
      guards_of_none (Call.noneApplies_chimeRange hin hpos hmax)

/-- The bytes of tier 2 that a MEM_ALLOC of `size` takes: FLAGS 1 asks for that many tiles (12 R293). -/
def allocFootprint (flags size : Nat) : Nat := if flags = 1 then tiledFootprint size else size

/-- The object that MEM_ALLOC makes at index `i` on the stripe units of `x` (12 R293, Table 12-4). -/
def Call.newObject (c : Call) (s : State) (x : Nat × List Extent) : Object :=
  { generation := nextGeneration (s.lastGeneration s.freeObject), footprint := allocFootprint (c.arg 1) (c.arg 2),
    tiles := if c.arg 1 = 1 then c.arg 2 else 0, mode := .live, tiled := c.arg 1 == 1, pool := false, summary := false,
    unreadable := false, context := c.arg 0, partition := (s.context (c.arg 0)).partition, firstPair := x.1,
    pairs := (x.2.map (·.pair)).foldl addOnce [], bindings := 0, marked := false, units := x.2, granules := [] }

/-- A MEM_ALLOC that an ACTIVE Context may make, of a size that FLAGS allow, completes where its footprint finds room. -/
theorem memAllocEffect_done {c : Call} {s : State} {x : Nat × List Extent} (hmode : (s.context (c.arg 0)).mode = .active)
    (hfunction : (s.context (c.arg 0)).function = c.function) (hlost : s.lostContext (c.arg 0) = false)
    (hsize : (c.arg 1 = 0 ∧ c.arg 2 % 4096 = 0 ∧ 4096 ≤ c.arg 2 ∧ c.arg 2 ≤ 1099511623680) ∨
      (c.arg 1 = 1 ∧ 1 ≤ c.arg 2 ∧ c.arg 2 ≤ 2 ^ 28 - 1))
    (hx : s.layout2 (s.context (c.arg 0)).partition (allocFootprint (c.arg 1) (c.arg 2)) = some x)
    (hindex : s.freeObject < 1048576) :
    memAllocEffect c s =
      .done (State.zeroUnits { s with objects := tset s.objects s.freeObject (c.newObject s x) } x.2)
        ((c.newObject s x).handle s.freeObject) := by
  have hflags : c.arg 1 ≤ 1 := by omega
  have hgood : (if c.arg 1 == 1 then decide (1 ≤ c.arg 2) && decide (c.arg 2 ≤ 2 ^ 28 - 1)
      else c.arg 2 % 4096 == 0 && decide (4096 ≤ c.arg 2) && decide (c.arg 2 ≤ 1099511623680)) = true := by
    rcases hsize with ⟨hplain, halign, hmin, hmax⟩ | ⟨htiled, hmin, hmax⟩
    · simp [hplain, halign, hmin, hmax]
    · rw [htiled, decide_eq_true hmin, decide_eq_true hmax]; rfl
  have hfoot : (if c.arg 1 == 1 then tiledFootprint (c.arg 2) else c.arg 2) = allocFootprint (c.arg 1) (c.arg 2) := by
    simp only [allocFootprint, beq_iff_eq]
  simp only [memAllocEffect, hgood, Bool.not_true, Bool.false_eq_true, if_false, hfoot, hx, if_neg (Nat.not_le.mpr hindex)]
  refine (guards_of_none ?_).trans ?_
  · simp only [noneApplies_cons]
    refine ⟨?function, decide_eq_false (Nat.not_lt.mpr hflags), trivial, hlost, bne_eq_false_iff_eq.mpr hmode, noneApplies_nil⟩
    case function => rw [hfunction, bne_self_eq_false, Bool.and_false]
  · simp only [Call.newObject, beq_iff_eq]

theorem memFreeEffect_eq {c : Call} {s : State} {i : Nat} {o : Object} (hobj : s.objectOf (c.arg 0) = some (i, o))
    (hnone : noneApplies (c.handleGuards s 0 ++ c.objectGuards s 0)) (hfree : o.mode ≠ .bound) :
    memFreeEffect c s =
      if s.refs (c.arg 0) c.cmd.id = 0 then .done (s.releaseObject i) 0
      else .defer (s.modObject i fun o => { o with mode := .retiring }) (.memFree (c.arg 0)) 0 := by
  rw [memFreeEffect, hobj]
  exact guards_of_none (noneApplies_append.mpr ⟨hnone, noneApplies_singleton.mpr (beq_eq_false_iff_ne.mpr hfree)⟩)

theorem memQueryEffect_done {c : Call} {s : State} {i : Nat} {o : Object} (hobj : s.objectOf (c.arg 0) = some (i, o))
    (hnone : noneApplies (c.handleGuards s 0 ++ c.objectGuards s 0)) (hr : c.takesResult s 1 128) :
    memQueryEffect c s = .done (s.writeResult (c.arg 1) (s.objectBytes i o 0)) 0 := by
  obtain ⟨hhandle, hobject⟩ := noneApplies_append.mp hnone
  obtain ⟨hplace, hup⟩ := hr
  rw [memQueryEffect, hobj]
  refine guards_of_none ?_
  simp only [noneApplies_append, and_assoc]
  exact ⟨hhandle, noneApplies_singleton.mpr hplace, hobject, noneApplies_singleton.mpr hup⟩

/-- Settles O17: each command's own effect completes or waits once none of its refusals applies. -/
theorem memoryObjectCommandsComplete : Obligations.MemoryObjectCommandsComplete := by
  refine ⟨?alloc, ?free, ?freeNamed, ?query⟩
  case alloc =>
    refine completes_of (fun _ _ _ => rfl) nofun ?_
    rintro c s ⟨hmode, hfunction, hlost, hsize, hindex⟩
    have hroom : (s.layout2 (s.context (c.arg 0)).partition (allocFootprint (c.arg 1) (c.arg 2))).isSome = true := by
      rcases hsize with ⟨hplain, -, -, -, hroom⟩ | ⟨htiled, -, -, hroom⟩
      · rw [hplain]; exact hroom
      · rw [htiled]; exact hroom
    obtain ⟨x, hx⟩ := Option.isSome_iff_exists.mp hroom
    refine (memAllocEffect_done hmode hfunction hlost ?_ hx hindex).trans ?_
    · exact hsize.imp (fun ⟨hf, ha, hl, hu, _⟩ => ⟨hf, ha, hl, hu⟩) fun ⟨hf, hl, hu, _⟩ => ⟨hf, hl, hu⟩
    · rw [allocFootprint] at hx
      simp only [hx, Option.getD_some]
      rfl
  case free =>
    refine completes_of (fun _ _ _ => rfl) nofun ?_
    rintro c s ⟨i, o, hobj, hnone, hfree, hrefs⟩
    exact (memFreeEffect_eq hobj hnone hfree).trans (by rw [if_pos hrefs, hobj])
  case freeNamed =>
    refine waits_of (fun _ _ _ => rfl) nofun ?_
    rintro c s ⟨i, o, hobj, hnone, hfree, hrefs⟩
    exact (memFreeEffect_eq hobj hnone hfree).trans (by rw [if_neg hrefs, hobj])
  case query =>
    refine completes_of (fun _ _ _ => rfl) nofun ?_
    rintro c s ⟨i, o, hobj, hnone, hr⟩
    exact (memQueryEffect_done hobj hnone hr).trans (by rw [hobj])

/-- Settles O19: each command's own effect completes or waits once none of its refusals applies. -/
theorem partitionCommandsComplete : Obligations.PartitionCommandsComplete := by
  refine ⟨?set, ?query⟩
  case set => exact waits_of (fun _ _ _ => rfl) nofun fun _ _ hnone => guards_of_none hnone
  case query =>
    exact completes_of (fun _ _ _ => rfl) nofun fun _ _ ⟨hpartition, hr⟩ =>
      guards_of_none (noneApplies_cons.mpr ⟨decide_eq_false (Nat.not_lt.mpr hpartition), hr.noneApplies⟩)

end Sys2Proof.Machine

/-! ### The peal and virtual functions: commands (16 R376, R377, R388, R391, Table 16-7; 17 R393 to R408, Tables 17-1 to 17-4) -/

namespace Sys2Proof.Machine
open Sys2Proof

theorem State.alone_idle {s : State} (hmode : s.peal.mode = .alone) (hidle : s.anyAdmitted = false) :
    (s.peal.mode != .alone || s.anyAdmitted) = false := by
  rw [hmode, hidle]; rfl

theorem pealFormEffect_defer {c : Call} {s : State} (hid : c.arg 0 ≠ 0) (hshape : c.arg 1 < 4096) (hfounder : c.arg 2 ≤ 1)
    (hmode : s.peal.mode = .alone) (hidle : s.anyAdmitted = false) :
    pealFormEffect c s =
      let t : State := { s with peal := { s.peal with
        mode := .forming, pealId := c.arg 0, sizes := shapeSizes (c.arg 1), founder := c.arg 2 == 1, coordinate := 0
        reached := if c.arg 2 = 1 then [0] else [], neighbours := [], locked := [], admitBeat := none
        timeout := if c.arg 3 = 0 then 10000 else c.arg 3, since := s.now } }
      .defer t.announce.reportLocked.nameFormation .pealForm 0 := by
  refine (guards_of_none ?_).trans (by simp only [beq_iff_eq])
  simp only [noneApplies_cons]
  exact ⟨beq_eq_false_iff_ne.mpr hid, decide_eq_false (Nat.not_le.mpr hshape), decide_eq_false (Nat.not_lt.mpr hfounder),
    State.alone_idle hmode hidle, noneApplies_nil⟩

theorem pealJoinEffect_defer {c : Call} {s : State} (hid : c.arg 0 ≠ 0) (hmode : s.peal.mode = .alone)
    (hidle : s.anyAdmitted = false) (hlevel : ∀ k ∈ s.kits, s.level k.1 < 14) :
    pealJoinEffect c s =
      .defer (State.announce { s with peal := { s.peal with
        mode := .joining, pealId := c.arg 0, reached := [], neighbours := [], locked := [], admitBeat := none, leader := none
        timeout := if c.arg 1 = 0 then 10000 else c.arg 1, since := s.now } }) .pealJoin 0 := by
  have hdeep : (s.kits.any fun k => decide (14 ≤ s.level k.1)) = false :=
    List.any_eq_false.mpr fun k hk => by simpa using hlevel k hk
  refine guards_of_none (noneApplies_cons.mpr ⟨beq_eq_false_iff_ne.mpr hid, noneApplies_singleton.mpr ?_⟩)
  rw [State.alone_idle hmode hidle, hdeep, Bool.or_self]

theorem pealLeaveEffect_defer {c : Call} {s : State} (hm : c.arg 0 < 4096) (hforce : c.arg 1 ≤ 1) (hlead : s.notLeader = none)
    (hpeal : s.peal.inPeal = true) (hmember : c.arg 0 ∈ s.peal.members) (hstays : ∀ l ∈ s.peal.leaving, l.1 ≠ c.arg 0)
    (hshares : c.arg 1 = 1 ∨ s.sharing (c.arg 0) = []) :
    pealLeaveEffect c s =
      .defer (State.announce { s with peal := { s.peal with
        leaving := s.peal.leaving ++ [(c.arg 0, (c.arg 1, s.beat.number + 64))]
        mode := if c.arg 0 = s.peal.coordinate then .leaving else s.peal.mode } }) (.pealLeave (c.arg 0)) 0 := by
  have hleaving : s.peal.leaving.any (·.1 == c.arg 0) = false :=
    List.any_eq_false.mpr fun l hl => by simpa using hstays l hl
  simp only [pealLeaveEffect, hlead, List.append_nil]
  refine guards_of_none ?_
  simp only [noneApplies_append, noneApplies_cons, and_assoc]
  refine ⟨decide_eq_false (Nat.not_le.mpr hm), decide_eq_false (Nat.not_lt.mpr hforce), noneApplies_nil, ?member, ?shares,
    noneApplies_nil⟩
  case member => rw [hpeal, List.contains_iff_mem.mpr hmember, hleaving]; rfl
  case shares =>
    rcases hshares with h | h
    · rw [h]; rfl
    · rw [h]; exact Bool.and_false _

/-- Parameter 0 names a virtual function (17 R396). -/
theorem Call.noneApplies_vfGuards {c : Call} (hpos : 1 ≤ c.arg 0) (hmax : c.arg 0 ≤ 4095) : noneApplies c.vfGuards :=
  noneApplies_singleton.mpr (Bool.or_eq_false_iff.mpr
    ⟨beq_eq_false_iff_ne.mpr (Nat.ne_of_gt hpos), decide_eq_false (Nat.not_lt.mpr hmax)⟩)

/-- The function that parameter 0 names is in a state that the command accepts. -/
theorem Call.noneApplies_vfMode {c : Call} {s : State} {ok : FunctionMode → Bool} (hok : ok (s.function (c.arg 0)).mode = true) :
    noneApplies (c.vfMode s ok) :=
  noneApplies_singleton.mpr (by rw [hok]; rfl)

theorem Call.noneApplies_vfMode_held {c : Call} {s : State}
    (hmode : (s.function (c.arg 0)).mode = .frozen ∨ (s.function (c.arg 0)).mode = .saved) :
    noneApplies (c.vfMode s fun m => m == .frozen || m == .saved) :=
  Call.noneApplies_vfMode (by rcases hmode with h | h <;> rw [h] <;> rfl)

theorem vfEnableEffect_on {c : Call} {s : State} (hpos : 1 ≤ c.arg 0) (hmax : c.arg 0 ≤ 4095) (hon : c.arg 1 = 1)
    (hmode : (s.function (c.arg 0)).mode = .disabled) :
    vfEnableEffect c s = .done (s.modFunction (c.arg 0) fun _ => { VFunction.initial with mode := .enabled }) 0 := by
  simp only [vfEnableEffect, hon]
  refine guards_of_none ?_
  simp only [noneApplies_append, and_assoc]
  exact ⟨Call.noneApplies_vfGuards hpos hmax, noneApplies_singleton.mpr rfl, Call.noneApplies_vfMode (by rw [hmode]; rfl),
    noneApplies_singleton.mpr rfl⟩

theorem vfEnableEffect_off {c : Call} {s : State} (hpos : 1 ≤ c.arg 0) (hmax : c.arg 0 ≤ 4095) (hoff : c.arg 1 = 0)
    (hmode : (s.function (c.arg 0)).mode = .enabled) (hempty : s.vfEmpty (c.arg 0) = true) :
    vfEnableEffect c s =
      .done { s with functions := terase s.functions (c.arg 0), crings := s.crings.filter fun r => r.1 / 32 != c.arg 0 } 0 := by
  simp only [vfEnableEffect, hoff, hempty]
  refine guards_of_none ?_
  simp only [noneApplies_append, and_assoc]
  exact ⟨Call.noneApplies_vfGuards hpos hmax, noneApplies_singleton.mpr rfl, Call.noneApplies_vfMode (by rw [hmode]; rfl),
    noneApplies_singleton.mpr rfl⟩

theorem vfAssignEffect_done {c : Call} {s : State} {b : List Byte} (hb : s.sysRead (c.arg 1) 64 = b) (hpos : 1 ≤ c.arg 0)
    (hmax : c.arg 0 ≤ 4095) (hmode : (s.function (c.arg 0)).mode = .enabled) (hempty : s.vfEmpty (c.arg 0) = true)
    (hplace : c.blockBad s 1 64 64 = false) (hup : c.domainDown s 1 = false) (hzero : bit (field b 0 8) 0 = false)
    (hfirst : field b 8 4 < 2 ^ 20) (hcount : field b 12 4 ≤ 1048320)
    (hrange : field b 12 4 = 0 ∨ (256 ≤ field b 8 4 ∧ field b 8 4 + field b 12 4 ≤ 1048576))
    (htaken : s.rangeTaken (c.arg 0) (field b 8 4) (field b 12 4) = false) (hrest : ∀ x ∈ slice b 16 48, x = 0) :
    vfAssignEffect c s = .done (s.modFunction (c.arg 0) fun v =>
      { v with partitions := maskParts (field b 0 8), firstQueue := field b 8 4, queueCount := field b 12 4 }) 0 := by
  have hreserved : ((slice b 16 48).any (· != 0)) = false := List.any_eq_false.mpr fun x hx => by simp [hrest x hx]
  have hqueues : (decide (1048320 < field b 12 4) ||
      (decide (0 < field b 12 4) && (decide (field b 8 4 < 256) || decide (1048576 < field b 8 4 + field b 12 4)))) = false := by
    simp only [Bool.or_eq_false_iff, Bool.and_eq_false_imp, decide_eq_false_iff_not, decide_eq_true_eq]
    omega
  subst hb
  refine guards_of_none ?_
  simp only [noneApplies_append, noneApplies_cons, and_assoc]
  refine ⟨Call.noneApplies_vfGuards hpos hmax, hplace, hzero, decide_eq_false (Nat.not_le.mpr hfirst), hqueues, htaken, hreserved,
    noneApplies_nil, Call.noneApplies_vfMode (by rw [hmode]; rfl), ?_, hup, noneApplies_nil⟩
  rw [hempty]; rfl

theorem vfResetEffect_defer {c : Call} {s : State} (hpos : 1 ≤ c.arg 0) (hmax : c.arg 0 ≤ 4095)
    (hmode : (s.function (c.arg 0)).mode = .enabled ∨ (s.function (c.arg 0)).mode = .freezing ∨
      (s.function (c.arg 0)).mode = .frozen ∨ (s.function (c.arg 0)).mode = .saved) :
    vfResetEffect c s = .defer (((s.commands.filter fun o => o.wait == .vfFreeze (c.arg 0)).foldl
      (fun t o => t.complete o stSquashed 0 0) s).resetFunction (c.arg 0)) (.vfReset (c.arg 0)) 0 := by
  refine guards_of_none (noneApplies_append.mpr ⟨Call.noneApplies_vfGuards hpos hmax, Call.noneApplies_vfMode ?_⟩)
  rcases hmode with h | h | h | h <;> rw [h] <;> rfl

/-- A function shares no partition, has no peal Kit and serves no Sequence of one in its partitions: a VF_FREEZE may begin. -/
theorem vfFreezeEffect_defer {c : Call} {s : State} (hpos : 1 ≤ c.arg 0) (hmax : c.arg 0 ≤ 4095)
    (hmode : (s.function (c.arg 0)).mode = .enabled)
    (hown : ∀ w ∈ s.functions, w.1 ≠ c.arg 0 → ∀ p ∈ w.2.partitions, p ∉ (s.function (c.arg 0)).partitions)
    (hkits : ∀ k ∈ s.functionKits (c.arg 0), isPealKit k.1 = false)
    (hseqs : ∀ q ∈ s.sequences, q.2.mode = .free ∨ isPealKit q.2.kit = false ∨
      q.2.partition ∉ (s.function (c.arg 0)).partitions) :
    vfFreezeEffect c s = .defer (s.modFunction (c.arg 0) fun v =>
      { v with mode := .freezing, freezeBeat := s.beat.number + if s.beat.building then 2 else 1 }) (.vfFreeze (c.arg 0)) 0 := by
  have hshared : (s.functions.any fun w =>
      w.1 != c.arg 0 && w.2.partitions.any (s.function (c.arg 0)).partitions.contains) = false :=
    List.any_eq_false.mpr fun w hw => by simpa using hown w hw
  have hpeal : ((s.functionKits (c.arg 0)).any fun k => isPealKit k.1) = false :=
    List.any_eq_false.mpr fun k hk => Bool.eq_false_iff.mp (hkits k hk)
  have hserved : (s.sequences.any fun q =>
      q.2.mode != .free && isPealKit q.2.kit && (s.function (c.arg 0)).partitions.contains q.2.partition) = false :=
    List.any_eq_false.mpr fun q hq => by
      rcases hseqs q hq with h | h | h <;> simp [h]
  refine guards_of_none ?_
  simp only [noneApplies_append, and_assoc]
  refine ⟨Call.noneApplies_vfGuards hpos hmax, Call.noneApplies_vfMode (by rw [hmode]; rfl), noneApplies_singleton.mpr ?_⟩
  rw [hshared, hpeal, hserved]; rfl

/-- An image at an address among coherent windows needs the coherent domain (11 R281). -/
theorem Call.imageReachable {c : Call} {s : State} (h : c.arg 1 = 0 → isCoherent (c.arg 2) = true → s.cijan.mode = .up) :
    (c.arg 1 == 0 && isCoherent (c.arg 2) && s.cijan.mode != .up) = false := by
  simpa using h

theorem vfSaveEffect_defer {c : Call} {s : State} (hpos : 1 ≤ c.arg 0) (hmax : c.arg 0 ≤ 4095) (hspace : c.arg 1 ≤ 1)
    (hmode : (s.function (c.arg 0)).mode = .frozen ∨ (s.function (c.arg 0)).mode = .saved)
    (hfit : imageSize (s.sections (c.arg 0)) ≤ c.arg 3) (hsaves : c.arg 3 ≠ 0)
    (hplace : c.imagePlace s (imageSize (s.sections (c.arg 0))) = true) (hobject : noneApplies (c.imageObject s))
    (hup : c.arg 1 = 0 → isCoherent (c.arg 2) = true → s.cijan.mode = .up) :
    vfSaveEffect c s = .defer (s.modFunction (c.arg 0) fun v =>
      { v with mode := .saving, imageSpace := c.arg 1, imageAt := c.arg 2, imageLength := imageSize (s.sections (c.arg 0)) })
      (.vfSave (c.arg 0)) 0 := by
  have hsave : (c.arg 3 != 0) = true := bne_iff_ne.mpr hsaves
  simp only [vfSaveEffect, hsave, if_true, Nat.min_eq_left hfit, hplace]
  refine guards_of_none ?_
  simp only [noneApplies_append, and_assoc]
  refine ⟨Call.noneApplies_vfGuards hpos hmax,
    noneApplies_cons.mpr ⟨decide_eq_false (Nat.not_lt.mpr hspace), noneApplies_singleton.mpr rfl⟩, hobject,
    Call.noneApplies_vfMode_held hmode, noneApplies_cons.mpr ⟨?_, noneApplies_singleton.mpr ?_⟩⟩
  · rw [Bool.true_and]; exact Call.imageReachable hup
  · rw [decide_eq_false (Nat.not_lt.mpr hfit), Bool.and_false]

/-- With CAPACITY 0 a VF_SAVE only reports the length of the image (17 R403). -/
theorem vfSaveEffect_done {c : Call} {s : State} (hpos : 1 ≤ c.arg 0) (hmax : c.arg 0 ≤ 4095) (hspace : c.arg 1 ≤ 1)
    (hmode : (s.function (c.arg 0)).mode = .frozen ∨ (s.function (c.arg 0)).mode = .saved) (hreports : c.arg 3 = 0) :
    vfSaveEffect c s = .done s (imageSize (s.sections (c.arg 0))) := by
  simp only [vfSaveEffect, hreports, bne_self_eq_false, Bool.false_eq_true, if_false, Bool.false_and]
  refine guards_of_none ?_
  simp only [noneApplies_append, and_assoc]
  exact ⟨Call.noneApplies_vfGuards hpos hmax,
    noneApplies_cons.mpr ⟨decide_eq_false (Nat.not_lt.mpr hspace), noneApplies_singleton.mpr rfl⟩, noneApplies_nil,
    Call.noneApplies_vfMode_held hmode, noneApplies_cons.mpr ⟨rfl, noneApplies_singleton.mpr rfl⟩⟩

theorem vfRestoreEffect_defer {c : Call} {s : State} (hpos : 1 ≤ c.arg 0) (hmax : c.arg 0 ≤ 4095) (hspace : c.arg 1 ≤ 1)
    (hlength : c.arg 3 ≠ 0) (hplace : c.imagePlace s (c.arg 3) = true)
    (hnone : noneApplies (c.reportGuards s 4 ++ c.imageObject s))
    (hup : c.arg 1 = 0 → isCoherent (c.arg 2) = true → s.cijan.mode = .up) :
    vfRestoreEffect c s = .defer (s.modFunction (c.arg 0) fun v =>
      { v with imageSpace := c.arg 1, imageAt := c.arg 2, imageLength := c.arg 3, imageReport := c.arg 4 })
      (.vfRestore (c.arg 0)) 0 := by
  have hmaxed : max (c.arg 3) 1 = c.arg 3 := by omega
  obtain ⟨hreport, hobject⟩ := noneApplies_append.mp hnone
  simp only [vfRestoreEffect, hmaxed, hplace]
  refine guards_of_none ?_
  simp only [noneApplies_append, noneApplies_cons, and_assoc]
  exact ⟨Call.noneApplies_vfGuards hpos hmax, decide_eq_false (Nat.not_lt.mpr hspace), rfl, beq_eq_false_iff_ne.mpr hlength,
    noneApplies_nil, hreport, hobject, Call.imageReachable hup, noneApplies_nil⟩

/-- Settles O25: each command's own effect completes or waits once none of its refusals applies. -/
theorem pealAndFunctionCommandsComplete : Obligations.PealAndFunctionCommandsComplete := by
  refine ⟨⟨?form, ?join, ?leave, ?query⟩, ?enable, ?disable, ?assign, ?reset, ?freeze, ?save, ?length, ?restore, ?resume⟩
  case form =>
    exact waits_of (fun _ _ _ => rfl) nofun fun _ _ ⟨hid, hshape, hfounder, hmode, hidle⟩ =>
      pealFormEffect_defer hid hshape hfounder hmode hidle
  case join =>
    exact waits_of (fun _ _ _ => rfl) nofun fun _ _ ⟨hid, hmode, hidle, hlevel⟩ => pealJoinEffect_defer hid hmode hidle hlevel
  case leave =>
    exact waits_of (fun _ _ _ => rfl) nofun fun _ _ ⟨hm, hforce, hlead, hpeal, hmember, hstays, hshares⟩ =>
      pealLeaveEffect_defer hm hforce hlead hpeal hmember hstays hshares
  case query => exact completes_of (fun _ _ _ => rfl) nofun fun _ _ hr => guards_of_none hr.noneApplies
  case enable =>
    exact completes_of (fun _ _ _ => rfl) nofun fun _ _ ⟨hpos, hmax, hon, hmode⟩ => vfEnableEffect_on hpos hmax hon hmode
  case disable =>
    exact completes_of (fun _ _ _ => rfl) nofun fun _ _ ⟨hpos, hmax, hoff, hmode, hempty⟩ =>
      vfEnableEffect_off hpos hmax hoff hmode hempty
  case assign =>
    refine completes_of (fun _ _ _ => rfl) nofun ?_
    rintro c s ⟨hpos, hmax, hmode, hempty, hplace, hup, hzero, hfirst, hcount, hrange, htaken, hrest⟩
    exact vfAssignEffect_done rfl hpos hmax hmode hempty hplace hup hzero hfirst hcount hrange htaken hrest
  case reset => exact waits_of (fun _ _ _ => rfl) nofun fun _ _ ⟨hpos, hmax, hmode⟩ => vfResetEffect_defer hpos hmax hmode
  case freeze =>
    exact waits_of (fun _ _ _ => rfl) nofun fun _ _ ⟨hpos, hmax, hmode, hown, hkits, hseqs⟩ =>
      vfFreezeEffect_defer hpos hmax hmode hown hkits hseqs
  case save =>
    refine waits_of (fun _ _ _ => rfl) nofun ?_
    rintro c s ⟨hpos, hmax, hspace, hmode, hfit, hsaves, hplace, hobject, hup⟩
    exact vfSaveEffect_defer hpos hmax hspace hmode hfit hsaves hplace hobject hup
  case length =>
    exact completes_of (fun _ _ _ => rfl) nofun fun _ _ ⟨hpos, hmax, hspace, hmode, hreports⟩ =>
      vfSaveEffect_done hpos hmax hspace hmode hreports
  case restore =>
    refine waits_of (fun _ _ _ => rfl) nofun ?_
    rintro c s ⟨hpos, hmax, hspace, hlength, hplace, hnone, hup⟩
    exact vfRestoreEffect_defer hpos hmax hspace hlength hplace hnone hup
  case resume =>
    exact completes_of (fun _ _ _ => rfl) nofun fun _ _ ⟨hpos, hmax, hmode⟩ =>
      guards_of_none (noneApplies_append.mpr ⟨Call.noneApplies_vfGuards hpos hmax, Call.noneApplies_vfMode_held hmode⟩)

end Sys2Proof.Machine

/-! ### Firmware and edge dies: commands (19 R446, R449, 20 R465, R466, R468) -/

namespace Sys2Proof.Machine
open Sys2Proof

/-- A delivery that may be taken meets none of the refusals by sender and by state (20 R465, R466). -/
theorem Call.takesDelivery.free {c : Call} {s : State} (h : c.takesDelivery s) :
    (!s.boot.loadReady || (!s.boot.verified && s.boot.claim == .companion) || (s.boot.verified && s.boot.liveUpdate.isSome)) =
      false := by
  obtain ⟨-, hready, hclaim, hupdate⟩ := h
  rw [hready]
  cases hv : s.boot.verified
  · rw [beq_eq_false_iff_ne.mpr (hclaim hv)]; rfl
  · rw [hupdate hv]; rfl

/-- An FW_DELIVER that may be taken, with the parameters that its MODE asks for, does what MODE says (20 R465). -/
theorem fwDeliverEffect_eq {c : Call} {s : State} (h : c.takesDelivery s) (hmode : c.arg 0 ≤ 2)
    (hplace : c.arg 0 = 0 → c.arg 1 % 1024 = 0 ∧ c.arg 1 + c.arg 2 ≤ imageLimit)
    (hchunk : c.arg 0 = 0 → c.arg 2 % 128 = 0 ∧ 128 ≤ c.arg 2 ∧ c.arg 2 ≤ 1024 ∧
      ∃ b, s.chunkOf c.cmd.queue c.cmd.index = some b ∧ b.length = c.arg 2)
    (hfinal : c.arg 0 = 1 → c.arg 2 = 0) :
    fwDeliverEffect c s =
      let t := s.dropChunk c.cmd.queue c.cmd.index
      if c.arg 0 = 0 then .done (t.putChunk (c.arg 1) ((s.chunkOf c.cmd.queue c.cmd.index).getD [])) 0
      else if c.arg 0 = 1 then t.finalImage (c.arg 1)
      else .done t.abandonImage 0 := by
  refine guards_of_none ?_
  simp only [noneApplies_cons]
  refine ⟨?sender, decide_eq_false (Nat.not_lt.mpr hmode), ?place, ?chunk, ?final, h.free, noneApplies_nil⟩
  case sender => rw [h.1]; rfl
  case place =>
    rw [Bool.and_eq_false_imp]
    intro h0
    obtain ⟨halign, hend⟩ := hplace (eq_of_beq h0)
    rw [halign, decide_eq_false (Nat.not_lt.mpr hend)]; rfl
  case chunk =>
    rw [Bool.and_eq_false_imp]
    intro h0
    obtain ⟨hbytes, hmin, hmax, b, hb, hlength⟩ := hchunk (eq_of_beq h0)
    rw [hbytes, decide_eq_false (Nat.not_lt.mpr hmin), decide_eq_false (Nat.not_lt.mpr hmax), hb, Option.any_some, hlength,
      beq_self_eq_true]
    rfl
  case final =>
    rw [Bool.and_eq_false_imp]
    intro h1
    rw [hfinal (eq_of_beq h1)]; rfl

/-- FINAL of a delivery that is complete, or longer than any image, starts its verification (20 R466). -/
theorem State.finalImage_defer {s : State} {n : Nat}
    (h : (if s.boot.verified then s.boot.staging else s.boot.load).whole n = true ∨ imageLimit < n) :
    s.finalImage n = .defer (s.modBoot fun b =>
      if b.verified then { b with staging := { b.staging with length := n, verifying := true } }
      else { b with load := { b.load with length := n, verifying := true } }) .image 0 := by
  have hwhole : ¬((!((if s.boot.verified then s.boot.staging else s.boot.load).whole n)) = true ∧ n ≤ imageLimit) := by
    rintro ⟨hpart, hle⟩
    rcases h with h | h
    · rw [h] at hpart; nomatch hpart
    · exact absurd hle (Nat.not_le.mpr h)
  rw [State.finalImage, if_neg hwhole]
  cases hv : s.boot.verified <;> simp [State.modBoot, hv]

theorem State.updateIdle.busy {s : State} (h : s.updateIdle) :
    (!s.boot.released || s.boot.liveUpdate.isSome || s.fail.stationUpdate.isSome || s.power.vigil == .entering) = false := by
  obtain ⟨hreleased, hlive, hstation, hvigil⟩ := h
  rw [hreleased, hlive, hstation, beq_eq_false_iff_ne.mpr hvigil]; rfl

theorem fwLiveUpdateEffect_staged {c : Call} {s : State} (h : s.updateIdle) (hstaged : c.arg 0 = 0)
    (hwhole : s.boot.staging.whole s.boot.staging.length = true) :
    fwLiveUpdateEffect c s = .defer (s.modBoot fun b =>
      { b with
        liveUpdate := some { command := c.cmd.id, source := 0, length := s.boot.staging.length, verified := false, restartedAt := none }
        staging := { s.boot.staging with verifying := true } }) .liveUpdate 0 := by
  simp only [fwLiveUpdateEffect, hstaged, if_true]
  refine guards_of_none ?_
  simp only [noneApplies_cons]
  exact ⟨rfl, h.busy, rfl, rfl, rfl, by rw [hwhole]; rfl, noneApplies_nil⟩

theorem fwLiveUpdateEffect_addressed {c : Call} {s : State} (h : s.updateIdle) (haddress : c.arg 0 ≠ 0)
    (hlimit : c.arg 1 ≤ imageLimit) (hplace : c.blockBad s 0 (c.arg 1) 128 = false) (hup : c.domainDown s 0 = false)
    (hsound : isCoherent (c.arg 0) = true ∨ s.poisonedAt (c.arg 0) (c.arg 1) = false) :
    fwLiveUpdateEffect c s = .defer (s.modBoot fun b =>
      { b with
        liveUpdate := some { command := c.cmd.id, source := c.arg 0, length := c.arg 1, verified := false, restartedAt := none }
        staging := { Delivery.empty.put 0 (s.sysRead (c.arg 0) (c.arg 1)) with length := c.arg 1, verifying := true } })
      .liveUpdate 0 := by
  simp only [fwLiveUpdateEffect, if_neg haddress, Nat.min_eq_left hlimit]
  refine guards_of_none ?_
  simp only [noneApplies_cons]
  refine ⟨?place, h.busy, ?reachable, ?length, ?sound, ?staged, noneApplies_nil⟩
  case place => rw [hplace, Bool.and_false]
  case reachable => rw [hup, Bool.and_false]
  case length => rw [decide_eq_false (Nat.not_lt.mpr hlimit), Bool.and_false]
  case sound =>
    rcases hsound with hcoherent | hsound
    · rw [hcoherent, Bool.not_true, Bool.and_false, Bool.false_and]
    · rw [hsound, Bool.and_false]
  case staged => rw [beq_eq_false_iff_ne.mpr haddress, Bool.false_and]

theorem stationFwUpdateEffect_defer {c : Call} {s : State} (hnewer : ∃ b ∈ s.fail.bases, b.2.firmware < s.newestImage)
    (hidle : s.fail.stationUpdate = none) (hvigil : s.power.vigil ≠ .entering) :
    stationFwUpdateEffect c s = .defer { s with fail := { s.fail with
      stationUpdate := some { command := c.cmd.id, gap := if c.arg 0 = 0 then 1000 else c.arg 0, image := s.newestImage, next := 0,
                              restarting := none, again := [] }
      stationImage := s.newestImage } } .stationUpdate 0 := by
  have hany : (s.fail.bases.any fun b => decide (b.2.firmware < s.newestImage)) = true := by
    obtain ⟨b, hb, hlt⟩ := hnewer
    exact List.any_eq_true.mpr ⟨b, hb, decide_eq_true hlt⟩
  refine guards_of_none (noneApplies_singleton.mpr ?_)
  rw [hany, hidle, beq_eq_false_iff_ne.mpr hvigil]; rfl

theorem edgePrimaryMoveEffect_named {c : Call} {s : State} (he : c.arg 0 ≤ 3) (hable : s.primaryAble (c.arg 0) = true)
    (hother : c.arg 0 ≠ s.fail.primary) : edgePrimaryMoveEffect c s = .done (s.movePrimary (c.arg 0)) 0 := by
  have hnamed : c.arg 0 ≠ 0xFF := by omega
  simp only [edgePrimaryMoveEffect, if_neg hnamed, if_pos (And.intro hable hother)]
  refine guards_of_none (noneApplies_cons.mpr ⟨?_, noneApplies_singleton.mpr rfl⟩)
  rw [decide_eq_false (Nat.not_lt.mpr he), Bool.false_and]

theorem edgePrimaryMoveEffect_next {c : Call} {s : State} (hany : c.arg 0 = 0xFF) (hnext : (s.nextEdge s.fail.primary).isSome = true) :
    edgePrimaryMoveEffect c s = .done (s.movePrimary ((s.nextEdge s.fail.primary).getD 0)) 0 := by
  obtain ⟨n, hn⟩ := Option.isSome_iff_exists.mp hnext
  simp only [edgePrimaryMoveEffect, if_pos hany, hn]
  exact guards_of_none (noneApplies_cons.mpr ⟨by rw [hany]; rfl, noneApplies_singleton.mpr rfl⟩)

/-- Settles O28: each command's own effect completes or waits once none of its refusals applies. That FINAL's OFFSET is the length and
that an incomplete delivery is found at FINAL is the model's choice (log entry 105), and so are what MODE 2 ends (log entry 107) and that a
move of the primary is done at once (log entry 137). -/
theorem firmwareCommandsComplete : Obligations.FirmwareCommandsComplete := by
  refine ⟨?chunk, ?final, ?withdraw, ?staged, ?addressed, ?station, ?named, ?next⟩
  case chunk =>
    refine completes_of (fun _ _ _ => rfl) nofun ?_
    rintro c s ⟨htakes, hmode, halign, hend, hbytes, hmin, hmax, hchunk⟩
    refine (fwDeliverEffect_eq htakes (by omega) (fun _ => ⟨halign, hend⟩) (fun _ => ⟨hbytes, hmin, hmax, hchunk⟩) ?_).trans
      (if_pos hmode)
    omega
  case final =>
    refine waits_of (fun _ _ _ => rfl) nofun ?_
    rintro c s ⟨htakes, hmode, hzero, hwhole⟩
    refine (fwDeliverEffect_eq htakes (by omega) (by omega) (by omega) fun _ => hzero).trans ?_
    rw [if_neg (by omega), if_pos hmode]
    exact State.finalImage_defer hwhole
  case withdraw =>
    refine completes_of (fun _ _ _ => rfl) nofun ?_
    rintro c s ⟨htakes, hmode⟩
    refine (fwDeliverEffect_eq htakes (by omega) (by omega) (by omega) (by omega)).trans ?_
    rw [if_neg (by omega), if_neg (by omega)]
  case staged =>
    exact waits_of (fun _ _ _ => rfl) nofun fun _ _ ⟨hidle, hstaged, hwhole⟩ => fwLiveUpdateEffect_staged hidle hstaged hwhole
  case addressed =>
    exact waits_of (fun _ _ _ => rfl) nofun fun _ _ ⟨hidle, haddress, hlimit, hplace, hup, hsound⟩ =>
      fwLiveUpdateEffect_addressed hidle haddress hlimit hplace hup hsound
  case station =>
    exact waits_of (fun _ _ _ => rfl) nofun fun _ _ ⟨hnewer, hidle, hvigil⟩ => stationFwUpdateEffect_defer hnewer hidle hvigil
  case named =>
    exact completes_of (fun _ _ _ => rfl) nofun fun _ _ ⟨he, hable, hother⟩ => edgePrimaryMoveEffect_named he hable hother
  case next => exact completes_of (fun _ _ _ => rfl) nofun fun _ _ ⟨hany, hnext⟩ => edgePrimaryMoveEffect_next hany hnext

end Sys2Proof.Machine

/-! ### Queries, attestation and dies: commands (19 R439, R441, R445, 20 R472, 21 R491) -/

namespace Sys2Proof.Machine
open Sys2Proof

/-- A result that is not for a datagram goes to its address (20 R472). -/
theorem Call.resultOrDatagram_done {c : Call} {s : State} {k n : Nat} {extra : List (Bool × Verdict)} {bytes : List Byte}
    (haddress : c.queue.management = true → c.arg k ≠ 0) (hextra : noneApplies extra) (hlength : bytes.length = n)
    (hr : c.takesResult s k n) : c.resultOrDatagram s k extra bytes = .done (s.writeResult (c.arg k) bytes) 0 := by
  subst hlength
  have hdatagram : ¬(c.queue.management = true ∧ c.arg k = 0) := fun ⟨hm, hk⟩ => haddress hm hk
  rw [Call.resultOrDatagram, if_neg hdatagram]
  exact guards_of_none (noneApplies_append.mpr ⟨hextra, hr.noneApplies⟩)

/-- With address 0 a management queue is answered in a datagram of its own (20 R472). -/
theorem Call.resultOrDatagram_defer {c : Call} {s : State} {k : Nat} {extra : List (Bool × Verdict)} (bytes : List Byte)
    (hmanagement : c.queue.management = true) (hzero : c.arg k = 0) (hextra : noneApplies extra) :
    c.resultOrDatagram s k extra bytes =
      .defer ((s.complete c.cmd stOk 0 0).resultDatagram c.cmd.queue bytes) .downbeat 0 := by
  rw [Call.resultOrDatagram, if_pos ⟨hmanagement, hzero⟩]
  exact guards_of_none hextra

theorem flatMap_leBytes_length (k n : Nat) (f : Nat → Nat) :
    ((List.range n).flatMap fun i => leBytes k (f i)).length = k * n := by
  induction n with
  | zero => rfl
  | succ n ih =>
    rw [List.range_succ, List.flatMap_append, List.length_append, ih, List.flatMap_cons, List.flatMap_nil, List.append_nil,
      leBytes_length, Nat.mul_succ]

theorem Call.windowBytes_length (c : Call) (s : State) : (c.windowBytes s).length = 8 * c.arg 2 :=
  flatMap_leBytes_length 8 (c.arg 2) _

/-- The refusals of the registers that a DEVICE_QUERY names; `direct` where the answer is a datagram, which holds 128 (21 R491). -/
def Call.windowRefusals (c : Call) (s : State) (direct : Bool) : List (Bool × Verdict) :=
  [(!(s.mayQuery c.function (c.arg 0) (c.arg 1) (c.arg 2)), plain stNotPermitted),
   (c.arg 0 == 1 || windowSize (c.arg 0) == 0, c.bad 0), (decide (windowSize (c.arg 0) ≤ 8 * c.arg 1), c.bad 1),
   (decide (c.arg 2 < 1) || decide (8192 < c.arg 2) || (direct && decide (128 < c.arg 2)) ||
     decide (windowSize (c.arg 0) < 8 * (c.arg 1 + c.arg 2)), c.bad 2)]

theorem Call.mayReadWindow.noneApplies {c : Call} {s : State} {direct : Bool} (h : c.mayReadWindow s)
    (hdirect : direct = true → c.arg 2 ≤ 128) : noneApplies (c.windowRefusals s direct) := by
  obtain ⟨hquery, hwindow, hsize, hpos, hmax, hend⟩ := h
  simp only [Call.windowRefusals, noneApplies_cons]
  refine ⟨?query, ?window, ?first, ?count, noneApplies_nil⟩
  case query => rw [hquery]; rfl
  case window => rw [beq_eq_false_iff_ne.mpr hwindow, beq_eq_false_iff_ne.mpr hsize]; rfl
  case first => exact decide_eq_false (by omega)
  case count =>
    simp only [Bool.or_eq_false_iff, Bool.and_eq_false_imp, decide_eq_false_iff_not]
    exact ⟨⟨⟨Nat.not_lt.mpr hpos, Nat.not_lt.mpr hmax⟩, fun hd => Nat.not_lt.mpr (hdirect hd)⟩, by omega⟩

theorem deviceQueryEffect_eq {c : Call} {s : State} (h : c.mayReadWindow s) :
    deviceQueryEffect c s =
      c.resultOrDatagram s 3 (c.windowRefusals s (c.queue.management && c.arg 3 == 0)) (c.windowBytes s) := by
  obtain ⟨-, -, -, -, hmax, -⟩ := h
  simp only [deviceQueryEffect, Nat.min_eq_left hmax]
  rfl

theorem State.identityBytes_length (s : State) : s.identityBytes.length = 512 := padTo_length ..

theorem State.attestation_length (s : State) (function : Nat) (nonce calibration : List Byte) :
    (s.attestation function nonce calibration).length = 320 := by
  simp only [State.attestation, List.length_append, padTo_length, enrolledKey, List.length_map, List.length_range]

theorem Call.signedReport_length (c : Call) (s : State) : (c.signedReport s).length = 384 := by
  simp only [Call.signedReport, List.length_append, State.attestation_length, padTo_length]

theorem coreRetireEffect_defer {c : Call} {s : State} (hcore : c.arg 0 < 1728) (hin : s.coreInService (c.arg 0) = true) :
    coreRetireEffect c s = .defer (s.modCore (c.arg 0) fun x => { x with retiring := true }) (.coreRetire (c.arg 0)) 0 :=
  guards_of_none (noneApplies_cons.mpr ⟨decide_eq_false (by omega), noneApplies_singleton.mpr (by rw [hin]; rfl)⟩)

theorem dieIntercalateEffect_starts {c : Call} {s : State} {st : Nat} (haction : c.arg 1 = 0)
    (htarget : (c.arg 0 = st ∧ st < 54) ∨ (c.arg 0 = 0xFF ∧ s.nextIntercalary [] = some st)) (hmode : (s.die st).mode = .intercalary)
    (hroom : s.diesServing < 48) : dieIntercalateEffect c s = .defer (s.startDie st) (.die st) 0 := by
  have hchosen : (if c.arg 0 == 0xFF then s.nextIntercalary [] else some (c.arg 0)) = some st := by
    rcases htarget with ⟨rfl, hlt⟩ | ⟨hany, hnext⟩
    · rw [if_neg (by simp; omega)]
    · rw [hany, hnext]; rfl
  have hstation : (!(c.arg 0 == 0xFF) && decide (53 < c.arg 0)) = false := by
    rcases htarget with ⟨rfl, hlt⟩ | ⟨hany, -⟩
    · rw [decide_eq_false (by omega), Bool.and_false]
    · rw [hany]; rfl
  simp only [dieIntercalateEffect, hchosen, haction, Option.getD_some, hmode, hstation, if_true]
  refine guards_of_none ?_
  simp only [noneApplies_cons]
  exact ⟨trivial, rfl, by rw [decide_eq_false (Nat.not_le.mpr hroom)]; rfl, rfl, noneApplies_nil⟩

theorem dieIntercalateEffect_releases {c : Call} {s : State} (haction : c.arg 1 = 1) (hst : c.arg 0 < 54)
    (hmode : (s.die (c.arg 0)).mode = .inService) (hstays : (s.die (c.arg 0)).releasing = false) :
    dieIntercalateEffect c s = .defer (s.modDie (c.arg 0) fun d => { d with releasing := true }) (.die (c.arg 0)) 0 := by
  have hnamed : (c.arg 0 == 0xFF) = false := beq_eq_false_iff_ne.mpr (by omega)
  simp only [dieIntercalateEffect, haction, hnamed, Bool.false_eq_true, if_false, Option.getD_some, hmode, hstays]
  refine guards_of_none ?_
  simp only [noneApplies_cons]
  exact ⟨decide_eq_false (by omega), rfl, rfl, rfl, noneApplies_nil⟩

theorem dieIntercalateEffect_switches {c : Call} {s : State} (hany : c.arg 0 = 0xFF) (haction : c.arg 1 = 2 ∨ c.arg 1 = 3) :
    dieIntercalateEffect c s = .done { s with fail := { s.fail with autoIntercalate := c.arg 1 == 3 } } 0 := by
  rcases haction with h | h <;>
    · simp only [dieIntercalateEffect, hany, h]
      exact guards_of_none (by simp [noneApplies_cons, noneApplies_nil])

theorem clockRecalibrateEffect_defer {c : Call} {s : State} (hst : c.arg 0 < 54)
    (hmode : (s.die (c.arg 0)).mode = .intercalary ∨ (s.die (c.arg 0)).mode = .retired) (hr : c.takesResult s 1 64) :
    clockRecalibrateEffect c s =
      let t := s.modDie (c.arg 0) fun d => { d with mode := .measuring }
      .defer { t with fail := { t.fail with passedOver := t.fail.passedOver.filter (· != c.arg 0) } } (.recalibrate (c.arg 0)) 0 := by
  refine guards_of_none ?_
  simp only [noneApplies_append, and_assoc]
  refine ⟨noneApplies_singleton.mpr (decide_eq_false (by omega)), hr.noneApplies, noneApplies_singleton.mpr ?_⟩
  rcases hmode with h | h <;> rw [h] <;> rfl

/-- Settles O29: each command's own effect completes or waits once none of its refusals applies. That STARTING dies count among the 48 in
service is the model's choice (log entry 132). -/
theorem identityAndDieCommandsComplete : Obligations.IdentityAndDieCommandsComplete := by
  refine ⟨⟨?device, ?deviceReply, ?identity, ?identityReply, ?attest, ?attestReply⟩,
    ?retire, ?named, ?lowest, ?release, ?switch, ?recalibrate⟩
  case device =>
    refine completes_of (fun _ _ _ => rfl) nofun ?_
    rintro c s ⟨hread, haddress, hr⟩
    refine (deviceQueryEffect_eq hread).trans
      (Call.resultOrDatagram_done haddress (hread.noneApplies fun hdirect => ?_) (c.windowBytes_length s) hr)
    obtain ⟨hm, hzero⟩ := Bool.and_eq_true_iff.mp hdirect
    exact absurd (eq_of_beq hzero) (haddress hm)
  case deviceReply =>
    refine replies_of (fun _ _ _ => rfl) nofun ?_
    rintro c s ⟨hread, hm, hzero, hcount⟩
    exact (deviceQueryEffect_eq hread).trans
      (Call.resultOrDatagram_defer _ hm hzero (hread.noneApplies fun _ => hcount))
  case identity =>
    exact completes_of (fun _ _ _ => rfl) nofun fun _ s ⟨haddress, hr⟩ =>
      Call.resultOrDatagram_done haddress noneApplies_nil s.identityBytes_length hr
  case identityReply =>
    exact replies_of (fun _ _ _ => rfl) nofun fun _ s ⟨hm, hzero⟩ => Call.resultOrDatagram_defer _ hm hzero noneApplies_nil
  case attest =>
    exact completes_of (fun _ _ _ => rfl) nofun fun c s ⟨hplace, hup, haddress, hr⟩ =>
      Call.resultOrDatagram_done haddress (Call.noneApplies_block hplace hup) (c.signedReport_length s) hr
  case attestReply =>
    exact replies_of (fun _ _ _ => rfl) nofun fun _ _ ⟨hplace, hup, hm, hzero⟩ =>
      Call.resultOrDatagram_defer _ hm hzero (Call.noneApplies_block hplace hup)
  case retire => exact waits_of (fun _ _ _ => rfl) nofun fun _ _ ⟨hcore, hin⟩ => coreRetireEffect_defer hcore hin
  case named =>
    exact waits_of (fun _ _ _ => rfl) nofun fun _ _ ⟨haction, hst, hmode, hroom⟩ =>
      dieIntercalateEffect_starts haction (.inl ⟨rfl, hst⟩) hmode hroom
  case lowest =>
    refine waits_of (fun _ _ _ => rfl) nofun ?_
    rintro c s ⟨haction, hany, ⟨st, hnext, hmode⟩, hroom⟩
    rw [hnext, Option.getD_some]
    exact dieIntercalateEffect_starts haction (.inr ⟨hany, hnext⟩) hmode hroom
  case release =>
    exact waits_of (fun _ _ _ => rfl) nofun fun _ _ ⟨haction, hst, hmode, hstays⟩ =>
      dieIntercalateEffect_releases haction hst hmode hstays
  case switch =>
    exact completes_of (fun _ _ _ => rfl) nofun fun _ _ ⟨hany, haction⟩ => dieIntercalateEffect_switches hany haction
  case recalibrate =>
    exact waits_of (fun _ _ _ => rfl) nofun fun _ _ ⟨hst, hmode, hr⟩ => clockRecalibrateEffect_defer hst hmode hr

end Sys2Proof.Machine

/-! ### The Cijan Link (15 R346 to R362) -/

namespace Sys2Proof.Machine
open Sys2Proof

/-- The bytes that C_DATA brings to a lane (15 R352). -/
def loadedLane (r : Request) (bytes : List Byte) (l : Lane) : Nat × List Word :=
  (l.thread, wordsOf (r.width / 4) (slice bytes ((l.coherent.getD 0) % 128) r.width))

theorem State.cData_load {s t : State} {tag epoch : Nat} {payload : List Byte} {x : Txn} {r : Request} (hfresh : s.stale epoch = false)
    (hx : s.txn tag = some x) (hsent : x.sent = true) (hkind : x.kind = .read)
    (ht : t = s.companionWrite x.granule (padTo 128 payload)) (hr : t.request x.request = some r) :
    s.cData tag epoch payload =
      (t.modRequest r.id fun r' =>
        { r' with returned := r'.returned ++ (r.lanes.filter fun l => l.inGranule x.granule).map (loadedLane r (padTo 128 payload))
                  lanes := r'.lanes.filter fun l => !(l.inGranule x.granule) }).finishTxn tag := by
  subst ht
  simp only [State.cData, hfresh, hx, hsent, hkind, hr, TxnKind.carries, Bool.not_true, Bool.false_eq_true, or_self, if_false]
  rfl

theorem State.cAck_performs {s : State} {tag epoch : Nat} {x : Txn} (hfresh : s.stale epoch = false) (hx : s.txn tag = some x)
    (hsent : x.sent = true) (hwrite : x.kind.carries = true) :
    s.cAck tag epoch =
      ((s.companionWrite x.granule x.data).modRequest x.request fun r =>
        { r with lanes := r.lanes.filter fun l => !(l.inGranule x.granule) }).finishTxn tag := by
  simp only [State.cAck, hfresh, hx, hsent, hwrite, Bool.not_true, Bool.false_eq_true, or_self, if_false]

theorem State.cNack_backsOff {s : State} {tag epoch : Nat} {x : Txn} (hfresh : s.stale epoch = false) (hx : s.txn tag = some x)
    (hsent : x.sent = true) (hnacks : x.nacks < 256) (htime : s.now - x.firstSend ≤ 100000) :
    s.cNack tag epoch =
      ({ s with cijan := { s.cijan with nackTotal := s.cijan.nackTotal + 1 } } : State).modTxn tag fun t =>
        { t with nacks := x.nacks + 1, sent := false, backoff := true, retry := true,
                 resendAt := s.now + ceilDiv (64 * 2 ^ min x.nacks 6) 10 } := by
  have hlimit : ¬(256 < x.nacks + 1 ∨ 100000 < s.now - x.firstSend) := by omega
  simp only [State.cNack, hfresh, hx, hsent, hlimit, Bool.not_true, Bool.false_eq_true, if_false, Nat.add_sub_cancel]

theorem State.creqResend_eq {s : State} {tag : Nat} {x : Txn} (hx : s.txn tag = some x) (hb : x.backoff = true) :
    s.creqResend tag = ((s.clockTo x.resendAt).modTxn tag fun t => { t with backoff := false }).pump := by
  simp only [State.creqResend, hx, hb, Bool.not_true, Bool.false_eq_true, if_false]

theorem State.cErr_eq {s : State} {tag epoch reason : Nat} {x : Txn} (hmode : s.cijan.mode ≠ .establishing)
    (hfresh : s.stale epoch = false) (hx : s.txn tag = some x) (hsent : x.sent = true) :
    s.cErr tag epoch reason = (s.logEvent Config.agentErrorKind.toNat 0 0xFF 0xFF 0 0 0xFF reason).declareDown 1 x.engine := by
  rw [State.cErr, if_neg fun h => hmode h.1]
  simp only [hfresh, hx, hsent, Bool.false_eq_true, if_false, if_true]

theorem State.domainDownComplete_eq {s : State} (hmode : s.cijan.mode = .failing) (hheld : s.cijan.heldHello = none) :
    s.domainDownComplete = { s with cijan := { s.cijan with mode := .down, windows := [], heldHello := none } } := by
  rw [State.domainDownComplete, if_neg (not_not_intro hmode), hheld]

theorem State.transactionTimeout_eq {s : State} {tag : Nat} {x : Txn} (hx : s.txn tag = some x) (hsent : x.sent = true) :
    s.transactionTimeout tag = (s.clockTo (x.lastSend + 100000)).declareDown 3 x.engine := by
  simp only [State.transactionTimeout, hx, hsent, if_true]

/-- An engine that takes requests takes one that needs no station that is out. -/
theorem State.aperture_open {s : State} {engine a n : Nat} (ht : s.engineTakes engine = true) (hw : s.apertureWaits a n = false) :
    ¬((!s.engineTakes engine) = true ∨ s.apertureWaits a n = true) := by
  rw [ht, hw]; decide

/-- A function reaches the place and may write there. -/
theorem State.aperture_writable {s : State} {f a n : Nat} (hr : s.apertureReach f a n = true) (hb : s.writesBarred f = false) :
    ¬((!s.apertureReach f a n) = true ∨ s.writesBarred f = true) := by
  rw [hr, hb]; decide

theorem State.dRead_serves {s : State} {engine f tag a n : Nat} (htakes : s.engineTakes engine = true)
    (hwaits : s.apertureWaits a n = false) (hreach : s.apertureReach f a (max n 1) = true)
    (hshape : shapeGood a n (smallSize n) = true) (hmemory : region a ≠ .registers) (hsound : s.poisonedAt a n = false) :
    s.dRead engine f tag a n =
      (s.returnCredits engine 0).send ⟨.dData, engine, [tag, f], (s.returnCredits engine 0).sysRead a n⟩ := by
  rw [State.dRead, if_neg (State.aperture_open htakes hwaits)]
  simp only [hreach, hshape, hmemory, hsound, Bool.not_true, Bool.false_eq_true, if_false]

theorem State.dWrite_serves {s : State} {engine f tag a : Nat} {payload : List Byte} (htakes : s.engineTakes engine = true)
    (hwaits : s.apertureWaits a payload.length = false) (hreach : s.apertureReach f a (max payload.length 1) = true)
    (hopen : s.writesBarred f = false) (hshape : shapeGood a payload.length (smallSize payload.length) = true)
    (hmemory : region a ≠ .registers) :
    s.dWrite engine f tag a payload =
      ((s.returnCredits engine (ceilDiv payload.length 128)).sysWrite a payload).send ⟨.dAck, engine, [tag, f], []⟩ := by
  rw [State.dWrite, if_neg (State.aperture_open htakes hwaits)]
  simp only [State.aperture_writable hreach hopen, hshape, hmemory, Bool.not_true, Bool.false_eq_true, if_false]

theorem State.dWriteTile_publishes {s : State} {engine f tag a : Nat} {payload side : List Byte} (htakes : s.engineTakes engine = true)
    (hwaits : s.apertureWaits a 4096 = false) (hreach : s.apertureReach f a 4096 = true) (hopen : s.writesBarred f = false)
    (hlength : payload.length = 4096) (hregion : region a = .tier1) (halign : a % 4096 = 0)
    (hsound : tileSound payload (Tag.ofBytes (padTo 16 side)) = true)
    (hput : ((s.returnCredits engine 33).tilePut 0 0 a payload (Tag.ofBytes (padTo 16 side))).2 = stOk) :
    s.dWriteTile engine f tag a payload side =
      ((s.returnCredits engine 33).tilePut 0 0 a payload (Tag.ofBytes (padTo 16 side))).1.send ⟨.dAck, engine, [tag, f], []⟩ := by
  rw [State.dWriteTile, if_neg (State.aperture_open htakes hwaits)]
  simp only [hregion, reduceCtorEq, if_false, State.aperture_writable hreach hopen, hlength, halign, hsound, hput, ne_eq,
    not_true_eq_false, Bool.not_true, Bool.false_eq_true, if_true]

theorem State.linkHello_down {s : State} (epoch block : Nat) (hmode : s.cijan.mode = .down) (hups : s.cijan.ups ≠ []) :
    s.linkHello epoch block = s.takeHello epoch block := by
  simp only [State.linkHello, hmode, List.isEmpty_iff, hups, if_false]

theorem State.linkHello_failing {s : State} (epoch block : Nat) (hmode : s.cijan.mode = .failing) :
    s.linkHello epoch block = { s with cijan := { s.cijan with heldHello := some (epoch, block) } } := by
  simp only [State.linkHello, hmode]

/-- The window table's entries, as many as the link block counts (15 R349). -/
def windowEntries (block table : List Byte) : List (List Byte) :=
  (List.range (min (field (padTo 128 block) 2 2) 256)).map fun i => slice table (64 * i) 64

/-- The state UP that a link block which checks leads to, before its answer goes out (15 R349, Table 15-3). -/
def State.linkUp (s : State) (b : List Byte) (entries : List (List Byte)) : State :=
  { s with cijan := { s.cijan with
    mode := .up, epoch := field b 4 4, pendingEpoch := 0, aperture := field b 8 8, windows := entries.map Window.ofBytes,
    domainVector := field b 24 2, creqCredits := field b 26 2, latencies := [field b 28 4, field b 32 4, field b 36 4],
    companionId := field b 40 4,
    engines := s.cijan.engines.map fun e => { e with headerCredits := field b 26 2, dataCredits := 1024 } } }

theorem State.linkBlockChecked_rejects {s : State} {block table : List Byte} {reason : Nat} (hmode : s.cijan.mode = .establishing)
    (hbad : helloReason s.cijan.epoch s.cijan.linkBlock (padTo 128 block) (windowEntries block table) = some reason) :
    s.linkBlockChecked block table = s.linkReject reason := by
  rw [windowEntries] at hbad
  rw [State.linkBlockChecked, if_neg (not_not_intro hmode)]
  simp only [hbad]

theorem State.linkBlockChecked_accepts {s : State} {block table : List Byte} (hmode : s.cijan.mode = .establishing)
    (hfirst : s.cijan.latencies = [])
    (hgood : helloReason s.cijan.epoch s.cijan.linkBlock (padTo 128 block) (windowEntries block table) = none) :
    s.linkBlockChecked block table =
      s.cijan.ups.foldl (fun s e => s.send ⟨.linkHelloDone, e, [2, 0], []⟩)
        (s.linkUp (padTo 128 block) (windowEntries block table)) := by
  rw [windowEntries] at hgood ⊢
  rw [State.linkBlockChecked, if_neg (not_not_intro hmode)]
  simp only [hgood, hfirst, List.isEmpty_nil, Bool.not_true, Bool.false_and, Bool.false_eq_true, if_false]
  rfl

theorem State.linkResetTimer_eq {s : State} (hmode : s.cijan.mode = .down) :
    s.linkResetTimer = s.cijan.ups.foldl (fun s e => s.send ⟨.linkReset, e, [], []⟩) s :=
  if_neg (not_not_intro hmode)

theorem State.engineState_up {s t : State} {engine : Nat} {e : CijanEngine} (he : s.cijan.engines[engine]? = some e)
    (hdown : e.up = false)
    (ht : t = { s with cijan := { s.cijan with engines := lmod s.cijan.engines engine fun e =>
      { e with up := true, headerCredits := s.cijan.creqCredits, dataCredits := if s.cijan.mode = .up then 1024 else 0 } } }) :
    s.engineState engine true =
      (t.cijan.ups.foldl (fun s x => s.send ⟨.engineState, x, [engine, 1], []⟩) t).pump.retestAll := by
  subst ht
  simp only [State.engineState, he, hdown, Bool.not_true, Bool.false_eq_true, if_false]

theorem State.cijanEngineLoss_eq {s t u : State} {engine : Nat} {e : CijanEngine} (he : s.cijan.engines[engine]? = some e)
    (hup : e.up = true)
    (ht : t = { s with cijan := { s.cijan with engines := lmod s.cijan.engines engine fun e =>
      { e with up := false, headerCredits := 0, dataCredits := 0 } } }) (hothers : t.cijan.ups ≠ [])
    (hu : u = t.cijan.ups.foldl (fun s x => s.send ⟨.engineState, x, [engine, 0], []⟩) (t.logFailure 0x17 0xFF (32 + engine))) :
    s.cijanEngineLoss engine =
      ({ u with cijan := { u.cijan with txns := u.cijan.txns.map fun (x : Txn) =>
        if x.sent ∧ x.engine = engine then { x with sent := false, retry := true } else x } } : State).pump.retestAll := by
  subst hu ht
  simp only [State.cijanEngineLoss, he, hup, List.isEmpty_iff, hothers, Bool.not_true, Bool.false_eq_true, if_false]

/-- Settles O51: each clause is the equation of its event's own function under the clause's conditions. That a C_DATA rewrites what the
companion's memory holds is the model's choice (log entry 13), and so is that the credits of a DREQ go back at once (log entry 120). -/
theorem linkEventsHappen : Obligations.LinkEventsHappen := by
  refine ⟨?data, ?ack, ?stale, ?nack, ?resend, ?error, ?downComplete, ?timeout, ?read, ?write, ?writeTile, ?hello, ?helloHeld,
    ?rejected, ?accepted, ?reset, ?resetTimer, ?credit, ?engineUp, ?engineLoss⟩
  case data =>
    intro tag epoch payload x r s hfresh hx hsent hkind _ hr
    exact leads_of rfl (State.cData_load hfresh hx hsent hkind rfl hr)
  case ack => exact fun tag epoch x s hfresh hx hsent hwrite => leads_of rfl (State.cAck_performs hfresh hx hsent hwrite)
  case stale =>
    exact fun tag epoch s hstale =>
      ⟨leads_of rfl (if_pos hstale), leads_of rfl (if_pos hstale), fun _ => leads_of rfl (if_pos hstale)⟩
  case nack =>
    intro tag epoch x s hfresh hx hsent hnacks htime
    exact leads_of rfl (State.cNack_backsOff hfresh hx hsent hnacks htime)
  case resend => exact fun tag x s hx hb => leads_of rfl (State.creqResend_eq hx hb)
  case error => exact fun tag epoch reason x s hmode hfresh hx hsent => leads_of rfl (State.cErr_eq hmode hfresh hx hsent)
  case downComplete => exact fun s hmode hheld => leads_of rfl (State.domainDownComplete_eq hmode hheld)
  case timeout => exact fun tag x s hx hsent => leads_of rfl (State.transactionTimeout_eq hx hsent)
  case read =>
    rintro engine f tag a n s t he hf htakes hwaits rfl hreach hshape hmemory hsound
    exact leads_at rfl (by simp [he, hf]) (State.dRead_serves htakes hwaits hreach hshape hmemory hsound)
  case write =>
    intro engine f tag a payload s he hf htakes hwaits hreach hopen hshape hmemory
    exact leads_at rfl (by simp [he, hf]) (State.dWrite_serves htakes hwaits hreach hopen hshape hmemory)
  case writeTile =>
    intro engine f tag a payload side s he hf htakes hwaits hreach hopen hlength hregion halign hsound hput
    exact leads_at rfl (by simp [he, hf])
      (State.dWriteTile_publishes htakes hwaits hreach hopen hlength hregion halign hsound hput)
  case hello => exact fun epoch block s hmode hups => leads_of rfl (State.linkHello_down epoch block hmode hups)
  case helloHeld => exact fun epoch block s hmode => leads_of rfl (State.linkHello_failing epoch block hmode)
  case rejected => exact fun block table reason s hmode hbad => leads_of rfl (State.linkBlockChecked_rejects hmode hbad)
  case accepted =>
    rintro block table entries s hmode hfirst rfl hgood
    exact ⟨_, leads_of rfl (State.linkBlockChecked_accepts hmode hfirst hgood), rfl, rfl, rfl, rfl, rfl⟩
  case reset => exact fun s => leads_of rfl rfl
  case resetTimer => exact fun s hmode => leads_of rfl (State.linkResetTimer_eq hmode)
  case credit => exact fun engine headers units s he => ⟨_, leads_at rfl (decide_eq_true he) rfl, rfl⟩
  case engineUp =>
    exact fun engine e s he hengine hdown => ⟨_, leads_at rfl (decide_eq_true he) (State.engineState_up hengine hdown rfl), rfl⟩
  case engineLoss =>
    exact fun engine e s t u he hengine hup ht hothers hu =>
      leads_at rfl (decide_eq_true he) (State.cijanEngineLoss_eq hengine hup ht hothers hu)

end Sys2Proof.Machine

/-! ### Virtual functions between their states (17 R397 to R399, R402 to R407) -/

namespace Sys2Proof.Machine
open Sys2Proof

theorem State.freezeComplete_eq {s : State} {f : Nat} (hmode : (s.function f).mode = .freezing) (hcan : s.canFreeze f = true) :
    s.freezeComplete f =
      ((s.cleanLines (s.function f).partitions).modFunction f fun v => { v with mode := .frozen }).completeWhere fun c =>
        c.wait == .vfFreeze f := by
  rw [State.freezeComplete, if_neg (by simp [hmode, hcan])]

theorem State.imageWritten_saves {s t u : State} {f : Nat} (hmode : (s.function f).mode = .saving)
    (ht : s.writeImage (s.function f).imageSpace (s.function f).imageAt (s.image f) = (t, stOk))
    (hu : u = t.modFunction f fun v => { v with mode := .saved, imageBytes := (s.image f).length }) :
    s.imageWritten f 0 =
      (u.commands.filter fun c => c.wait == .vfSave f).foldl (fun u c => u.complete c stOk 0 (s.image f).length) u := by
  subst hu
  rw [State.imageWritten, if_neg (not_not_intro hmode)]
  simp only [if_true, ht, beq_self_eq_true]

/-- A write that fails leaves the function FROZEN and ends its VF_SAVE with the error's status (17 Table 17-8). -/
theorem State.imageWritten_fails {s u : State} {f error : Nat} (hmode : (s.function f).mode = .saving) (herror : error ≠ 0)
    (hu : u = s.modFunction f fun v => { v with mode := .frozen }) :
    s.imageWritten f error =
      (u.commands.filter fun c => c.wait == .vfSave f).foldl (fun u c => u.complete c error 0 0) u := by
  have hfailed : (error == stOk) = false := beq_eq_false_iff_ne.mpr herror
  subst hu
  rw [State.imageWritten, if_neg (not_not_intro hmode)]
  simp only [herror, if_false, hfailed, Bool.false_eq_true]

theorem State.restoreImageTested_unread {s : State} {f : Nat} {c : Command} {g : Got}
    (hc : (s.commands.find? fun c => c.wait == .vfRestore f) = some c) (hmode : (s.function f).mode ≠ .restoring)
    (hg : g = s.readImage (s.function f).imageSpace (s.function f).imageAt (s.function f).imageLength) (hbad : g.status ≠ stOk) :
    s.restoreImageTested f = g.s.conclude c (plain g.status) := by
  subst hg
  simp only [State.restoreImageTested, hc, hmode, hbad, if_false, ne_eq, not_false_eq_true, if_true]

theorem State.restoreImageTested_passes {s t : State} {f n : Nat} {c : Command} {g : Got}
    (hc : (s.commands.find? fun c => c.wait == .vfRestore f) = some c) (hmode : (s.function f).mode ≠ .restoring)
    (hg : g = s.readImage (s.function f).imageSpace (s.function f).imageAt (s.function f).imageLength) (hgood : g.status = stOk)
    (hverdict : g.s.imageVerdict f g.bytes (s.function f).imageLength = .done t n) (hroom : (t.rebuild f g.bytes).room = true)
    (hfits : (t.rebuild f g.bytes).misfit = none) :
    s.restoreImageTested f = t.modFunction f fun v => { v with mode := .restoring } := by
  subst hg
  simp only [State.restoreImageTested, hc, hmode, hgood, hverdict, hroom, hfits, if_false, ne_eq, not_true_eq_false, Bool.not_true,
    Bool.false_eq_true]

theorem State.restoreRebuilt_eq {s : State} {f : Nat} {g : Got} (hmode : (s.function f).mode = .restoring)
    (hg : g = s.readImage (s.function f).imageSpace (s.function f).imageAt (s.function f).imageLength) :
    s.restoreRebuilt f =
      ((g.s.rebuild f g.bytes).s.modFunction f fun v => { v with mode := .frozen }).completeWhere fun c =>
        c.wait == .vfRestore f := by
  subst hg
  rw [State.restoreRebuilt, if_neg (not_not_intro hmode)]

/-- A reset waits for the function's Contexts. -/
theorem State.vfResetComplete_waits {s t : State} {f : Nat} (hmode : (s.function f).mode = .resetting)
    (ht : t = s.destroyContexts f (s.kits.length + 2)) (hleft : t.contextsOf f ≠ []) : s.vfResetComplete f = t := by
  subst ht
  rw [State.vfResetComplete, if_neg (not_not_intro hmode)]
  exact if_pos (by simp [hleft])

theorem State.vfResetComplete_frees {s t u : State} {f : Nat} (hmode : (s.function f).mode = .resetting)
    (ht : t = s.destroyContexts f (s.kits.length + 2)) (hgone : t.contextsOf f = [])
    (hu : u = (((s.function f).partitions.filter fun p =>
        !(s.functions.any fun w => w.1 != f && w.2.partitions.contains p)).foldl State.clearPartition
      { t with queues := t.queues.filter fun q => !((t.functionQueues f).contains q.1)
               crings := t.crings.filter fun r => r.1 / 32 != f }).modFunction f fun v =>
        { v with mode := .enabled, wasSaved := false }) :
    s.vfResetComplete f =
      (u.commands.filter fun c => c.wait == .vfReset f).foldl (fun s' c => s'.complete c stOk 0 (s.function f).squashed) u := by
  subst hu ht
  rw [State.vfResetComplete, if_neg (not_not_intro hmode)]
  exact if_neg (by simp [hgone])

/-- Settles O54: each clause is the equation of its event's own function under the clause's conditions. What the image holds and how a
restore rebuilds it are the model's choices (log entries 142 to 145). -/
theorem virtualFunctionEventsHappen : Obligations.VirtualFunctionEventsHappen := by
  refine ⟨?frozen, ?saved, ?failed, ?unread, ?passed, ?rebuilt, ?resetWaits, ?reset⟩
  case frozen =>
    exact fun f s hf hmode hcan => leads_at rfl (decide_eq_true hf) (State.freezeComplete_eq hmode hcan)
  case saved =>
    exact fun f s t hf hmode ht => leads_at rfl (decide_eq_true hf) (State.imageWritten_saves hmode ht rfl)
  case failed =>
    exact fun f error s hf hmode herror => leads_at rfl (decide_eq_true hf) (State.imageWritten_fails hmode herror rfl)
  case unread =>
    exact fun f c s hf hc hmode hbad => leads_at rfl (decide_eq_true hf) (State.restoreImageTested_unread hc hmode rfl hbad)
  case passed =>
    intro f n c g s t hf hc hmode hg hgood hverdict hroom hfits
    exact leads_at rfl (decide_eq_true hf) (State.restoreImageTested_passes hc hmode hg hgood hverdict hroom hfits)
  case rebuilt => exact fun f g s hf hmode hg => leads_at rfl (decide_eq_true hf) (State.restoreRebuilt_eq hmode hg)
  case resetWaits =>
    exact fun f s t hf hmode ht hleft => leads_at rfl (decide_eq_true hf) (State.vfResetComplete_waits hmode ht hleft)
  case reset =>
    exact fun f s t u hf hmode ht hgone hu => leads_at rfl (decide_eq_true hf) (State.vfResetComplete_frees hmode ht hgone hu)

end Sys2Proof.Machine

/-! ### Dies that fail, return and are measured (19 R439 to R447) -/

namespace Sys2Proof.Machine
open Sys2Proof

theorem State.computeDieFailure_inService {s : State} {st : Nat} (trip : Bool) (hmode : (s.die st).mode = .inService) :
    s.computeDieFailure st trip = ((s.cancelTouched (stationCores st) [] st 0xFF).dieLost st trip).retestAll :=
  if_neg (not_not_intro hmode)

theorem State.computeDieFailure_elsewhere {s : State} {st : Nat} (trip : Bool) (hmode : (s.die st).mode ≠ .inService) :
    s.computeDieFailure st trip = s :=
  if_pos hmode

/-- A STARTING die that passes joins at the next downbeat, unless it is to be measured first; one that fails is retired. -/
theorem State.dieSelfTestDone_starting {s : State} {st : Nat} (pass : Bool) (hmode : (s.die st).mode = .starting)
    (hjoining : (s.die st).joining = false) :
    s.dieSelfTestDone st pass =
      if pass then (if (s.die st).staleTable then s else s.modDie st fun d => { d with joining := true })
      else ((s.retireDie st).failDieCommands st).autoIntercalate :=
  if_neg (by simp [hmode, hjoining])

theorem State.dieRestartDone_failed {s : State} {st : Nat} (pass : Bool) (hmode : (s.die st).mode = .failed)
    (hbase : s.baseOut st = false) (htrip : s.untripped st = true) :
    s.dieRestartDone st pass =
      if pass then s.modDie st fun d => { d with mode := .intercalary, byTrip := false } else s.retireDie st :=
  if_neg (by simp [hmode, hbase, htrip])

/-- The number of cores that a measurement lets a die keep: those that reach 608 MHz (19 R445). -/
def coresPassing (steps : List Nat) : Nat := ((List.range 32).filter fun i => 608 ≤ steps.getD i 0).length

/-- A measured die with its new tables: intercalary with 28 cores or more, else retired (19 R445). -/
def State.withMeasuredDie (s : State) (st : Nat) (steps : List Nat) : State :=
  let t := (s.takeTable st steps).logFailure 0x1A st (coresPassing steps)
  if 28 ≤ coresPassing steps then t.modDie st fun d => { d with mode := .intercalary, staleTable := false } else t.retireDie st

theorem State.recalibrationDone_measuring {s : State} {st : Nat} (steps : List Nat) (hmode : (s.die st).mode = .measuring) :
    s.recalibrationDone st steps =
      match (s.withMeasuredDie st steps).commands.find? fun c => c.wait == .recalibrate st with
      | some c => ((s.withMeasuredDie st steps).writeResult (param c.op c.packet 1) (tableRecord steps)).complete c stOk 0 c.result
      | none => s.withMeasuredDie st steps := by
  simp only [State.recalibrationDone, hmode]
  rfl

theorem State.recalibrationDone_starting {s : State} {st : Nat} (steps : List Nat) (hmode : (s.die st).mode = .starting)
    (hstale : (s.die st).staleTable = true) :
    s.recalibrationDone st steps =
      ((s.takeTable st steps).logFailure 0x1A st (coresPassing steps)).modDie st fun d =>
        { d with staleTable := false, joining := true } := by
  simp only [State.recalibrationDone, hmode, hstale, if_true]
  rfl

/-- A base die in the mesh is reset, and with it what only it reached (19 R442, R443). -/
theorem State.baseDieReset_eq {s t : State} {st cause : Nat} (hst : st < 54) (hin : s.baseOut st = false)
    (ht : t = s.resetBase st cause) :
    s.baseDieReset st cause =
      ((((List.range 54).filter fun x => !(t.baseOut x) && !(t.reachable x)).foldl
        (fun u x => u.resetBase x 3) t).loadAreaLost).retestAll := by
  subst ht
  exact if_neg (by simp [hin, hst])

/-- A base die that rejoins while no update runs takes the module's station firmware (19 R442, R449). -/
theorem State.baseDieRejoin_eq {s back : State} {st : Nat} (hout : s.baseOut st = true) (htrip : s.untripped (128 + st) = true)
    (hback : back = s.modBase st fun b => { b with out := false, cause := 0 }) (hreach : back.reachable st = true)
    (hidle : s.fail.stationUpdate = none) (hstarts : s.boot.startFault ≠ 2) :
    s.baseDieRejoin st =
      (((back.modBase st fun b => { b with firmware := s.fail.stationImage }).startLinks [st]).refillPins st).retestAll := by
  subst hback
  have hfault : ¬((st = 5 ∨ st = 53) ∧
      ((s.modBase st fun b => { b with out := false, cause := 0 }).modBase st
        fun b => { b with firmware := s.fail.stationImage }).boot.startFault = 2) := fun h => hstarts h.2
  rw [State.baseDieRejoin, if_neg (by simp [hout, htrip, hreach])]
  simp only [hidle, Bool.false_eq_true, if_false, hfault]

/-- Settles O60: each clause is the equation of its event's own function under the clause's conditions. That the failure of a die out of
service changes nothing is the model's choice (log entry 2), and so is what becomes of a compute die over a base die that goes out (log
entry 133). -/
theorem failureEventsHappen : Obligations.FailureEventsHappen := by
  refine ⟨?failure, ?noFailure, ?selfTest, ?restart, ?measured, ?stale, ?watchdog, ?router, ?rejoin, ?edge⟩
  case failure =>
    exact fun st s hst hmode => leads_at rfl (decide_eq_true hst) (State.computeDieFailure_inService false hmode)
  case noFailure =>
    exact fun st s hst hmode => leads_at rfl (decide_eq_true hst) (State.computeDieFailure_elsewhere false hmode)
  case selfTest =>
    intro st s hst hmode hjoining
    have hleads (pass : Bool) : Leads (.dieSelfTestDone st pass) s _ :=
      leads_at rfl (decide_eq_true hst) (State.dieSelfTestDone_starting pass hmode hjoining)
    exact ⟨hleads true, hleads false⟩
  case restart =>
    intro st s hst hmode hbase htrip
    have hleads (pass : Bool) : Leads (.dieRestartDone st pass) s _ :=
      leads_at rfl (decide_eq_true hst) (State.dieRestartDone_failed pass hmode hbase htrip)
    exact ⟨hleads true, hleads false⟩
  case measured =>
    rintro st passing steps t s hst hmode rfl ht
    have ht : t = s.withMeasuredDie st steps := ht
    subst ht
    have hdone := State.recalibrationDone_measuring steps hmode
    refine ⟨fun c hc => ?_, fun hnone => ?_⟩
    · exact leads_at rfl (decide_eq_true hst) (hdone.trans (by rw [hc]))
    · exact leads_at rfl (decide_eq_true hst) (hdone.trans (by rw [hnone]))
  case stale =>
    exact fun st steps s hst hmode hstale => leads_at rfl (decide_eq_true hst) (State.recalibrationDone_starting steps hmode hstale)
  case watchdog => exact fun st t s hst hin ht => leads_at rfl (decide_eq_true hst) (State.baseDieReset_eq hst hin ht)
  case router => exact fun st t s hst hin ht => leads_at rfl (decide_eq_true hst) (State.baseDieReset_eq hst hin ht)
  case rejoin =>
    intro st back s hst hout htrip hback hreach hidle hstarts
    exact leads_at rfl (decide_eq_true hst) (State.baseDieRejoin_eq hout htrip hback hreach hidle hstarts)
  case edge => exact fun e s he => leads_at rfl (decide_eq_true he) rfl

end Sys2Proof.Machine
